-- ==== Sys2Proof/Word.lean ====
section
/-!
DEFINITION. Word.lean: bytes, counters of a fixed width, lane positions and the sparse tables in one canonical
form that every unit's state is built from. Units and notations follow spec/00_scope.md.
-/

namespace Sys2Proof

/-- One byte of a stream, a DOMAIN object or a frame. -/
abbrev Byte := BitVec 8

/-- A System Time value, in ticks of 5 ns (R6): UNSIGNED64 (R84). -/
abbrev ST := Nat

/-- A lane position in pu (R4): INTEGER48 (R5), held as its integer value. -/
abbrev Pos := Int

/-- A counter of `b` bits that wraps. -/
def wrap (b n : Nat) : Nat := n % 2 ^ b

/-- A counter of `b` bits that stays at its maximum. -/
def sat (b n : Nat) : Nat := min n (2 ^ b - 1)

/-- What a counter of a given value reads after one more where its width ends: the spec states no result there, so the
value is free (DESIGN CHOICE, assumption log 5). -/
opaque freeOverflow : Nat → Nat

/-- A counter of `b` bits, one more; free where the width ends (DESIGN CHOICE, assumption log 5). -/
def bump (b n : Nat) : Nat := if n + 1 < 2 ^ b then n + 1 else wrap b (freeOverflow n)

/-- UNSIGNED32 counter, one more. -/
def inc32 (n : Nat) : Nat := bump 32 n

/-- UNSIGNED16 counter, one more. -/
def inc16 (n : Nat) : Nat := bump 16 n

/-- UNSIGNED8 counter, one more. -/
def inc8 (n : Nat) : Nat := bump 8 n

/-- The quotient of a division by zero, for the value divided: the spec states no result there, so the value is free
(DESIGN CHOICE, assumption log 6). -/
opaque freeQuotient : Int → Int

/-- Least lane position (R5). -/
def posMin : Int := -140737488355328
/-- Greatest lane position (R5). -/
def posMax : Int := 140737488355327

/-- Clamp an integer into a closed range. -/
def clampI (lo hi x : Int) : Int := if x < lo then lo else if hi < x then hi else x

/-- Clamp a natural number into a closed range. -/
def clampN (lo hi x : Nat) : Nat := if x < lo then lo else if hi < x then hi else x

/-- A lane position saturated at the 48-bit limits (R51). -/
def satPos (x : Int) : Int := clampI posMin posMax x

/-- The two's-complement bits of `x` at width `b`, as a natural number. -/
def toBits (b : Nat) (x : Int) : Nat := (x % (2 ^ b : Int)).toNat

/-- The signed value of the low `b` bits of `n`. -/
def ofBits (b n : Nat) : Int :=
  let m := n % 2 ^ b
  if m < 2 ^ (b - 1) then (m : Int) else (m : Int) - (2 ^ b : Int)

/-- Division of signed values that truncates toward zero. -/
def tdiv (a b : Int) : Int := Int.tdiv a b

/-- The same where a setting may make the divisor zero: that quotient is free (DESIGN CHOICE, assumption log 6). -/
def tdivS (a b : Int) : Int := if b = 0 then freeQuotient a else Int.tdiv a b

/-- Division of natural numbers where a setting may make the divisor zero. -/
def ndivS (a b : Nat) : Nat := if b = 0 then (freeQuotient a).toNat else a / b

/-- Division of signed values that rounds toward minus infinity. -/
def fdiv (a b : Int) : Int := Int.fdiv a b

/-- Ceiling division of natural numbers; `0` for a zero divisor. -/
def cdiv (a b : Nat) : Nat := if b = 0 then 0 else (a + b - 1) / b

/-- Bits `hi` down to `lo` of `n`, as the spec writes [hi:lo] (R9). -/
def bits (n hi lo : Nat) : Nat := (n / 2 ^ lo) % 2 ^ (hi - lo + 1)

/-- Bit `k` of `n`. -/
def bit (n k : Nat) : Bool := n / 2 ^ k % 2 == 1

/-- A Boolean as the value 1 or 0. -/
def b2n (b : Bool) : Nat := if b then 1 else 0

/-- `n` with bit `k` set. -/
def setBit (n k : Nat) : Nat := if bit n k then n else n + 2 ^ k

/-- `n` with bit `k` cleared. -/
def clrBit (n k : Nat) : Nat := if bit n k then n - 2 ^ k else n

/-- `n` with the bits of `m` (16 of them) cleared: the write-1-to-clear access of R10. -/
def w1c (n m : Nat) : Nat := Nat.rec n (fun k acc => if bit m k then clrBit acc k else acc) 16

/-- The little-endian bytes of a natural number, `k` of them (R9). -/
def leBytes : Nat → Nat → List Byte
  | 0, _ => []
  | k + 1, n => BitVec.ofNat 8 n :: leBytes k (n / 256)

/-- The natural number whose little-endian bytes are given. -/
def leNat : List Byte → Nat
  | [] => 0
  | b :: bs => b.toNat + 256 * leNat bs

/-- The `k` bytes of `bs` at `off`, zero where the list has ended. -/
def sliceBytes (bs : List Byte) (off k : Nat) : List Byte :=
  let t := (bs.drop off).take k
  t ++ List.replicate (k - t.length) 0

/-- The little-endian value of `k` bytes at `off`. -/
def rdLE (bs : List Byte) (off k : Nat) : Nat := leNat (sliceBytes bs off k)

/-- Integer square root by bisection over at most 64 halvings: greatest `r` with `r * r ≤ n`. -/
def isqrtAux (n : Nat) : Nat → Nat → Nat
  | 0, r => r
  | k + 1, r =>
    let c := r + 2 ^ k
    if c * c ≤ n then isqrtAux n k c else isqrtAux n k r

/-- Integer square root of a value below 2^128. -/
def isqrt (n : Nat) : Nat := isqrtAux n 64 0

/-- A table with natural-number keys in one canonical form: keys strictly rising, no entry at the value an
unlisted key reads as. -/
abbrev SMap (α : Type) := List (Nat × α)

namespace SMap

/-- The entry at `k`, or the default of `k` where none is listed. -/
def get {α : Type} (d : Nat → α) : SMap α → Nat → α
  | [], k => d k
  | (j, v) :: r, k => if j = k then v else get d r k

/-- The table without the key `k`. -/
def drop {α : Type} : SMap α → Nat → SMap α
  | [], _ => []
  | (j, w) :: r, k => if j = k then drop r k else (j, w) :: drop r k

/-- A new entry in its place. -/
def insert {α : Type} : SMap α → Nat → α → SMap α
  | [], k, v => [(k, v)]
  | (j, w) :: r, k, v => if k < j then (k, v) :: (j, w) :: r else (j, w) :: insert r k v

/-- The table with the value at `k` set to `v`; an entry equal to what the unlisted key reads as is left out. -/
def put {α : Type} [DecidableEq α] (d : Nat → α) (m : SMap α) (k : Nat) (v : α) : SMap α :=
  if v = d k then drop m k else insert (drop m k) k v

/-- Is a key listed? -/
def has {α : Type} : SMap α → Nat → Bool
  | [], _ => false
  | (j, _) :: r, k => if j = k then true else has r k

/-- Canonical form over keys not below `lo`: strictly rising keys and no entry at its default. -/
def wfFrom {α : Type} [DecidableEq α] (d : Nat → α) : Nat → SMap α → Bool
  | _, [] => true
  | lo, (j, v) :: r => decide (lo ≤ j) && !decide (v = d j) && wfFrom d (j + 1) r

/-- Canonical form. -/
def wf {α : Type} [DecidableEq α] (d : Nat → α) (m : SMap α) : Bool := wfFrom d 0 m

end SMap

/-- Indices `0 … n - 1`, rising. -/
def upto (n : Nat) : List Nat := List.range n

/-- `f` applied over a list from the left; the way a command applies an effect to several units in order. -/
def applyAll {α σ : Type} (f : σ → α → σ) (s : σ) (xs : List α) : σ := xs.foldl f s

/-- The element at `i` of a fixed array replaced by `f` of it. -/
def upd {α : Type} {n : Nat} (v : Vector α n) (i : Fin n) (f : α → α) : Vector α n :=
  v.set i.val (f v[i.val]) i.isLt

/-- The same by a plain index: nothing outside the array. -/
def updN {α : Type} {n : Nat} (v : Vector α n) (i : Nat) (f : α → α) : Vector α n :=
  if h : i < n then v.set i (f v[i]) h else v

/-- The element at a plain index, or `d` outside the array. -/
def atN {α : Type} {n : Nat} (d : α) (v : Vector α n) (i : Nat) : α := if h : i < n then v[i] else d

/-- All indices of an array of `n`. -/
def allFin (n : Nat) : List (Fin n) := List.finRange n

/-- Sum of a list of integers. -/
def sumI (xs : List Int) : Int := xs.foldl (· + ·) 0

/-- Sum of a list of natural numbers. -/
def sumN (xs : List Nat) : Nat := xs.foldl (· + ·) 0

/-- Greatest of a list of natural numbers, 0 for none. -/
def maxN (xs : List Nat) : Nat := xs.foldl max 0

/-- Number of one bits among the low `w` bits. -/
def popCount (w n : Nat) : Nat := ((upto w).filter (fun k => bit n k)).length

end Sys2Proof
end

