-- ==== Sys2Proof/Config.lean ====
section
/-!
DEFINITION. Config.lean: what the hardware fixes (paths, modes, object types, the default event table) and the values
the spec leaves open, as constants without a body.
-/

namespace Sys2Proof

/-- The four physical paths to the dictionary; the service session S is carried on N, H or C (spec/11, R334). -/
inductive Path where
  | n | h | c | a
  deriving DecidableEq, Repr

namespace Path
/-- The path letter as ASCII, as the events and HOLDER objects report it. -/
def ascii : Path → Nat
  | .n => 0x4E
  | .h => 0x48
  | .c => 0x43
  | .a => 0x41
/-- Index of the path's own staging set and selections: [0] N, [1] H, [2] C, [3] A (EV008, R362). -/
def idx : Path → Fin 4
  | .n => 0
  | .h => 1
  | .c => 2
  | .a => 3
/-- Rank of R344 without the session: C, then H, then N, then A. -/
def rank : Path → Nat
  | .c => 3
  | .h => 2
  | .n => 1
  | .a => 0
/-- The path of an ASCII letter; none for any other byte. -/
def ofAscii (v : Nat) : Option Path :=
  if v = 0x4E then some .n else if v = 0x48 then some .h else if v = 0x43 then some .c
  else if v = 0x41 then some .a else none
/-- All paths in the order of their staging sets. -/
def all : List Path := [.n, .h, .c, .a]
end Path

/-- The modes and states of R27 (spec/01). -/
inductive Mode where
  | boot | standby | run | doze | service | lockout | recovery
  deriving DecidableEq, Repr

/-- The code of R27. -/
def Mode.code : Mode → Nat
  | .boot => 0
  | .standby => 1
  | .run => 2
  | .doze => 3
  | .service => 4
  | .lockout => 5
  | .recovery => 6

/-- Committed direction of a lane (R49). -/
inductive Dir where
  | none | fwd | rev
  deriving DecidableEq, Repr

/-- The code of 0x2104:03. -/
def Dir.code : Dir → Nat
  | .none => 0
  | .fwd => 1
  | .rev => 2

/-- The object types used by the dictionary tables (R13). -/
inductive ObjType where
  | bool | u8 | u16 | u32 | u48 | u64 | i16 | i32 | i48 | dom | str
  deriving DecidableEq, Repr

namespace ObjType
/-- Length of a value in bytes; 0 for DOMAIN and VISIBLE_STRING, whose length is their own. -/
def bytes : ObjType → Nat
  | .bool => 1
  | .u8 => 1
  | .u16 => 2
  | .u32 => 4
  | .u48 => 6
  | .u64 => 8
  | .i16 => 2
  | .i32 => 4
  | .i48 => 6
  | .dom => 0
  | .str => 0
/-- Is the value signed? -/
def signed : ObjType → Bool
  | .i16 => true
  | .i32 => true
  | .i48 => true
  | _ => false
/-- The value that little-endian data of this type spells. -/
def ofData (t : ObjType) (bs : List Byte) : Int :=
  if t.signed then ofBits (8 * t.bytes) (leNat bs) else (leNat bs : Int)
/-- The little-endian data of a value of this type. -/
def toData (t : ObjType) (v : Int) : List Byte := leBytes t.bytes (toBits (8 * t.bytes) v)
end ObjType

/-- The groups of path rights that occur in the Paths column (R13). -/
inductive Rights where
  | allRo | allRw | allWo | allConst | rwAro | hcsWo | hcsRo | hcsRw | aRw | noSRo
  deriving DecidableEq, Repr

/-- What one path may do with an object. -/
inductive Right where
  | no | ro | rw | wo | const
  deriving DecidableEq, Repr

/-- The right of a path's own letter. -/
def Rights.ofPath : Rights → Path → Right
  | .allRo, _ => .ro
  | .allRw, _ => .rw
  | .allWo, _ => .wo
  | .allConst, _ => .const
  | .rwAro, .a => .ro
  | .rwAro, _ => .rw
  | .hcsWo, .a => .no
  | .hcsWo, _ => .wo
  | .hcsRo, .a => .no
  | .hcsRo, _ => .ro
  | .hcsRw, .a => .no
  | .hcsRw, _ => .rw
  | .aRw, .a => .rw
  | .aRw, _ => .ro
  | .noSRo, _ => .ro

/-- Commit class (R337). -/
inductive Cls where
  | none | immediate | staged | standbyOnly | serviceOnly
  deriving DecidableEq, Repr

/-- One row of the object table: `count` indices from `idx`, `step` apart, each with `subs` sub-indices from
`sub`; the defaults index by index (the last one repeats) and the accepted range. -/
structure ObjRow where
  idx : Nat
  step : Nat
  count : Nat
  sub : Nat
  subs : Nat
  ty : ObjType
  rights : Rights
  cls : Cls
  dflt : List Int
  lo : Int
  hi : Int
  deriving DecidableEq, Repr

namespace ObjRow
/-- Does the row hold the key index × 256 + sub-index? -/
def holds (r : ObjRow) (k : Nat) : Bool :=
  let i := k / 256
  let b := k % 256
  decide (r.idx ≤ i) && decide ((i - r.idx) % r.step = 0) && decide ((i - r.idx) / r.step < r.count)
    && decide (r.sub ≤ b) && decide (b < r.sub + r.subs)
/-- The default of the row at a key. -/
def defaultAt (r : ObjRow) (k : Nat) : Int :=
  let i := (k / 256 - r.idx) / r.step
  match r.dflt[i]? with
  | some v => v
  | none => r.dflt.getLastD 0
end ObjRow

/-- The key of an object: index × 256 + sub-index. -/
def okey (idx sub : Nat) : Nat := idx * 256 + sub

/-- The PDO mapping entries shipped at delivery (R375), by key; none where no entry is shipped. -/
def pdoDefaultMap (k : Nat) : Option Nat :=
  if k = 0x160001 then some 0x26090130 else if k = 0x160002 then some 0x26090408
  else if k = 0x160003 then some 0x20010108
  else if k = 0x1A0001 then some 0x20000208 else if k = 0x1A0002 then some 0x21040130
  else if k = 0x1A0003 then some 0x21050130 else if k = 0x1A0004 then some 0x22000140
  else if k = 0x1A0101 then some 0x25200620 else if k = 0x1A0102 then some 0x25200808
  else if k = 0x1A0103 then some 0x23010320 else if k = 0x1A0104 then some 0x23110320
  else if k = 0x1A0105 then some 0x27060320 else if k = 0x1A0106 then some 0x27160320
  else if k = 0x1A0201 then some 0x26080608 else if k = 0x1A0202 then some 0x26090608
  else if k = 0x1A0203 then some 0x260A0608 else if k = 0x1A0204 then some 0x260B0608
  else if k = 0x1A0205 then some 0x26080920 else if k = 0x1A0206 then some 0x26090920
  else if k = 0x1A0207 then some 0x260A0920 else if k = 0x1A0208 then some 0x260B0920
  else none

/-! The event table at delivery (spec/15, R439–R441, R452). -/

/-- The events that some chapter lists (R439). -/
def evListed (e : Nat) : Bool :=
  (e ≤ 4) || (8 ≤ e && e ≤ 12) || (16 ≤ e && e ≤ 20) || (24 ≤ e && e ≤ 27) || (32 ≤ e && e ≤ 36)
  || (48 ≤ e && e ≤ 55) || (64 ≤ e && e ≤ 68) || e == 72 || e == 73 || e == 80 || e == 82
  || (96 ≤ e && e ≤ 139) || (144 ≤ e && e ≤ 151) || (160 ≤ e && e ≤ 166) || (168 ≤ e && e ≤ 172)
  || (208 ≤ e && e ≤ 216) || (220 ≤ e && e ≤ 222) || (224 ≤ e && e ≤ 231) || (240 ≤ e && e ≤ 244)
  || (248 ≤ e && e ≤ 252) || (288 ≤ e && e ≤ 294) || (296 ≤ e && e ≤ 298) || e == 300
  || (352 ≤ e && e ≤ 354) || (356 ≤ e && e ≤ 366) || (368 ≤ e && e ≤ 370) || (400 ≤ e && e ≤ 410)
  || (412 ≤ e && e ≤ 414) || (448 ≤ e && e ≤ 454) || (456 ≤ e && e ≤ 458) || e == 464 || e == 465
  || (467 ≤ e && e ≤ 478) || (480 ≤ e && e ≤ 493) || (496 ≤ e && e ≤ 511)

/-- Default PRIORITY (R441). -/
def evPrio (e : Nat) : Nat :=
  if e = 2 || e = 215 || e = 225 || e = 407 || (496 ≤ e && e ≤ 503) then 7
  else if e = 145 || e = 164 || e = 165 || e = 211 || e = 227 || e = 248 || e = 249 || e = 251 || e = 290
    || e = 356 || (358 ≤ e && e ≤ 360) || e = 362 || e = 368 || e = 401 || e = 402 || e = 405 || e = 453
    || e = 464 || e = 475 then 6
  else 3

/-- Default LOCK (R441). -/
def evLock (e : Nat) : Bool := e == 407 || e == 499 || e == 500 || e == 503

/-- Unit code of an event's range (R452). -/
def evUnit (e : Nat) : Nat :=
  if e ≤ 31 then 0 else if e ≤ 95 then 1 else if e ≤ 143 then 2 else if e ≤ 207 then 3
  else if e ≤ 239 then 4 else if e ≤ 287 then 5 else if e ≤ 351 then 6 else if e ≤ 399 then 7
  else if e ≤ 447 then 8 else if e ≤ 479 then 9 else if e ≤ 503 then 10 else 11

/-- Default EMCY_CODE (R441). -/
def evEmcy (e : Nat) : Nat :=
  if e = 227 || e = 249 || e = 356 || e = 358 || e = 359 || e = 360 then 0x2300
  else if e = 368 || (480 ≤ e && e ≤ 495) || e = 500 then 0x3200
  else if e = 164 || e = 165 || e = 251 || e = 361 || e = 362 || e = 499 then 0x4200
  else if 448 ≤ e && e ≤ 479 then 0x8100
  else 0xFF00 + evUnit e

/-- The default entry of the event table (R440, R441); all zero for a reserved event (R439). -/
def evDefault (e : Nat) : Nat :=
  if evListed e then
    evEmcy e * 65536 + 32768 + evPrio e * 4096 + b2n (evLock e) * 128 + 16 + 8
      + b2n (decide (6 ≤ evPrio e)) * 4 + 2 + 1
  else 0

/-! Values the spec leaves open. Each is an uninterpreted constant applied to a counter of the state, so that no
proof can rest on the value (DESIGN CHOICE, assumption log 2). -/

/-- The n-th drawn debug challenge word (spec/17, R501). -/
opaque freeChallenge : Nat → Nat
/-- The n-th handover difference between the keeper and the main counter, in ticks (R87: within ±200). -/
opaque freeHandover : Nat → Int
/-- The n-th deviation of a sine dither value from the ideal (spec/09: within ±2). -/
opaque freeSine : Nat → Int
/-- The current in mA of coil `c` (axis × 2 + phase) in cycle `st`, which the motor decides and no command reports (R216). -/
opaque coilCurrent : Nat → Nat → Int
/-- The n-th open analog reading, where the spec gives a measurement no command operand. -/
opaque freeReading : Nat → Nat
/-- The vendor's public key, whose digest the boot ROM holds (R483): its coordinates. -/
opaque vendorKeyX : Nat
opaque vendorKeyY : Nat
/-- Serial number of the unit (0x1018:04, "per unit"). -/
opaque unitSerial : Nat
/-- The measured loop delay of the CAN transceiver, in 12.5 ns (R409; DESIGN CHOICE, assumption log 2). -/
opaque loopDelay : Nat

end Sys2Proof
end

