-- ==== Sys2Proof/Syntax.lean ====
section
/-!
DEFINITION. Syntax.lean: the commands of the block, one constructor per row of spec/opcode_table.json, with the operands
the command brings from outside: which unit it names, which path sends it, what it carries, and what a pin, a sensor or
a link shows at that moment (DESIGN CHOICE, assumption log 3).
-/

namespace Sys2Proof

/-- What the inputs A and B of an encoder channel show: an edge in one direction, or both changed together (R53). -/
inductive EncEdge where
  | fwd | rev | both
  deriving DecidableEq, Repr

/-- The words of a waymark entry (R62). -/
inductive WmField where
  | target | ctrl | act
  deriving DecidableEq, Repr

/-- The flags of the Timer Unit that a write of 1 clears (R10). -/
inductive FlagUnit where
  | tc (c : Fin 32)
  | cap (m : Fin 8)
  deriving DecidableEq, Repr

/-- A conversion that completes (R295): of a sequencer or an urgent slot on the slice of P0 or P1 with its raw code, or that of the OPT
request whose turn it is (R316). -/
inductive Conversion where
  | seq (p : Fin 2) (raw : Nat)
  | urgent (p : Fin 2) (raw : Nat)
  | opt
  deriving DecidableEq, Repr

/-- What wakes the transceiver (R427, R429): a frame with its identifier, DLC and payload, a wake-up pattern, or the frame
errors of R429 on a bus with no filter match. -/
inductive WakeFrame where
  | frame (id dlc : Nat) (payload : List Byte)
  | pattern
  | errors
  deriving DecidableEq, Repr


/-- The commands. -/
inductive Instr where
  /-- POWER_ON (R485): Mains or DC input is applied; the rails rise, the boot ROM starts in BOOT and reads the straps. -/
  | powerOn (kind volts hz : Nat) (recLow ioLevel : Bool)
  /-- BOOT_COMPLETE (R485): The chosen image has started, the start-fail count is reset, STANDBY is reported and held events are released. -/
  | bootComplete (bad : Option Nat) (ta : Int)
  /-- BOOT_WATCHDOG (R486): STANDBY is not reported within 1.2 s, so the PD00 watchdog resets the engine into BOOT. -/
  | bootWatchdog
  /-- MODE_REQ_STANDBY (R32): A request for STANDBY is accepted, held until a running transition ends, or merged with one already held. -/
  | modeReqStandby (p : Path)
  /-- MODE_REQ_RUN (R29): A request for RUN starts the STANDBY-to-RUN power-up, or is refused with WRONG_MODE. -/
  | modeReqRun (p : Path)
  /-- MODE_REQ_DOZE (R35): A request for DOZE with an empty ledger starts DOZE entry; with jobs present it is refused. -/
  | modeReqDoze (p : Path)
  /-- MODE_REQ_SERVICE (R29): A MODE_REQ value of 4 is refused, because SERVICE is entered only by a session claim. -/
  | modeReqService (p : Path)
  /-- RUN_REACHED (R469): The VH rails, BOOST and the self-test all meet their conditions, so RUN or SERVICE is reported. -/
  | runReached (ra rb va vb boost : Nat) (home : Bool) (bad : Option Nat)
  /-- RUN_ENTRY_TIMEOUT (R469): RUN conditions are not met within 200 ms; the stages turn off, the engine stays in STANDBY and EV484 is raised. -/
  | runEntryTimeout (ra rb va vb boost : Nat)
  /-- STANDBY_REACHED (R30): All axes are at rest and VH and BOOST are below their floors, so the stages turn off and STANDBY is reported. -/
  | standbyReached (va vb boost : Nat)
  /-- LOCKOUT_CLEAR (R40): A clear returns the engine to STANDBY and releases Safety Net latches, or is refused while a cause is asserted. -/
  | lockoutClear (p : Path)
  /-- SERVICE_CLAIM (R348): A claim of group 0 in STANDBY grants the service session and enters SERVICE. -/
  | serviceClaim (p : Path)
  /-- DOZE_HANDOVER (R87): At the keeper edge ST passes to the keeper, DRAM enters self-refresh, the domains switch off and the rails fall. -/
  | dozeHandover
  /-- DOZE_ABORT (R471): A wake source asserts before the handover; DOZE entry is abandoned and EV491 is raised. -/
  | dozeAbort (pin : Bool)
  /-- KEEPER_TICK (R86): In DOZE, each keeper period advances ST by 6103 plus its fractional carry. -/
  | keeperTick
  /-- WAKE_RECOGNISED (R472): A wake source is recognised at a keeper edge; WAKE_CAUSE takes the lowest code and the rails rise. -/
  | wakeRecognised (pin : Bool)
  /-- WAKE_COMPLETE (R473): ST is handed back, state is restored and the wake target mode is reported with EV492. -/
  | wakeComplete (stopped : Bool) (ta : Int)
  /-- SERVO_BOUNDARY (R199): Every 5000 ticks each axis applies pending commands and computes and issues its next set-point. -/
  | servoBoundary (rails : List Nat) (i p : Nat)
  /-- ENC_EDGE (R53): A quadrature edge updates the count, the edge timestamps and the lane position. -/
  | encEdge (c : Fin 4) (e : EncEdge)
  /-- EDGE_TIMEOUT (R53): No edge arrives within EDGE_TIMEOUT, so the position is held and the velocity reads 0. -/
  | edgeTimeout (i : Fin 4)
  /-- LANE_DIR_COMMIT (R49): The lane moves DIR_HYST past its extreme and commits a new direction; the generators re-index. -/
  | laneDirCommit (i : Fin 4)
  /-- LINE_EVENT (R57): The lane reaches a generator's next line position; the line is emitted to its units. -/
  | lineEvent (g : Fin 16) (va vb df0 df1 : Nat)
  /-- WAYMARK_FIRE (R65): An armed lane-keyed entry sees a crossing in an allowed direction; it disarms and delivers its action and event. -/
  | waymarkFire (e : Fin 1024)
  /-- WAYMARK_REARM (R66): A fired entry with REARM > 0 moves REARM away from its target and is armed again. -/
  | waymarkRearm (e : Fin 1024)
  /-- WAYMARK_ST_FIRE (R67): ST reaches an ST-keyed entry's TARGET, so the entry fires once, with EV036 if it is late. -/
  | waymarkStFire (e : Fin 1024)
  /-- WAYMARK_WRITE (R62): A write to a waymark TARGET, CTRL or ACT is accepted only while the entry is disabled. -/
  | waymarkWrite (p : Path) (field : WmField) (v : Nat)
  /-- WAYMARK_ENABLE (R63): Setting EN validates the entry; it is then ARMED, or returns to EN 0 with EV035. -/
  | waymarkEnable (p : Path) (ctrl : Nat)
  /-- PAIR_MINIMUM_END (R75): A pair output held on past an early stop is released when its minimum has elapsed. -/
  | pairMinimumEnd (start : Fin 1024)
  /-- WAYMARK_DISABLE_ALL (R82): COMMAND 1 disables every waymark entry. -/
  | waymarkDisableAll (p : Path)
  /-- WAYMARK_ARM_ALL (R82): COMMAND 2 arms every enabled entry whose firing condition does not already hold. -/
  | waymarkArmAll (p : Path)
  /-- WAYMARK_IMAGE_WRITE (R81): The whole waymark table is written, and every entry with EN = 1 is validated. -/
  | waymarkImageWrite (p : Path) (bs : List Byte)
  /-- ENC_INDEX (R76): An index pulse registers the count and checks it against CPR. -/
  | encIndex (c : Fin 4)
  /-- REHOME_REQ (R78): A REHOME_REQ write arms a re-home of the lane at the next index pulse. -/
  | rehomeReq (p : Path) (c : Fin 4)
  /-- TC_WRAP (R91): The frame counter wraps; the preloads are copied, WR is set and FRAMES is counted. -/
  | tcWrap (c : Fin 32)
  /-- TC_MATCH_A (R92): k equals CMPA, so MA is set and OUT is set. -/
  | tcMatchA (c : Fin 32)
  /-- TC_MATCH_B (R92): k equals CMPB, so MB is set and OUT is cleared. -/
  | tcMatchB (c : Fin 32)
  /-- TC_ONESHOT_PARK (R94): A one-shot channel reaches the end of its frame and parks with OUT low. -/
  | tcOneshotPark (c : Fin 32)
  /-- TRIG_DELIVER (R98): A channel trigger leaves its delay line after TRIG_DELAY and reaches the Sense Engine. -/
  | trigDeliver (c : Fin 32)
  /-- GIO_CONTENTION (R97): The read-back differs from the driven level for 16 cycles, so the pin turns to input and EV139 is raised. -/
  | gioContention (pin : Fin 16)
  /-- CAPTURE_ACCEPT (R105): A filtered transition is accepted; every PRESC-th one records CAP_ST, sets NEW and may raise its event. -/
  | captureAccept (m : Fin 8) (lvl : Bool)
  /-- DEBUG_HALT (R102): The debugger halts the application core; FRZ channels stop advancing. -/
  | debugHalt
  /-- DEBUG_RESUME (R102): The application core resumes and FRZ channels advance again. -/
  | debugResume
  /-- FLAGS_W1C_WRITE (R10): A write of 1 to a W1C flag clears that flag. -/
  | flagsW1cWrite (p : Path) (u : FlagUnit) (v : Nat)
  /-- HEAD_ID_CHECK (R112): HID is measured every 100 ms and the port is set READY, ABSENT or ID_MISMATCH. -/
  | headIdCheck (h : Fin 2) (r : Nat)
  /-- LINE_COMMIT (R120): A line's first strobe commits it: counters are updated and the rehearsal advances. -/
  | lineCommit (h : Fin 2)
  /-- SLICE_TRAIN_END (R121): The last strobe of a line ends; the history shifts, the model updates and the next slice is loaded. -/
  | sliceTrainEnd (h : Fin 2)
  /-- RASTER_FLUSH (R118): FLUSH releases the head's raster lines that no ARMED or ACTIVE job binds and restarts its RSN series. -/
  | rasterFlush (p : Path) (mask : Nat)
  /-- RECOMPUTE_LATCH (R161): A recomputed line is reloaded and latched; the counters are updated and the governor is told. -/
  | recomputeLatch (h : Fin 2)
  /-- THERM_READ (R142): The head thermistor is read every 1 ms and converted through the THERM table. -/
  | thermRead (h : Fin 2) (code : Nat)
  /-- MODEL_UPDATE (R143): Every 1 ms with no train, the head thermal model is updated. -/
  | modelUpdate (h : Fin 2)
  /-- MEAS_START (R147): MEAS_CMD 1 starts the in-situ resistance measurement of a head. -/
  | measStart (p : Path) (h : Fin 2) (raws : List Nat)
  /-- MEAS_ABORT (R150): MEAS_CMD 2, or a session end, cut or job arm, aborts the measurement. -/
  | measAbort (p : Path) (h : Fin 2)
  /-- MEAS_DONE (R149): All dots are measured; the RTRIM values are computed and EV168 is raised. -/
  | measDone (h : Fin 2) (dvs : List Nat)
  /-- MEDIA_SAMPLE (R169): The media lane crosses a sample-grid position; the OPT channels are converted and classified. -/
  | mediaSample (codes : List Nat)
  /-- LABEL_MISSING (R179): The lane passes the end of the index window with no index; the label is dead-reckoned, or lost with a halt. -/
  | labelMissing
  /-- SUPPLY_SAMPLE (R170): While the lane is stopped, the near-end and out channels are sampled every 1 ms. -/
  | supplySample (codes : List Nat)
  /-- OUT_RESERVE_REACHED (R182): The lane travels OUT_RESERVE after paper-out, so a media halt applies. -/
  | outReserveReached
  /-- GOV_RELEASE (R181): A write of 1 to GOV_RELEASE ends a media halt. -/
  | govRelease (p : Path) (g : Fin 2)
  /-- CUT_CMD_FULL (R187): CUT_CMD 1 requests a full cut that stops at the present position. -/
  | cutCmdFull (p : Path)
  /-- CUT_CMD_PARTIAL (R187): CUT_CMD 2 requests a partial cut that stops at the present position. -/
  | cutCmdPartial (p : Path)
  /-- CUT_CMD_HOME (R193): CUT_CMD 3 drives the blade to HOME. -/
  | cutCmdHome (p : Path)
  /-- CUT_DRIVE_START (R188): The lane reports STOPPED at the stop point, so the cutter drives forward. -/
  | cutDriveStart
  /-- CUT_END_REACHED (R189): The END switch is reached; the blade brakes and returns. -/
  | cutEndReached
  /-- CUT_END_TIMEOUT (R189): END is not reached within T_END; the blade returns, then a retry or JAM follows. -/
  | cutEndTimeout
  /-- CUT_PARTIAL_END (R187): PARTIAL_T ends the forward drive of a partial cut. -/
  | cutPartialEnd
  /-- CUT_HOME_REACHED (R188): HOME is reached; the stop point is cleared, or a retry starts. -/
  | cutHomeReached
  /-- CUT_HOME_TIMEOUT (R189): HOME is not reached within T_HOME; CUT_STATE becomes FAULT and a media halt applies. -/
  | cutHomeTimeout
  /-- CUT_DONE (R188): The brake ends, the cut cycle is complete and any queued cut starts. -/
  | cutDone
  /-- CUT_SHORT (R190): A bridge over-current trips the cutter into FAULT with a media halt. -/
  | cutShort
  /-- CUT_CLEAR (R193): CUT_CLEAR homes the blade, or is refused while a short or cut persists. -/
  | cutClear (p : Path) (oc : Bool)
  /-- AX_GO (R203): GO takes TARGET as the microstep target and starts or replans a move. -/
  | axGo (n : Fin 4)
  /-- AX_GO_ALT (R203): GO_ALT takes TARGET_ALT as the microstep target and starts or replans a move. -/
  | axGoAlt (n : Fin 4)
  /-- AX_STOP (R207): STOP sets the brake latch until the axis is at rest. -/
  | axStop (n : Fin 4)
  /-- AX_QSTOP (R207): QSTOP decelerates the axis linearly at QS_DEC. -/
  | axQstop (n : Fin 4)
  /-- REG_CHANGEOVER (R217): The set-point reaches a 45-degree microstep and regulation changes between QUIET and STRONG. -/
  | regChangeover (n : Fin 4)
  /-- AX_STANDSTILL (R218): After IDLE_DELAY at rest the axis enters its STILL choice. -/
  | axStandstill (n : Fin 4)
  /-- AX_SHORT (R222): A bridge over-current turns the axis off, sets FAULT and raises EV249. -/
  | axShort (n : Fin 4) (phase kind : Nat)
  /-- AX_CLEAR (R223): AX_CLEAR clears STALL and SHORT and re-energises the axis, or is refused during a short. -/
  | axClear (p : Path) (n : Fin 4) (asserted : Bool)
  /-- AX_OPEN_LOAD (R224): A coil stays below half its target for 8 PWM periods, so OPEN_LOAD is set. -/
  | axOpenLoad (n : Fin 4) (phase : Nat)
  /-- SYS_TEMP_READ (R317): Every 1 ms the bridge, board and die temperatures are converted and published. -/
  | sysTempRead (values : List Nat)
  /-- IMG_TRAIN_END (R235): A scan line's readout ends; the line is processed and sent as a LINE record. -/
  | imgTrainEnd (p : Fin 2) (raw : List (List Nat))
  /-- IMG_WITHDRAWN (R255): The document reverses behind LSN 0 and is retracted as withdrawn. -/
  | imgWithdrawn (p : Fin 2)
  /-- LINE_FINAL (R253): A sent line reaches CONFIRM_DIST and becomes FINAL, and a CONFIRM may be sent. -/
  | lineFinal (p : Fin 2)
  /-- DOC_END (R250): The job has left ACTIVE and its last train has ended, so DOC_END is sent. -/
  | docEnd (p : Fin 2)
  /-- CAL_BLACK (R241): CAL_CMD 1 captures the black shading references. -/
  | calBlack (p : Path) (i : Fin 2)
  /-- CAL_WHITE (R241): CAL_CMD 2 captures the white shading references. -/
  | calWhite (p : Path) (i : Fin 2)
  /-- CAL_ALIGN (R244): CAL_CMD 3 measures the row alignment on the next document. -/
  | calAlign (p : Path) (i : Fin 2)
  /-- CAL_BAR_EDGES (R244): CAL_CMD 4 records four bar edges on the next document. -/
  | calBarEdges (p : Path) (i : Fin 2)
  /-- CAL_LINE_TRIGGER (R241): The internal 200 µs trigger exposes a calibration line; the last one completes the capture. -/
  | calLineTrigger (i : Fin 2) (raw : List (List Nat))
  /-- SOL_ON (R272): An ON for a channel starts a profile, extends one, or is refused. -/
  | solOn (p : Path) (mask : Nat)
  /-- SOL_OFF (R274): An OFF ends the channel's drive with a fast decay, or withdraws its queued request. -/
  | solOff (p : Path) (mask : Nat)
  /-- SOL_PULSE (R276): A PULSE gives an ON that is followed by an OFF after PULSE_T. -/
  | solPulse (p : Path) (mask : Nat)
  /-- PEAK_START (R275): A queued PEAK starts when the bank's PEAK ends and BOOST reaches BOOST_OK. -/
  | peakStart (b : Fin 2) (v : Nat)
  /-- PEAK_CURRENT_REACHED (R272): The coil current reaches I_PEAK; LAST_TTP is recorded and checked. -/
  | peakCurrentReached (c : Fin 8)
  /-- PEAK_DWELL_END (R272): PEAK_DWELL ends the PEAK phase and the channel enters HOLD. -/
  | peakDwellEnd (c : Fin 8)
  /-- TTP_MAX_EXPIRE (R273): I_PEAK is not reached by TTP_MAX, so HOLD is entered and TTP_SLOW is set. -/
  | ttpMaxExpire (c : Fin 8) (i : Nat)
  /-- HOLD_MAX_EXPIRE (R274): HOLD_MAX passes without extension, so the channel turns off. -/
  | holdMaxExpire (c : Fin 8)
  /-- PULSE_END (R276): The pending OFF of a PULSE falls due. -/
  | pulseEnd (c : Fin 8)
  /-- MIN_ON_END (R271): An early OFF is applied once the 200 µs minimum ON has elapsed. -/
  | minOnEnd (c : Fin 8)
  /-- DECAY_END (R274): The coil current falls below 50 mA and the channel goes idle. -/
  | decayEnd (c : Fin 8) (i va vb : Nat)
  /-- PEAK_QUEUE_TIMEOUT (R275): A queued PEAK request waits PEAK_QMAX and is dropped with EV352. -/
  | peakQueueTimeout (c : Fin 8)
  /-- PROP_UPDATE (R277): Every 1000 ticks the proportional targets with dither are computed. -/
  | propUpdate (is : List Nat)
  /-- BOOST_CLAMP (R280): The BOOST clamp begins to conduct above 68 V. -/
  | boostClamp (v : Nat)
  /-- BOOST_LOW (R280): BOOST stays below BOOST_OK for 10 ms with a request queued. -/
  | boostLow (v : Nat)
  /-- SOL_MODEL_UPDATE (R282): Every 1 ms the coil thermal model of each channel is updated. -/
  | solModelUpdate (i2s : List Nat)
  /-- RES_WINDOW_START (R283): After 2 ms of HOLD on MAIN24 the resistance averaging window starts. -/
  | resWindowStart (c : Fin 8)
  /-- RES_WINDOW_END (R283): The window completes; R_MEAS is compared with the model and R_LEARN is tracked. -/
  | resWindowEnd (c : Fin 8) (v i : Nat)
  /-- SOL_OC_TRIP (R286): A low-side over-current trips the channel; a retry follows or SHORT_SUPPLY latches. -/
  | solOcTrip (c : Fin 8)
  /-- SOL_OC_RETRY_DUE (R286): The 10 ms retry interval expires and a new PEAK request is made. -/
  | solOcRetryDue (c : Fin 8)
  /-- SOL_SHORT_GND (R287): An OFF output reads low for 100 µs, so SHORT_GND latches and the bank turns off. -/
  | solShortGnd (c : Fin 8)
  /-- SOL_HS_SHORT (R287): A high-side over-current trips the bank. -/
  | solHsShort (b : Fin 2)
  /-- SOL_COUPLED (R288): An OFF channel falls low after another turns on, so both latch COUPLED. -/
  | solCoupled (x y : Fin 8)
  /-- SOL_CLEAR (R289): SOL_CLEAR clears the channel latches in its mask. -/
  | solClear (p : Path) (mask : Nat)
  /-- BANK_CLEAR (R289): BANK_CLEAR clears the bank latches in its mask, or is refused while a short remains. -/
  | bankClear (p : Path) (mask low : Nat)
  /-- R_COLD_NOM_WRITE (R284): A write of R_COLD_NOM resets R_LEARN to it. -/
  | rColdNomWrite (p : Path) (c : Fin 8) (v : Nat)
  /-- SE_ROTATION_DUE (R297): Every 64 ms a rotation connects the spare in parallel to a role. -/
  | seRotationDue
  /-- ROLE_HANDOVER (R297): At the role slice's next conversion boundary the spare takes the role. -/
  | roleHandover
  /-- SLICE_CAL_DONE (R298): The spare finishes its calibration and reads READY or FAULTED. -/
  | sliceCalDone (i : Fin 4) (sumLo sumHi : Nat)
  /-- SLICE_CLEAR (R300): SLICE_CLEAR returns the slices in its mask to calibration. -/
  | sliceClear (p : Path) (mask : Nat)
  /-- REF_EN_WRITE (R302): A REF_EN write switches the reference buffer. -/
  | refEnWrite (p : Path) (v : Bool)
  /-- REF_SETTLED (R303): 2 ms after REF_EN became 1 the reference counts as settled. -/
  | refSettled
  /-- TRIG_SW (R305): TRIG_SW delivers a software trigger at its epoch. -/
  | trigSw (p : Path)
  /-- TRIG_PIN_EDGE (R305): A selected edge on TRIGn delivers a trigger 2 cycles later. -/
  | trigPinEdge (n : Fin 4) (rising : Bool)
  /-- SQ_START (R308): A sequencer RUN becomes 1; its filters reset and entry 0 begins. -/
  | sqStart (p : Fin 2)
  /-- SQ_STOP (R310): A sequencer RUN becomes 0 and the sequencer stops at the next boundary. -/
  | sqStop (p : Fin 2)
  /-- SQ_DELAY_END (R308): An entry's DELAY expires and the next entry begins. -/
  | sqDelayEnd (p : Fin 2)
  /-- CONVERSION_DONE (R295): A conversion completes and its result goes to a filter, the queue or its system user. -/
  | conversionDone (c : Conversion)
  /-- URGENT_START (R312): An urgent request starts on its slice at a boundary and preempts the sequence. -/
  | urgentStart (p : Fin 2)
  /-- CAP_ARM (R318): CAP_CMD 1 arms an interleaved capture, or it is aborted with too few healthy slices. -/
  | capArm (p : Path)
  /-- CAP_ABORT (R320): CAP_CMD 2 aborts a host capture. -/
  | capAbort (p : Path) (raws : List Nat)
  /-- CAPTURE_START (R318): The capture trigger arrives and interleaved sampling begins at the first joint boundary. -/
  | captureStart
  /-- CAPTURE_DONE (R318): CAP_N samples have been taken and CAP_STATE reads DONE. -/
  | captureDone (raws : List Nat)
  /-- FILTER_PACE (R324): A paced filter takes its latest input at a pace point, or counts STARVED. -/
  | filterPace (k : Fin 16)
  /-- QUEUE_POP (R329): A POP read removes and returns the oldest result word. -/
  | queuePop (p : Path)
  /-- QUEUE_FLUSH (R328): QUEUE_FLUSH empties the result queue. -/
  | queueFlush (p : Path)
  /-- DMA_MOVE (R329): Words move into the application DMA ring when it has room. -/
  | dmaMove
  /-- OBJECT_WRITE (R335): A write to an object with no row of its own is judged and applied, staged or refused. -/
  | objectWrite (p : Path) (idx sub : Nat) (data : List Byte)
  /-- COMMIT_OWN (R341): COMMIT 1 starts an epoch with the writer's staging set. -/
  | commitOwn (p : Path)
  /-- COMMIT_ALL (R341): COMMIT 2 starts an epoch with every unclaimed path's staging set. -/
  | commitAll (p : Path)
  /-- COMMIT_DISCARD (R341): COMMIT 3 discards the writer's own staging set. -/
  | commitDiscard (p : Path)
  /-- COMMIT_EPOCH (R343): The epoch's cross-object checks run and all its writes take effect in one cycle. -/
  | commitEpoch
  /-- CLAIM (R347): A CLAIM write grants or renews a group claim, or is refused CLAIMED. -/
  | claim (p : Path) (g : Nat)
  /-- CLAIM_RELEASE (R347): A RELEASE write frees a held group, or every group with 0xFF. -/
  | claimRelease (p : Path) (g : Nat)
  /-- CLAIM_LEASE_EXPIRE (R349): The holder makes no transaction for the lease time, so the claim lapses. -/
  | claimLeaseExpire (g : Fin 24)
  /-- STORE_ALL (R351): The save signature starts a store of the active values into the non-current slot. -/
  | storeAll (p : Path)
  /-- STORE_DONE (R351): The store completes and the new slot becomes current, or EV025 is raised on failure. -/
  | storeDone (ok : Bool)
  /-- RESTORE_ALL (R352): The load signature erases both parameter slots. -/
  | restoreAll (p : Path)
  /-- JOB_SUBMIT (R355): CMD 1 moves a FREE ledger entry to QUEUED after the checks. -/
  | jobSubmit (p : Path)
  /-- JOB_ABORT (R359): CMD 2 aborts a QUEUED, ARMED or ACTIVE entry. -/
  | jobAbort (p : Path)
  /-- JOB_END (R359): CMD 3 ends an ARMED or ACTIVE entry. -/
  | jobEnd (p : Path)
  /-- JOB_RELEASE (R359): CMD 4 returns a DONE or ABORTED entry to FREE. -/
  | jobRelease (p : Path)
  /-- LEDGER_CLEAR (R359): CLEAR releases every DONE and ABORTED entry. -/
  | ledgerClear (p : Path)
  /-- JOB_ARM (R356): In RUN or SERVICE a QUEUED entry is armed when its conditions hold. -/
  | jobArm
  /-- RPDO_RECEIVE (R373): An RPDO frame is received and its entries are applied as N writes. -/
  | rpdoReceive (n : Fin 4) (bs : List Byte)
  /-- SYNC_RECEIVE (R372): A SYNC frame triggers synchronous TPDO snapshots and RPDO writes. -/
  | syncReceive
  /-- TPDO_CHANGE_TEST (R372): Every tCN40 a type 0xFE or 0xFF TPDO is tested for change and sent. -/
  | tpdoChangeTest (n : Fin 4)
  /-- TPDO_EVENT_TIMER (R372): A TPDO's event timer expires and the TPDO is sent. -/
  | tpdoEventTimer (n : Fin 4)
  /-- TPDO_INHIBIT_END (R372): A send held back by the inhibit time is made with a new snapshot. -/
  | tpdoInhibitEnd (n : Fin 4)
  /-- PDO_COB_ID_WRITE (R370): A COB-ID write validates or invalidates a PDO. -/
  | pdoCobIdWrite (p : Path) (tx : Bool) (n : Fin 4) (v : Nat)
  /-- PDO_MAP_WRITE (R370): A mapping or transmission-type write is accepted only while the PDO is invalid. -/
  | pdoMapWrite (p : Path) (tx : Bool) (n : Fin 4) (sub v : Nat)
  /-- VBUS_VALID (R381): VBUS becomes valid and the D+ pull-up is applied. -/
  | vbusValid
  /-- VBUS_INVALID (R403): VBUS becomes invalid; the pull-up is removed and H is lost. -/
  | vbusInvalid
  /-- USB_RESET (R403): A USB reset loses H, or leaves RECOVERY after a manifestation. -/
  | usbReset (chirp : Bool)
  /-- USB_SET_CONFIGURATION (R382): SET_CONFIGURATION 1 configures the device; 0 loses H. -/
  | usbSetConfiguration (v : Nat)
  /-- USB_SET_REMOTE_WAKE (R392): SET_FEATURE(DEVICE_REMOTE_WAKEUP) enables remote wake. -/
  | usbSetRemoteWake
  /-- USB_CLEAR_REMOTE_WAKE (R392): CLEAR_FEATURE disables remote wake. -/
  | usbClearRemoteWake
  /-- USB_READ_OBJECT (R384): READ_OBJECT returns an object's value, or stalls on refusal. -/
  | usbReadObject (idx sub wLength : Nat)
  /-- USB_WRITE_OBJECT (R384): WRITE_OBJECT writes an object and ACKs or stalls after it is judged. -/
  | usbWriteObject (idx sub : Nat) (bs : List Byte)
  /-- USB_GET_RESULT (R383): GET_RESULT returns the status and count of H requests. -/
  | usbGetResult
  /-- USB_DOMAIN_OPEN (R385): DOMAIN_OPEN opens a DOMAIN read or write transfer on H. -/
  | usbDomainOpen (idx sub : Nat) (wr : Bool) (total : Nat)
  /-- USB_DOMAIN_PUT (R385): DOMAIN_PUT writes the next segment; the last one judges the write. -/
  | usbDomainPut (bs : List Byte)
  /-- USB_DOMAIN_GET (R385): DOMAIN_GET returns the next segment of a DOMAIN read. -/
  | usbDomainGet (wLength : Nat)
  /-- USB_DOMAIN_ABORT (R385): DOMAIN_ABORT abandons the open transfer on H. -/
  | usbDomainAbort
  /-- USB_BAD_REQUEST (R384): An unknown or malformed request is stalled. -/
  | usbBadRequest
  /-- DOMAIN_TIMEOUT (R385): No segment arrives for 1 s, so the open DOMAIN transfer is abandoned. -/
  | domainTimeout (p : Path)
  /-- USB_SUSPEND (R392): After 3 ms of bus idle the link suspends. -/
  | usbSuspend
  /-- REMOTE_WAKE_DRIVE_K (R393): A due remote wake drives K once the bus has been idle in suspend for 5 ms. -/
  | remoteWakeDriveK
  /-- REMOTE_WAKE_RELEASE (R393): After tUS5 the engine releases its K. -/
  | remoteWakeRelease
  /-- REMOTE_WAKE_SAMPLE (R393): tUS6 after release the bus is sampled to decide COLLIDED or DEVICE. -/
  | remoteWakeSample (k : Bool)
  /-- REMOTE_WAKE_RETRY (R393): No host K arrives by tUS8; the wake is retried, or EV452 is raised. -/
  | remoteWakeRetry
  /-- USB_HOST_RESUME (R393): The host drives resume K on the suspended link. -/
  | usbHostResume
  /-- USB_RESUME_END (R393): The host ends resume; WAKE_CAUSE and RESUMES update and EV451 is raised. -/
  | usbResumeEnd
  /-- EVENT_IN_TOKEN (R391): An interrupt IN token takes up to EVT_BATCH event records. -/
  | eventInToken
  /-- BULK_OUT_PACKET (R388): A bulk OUT packet is received into stream staging, or NAKed. -/
  | bulkOutPacket (bs : List Byte)
  /-- RASTER_ACCEPT (R388): A complete raster record fits its head's free space and its lines take RSNs. -/
  | rasterAccept (onC : Bool)
  /-- BULK_IN_ACK (R390): A bulk IN packet is acknowledged; the records whose last byte it holds are taken and their space released. -/
  | bulkInAck (last : Bool)
  /-- USB_CLEAR_HALT (R389): CLEAR_FEATURE(ENDPOINT_HALT) resumes EP 0x01 at a record start. -/
  | usbClearHalt
  /-- DFU_DNLOAD (R394): In RECOVERY a DFU download block is written to the target slot. -/
  | dfuDnload (bs : List Byte)
  /-- DFU_MANIFEST (R488): Manifestation checks the downloaded slot and reports errVERIFY or errWRITE on failure. -/
  | dfuManifest (norOk : Bool)
  /-- DFU_GETSTATUS (R394): DFU_GETSTATUS reports the DFU state and any error. -/
  | dfuGetstatus
  /-- DFU_UPLOAD (R394): DFU_UPLOAD is stalled. -/
  | dfuUpload
  /-- DFU_DETACH (R394): DFU_DETACH is stalled. -/
  | dfuDetach
  /-- MIRROR_READ (R397): A Mirror read returns a field, taking a new snapshot when the snapshot rule requires. -/
  | mirrorRead (a : Nat)
  /-- DOORBELL_WRITE (R399): A doorbell write puts a posted entry into the FIFO, or is dropped when it is full. -/
  | doorbellWrite (n : Fin 16) (word : Nat)
  /-- PW_GO (R399): PW_GO puts the composed posted write into the FIFO. -/
  | pwGo (idx sub len v : Nat)
  /-- POSTED_DRAIN (R399): A posted entry leaves the FIFO and is judged as a C write. -/
  | postedDrain
  /-- MB_READ (R400): Mailbox READ reads an object into MB_DATA. -/
  | mbRead (idx sub : Nat)
  /-- MB_WRITE (R400): Mailbox WRITE writes an object from MB_DATA. -/
  | mbWrite (idx sub : Nat) (bs : List Byte)
  /-- MB_OPEN_READ (R400): Mailbox OPEN_READ opens a DOMAIN read. -/
  | mbOpenRead (idx sub : Nat)
  /-- MB_OPEN_WRITE (R400): Mailbox OPEN_WRITE opens a DOMAIN write of length T. -/
  | mbOpenWrite (idx sub total : Nat)
  /-- MB_SEGMENT (R400): Mailbox SEGMENT moves one DOMAIN segment at the given offset. -/
  | mbSegment (off len : Nat) (bs : List Byte)
  /-- MB_ABORT (R400): Mailbox ABORT abandons the open DOMAIN transfer. -/
  | mbAbort
  /-- MB_STREAM_RESET (R389): Mailbox STREAM_RESET resumes the IN port after a record error. -/
  | mbStreamReset
  /-- MB_REQUEST_DONE (R401): A long mailbox request completes; DONE is set and MB_SEQ rises. -/
  | mbRequestDone
  /-- CB_IN_WRITE (R402): A word is written to the stream IN port. -/
  | cbInWrite (word : Nat)
  /-- CB_OUT_READ (R402): A word is read from the stream OUT port; a record is taken at its last word. -/
  | cbOutRead
  /-- CB_EVENT_READ (R402): A word is read from the event port; a record is taken at its eighth word. -/
  | cbEventRead
  /-- CB_RESET (R403): CB_RST# held low for 1 µs loses path C. -/
  | cbReset
  /-- NMT_START (R413): NMT command 0x01 enters OPERATIONAL. -/
  | nmtStart (node : Nat)
  /-- NMT_STOP (R413): NMT command 0x02 enters STOPPED. -/
  | nmtStop (node : Nat)
  /-- NMT_ENTER_PREOP (R413): NMT command 0x80 enters PRE-OPERATIONAL. -/
  | nmtEnterPreop (node : Nat)
  /-- NMT_RESET_NODE (R414): Reset Node acts exactly as Reset Communication. -/
  | nmtResetNode (node : Nat)
  /-- NMT_RESET_COMM (R414): Reset Communication restores 0x1000–0x1FFF, latches the node and rates, loses N and enters INITIALISING. -/
  | nmtResetComm (node : Nat)
  /-- NMT_BOOTUP (R413): The boot-up is sent and INITIALISING gives way to PRE-OPERATIONAL. -/
  | nmtBootup
  /-- USDO_DOWNLOAD_INIT (R415): A USDO download initiate opens a session; a DOMAIN initiate is judged as an OPEN. -/
  | usdoDownloadInit (client idx sub total : Nat) (bs : List Byte)
  /-- USDO_DOWNLOAD_SEGMENT (R415): A download segment arrives; the last segment judges the write. -/
  | usdoDownloadSegment (client : Nat) (bs : List Byte)
  /-- USDO_UPLOAD_INIT (R415): A USDO upload initiate takes the value snapshot. -/
  | usdoUploadInit (client idx sub room : Nat)
  /-- USDO_UPLOAD_SEGMENT (R415): An upload segment request returns the next segment. -/
  | usdoUploadSegment (client room : Nat)
  /-- USDO_CLIENT_ABORT (R415): A client abort abandons the session with no effect. -/
  | usdoClientAbort (client : Nat)
  /-- USDO_TIMEOUT (R415): No segment arrives for tCN4, so the session is aborted. -/
  | usdoTimeout (client : Nat)
  /-- CAN_BUS_OFF (R412): Bus-off starts recovery, applies ERR_BEHAVIOUR and loses N. -/
  | canBusOff (tec rec_ : Nat)
  /-- CAN_RECOVERED (R412): Bus-off recovery ends and EV465 is raised. -/
  | canRecovered
  /-- HEARTBEAT_SEND (R418): Every PRODUCER_HB ms the heartbeat is sent. -/
  | heartbeatSend
  /-- HEARTBEAT_RECEIVE (R418): A consumed node's heartbeat arms its consumer entry. -/
  | heartbeatReceive (node : Nat)
  /-- HB_TIMEOUT (R418): A consumer heartbeat time expires, so HB_TIMEOUTS is counted and R412 applies. -/
  | hbTimeout (i : Fin 4)
  /-- EMCY_SEND (R417): The next queued EMCY frame is sent once the inhibit time allows. -/
  | emcySend
  /-- LR_CALL (R423): As master, a write of LR_CALL starts a round by sending CALL. -/
  | lrCall (p : Path) (v : Nat)
  /-- LR_CALL_RECEIVE (R424): A participant receives CALL and answers READY or BUSY. -/
  | lrCallReceive (node round : Nat)
  /-- LR_ANSWER_RECEIVE (R423): The master receives a READY or BUSY answer. -/
  | lrAnswerReceive (node round reason : Nat)
  /-- LR_ANSWER_WINDOW_END (R423): The answer window ends; the master sends COMMIT or ABORT. -/
  | lrAnswerWindowEnd
  /-- LR_VETO_RECEIVE (R425): A VETO is received; it aborts the round before COMMIT or cancels it after. -/
  | lrVetoReceive (node round : Nat)
  /-- LR_COMMIT_RECEIVE (R425): A COMMIT ends on the bus and the curtain starts. -/
  | lrCommitReceive (node round : Nat)
  /-- LR_ABORT_RECEIVE (R424): An ABORT of the round is received and the node stays awake. -/
  | lrAbortReceive (node round reason : Nat)
  /-- LR_WAIT_TIMEOUT (R424): A participant hears no COMMIT or ABORT within tCN10, so the round times out. -/
  | lrWaitTimeout
  /-- LR_WAKE_RECEIVE (R425): A WAKE frame during the curtain cancels the round. -/
  | lrWakeReceive (node : Nat)
  /-- LR_CURTAIN_END (R426): The curtain ends without cancel; the transceiver enters standby and DOZE may follow. -/
  | lrCurtainEnd
  /-- CAN_WAKE (R427): A WUF, WUP or frame-error overflow brings the transceiver out of standby. -/
  | canWake (f : WakeFrame)
  /-- UART_RX_CHAR (R432): A received character completes and is stored with its flags, or is lost as an overrun. -/
  | uartRxChar (n : Fin 2) (samples : List Nat)
  /-- UART_TX_START (R433): The transmitter starts the held character when flow control allows. -/
  | uartTxStart (n : Fin 2) (ctsLow : Bool)
  /-- UART_TX_DONE (R433): A transmitted character completes its stop bits. -/
  | uartTxDone (n : Fin 2)
  /-- UART_START_EDGE_WAKE (R435): A start edge on RXD in DOZE wakes the engine; the character is lost. -/
  | uartStartEdgeWake (n : Fin 2)
  /-- EVENT_CLEAR_FLAG (R446): CLEAR_FLAG clears the selected event flag and recomputes ERROR_REGISTER. -/
  | eventClearFlag (p : Path)
  /-- EVENT_CLEAR_ALL (R446): CLEAR_ALL clears every event flag. -/
  | eventClearAll (p : Path)
  /-- COVER_ASSERT (R447): COVER# low asserts an output cut across all heads, solenoids, the cutter and the axes. -/
  | coverAssert
  /-- COVER_DEASSERT (R447): COVER# returns high and the 10 ms release time starts. -/
  | coverDeassert
  /-- COVER_RELEASE (R447): 10 ms after COVER# high the cover cut ends. -/
  | coverRelease
  /-- HALT_ASSERT (R447): HALT# low latches an output cut. -/
  | haltAssert (low : Bool)
  /-- HEAD_OT_ASSERT (R447): A head over-temperature latches a head cut. -/
  | headOtAssert (h : Fin 2)
  /-- HEAD_OT_DEASSERT (R447): The head over-temperature comparator deasserts. -/
  | headOtDeassert (h : Fin 2)
  /-- VH_OV_ASSERT (R447): A VH over-voltage latches a head cut. -/
  | vhOvAssert (h : Fin 2) (mV : Nat)
  /-- VH_OV_DEASSERT (R447): The VH over-voltage comparator deasserts. -/
  | vhOvDeassert (h : Fin 2)
  /-- SN_RELEASE (R448): SN_RELEASE releases the latched inputs, or is refused while one is asserted. -/
  | snRelease (p : Path)
  /-- TL_CLEAR (R450): TL_CLEAR empties the Trouble Log and raises EV509. -/
  | tlClear (p : Path)
  /-- RAIL_UV (R459): A rail stays below its UV threshold for 10 µs and fails. -/
  | railUv (rail mV : Nat)
  /-- RAIL_OV (R459): A rail reads above 110% of its set point. -/
  | railOv (rail mV : Nat)
  /-- AVS_UPDATE (R463): Every 1 ms the ring oscillators are counted and VCORE_SET is stepped. -/
  | avsUpdate (counts : List Nat)
  /-- POWER_FAIL (R474): A power-fail cause starts the power-down sequence. -/
  | powerFail (cause : Nat) (present : Bool)
  /-- INPUT_DIP (R474): A short input gap ends before the sequence starts and is ridden through. -/
  | inputDip (us : Nat)
  /-- POWER_LOST (R477): SB3V3 fails after the sequence and all state except NOR is lost. -/
  | powerLost
  /-- RECOVERY_WAKE_EXIT (R489): WAKE# held low for 5 s in RECOVERY leaves for BOOT. -/
  | recoveryWakeExit
  /-- SYSTEM_IMAGE_WRITE (R490): A completed SYSTEM_IMAGE transfer is judged and the slot becomes valid or rejected. -/
  | systemImageWrite (p : Path) (bs : List Byte)
  /-- APP_IMAGE_WRITE (R497): A completed APP_IMAGE transfer is judged into the staging area. -/
  | appImageWrite (p : Path) (bs : List Byte)
  /-- SLOT_CMD_INVALIDATE (R491): SLOT_CMD 1 erases the header of the non-running slot. -/
  | slotCmdInvalidate (p : Path)
  /-- ROLLBACK_COMMIT (R492): ROLLBACK_CMD 1 raises ROLLBACK to the running image's index. -/
  | rollbackCommit (p : Path)
  /-- KEY_ADD (R493): KEY_CMD 1 writes a customer key into the lowest EMPTY slot. -/
  | keyAdd (p : Path)
  /-- KEY_REVOKE (R493): KEY_CMD 2 + k revokes slot k, stops the application and erases its images. -/
  | keyRevoke (p : Path) (k : Fin 4)
  /-- APP_START (R494): APP_CMD 2 judges and starts the application image. -/
  | appStart (p : Path)
  /-- APP_STOP (R500): APP_CMD 1 stops the application. -/
  | appStop (p : Path)
  /-- APP_ENABLE_WRITE (R500): Writing APP_ENABLE 0 stops the application with cause 4. -/
  | appEnableWrite (p : Path) (v : Nat)
  /-- APP_WDOG_EXPIRE (R500): No WDOG_KICK arrives within APP_WDOG, so the application is stopped. -/
  | appWdogExpire
  /-- APP_TRAP (R500): A trap with an invalid vector or a nested trap stops the application with cause 3. -/
  | appTrap (pc cause : Nat)
  /-- APP_ACCESS_FAULT (R498): An access outside the three regions raises an access fault on the application core. -/
  | appAccessFault (addr : Nat)
  /-- API_DICT_READ (R499): The DICT_READ call reads an object on path A. -/
  | apiDictRead (idx sub buf size : Nat)
  /-- API_DICT_WRITE (R499): The DICT_WRITE call writes an object on path A. -/
  | apiDictWrite (idx sub buf len : Nat)
  /-- API_DOMAIN_OPEN (R499): The DOMAIN_OPEN call opens a DOMAIN transfer on path A. -/
  | apiDomainOpen (idx dir total : Nat)
  /-- API_DOMAIN_SEGMENT (R499): The DOMAIN_SEGMENT call moves one segment on path A. -/
  | apiDomainSegment (buf len off : Nat)
  /-- API_DOMAIN_ABORT (R499): The DOMAIN_ABORT call abandons A's transfer. -/
  | apiDomainAbort
  /-- API_EVENT_GET (R499): The EVENT_GET call copies queued event records to the application. -/
  | apiEventGet (buf most : Nat)
  /-- API_WAIT (R499): The WAIT call blocks until an event is pending or the deadline passes. -/
  | apiWait (lo hi : Nat)
  /-- API_WAIT_WAKE (R499): A pending event or the ST deadline ends a WAIT call. -/
  | apiWaitWake
  /-- API_WDOG_KICK (R499): The WDOG_KICK call restarts the application watchdog. -/
  | apiWdogKick
  /-- API_UART_PUT (R499): The UART_PUT call places a character in the transmit holding register. -/
  | apiUartPut (port ch : Nat)
  /-- API_UART_GET (R499): The UART_GET call takes the received word from the holding register. -/
  | apiUartGet (port : Nat)
  /-- API_EXIT (R499): The EXIT call stops the application with cause 1. -/
  | apiExit
  /-- API_UNKNOWN (R499): An unknown call code returns NO_SUCH_OBJECT. -/
  | apiUnknown (code : Nat)
  /-- DEBUG_UNLOCK (R501): DEBUG_CMD 1 checks the RESPONSE signature and enables the debug port. -/
  | debugUnlock (p : Path)
  /-- DEBUG_LOCK (R502): DEBUG_CMD 2 disables the debug port. -/
  | debugLock (p : Path)
  /-- CUT_REVERSE_DRIVE (R188): BRAKE ends after the forward drive and the cutter starts driving the blade in reverse toward HOME. -/
  | cutReverseDrive
  /-- LOCKOUT_FLOORS_REACHED (R470): After LOCKOUT entry the axes are at rest and VH and BOOST are below their floors, so the domains take their LOCKOUT states. -/
  | lockoutFloorsReached (va vb boost : Nat)
  /-- USB_SET_ADDRESS (R405): The host assigns the device address and USB STATE moves from default to address. -/
  | usbSetAddress
  /-- ERROR_PASSIVE (R412): Bus errors change TEC or REC under ISO 11898-1, moving BUS_STATE between error active and error passive. -/
  | errorPassive (tec rec_ : Nat)
  /-- UART_BREAK_END (R431): RXD returns high after a BREAK, and the receiver again accepts a new start edge. -/
  | uartBreakEnd (n : Fin 2)
  deriving DecidableEq, Repr

end Sys2Proof
end

