-- ==== Sys2Proof/Decode.lean ====
section
/-!
DEFINITION. Decode.lean: the commands a word spells by the bits of spec/opcode_table.json. No row of the table gives bits: the
commands of this block come from links, pins and sensors, and no word encodes one.
-/

namespace Sys2Proof

/-- The command that the word `w` of `nbits` bits spells: none, as no row gives bits. -/
def decodeTableWord (_nbits _w : Nat) : Option Instr := none

end Sys2Proof
end

