-- ==== Sys2Proof/Machine/Crypto.lean ====
section
/-!
DEFINITION. Crypto.lean: SHA-256 (FIPS 180) and the verification of an ECDSA P-256 signature (FIPS 186-4), which R483 names
for images and R501 for debug access.
-/

namespace Sys2Proof.Machine

open Sys2Proof

/-! SHA-256. -/

/-- A sum modulo 2^32. -/
def add32 (a b : Nat) : Nat := (a + b) % 4294967296

/-- Rotation of a 32-bit word to the right. -/
def rotr32 (n x : Nat) : Nat := (x / 2 ^ n + x * 2 ^ (32 - n)) % 4294967296

/-! Round constants, sixteen at a time. -/
def shaK0 : List Nat :=
  [0x428A2F98, 0x71374491, 0xB5C0FBCF, 0xE9B5DBA5, 0x3956C25B, 0x59F111F1, 0x923F82A4, 0xAB1C5ED5,
   0xD807AA98, 0x12835B01, 0x243185BE, 0x550C7DC3, 0x72BE5D74, 0x80DEB1FE, 0x9BDC06A7, 0xC19BF174]

def shaK1 : List Nat :=
  [0xE49B69C1, 0xEFBE4786, 0x0FC19DC6, 0x240CA1CC, 0x2DE92C6F, 0x4A7484AA, 0x5CB0A9DC, 0x76F988DA,
   0x983E5152, 0xA831C66D, 0xB00327C8, 0xBF597FC7, 0xC6E00BF3, 0xD5A79147, 0x06CA6351, 0x14292967]

def shaK2 : List Nat :=
  [0x27B70A85, 0x2E1B2138, 0x4D2C6DFC, 0x53380D13, 0x650A7354, 0x766A0ABB, 0x81C2C92E, 0x92722C85,
   0xA2BFE8A1, 0xA81A664B, 0xC24B8B70, 0xC76C51A3, 0xD192E819, 0xD6990624, 0xF40E3585, 0x106AA070]

def shaK3 : List Nat :=
  [0x19A4C116, 0x1E376C08, 0x2748774C, 0x34B0BCB5, 0x391C0CB3, 0x4ED8AA4A, 0x5B9CCA4F, 0x682E6FF3,
   0x748F82EE, 0x78A5636F, 0x84C87814, 0x8CC70208, 0x90BEFFFA, 0xA4506CEB, 0xBEF9A3F7, 0xC67178F2]

/-- The initial hash value. -/
def shaInit : List Nat := [0x6A09E667, 0xBB67AE85, 0x3C6EF372, 0xA54FF53A, 0x510E527F, 0x9B05688C, 0x1F83D9AB, 0x5BE0CD19]

/-- The next word of the message schedule, the words so far newest first. -/
def shaNext (ws : List Nat) : Nat :=
  let a := ws.getD 1 0
  let c := ws.getD 14 0
  let s1 := rotr32 17 a ^^^ rotr32 19 a ^^^ (a / 1024)
  let s0 := rotr32 7 c ^^^ rotr32 18 c ^^^ (c / 8)
  add32 (add32 s1 (ws.getD 6 0)) (add32 s0 (ws.getD 15 0))

/-- The 64 words of the schedule of a block of 16 words. -/
def shaSchedule (blk : List Nat) : List Nat :=
  ((upto 48).foldl (fun ws _ => shaNext ws :: ws) blk.reverse).reverse

/-- One round on the working variables, with the sum of its constant and its schedule word. -/
def shaRound (v : List Nat) (kw : Nat) : List Nat :=
  match v with
  | [a, b, c, d, e, f, g, h] =>
    let s1 := rotr32 6 e ^^^ rotr32 11 e ^^^ rotr32 25 e
    let ch := (e &&& f) ^^^ ((4294967295 - e) &&& g)
    let t1 := add32 (add32 h s1) (add32 ch kw)
    let s0 := rotr32 2 a ^^^ rotr32 13 a ^^^ rotr32 22 a
    let mj := (a &&& b) ^^^ (a &&& c) ^^^ (b &&& c)
    [add32 t1 (add32 s0 mj), a, b, c, add32 d t1, e, f, g]
  | _ => v

/-- The hash value after one block. -/
def shaBlock (h : List Nat) (blk : List Nat) : List Nat :=
  let kws := List.zipWith add32 (shaK0 ++ shaK1 ++ shaK2 ++ shaK3) (shaSchedule blk)
  List.zipWith add32 h (kws.foldl shaRound h)

/-- The big-endian number a list of bytes spells. -/
def beNat (bs : List Byte) : Nat := bs.foldl (fun n b => n * 256 + b.toNat) 0

/-- The padded message. -/
def shaPad (m : List Byte) : List Byte :=
  m ++ (0x80 : Byte) :: List.replicate ((119 - m.length % 64) % 64) 0 ++ (leBytes 8 (8 * m.length)).reverse

/-- The 16 words of the block at byte `off`. -/
def shaWords (m : List Byte) : List Nat := (upto 16).map (fun i => beNat ((m.drop (4 * i)).take 4))

/-- The blocks of a padded message, as many as `n`. -/
def shaBlocks : Nat → List Byte → List Nat → List Nat
  | 0, _, h => h
  | n + 1, m, h => shaBlocks n (m.drop 64) (shaBlock h (shaWords m))

/-- SHA-256 of a message, as a number (most significant byte first). -/
def sha256 (m : List Byte) : Nat :=
  let p := shaPad m
  (shaBlocks (p.length / 64) p shaInit).foldl (fun n w => n * 4294967296 + w) 0

/-- The digest as its 32 bytes, in the order SHA-256 gives them. -/
def sha256Bytes (m : List Byte) : List Byte := (leBytes 32 (sha256 m)).reverse

/-! P-256. -/

/-- The field prime. -/
def p256P : Nat := 2 ^ 256 - 2 ^ 224 + 2 ^ 192 + 2 ^ 96 - 1
/-- The order of the base point. -/
def p256N : Nat := 0xFFFFFFFF00000000FFFFFFFFFFFFFFFFBCE6FAADA7179E84F3B9CAC2FC632551
/-- The curve coefficient b; a is -3. -/
def p256B : Nat := 0x5AC635D8AA3A93E7B3EBBD55769886BC651D06B0CC53B0F63BCE3C3E27D2604B
/-- The base point. -/
def p256Gx : Nat := 0x6B17D1F2E12C4247F8BCE6E563A440F277037D812DEB33A0F4A13945D898C296
def p256Gy : Nat := 0x4FE342E2FE1A7F9B8EE7EB4A7C0F9E162BCE33576B315ECECBB6406837BF51F5

/-- A point of the curve; none is the point at infinity. -/
abbrev Pt := Option (Nat × Nat)

/-- x ^ e mod m by squaring over `k` bits of the exponent. -/
def powMod (m : Nat) : Nat → Nat → Nat → Nat
  | 0, _, _ => 1 % m
  | k + 1, x, e => let r := powMod m k (x * x % m) (e / 2); if e % 2 = 1 then x * r % m else r

/-- The inverse modulo a prime below 2^256. -/
def invMod (m x : Nat) : Nat := powMod m 256 (x % m) (m - 2)

/-- The difference modulo m. -/
def subMod (m a b : Nat) : Nat := (a % m + (m - b % m)) % m

/-- Is (x, y) a point of the curve? -/
def onCurve (x y : Nat) : Bool :=
  decide (x < p256P) && decide (y < p256P)
    && decide (y * y % p256P = subMod p256P (x * x * x + p256B) (3 * x))

/-- The point that a chord or tangent of slope `l` through (x1, y1) and x2 gives. -/
def chord (l x1 y1 x2 : Nat) : Pt :=
  let x3 := subMod p256P (l * l) (x1 + x2)
  some (x3, subMod p256P (l * subMod p256P x1 x3) y1)

/-- The sum of two points. -/
def ptAdd (a b : Pt) : Pt :=
  match a, b with
  | none, q => q
  | q, none => q
  | some (x1, y1), some (x2, y2) =>
    if x1 = x2 then
      if (y1 + y2) % p256P = 0 then none
      else chord (subMod p256P (3 * x1 * x1) 3 * invMod p256P (2 * y1) % p256P) x1 y1 x2
    else chord (subMod p256P y2 y1 * invMod p256P (subMod p256P x2 x1) % p256P) x1 y1 x2

/-- A multiple of a point, over `k` bits. -/
def ptMul : Nat → Nat → Pt → Pt
  | 0, _, _ => none
  | k + 1, e, q => let r := ptMul k (e / 2) (ptAdd q q); if e % 2 = 1 then ptAdd q r else r

/-- Does (r, s) verify over the digest under the public key (x, y)? -/
def ecdsaOk (x y digest r s : Nat) : Bool :=
  onCurve x y && decide (0 < r) && decide (r < p256N) && decide (0 < s) && decide (s < p256N) &&
    (let w := invMod p256N s
     let q := ptAdd (ptMul 256 (digest * w % p256N) (some (p256Gx, p256Gy))) (ptMul 256 (r * w % p256N) (some (x, y)))
     match q with
     | none => false
     | some (vx, _) => decide (vx % p256N = r))

end Sys2Proof.Machine
end

