-- ==== Sys2Proof/Machine/Objects.lean ====
section
/-!
DEFINITION. Objects.lean: the object table. One row per object of the spec's dictionary tables (Index:Sub, Type,
Paths, Class and Default, and the values check 6 of R335 accepts), in the spec's chapter order; a row stands for
`count` indices `step` apart and for `subs` sub-indices. R363, R364, R377.
-/

namespace Sys2Proof.Machine

open Sys2Proof

/-- Objects of the indices 0x1000 and up: DEVICE_TYPE to ERR_BEHAVIOUR. -/
def objects10a : List ObjRow := [
  ⟨0x1000, 1, 1, 0x00, 1, .u32, .allConst, .none, [0], 0, 4294967295⟩,
  ⟨0x1001, 1, 1, 0x00, 1, .u8, .allRo, .none, [0], 0, 255⟩,
  ⟨0x1005, 1, 1, 0x00, 1, .u32, .rwAro, .standbyOnly, [128], 0, 4294967295⟩,
  ⟨0x1008, 1, 1, 0x00, 1, .str, .allConst, .none, [0], 0, 0⟩,
  ⟨0x1009, 1, 1, 0x00, 1, .str, .allConst, .none, [0], 0, 0⟩,
  ⟨0x100A, 1, 1, 0x00, 1, .str, .allConst, .none, [0], 0, 0⟩,
  ⟨0x1010, 1, 1, 0x01, 1, .u32, .rwAro, .standbyOnly, [1], 0, 4294967295⟩,
  ⟨0x1011, 1, 1, 0x01, 1, .u32, .rwAro, .standbyOnly, [1], 0, 4294967295⟩,
  ⟨0x1014, 1, 1, 0x00, 1, .u32, .rwAro, .standbyOnly, [128], 0, 4294967295⟩,
  ⟨0x1015, 1, 1, 0x00, 1, .u16, .rwAro, .standbyOnly, [0], 0, 65535⟩,
  ⟨0x1016, 1, 1, 0x01, 4, .u32, .rwAro, .standbyOnly, [0], 0, 4294967295⟩,
  ⟨0x1017, 1, 1, 0x00, 1, .u16, .rwAro, .standbyOnly, [1000], 0, 65535⟩,
  ⟨0x1018, 1, 1, 0x01, 1, .u32, .allConst, .none, [1443], 0, 4294967295⟩,
  ⟨0x1018, 1, 1, 0x02, 1, .u32, .allConst, .none, [37184], 0, 4294967295⟩,
  ⟨0x1018, 1, 1, 0x03, 1, .u32, .allConst, .none, [197633], 0, 4294967295⟩,
  ⟨0x1018, 1, 1, 0x04, 1, .u32, .allConst, .none, [0], 0, 4294967295⟩,
  ⟨0x1029, 1, 1, 0x01, 1, .u8, .rwAro, .standbyOnly, [0], 0, 2⟩]

/-- Objects of the indices 0x1400 and up: RPDO_COB_ID to RPDO_TYPE. -/
def objects14a : List ObjRow := [
  ⟨0x1400, 1, 4, 0x01, 1, .u32, .rwAro, .standbyOnly, [512, 2147484416, 2147484672, 2147484928], 0, 4294967295⟩,
  ⟨0x1400, 1, 4, 0x02, 1, .u8, .rwAro, .standbyOnly, [254], 0, 255⟩]

/-- Objects of the indices 0x1600 and up: RPDO_MAP to RPDO_MAP. -/
def objects16a : List ObjRow := [
  ⟨0x1600, 1, 4, 0x01, 64, .u32, .rwAro, .standbyOnly, [0], 0, 4294967295⟩]

/-- Objects of the indices 0x1800 and up: TPDO_COB_ID to TPDO_EVENT_TIMER. -/
def objects18a : List ObjRow := [
  ⟨0x1800, 1, 4, 0x01, 1, .u32, .rwAro, .standbyOnly, [384, 640, 896, 2147484800], 0, 4294967295⟩,
  ⟨0x1800, 1, 4, 0x02, 1, .u8, .rwAro, .standbyOnly, [254], 0, 255⟩,
  ⟨0x1800, 1, 4, 0x03, 1, .u16, .rwAro, .standbyOnly, [100, 100, 100, 0], 0, 65535⟩,
  ⟨0x1800, 1, 4, 0x05, 1, .u16, .rwAro, .standbyOnly, [100, 500, 500, 0], 0, 65535⟩]

/-- Objects of the indices 0x1A00 and up: TPDO_MAP to TPDO_MAP. -/
def objects1Aa : List ObjRow := [
  ⟨0x1A00, 1, 4, 0x01, 64, .u32, .rwAro, .standbyOnly, [0], 0, 4294967295⟩]

/-- Objects of the indices 0x2000 and up: MODE_REQ to SOURCE. -/
def objects20a : List ObjRow := [
  ⟨0x2000, 1, 1, 0x01, 1, .u8, .allWo, .immediate, [0], 1, 4⟩,
  ⟨0x2000, 1, 1, 0x02, 1, .u8, .allRo, .none, [1], 0, 255⟩,
  ⟨0x2000, 1, 1, 0x03, 1, .u8, .rwAro, .staged, [1], 1, 2⟩,
  ⟨0x2000, 1, 1, 0x04, 1, .bool, .hcsWo, .immediate, [0], 0, 1⟩,
  ⟨0x2000, 1, 1, 0x05, 1, .u16, .allRo, .none, [0], 0, 65535⟩,
  ⟨0x2000, 1, 1, 0x06, 1, .u8, .allRo, .none, [0], 0, 255⟩,
  ⟨0x2001, 1, 1, 0x01, 1, .u8, .allWo, .immediate, [0], 1, 3⟩,
  ⟨0x2001, 1, 1, 0x02, 1, .u32, .allRo, .none, [0], 0, 4294967295⟩,
  ⟨0x2001, 1, 1, 0x03, 1, .u64, .allRo, .none, [0], 0, 18446744073709551615⟩,
  ⟨0x2001, 1, 1, 0x04, 1, .u16, .allRo, .none, [0], 0, 65535⟩,
  ⟨0x2001, 1, 1, 0x05, 1, .u16, .allRo, .none, [0], 0, 65535⟩,
  ⟨0x2001, 1, 1, 0x06, 1, .u32, .allRo, .none, [0], 0, 4294967295⟩,
  ⟨0x2001, 1, 1, 0x07, 1, .u32, .allRo, .none, [0], 0, 4294967295⟩,
  ⟨0x2002, 1, 1, 0x01, 1, .u8, .allWo, .immediate, [0], 0, 255⟩,
  ⟨0x2002, 1, 1, 0x02, 1, .u8, .allWo, .immediate, [0], 0, 255⟩,
  ⟨0x2002, 1, 1, 0x03, 1, .u32, .rwAro, .immediate, [0], 0, 3600000⟩,
  ⟨0x2002, 1, 1, 0x04, 1, .u32, .rwAro, .immediate, [5000], 1, 3600000⟩,
  ⟨0x2003, 1, 1, 0x01, 24, .u8, .allRo, .none, [0], 0, 255⟩,
  ⟨0x2004, 1, 1, 0x01, 1, .u8, .allRo, .none, [0], 0, 255⟩,
  ⟨0x2004, 1, 1, 0x02, 1, .u16, .allRo, .none, [4], 0, 65535⟩,
  ⟨0x2004, 1, 1, 0x03, 1, .u16, .allRo, .none, [0], 0, 65535⟩,
  ⟨0x2004, 1, 1, 0x04, 1, .u16, .allRo, .none, [0], 0, 65535⟩,
  ⟨0x2004, 1, 1, 0x05, 1, .u32, .allRo, .none, [0], 0, 4294967295⟩,
  ⟨0x2004, 1, 1, 0x06, 1, .u8, .allRo, .none, [0], 0, 255⟩]

/-- Objects of the indices 0x2000 and up: TIES_LOST to CLEAR. -/
def objects20b : List ObjRow := [
  ⟨0x2005, 1, 1, 0x01, 1, .u32, .allRo, .none, [0], 0, 4294967295⟩,
  ⟨0x2005, 1, 1, 0x02, 1, .u32, .allRo, .none, [0], 0, 4294967295⟩,
  ⟨0x2005, 1, 1, 0x03, 1, .u8, .allRo, .none, [0], 0, 255⟩,
  ⟨0x2020, 1, 1, 0x01, 1, .u8, .allRw, .immediate, [0], 0, 63⟩,
  ⟨0x2020, 1, 1, 0x02, 1, .u16, .allRw, .immediate, [0], 0, 65535⟩,
  ⟨0x2020, 1, 1, 0x03, 1, .u8, .allRw, .immediate, [0], 0, 255⟩,
  ⟨0x2020, 1, 1, 0x04, 1, .u8, .allRw, .immediate, [0], 0, 255⟩,
  ⟨0x2020, 1, 1, 0x05, 1, .u8, .allRw, .immediate, [1], 0, 255⟩,
  ⟨0x2020, 1, 1, 0x06, 1, .u32, .allRw, .immediate, [0], 0, 4294967295⟩,
  ⟨0x2020, 1, 1, 0x07, 1, .u32, .allRw, .immediate, [0], 0, 4294967295⟩,
  ⟨0x2020, 1, 1, 0x08, 1, .u16, .allRw, .immediate, [65535], 0, 65535⟩,
  ⟨0x2020, 1, 1, 0x09, 1, .u16, .allRw, .immediate, [65535], 0, 65535⟩,
  ⟨0x2020, 1, 1, 0x0A, 1, .u8, .allWo, .immediate, [0], 1, 4⟩,
  ⟨0x2020, 1, 1, 0x0B, 1, .u8, .allRo, .none, [0], 0, 255⟩,
  ⟨0x2020, 1, 1, 0x0C, 1, .u8, .allRo, .none, [0], 0, 255⟩,
  ⟨0x2020, 1, 1, 0x0D, 1, .u32, .allRo, .none, [0], 0, 4294967295⟩,
  ⟨0x2020, 1, 1, 0x0E, 1, .u64, .allRo, .none, [0], 0, 18446744073709551615⟩,
  ⟨0x2020, 1, 1, 0x0F, 1, .u64, .allRo, .none, [0], 0, 18446744073709551615⟩,
  ⟨0x2020, 1, 1, 0x10, 1, .u16, .allRo, .none, [0], 0, 65535⟩,
  ⟨0x2021, 1, 1, 0x01, 1, .u8, .allRo, .none, [64], 0, 255⟩,
  ⟨0x2021, 1, 1, 0x02, 1, .u8, .allRo, .none, [0], 0, 255⟩,
  ⟨0x2021, 1, 1, 0x03, 1, .u8, .allRo, .none, [0], 0, 255⟩,
  ⟨0x2021, 1, 1, 0x04, 1, .u8, .allRo, .none, [0], 0, 255⟩,
  ⟨0x2021, 1, 1, 0x05, 1, .u8, .allWo, .immediate, [0], 1, 1⟩]

/-- Objects of the indices 0x2000 and up: STATE_0–STATE_63 to FAULT_CAUSE. -/
def objects20c : List ObjRow := [
  ⟨0x2022, 1, 1, 0x01, 64, .u8, .allRo, .none, [0], 0, 255⟩,
  ⟨0x2010, 1, 1, 0x01, 1, .u16, .allConst, .none, [769], 0, 65535⟩,
  ⟨0x2010, 1, 1, 0x02, 1, .u32, .allRo, .none, [262400], 0, 4294967295⟩,
  ⟨0x2010, 1, 1, 0x03, 1, .u16, .allRo, .none, [9], 0, 65535⟩,
  ⟨0x2010, 1, 1, 0x04, 1, .u16, .allRo, .none, [4], 0, 65535⟩,
  ⟨0x2010, 1, 1, 0x05, 1, .u16, .allRo, .none, [2], 0, 65535⟩,
  ⟨0x2010, 1, 1, 0x06, 1, .u8, .allRo, .none, [0], 0, 255⟩,
  ⟨0x2010, 1, 1, 0x07, 1, .u8, .allConst, .none, [3], 0, 255⟩,
  ⟨0x2011, 1, 1, 0x01, 1, .u8, .allRo, .none, [1], 0, 255⟩,
  ⟨0x2011, 1, 1, 0x02, 1, .u32, .allRo, .none, [0], 0, 4294967295⟩,
  ⟨0x2011, 1, 1, 0x05, 1, .u32, .allRo, .none, [0], 0, 4294967295⟩,
  ⟨0x2011, 1, 1, 0x03, 1, .u8, .allRo, .none, [0], 0, 255⟩,
  ⟨0x2011, 1, 1, 0x06, 1, .u8, .allRo, .none, [0], 0, 255⟩,
  ⟨0x2011, 1, 1, 0x04, 1, .u8, .allRo, .none, [0], 0, 255⟩,
  ⟨0x2011, 1, 1, 0x07, 1, .u8, .allRo, .none, [0], 0, 255⟩,
  ⟨0x2011, 1, 1, 0x08, 1, .u32, .allRo, .none, [0], 0, 4294967295⟩,
  ⟨0x2012, 1, 1, 0x01, 1, .u8, .allRo, .none, [0], 0, 255⟩,
  ⟨0x2012, 1, 1, 0x02, 1, .u32, .allRo, .none, [0], 0, 4294967295⟩,
  ⟨0x2012, 1, 1, 0x03, 1, .u16, .allRo, .none, [0], 0, 65535⟩,
  ⟨0x2012, 1, 1, 0x04, 1, .u16, .allRo, .none, [0], 0, 65535⟩,
  ⟨0x2012, 1, 1, 0x05, 1, .u16, .allRo, .none, [0], 0, 65535⟩,
  ⟨0x2012, 1, 1, 0x06, 1, .u8, .allRo, .none, [0], 0, 255⟩,
  ⟨0x2012, 1, 1, 0x07, 1, .u32, .allRo, .none, [0], 0, 4294967295⟩,
  ⟨0x2012, 1, 1, 0x08, 1, .u32, .allRo, .none, [0], 0, 4294967295⟩]

/-- Objects of the indices 0x2000 and up: STARTS to STAGED. -/
def objects20d : List ObjRow := [
  ⟨0x2012, 1, 1, 0x09, 1, .u32, .allRo, .none, [0], 0, 4294967295⟩,
  ⟨0x2012, 1, 1, 0x0A, 1, .bool, .allRo, .none, [0], 0, 1⟩]

/-- Objects of the indices 0x2100 and up: SOURCE to REV_OFFSET. -/
def objects21a : List ObjRow := [
  ⟨0x2100, 1, 4, 0x01, 1, .u8, .rwAro, .standbyOnly, [2, 3, 2, 2], 0, 3⟩,
  ⟨0x2100, 1, 4, 0x02, 1, .u8, .rwAro, .standbyOnly, [0, 1, 2, 3], 0, 3⟩,
  ⟨0x2100, 1, 4, 0x03, 1, .u8, .rwAro, .standbyOnly, [0, 1, 2, 3], 0, 3⟩,
  ⟨0x2100, 1, 4, 0x04, 1, .u32, .rwAro, .standbyOnly, [125], 0, 4294967295⟩,
  ⟨0x2100, 1, 4, 0x05, 1, .u16, .rwAro, .standbyOnly, [1], 1, 65535⟩,
  ⟨0x2100, 1, 4, 0x06, 1, .u32, .rwAro, .standbyOnly, [640], 0, 4294967295⟩,
  ⟨0x2100, 1, 4, 0x07, 1, .u16, .rwAro, .standbyOnly, [1], 1, 65535⟩,
  ⟨0x2100, 1, 4, 0x08, 1, .bool, .rwAro, .standbyOnly, [0], 0, 1⟩,
  ⟨0x2100, 1, 4, 0x09, 1, .u16, .rwAro, .staged, [2048], 0, 65535⟩,
  ⟨0x2100, 1, 4, 0x0A, 1, .u32, .rwAro, .staged, [256000], 0, 4294967295⟩,
  ⟨0x2100, 1, 4, 0x0B, 1, .u16, .rwAro, .staged, [2560], 0, 65535⟩,
  ⟨0x2100, 1, 4, 0x0C, 1, .u32, .rwAro, .staged, [2000000], 1000, 4294967295⟩,
  ⟨0x2104, 1, 4, 0x01, 1, .i48, .allRo, .none, [0], -140737488355328, 140737488355327⟩,
  ⟨0x2104, 1, 4, 0x02, 1, .i32, .allRo, .none, [0], -2147483648, 2147483647⟩,
  ⟨0x2104, 1, 4, 0x03, 1, .u8, .allRo, .none, [0], 0, 255⟩,
  ⟨0x2104, 1, 4, 0x04, 1, .i32, .allRo, .none, [0], -2147483648, 2147483647⟩,
  ⟨0x2104, 1, 4, 0x05, 1, .u16, .allRo, .none, [0], 0, 65535⟩,
  ⟨0x2104, 1, 4, 0x06, 1, .i48, .allWo, .staged, [0], -140737488355328, 140737488355327⟩,
  ⟨0x2110, 1, 16, 0x01, 1, .bool, .allRw, .staged, [0], 0, 1⟩,
  ⟨0x2110, 1, 16, 0x02, 1, .u32, .allRw, .staged, [32000], 0, 4294967295⟩,
  ⟨0x2110, 1, 16, 0x03, 1, .u16, .allRw, .staged, [1], 1, 65535⟩,
  ⟨0x2110, 1, 16, 0x04, 1, .i48, .allRw, .staged, [0], -140737488355328, 140737488355327⟩,
  ⟨0x2110, 1, 16, 0x05, 1, .i32, .allRw, .staged, [0], -2147483648, 2147483647⟩,
  ⟨0x2110, 1, 16, 0x06, 1, .i32, .allRw, .staged, [0], -2147483648, 2147483647⟩]

/-- Objects of the indices 0x2100 and up: DIRS to REHOME_REQ. -/
def objects21b : List ObjRow := [
  ⟨0x2110, 1, 16, 0x07, 1, .u8, .allRw, .staged, [3], 1, 3⟩,
  ⟨0x2110, 1, 16, 0x08, 1, .u8, .allRw, .staged, [0], 0, 1⟩,
  ⟨0x2110, 1, 16, 0x09, 1, .i32, .allRo, .none, [0], -2147483648, 2147483647⟩,
  ⟨0x2110, 1, 16, 0x0A, 1, .u32, .allRo, .none, [0], 0, 4294967295⟩,
  ⟨0x2110, 1, 16, 0x0B, 1, .u16, .allRo, .none, [0], 0, 65535⟩,
  ⟨0x2140, 1, 1, 0x01, 1, .u16, .allRw, .immediate, [0], 0, 1023⟩,
  ⟨0x2140, 1, 1, 0x02, 1, .u64, .allRw, .immediate, [0], 0, 18446744073709551615⟩,
  ⟨0x2140, 1, 1, 0x03, 1, .u32, .allRw, .immediate, [0], 0, 4294967295⟩,
  ⟨0x2140, 1, 1, 0x04, 1, .u32, .allRw, .immediate, [0], 0, 4294967295⟩,
  ⟨0x2140, 1, 1, 0x05, 1, .u32, .allRo, .none, [0], 0, 4294967295⟩,
  ⟨0x2140, 1, 1, 0x06, 1, .u64, .allRo, .none, [0], 0, 18446744073709551615⟩,
  ⟨0x2141, 1, 1, 0x01, 1, .u16, .allRo, .none, [0], 0, 65535⟩,
  ⟨0x2141, 1, 1, 0x02, 1, .u16, .allRo, .none, [0], 0, 65535⟩,
  ⟨0x2141, 1, 1, 0x03, 1, .u8, .allWo, .immediate, [0], 1, 2⟩,
  ⟨0x2150, 1, 4, 0x01, 1, .u32, .rwAro, .standbyOnly, [8000], 4, 2147483647⟩,
  ⟨0x2150, 1, 4, 0x02, 1, .u8, .rwAro, .standbyOnly, [0], 0, 2⟩,
  ⟨0x2150, 1, 4, 0x03, 1, .u16, .allRo, .none, [0], 0, 65535⟩,
  ⟨0x2150, 1, 4, 0x04, 1, .u16, .allRo, .none, [0], 0, 65535⟩,
  ⟨0x2150, 1, 4, 0x05, 1, .i32, .allRo, .none, [0], -2147483648, 2147483647⟩,
  ⟨0x2150, 1, 4, 0x06, 1, .i48, .rwAro, .staged, [0], -140737488355328, 140737488355327⟩,
  ⟨0x2150, 1, 4, 0x07, 1, .bool, .rwAro, .immediate, [0], 0, 1⟩]

/-- Objects of the indices 0x2200 and up: ST to FILT_P. -/
def objects22a : List ObjRow := [
  ⟨0x2200, 1, 1, 0x01, 1, .u64, .allRo, .none, [0], 0, 18446744073709551615⟩,
  ⟨0x2200, 1, 1, 0x02, 1, .u64, .allRo, .none, [0], 0, 18446744073709551615⟩,
  ⟨0x2200, 1, 1, 0x03, 1, .i16, .allRo, .none, [0], -32768, 32767⟩,
  ⟨0x2200, 1, 1, 0x04, 1, .bool, .allRo, .none, [0], 0, 1⟩,
  ⟨0x2220, 1, 16, 0x01, 1, .bool, .allRw, .staged, [0], 0, 1⟩,
  ⟨0x2220, 1, 16, 0x02, 1, .u8, .allRw, .staged, [0], 0, 1⟩,
  ⟨0x2220, 1, 16, 0x03, 1, .u64, .allRw, .staged, [0], 0, 18446744073709551615⟩,
  ⟨0x2220, 1, 16, 0x04, 1, .u32, .allRw, .immediate, [200000], 2, 4294967295⟩,
  ⟨0x2220, 1, 16, 0x05, 1, .u32, .allRw, .immediate, [0], 0, 4294967295⟩,
  ⟨0x2220, 1, 16, 0x06, 1, .u32, .allRw, .immediate, [100000], 0, 4294967295⟩,
  ⟨0x2220, 1, 16, 0x07, 1, .u8, .allRw, .immediate, [0], 0, 7⟩,
  ⟨0x2220, 1, 16, 0x08, 1, .u8, .allRw, .staged, [0], 0, 3⟩,
  ⟨0x2220, 1, 16, 0x09, 1, .u16, .allRw, .staged, [0], 0, 65535⟩,
  ⟨0x2220, 1, 16, 0x0A, 1, .bool, .allRw, .immediate, [0], 0, 1⟩,
  ⟨0x2220, 1, 16, 0x0B, 1, .u8, .allRw, .staged, [255], 0, 255⟩,
  ⟨0x2220, 1, 16, 0x0C, 1, .u8, .allRw, .immediate, [0], 0, 255⟩,
  ⟨0x2220, 1, 16, 0x0D, 1, .u32, .allRo, .none, [0], 0, 4294967295⟩,
  ⟨0x2220, 1, 16, 0x0E, 1, .u32, .allRo, .none, [0], 0, 4294967295⟩,
  ⟨0x2220, 1, 16, 0x0F, 1, .u64, .allRo, .none, [0], 0, 18446744073709551615⟩,
  ⟨0x2240, 1, 8, 0x01, 1, .bool, .allRw, .staged, [0], 0, 1⟩,
  ⟨0x2240, 1, 8, 0x02, 1, .u8, .allRw, .staged, [0, 1, 2, 3, 4, 5, 6, 7], 0, 15⟩,
  ⟨0x2240, 1, 8, 0x03, 1, .u8, .allRw, .staged, [1], 1, 3⟩,
  ⟨0x2240, 1, 8, 0x04, 1, .u8, .allRw, .staged, [1], 1, 255⟩,
  ⟨0x2240, 1, 8, 0x05, 1, .u16, .allRw, .staged, [1], 1, 256⟩]

/-- Objects of the indices 0x2200 and up: PRESC to PHASE_SLIP. -/
def objects22b : List ObjRow := [
  ⟨0x2240, 1, 8, 0x06, 1, .u16, .allRw, .staged, [1], 1, 256⟩,
  ⟨0x2240, 1, 8, 0x07, 1, .u64, .allRo, .none, [0], 0, 18446744073709551615⟩,
  ⟨0x2240, 1, 8, 0x08, 1, .u8, .allRw, .immediate, [0], 0, 255⟩,
  ⟨0x2240, 1, 8, 0x09, 1, .u32, .allRo, .none, [0], 0, 4294967295⟩,
  ⟨0x2240, 1, 8, 0x0A, 1, .bool, .allRw, .immediate, [0], 0, 1⟩,
  ⟨0x2210, 1, 16, 0x01, 1, .bool, .allRo, .none, [0], 0, 1⟩,
  ⟨0x2210, 1, 16, 0x02, 1, .u8, .allRo, .none, [0], 0, 255⟩,
  ⟨0x2210, 1, 16, 0x03, 1, .u64, .allRo, .none, [0], 0, 18446744073709551615⟩,
  ⟨0x2210, 1, 16, 0x04, 1, .u32, .allRo, .none, [200000], 0, 4294967295⟩,
  ⟨0x2210, 1, 16, 0x05, 1, .u32, .allRo, .none, [0], 0, 4294967295⟩,
  ⟨0x2210, 1, 16, 0x06, 1, .u32, .allRo, .none, [100000], 0, 4294967295⟩,
  ⟨0x2210, 1, 16, 0x07, 1, .u8, .allRo, .none, [0], 0, 255⟩,
  ⟨0x2210, 1, 16, 0x08, 1, .u8, .allRo, .none, [0], 0, 255⟩,
  ⟨0x2210, 1, 16, 0x09, 1, .u16, .allRo, .none, [0], 0, 65535⟩,
  ⟨0x2210, 1, 16, 0x0A, 1, .bool, .allRo, .none, [0], 0, 1⟩,
  ⟨0x2210, 1, 16, 0x0B, 1, .u8, .allRo, .none, [255], 0, 255⟩,
  ⟨0x2210, 1, 16, 0x0C, 1, .u8, .allRo, .none, [0], 0, 255⟩,
  ⟨0x2210, 1, 16, 0x0D, 1, .u32, .allRo, .none, [0], 0, 4294967295⟩,
  ⟨0x2210, 1, 16, 0x0E, 1, .u32, .allRo, .none, [0], 0, 4294967295⟩,
  ⟨0x2210, 1, 16, 0x0F, 1, .u64, .allRo, .none, [0], 0, 18446744073709551615⟩]

/-- Objects of the indices 0x2300 and up: ENABLE to WAVES_LAST. -/
def objects23a : List ObjRow := [
  ⟨0x2300, 16, 2, 0x01, 1, .bool, .rwAro, .standbyOnly, [1], 0, 1⟩,
  ⟨0x2300, 16, 2, 0x02, 1, .u16, .rwAro, .standbyOnly, [2560, 1024], 8, 2560⟩,
  ⟨0x2300, 16, 2, 0x03, 1, .u8, .rwAro, .standbyOnly, [8, 4], 0, 255⟩,
  ⟨0x2300, 16, 2, 0x04, 1, .u8, .rwAro, .standbyOnly, [0], 0, 1⟩,
  ⟨0x2300, 16, 2, 0x05, 1, .u8, .rwAro, .standbyOnly, [10], 10, 255⟩,
  ⟨0x2300, 16, 2, 0x06, 1, .u8, .rwAro, .standbyOnly, [8, 4], 0, 255⟩,
  ⟨0x2300, 16, 2, 0x07, 1, .u16, .rwAro, .standbyOnly, [750], 100, 5000⟩,
  ⟨0x2300, 16, 2, 0x08, 1, .u16, .rwAro, .staged, [11000, 5500], 500, 12000⟩,
  ⟨0x2300, 16, 2, 0x09, 1, .u8, .rwAro, .staged, [40], 0, 255⟩,
  ⟨0x2300, 16, 2, 0x0A, 1, .u8, .rwAro, .staged, [20], 20, 255⟩,
  ⟨0x2300, 16, 2, 0x0B, 1, .u8, .rwAro, .staged, [40], 20, 255⟩,
  ⟨0x2300, 16, 2, 0x0C, 1, .u8, .rwAro, .staged, [20], 0, 255⟩,
  ⟨0x2300, 16, 2, 0x0D, 1, .u8, .rwAro, .standbyOnly, [0, 5], 0, 15⟩,
  ⟨0x2300, 16, 2, 0x0E, 1, .u8, .rwAro, .staged, [0], 0, 1⟩,
  ⟨0x2300, 16, 2, 0x0F, 1, .u32, .rwAro, .standbyOnly, [0], 0, 24000⟩,
  ⟨0x2300, 16, 2, 0x10, 1, .u32, .rwAro, .standbyOnly, [24000], 0, 24000⟩,
  ⟨0x2300, 16, 2, 0x11, 1, .u8, .rwAro, .standbyOnly, [0], 0, 1⟩,
  ⟨0x2301, 16, 2, 0x01, 1, .u8, .allRo, .none, [0], 0, 255⟩,
  ⟨0x2301, 16, 2, 0x02, 1, .u32, .allRo, .none, [0], 0, 4294967295⟩,
  ⟨0x2301, 16, 2, 0x03, 1, .u32, .allRo, .none, [0], 0, 4294967295⟩,
  ⟨0x2301, 16, 2, 0x04, 1, .u32, .allRo, .none, [0], 0, 4294967295⟩,
  ⟨0x2301, 16, 2, 0x05, 1, .u32, .allRo, .none, [0], 0, 4294967295⟩,
  ⟨0x2301, 16, 2, 0x06, 1, .u32, .allRo, .none, [0], 0, 4294967295⟩,
  ⟨0x2301, 16, 2, 0x07, 1, .u8, .allRo, .none, [0], 0, 255⟩]

/-- Objects of the indices 0x2300 and up: SPLIT_COUNT to FLUSH. -/
def objects23b : List ObjRow := [
  ⟨0x2301, 16, 2, 0x08, 1, .u32, .allRo, .none, [0], 0, 4294967295⟩,
  ⟨0x2301, 16, 2, 0x09, 1, .u32, .allRo, .none, [0], 0, 4294967295⟩,
  ⟨0x2301, 16, 2, 0x0A, 1, .u32, .allRo, .none, [0], 0, 4294967295⟩,
  ⟨0x2301, 16, 2, 0x0B, 1, .u32, .allRo, .none, [0], 0, 4294967295⟩,
  ⟨0x2301, 16, 2, 0x0C, 1, .u32, .allRo, .none, [0], 0, 4294967295⟩,
  ⟨0x2301, 16, 2, 0x0D, 1, .u16, .allRo, .none, [0], 0, 65535⟩,
  ⟨0x2320, 1, 1, 0x01, 1, .u8, .rwAro, .standbyOnly, [16], 1, 23⟩,
  ⟨0x2320, 1, 1, 0x02, 1, .u32, .allRo, .none, [16777216], 0, 4294967295⟩,
  ⟨0x2320, 1, 1, 0x03, 1, .u32, .allRo, .none, [8388608], 0, 4294967295⟩,
  ⟨0x2320, 1, 1, 0x04, 1, .u32, .allRo, .none, [0], 0, 4294967295⟩,
  ⟨0x2320, 1, 1, 0x05, 1, .u32, .allRo, .none, [0], 0, 4294967295⟩,
  ⟨0x2320, 1, 1, 0x06, 1, .u32, .allRo, .none, [0], 0, 4294967295⟩,
  ⟨0x2320, 1, 1, 0x07, 1, .u32, .allRo, .none, [0], 0, 4294967295⟩,
  ⟨0x2320, 1, 1, 0x08, 1, .u8, .allWo, .immediate, [0], 1, 3⟩]

/-- Objects of the indices 0x2400 and up: SLICES to MAX_RECOMPUTE. -/
def objects24a : List ObjRow := [
  ⟨0x2400, 16, 2, 0x01, 1, .u8, .rwAro, .staged, [16], 1, 16⟩,
  ⟨0x2400, 16, 2, 0x02, 1, .i16, .rwAro, .standbyOnly, [-320], -1600, 1600⟩,
  ⟨0x2400, 16, 2, 0x03, 1, .u16, .rwAro, .standbyOnly, [160], 16, 1600⟩,
  ⟨0x2400, 16, 2, 0x04, 1, .u16, .rwAro, .standbyOnly, [16000], 10000, 28000⟩,
  ⟨0x2400, 16, 2, 0x05, 1, .u16, .rwAro, .standbyOnly, [1600], 100, 4000⟩,
  ⟨0x2400, 16, 2, 0x06, 1, .bool, .rwAro, .staged, [0], 0, 1⟩,
  ⟨0x2400, 16, 2, 0x07, 1, .u32, .rwAro, .staged, [20000000], 0, 4294967295⟩,
  ⟨0x2400, 16, 2, 0x08, 1, .u32, .rwAro, .standbyOnly, [93825, 187650], 0, 4294967295⟩,
  ⟨0x2400, 16, 2, 0x09, 1, .u32, .rwAro, .standbyOnly, [10995, 21990], 0, 4294967295⟩,
  ⟨0x2400, 16, 2, 0x0A, 1, .u16, .rwAro, .staged, [480], 0, 65535⟩,
  ⟨0x2400, 16, 2, 0x0B, 1, .i16, .rwAro, .staged, [1120], -32768, 32767⟩,
  ⟨0x2400, 16, 2, 0x0C, 1, .bool, .rwAro, .staged, [1], 0, 1⟩,
  ⟨0x2401, 16, 2, 0x01, 1, .i16, .allRo, .none, [0], -32768, 32767⟩,
  ⟨0x2401, 16, 2, 0x02, 1, .i16, .allRo, .none, [0], -32768, 32767⟩,
  ⟨0x2401, 16, 2, 0x03, 1, .u32, .allRo, .none, [0], 0, 4294967295⟩,
  ⟨0x2401, 16, 2, 0x04, 1, .u16, .allRo, .none, [0], 0, 65535⟩,
  ⟨0x2401, 16, 2, 0x05, 1, .u32, .allRo, .none, [0], 0, 4294967295⟩,
  ⟨0x2401, 16, 2, 0x06, 1, .u32, .allRo, .none, [0], 0, 4294967295⟩,
  ⟨0x2401, 16, 2, 0x07, 1, .u32, .allRo, .none, [0], 0, 4294967295⟩,
  ⟨0x2401, 16, 2, 0x08, 1, .u32, .allRo, .none, [0], 0, 4294967295⟩,
  ⟨0x2401, 16, 2, 0x09, 1, .u32, .allRo, .none, [0], 0, 4294967295⟩,
  ⟨0x2401, 16, 2, 0x0A, 1, .u32, .allRo, .none, [0], 0, 4294967295⟩,
  ⟨0x2401, 16, 2, 0x0B, 1, .u32, .allRo, .none, [0], 0, 4294967295⟩,
  ⟨0x2401, 16, 2, 0x0C, 1, .u16, .allRo, .none, [0], 0, 65535⟩]

/-- Objects of the indices 0x2400 and up: RECOMPUTE_LOST to RB_EN. -/
def objects24b : List ObjRow := [
  ⟨0x2401, 16, 2, 0x0D, 1, .u32, .allRo, .none, [0], 0, 4294967295⟩,
  ⟨0x2401, 16, 2, 0x0E, 1, .u32, .allRo, .none, [0], 0, 4294967295⟩,
  ⟨0x2401, 16, 2, 0x0F, 1, .u16, .allRo, .none, [0], 0, 65535⟩,
  ⟨0x2402, 16, 2, 0x01, 1, .bool, .rwAro, .staged, [1], 0, 1⟩,
  ⟨0x2402, 16, 2, 0x02, 1, .bool, .allRw, .immediate, [0], 0, 1⟩,
  ⟨0x2402, 16, 2, 0x03, 1, .u16, .rwAro, .staged, [20000], 16000, 28000⟩,
  ⟨0x2402, 16, 2, 0x04, 1, .u16, .rwAro, .staged, [26000], 16000, 28000⟩,
  ⟨0x2402, 16, 2, 0x05, 1, .u16, .rwAro, .staged, [24000], 16000, 28000⟩,
  ⟨0x2402, 16, 2, 0x06, 1, .u16, .rwAro, .staged, [800], 0, 65535⟩,
  ⟨0x2402, 16, 2, 0x07, 1, .u16, .rwAro, .staged, [50], 0, 65535⟩,
  ⟨0x2402, 16, 2, 0x08, 1, .u16, .rwAro, .staged, [16], 0, 65535⟩,
  ⟨0x2402, 16, 2, 0x09, 1, .u16, .allRo, .none, [24000], 0, 65535⟩,
  ⟨0x2402, 16, 2, 0x0A, 1, .u16, .allRo, .none, [0], 0, 65535⟩,
  ⟨0x2402, 16, 2, 0x0B, 1, .u8, .allRo, .none, [0], 0, 255⟩,
  ⟨0x2402, 16, 2, 0x0C, 1, .u16, .allRo, .none, [0], 0, 65535⟩,
  ⟨0x2403, 16, 2, 0x01, 1, .u8, .hcsWo, .serviceOnly, [0], 1, 2⟩,
  ⟨0x2403, 16, 2, 0x02, 1, .u16, .rwAro, .serviceOnly, [400], 200, 2000⟩,
  ⟨0x2403, 16, 2, 0x03, 1, .u8, .rwAro, .serviceOnly, [8], 1, 64⟩,
  ⟨0x2403, 16, 2, 0x04, 1, .u8, .allRo, .none, [0], 0, 255⟩,
  ⟨0x2403, 16, 2, 0x05, 1, .u16, .allRo, .none, [0], 0, 65535⟩,
  ⟨0x2403, 16, 2, 0x06, 1, .u32, .allRo, .none, [0], 0, 4294967295⟩,
  ⟨0x2403, 16, 2, 0x07, 1, .u16, .allRo, .none, [0], 0, 65535⟩,
  ⟨0x2403, 16, 2, 0x08, 1, .u16, .allRo, .none, [0], 0, 65535⟩,
  ⟨0x2420, 1, 1, 0x01, 1, .bool, .rwAro, .staged, [0], 0, 1⟩]

/-- Objects of the indices 0x2400 and up: RB_FREEZE to RB_STATE. -/
def objects24c : List ObjRow := [
  ⟨0x2420, 1, 1, 0x02, 1, .bool, .allRw, .immediate, [0], 0, 1⟩,
  ⟨0x2420, 1, 1, 0x03, 1, .u16, .rwAro, .staged, [4915], 0, 65535⟩,
  ⟨0x2420, 1, 1, 0x04, 1, .u16, .rwAro, .staged, [250], 0, 65535⟩,
  ⟨0x2420, 1, 1, 0x05, 1, .u16, .rwAro, .staged, [16], 0, 65535⟩,
  ⟨0x2420, 1, 1, 0x06, 1, .bool, .hcsWo, .staged, [0], 0, 1⟩,
  ⟨0x2420, 1, 1, 0x07, 1, .u32, .allRo, .none, [0], 0, 4294967295⟩,
  ⟨0x2420, 1, 1, 0x08, 1, .u32, .allRo, .none, [0], 0, 4294967295⟩,
  ⟨0x2420, 1, 1, 0x09, 1, .u16, .allRo, .none, [0], 0, 65535⟩,
  ⟨0x2420, 1, 1, 0x0A, 1, .u8, .allRo, .none, [0], 0, 255⟩]

/-- Objects of the indices 0x2500 and up: MEDIA_MODE to FRAME_CORR. -/
def objects25a : List ObjRow := [
  ⟨0x2500, 1, 1, 0x01, 1, .u8, .rwAro, .standbyOnly, [1], 0, 2⟩,
  ⟨0x2500, 1, 1, 0x02, 1, .u8, .rwAro, .standbyOnly, [0], 0, 3⟩,
  ⟨0x2500, 1, 1, 0x03, 1, .u8, .rwAro, .standbyOnly, [0], 0, 7⟩,
  ⟨0x2500, 1, 1, 0x04, 1, .u8, .rwAro, .standbyOnly, [1], 0, 7⟩,
  ⟨0x2500, 1, 1, 0x05, 1, .u32, .rwAro, .staged, [16384], 4096, 1048576⟩,
  ⟨0x2500, 1, 1, 0x06, 1, .u32, .rwAro, .staged, [10240000], 1280000, 512000000⟩,
  ⟨0x2500, 1, 1, 0x07, 1, .u32, .rwAro, .staged, [256000], 0, 4294967295⟩,
  ⟨0x2500, 1, 1, 0x08, 1, .u32, .rwAro, .staged, [256000], 25600, 2560000⟩,
  ⟨0x2500, 1, 1, 0x09, 1, .u16, .rwAro, .staged, [512], 64, 960⟩,
  ⟨0x2500, 1, 1, 0x0A, 1, .u16, .rwAro, .staged, [64], 0, 65535⟩,
  ⟨0x2500, 1, 1, 0x0B, 1, .u8, .rwAro, .staged, [5], 1, 10⟩,
  ⟨0x2500, 1, 1, 0x0C, 1, .u16, .rwAro, .staged, [400], 0, 65535⟩,
  ⟨0x2500, 1, 1, 0x0D, 1, .u16, .rwAro, .staged, [3900], 0, 65535⟩,
  ⟨0x2500, 1, 1, 0x0E, 1, .u16, .rwAro, .staged, [600], 0, 65535⟩,
  ⟨0x2500, 1, 1, 0x0F, 1, .u8, .rwAro, .staged, [0], 0, 1⟩,
  ⟨0x2500, 1, 1, 0x10, 1, .u8, .rwAro, .staged, [1], 0, 15⟩,
  ⟨0x2500, 1, 1, 0x11, 1, .u8, .rwAro, .staged, [0], 0, 255⟩,
  ⟨0x2500, 1, 1, 0x12, 1, .u32, .rwAro, .staged, [0], 0, 4294967295⟩,
  ⟨0x2501, 1, 1, 0x01, 1, .u8, .allRo, .none, [0], 0, 255⟩,
  ⟨0x2501, 1, 1, 0x02, 1, .u8, .allRo, .none, [0], 0, 255⟩,
  ⟨0x2501, 1, 1, 0x03, 1, .i48, .allRo, .none, [0], -140737488355328, 140737488355327⟩,
  ⟨0x2501, 1, 1, 0x04, 1, .i48, .allRo, .none, [0], -140737488355328, 140737488355327⟩,
  ⟨0x2501, 1, 1, 0x05, 1, .i32, .allRo, .none, [0], -2147483648, 2147483647⟩,
  ⟨0x2501, 1, 1, 0x06, 1, .i32, .allRo, .none, [0], -2147483648, 2147483647⟩]

/-- Objects of the indices 0x2500 and up: SLIP_COUNT to DEBOUNCE. -/
def objects25b : List ObjRow := [
  ⟨0x2501, 1, 1, 0x07, 1, .u32, .allRo, .none, [0], 0, 4294967295⟩,
  ⟨0x2501, 1, 1, 0x08, 1, .u16, .allRo, .none, [0], 0, 65535⟩,
  ⟨0x2501, 1, 1, 0x09, 1, .u16, .allRo, .none, [0], 0, 65535⟩,
  ⟨0x2501, 1, 1, 0x0A, 1, .u8, .allRo, .none, [0], 0, 255⟩,
  ⟨0x2501, 1, 1, 0x0B, 1, .u16, .allRo, .none, [0], 0, 65535⟩,
  ⟨0x2501, 1, 1, 0x0C, 1, .u16, .allRo, .none, [0], 0, 65535⟩,
  ⟨0x2501, 1, 1, 0x0D, 1, .u16, .allRo, .none, [0], 0, 65535⟩,
  ⟨0x2501, 1, 1, 0x0E, 1, .u16, .allRo, .none, [0], 0, 65535⟩,
  ⟨0x2508, 1, 8, 0x01, 1, .bool, .rwAro, .staged, [1, 1, 1, 1, 1, 0, 0, 0], 0, 1⟩,
  ⟨0x2508, 1, 8, 0x02, 1, .u16, .rwAro, .staged, [1000], 0, 4000⟩,
  ⟨0x2508, 1, 8, 0x03, 1, .bool, .rwAro, .staged, [1], 0, 1⟩,
  ⟨0x2508, 1, 8, 0x04, 1, .bool, .allRw, .immediate, [0], 0, 1⟩,
  ⟨0x2508, 1, 8, 0x05, 1, .u16, .rwAro, .staged, [2457], 0, 65535⟩,
  ⟨0x2508, 1, 8, 0x06, 1, .u16, .rwAro, .staged, [100], 0, 4000⟩,
  ⟨0x2508, 1, 8, 0x07, 1, .u16, .rwAro, .staged, [4000], 0, 4000⟩,
  ⟨0x2508, 1, 8, 0x08, 1, .u16, .rwAro, .staged, [256], 0, 65535⟩,
  ⟨0x2508, 1, 8, 0x09, 1, .u8, .allRo, .none, [0], 0, 255⟩,
  ⟨0x2508, 1, 8, 0x0A, 1, .u16, .allRo, .none, [0], 0, 65535⟩,
  ⟨0x2510, 1, 1, 0x01, 1, .u8, .rwAro, .standbyOnly, [2], 0, 255⟩,
  ⟨0x2510, 1, 1, 0x02, 1, .u8, .rwAro, .standbyOnly, [3], 0, 255⟩,
  ⟨0x2510, 1, 1, 0x03, 1, .u16, .rwAro, .staged, [2048], 0, 65535⟩,
  ⟨0x2510, 1, 1, 0x04, 1, .u16, .rwAro, .staged, [2048], 0, 65535⟩,
  ⟨0x2510, 1, 1, 0x05, 1, .u8, .rwAro, .staged, [0], 0, 3⟩,
  ⟨0x2510, 1, 1, 0x06, 1, .u8, .rwAro, .staged, [8], 0, 255⟩]

/-- Objects of the indices 0x2500 and up: OUT_RESERVE to CUT_CMD. -/
def objects25c : List ObjRow := [
  ⟨0x2510, 1, 1, 0x07, 1, .u32, .rwAro, .staged, [2560000], 0, 4294967295⟩,
  ⟨0x2510, 1, 1, 0x08, 1, .u8, .allRo, .none, [0], 0, 255⟩,
  ⟨0x2520, 8, 2, 0x01, 1, .bool, .rwAro, .staged, [1, 0], 0, 1⟩,
  ⟨0x2520, 8, 2, 0x02, 1, .u32, .allRw, .staged, [400000, 300000], 1000, 600000⟩,
  ⟨0x2520, 8, 2, 0x03, 1, .u8, .rwAro, .staged, [2], 1, 255⟩,
  ⟨0x2520, 8, 2, 0x04, 1, .u16, .rwAro, .staged, [64], 0, 65535⟩,
  ⟨0x2520, 8, 2, 0x05, 1, .bool, .allWo, .immediate, [0], 0, 1⟩,
  ⟨0x2520, 8, 2, 0x06, 1, .u32, .allRo, .none, [4294967295], 0, 4294967295⟩,
  ⟨0x2520, 8, 2, 0x07, 1, .u32, .allRo, .none, [0], 0, 4294967295⟩,
  ⟨0x2520, 8, 2, 0x08, 1, .u8, .allRo, .none, [0], 0, 255⟩,
  ⟨0x2520, 8, 2, 0x09, 1, .u8, .allRo, .none, [0], 0, 255⟩,
  ⟨0x2520, 8, 2, 0x0A, 1, .u32, .allRo, .none, [0], 0, 4294967295⟩,
  ⟨0x2520, 8, 2, 0x0B, 1, .u32, .allRo, .none, [0], 0, 4294967295⟩,
  ⟨0x2540, 1, 1, 0x01, 1, .u8, .rwAro, .staged, [0], 0, 1⟩,
  ⟨0x2540, 1, 1, 0x02, 1, .u8, .rwAro, .staged, [1], 1, 2⟩,
  ⟨0x2540, 1, 1, 0x03, 1, .i32, .rwAro, .staged, [5120000], -2147483648, 2147483647⟩,
  ⟨0x2540, 1, 1, 0x04, 1, .u32, .rwAro, .staged, [1280000], 0, 4294967295⟩,
  ⟨0x2540, 1, 1, 0x05, 1, .u32, .rwAro, .standbyOnly, [30000000], 0, 4294967295⟩,
  ⟨0x2540, 1, 1, 0x06, 1, .u32, .rwAro, .standbyOnly, [24000000], 0, 4294967295⟩,
  ⟨0x2540, 1, 1, 0x07, 1, .u32, .rwAro, .standbyOnly, [12000000], 0, 4294967295⟩,
  ⟨0x2540, 1, 1, 0x08, 1, .u32, .rwAro, .standbyOnly, [1000000], 0, 4294967295⟩,
  ⟨0x2540, 1, 1, 0x09, 1, .u8, .rwAro, .staged, [1], 0, 3⟩,
  ⟨0x2541, 1, 1, 0x01, 1, .u8, .allRo, .none, [7], 0, 255⟩,
  ⟨0x2541, 1, 1, 0x02, 1, .u8, .allWo, .immediate, [0], 1, 3⟩]

/-- Objects of the indices 0x2500 and up: CUT_CLEAR to QUEUED. -/
def objects25d : List ObjRow := [
  ⟨0x2541, 1, 1, 0x03, 1, .bool, .hcsWo, .immediate, [0], 0, 1⟩,
  ⟨0x2541, 1, 1, 0x04, 1, .u32, .allRo, .none, [0], 0, 4294967295⟩,
  ⟨0x2541, 1, 1, 0x05, 1, .u16, .allRo, .none, [0], 0, 65535⟩,
  ⟨0x2541, 1, 1, 0x06, 1, .u32, .allRo, .none, [0], 0, 4294967295⟩,
  ⟨0x2541, 1, 1, 0x07, 1, .u8, .allRo, .none, [0], 0, 255⟩]

/-- Objects of the indices 0x2600 and up: DRV_EN to V_STOP. -/
def objects26a : List ObjRow := [
  ⟨0x2600, 1, 4, 0x01, 1, .bool, .rwAro, .standbyOnly, [1], 0, 1⟩,
  ⟨0x2600, 1, 4, 0x02, 1, .u16, .rwAro, .staged, [1800, 1500, 1200, 1200], 0, 2800⟩,
  ⟨0x2600, 1, 4, 0x03, 1, .u16, .rwAro, .staged, [600], 0, 2800⟩,
  ⟨0x2600, 1, 4, 0x04, 1, .u8, .rwAro, .staged, [0], 0, 2⟩,
  ⟨0x2600, 1, 4, 0x05, 1, .u32, .rwAro, .staged, [60000], 0, 4294967295⟩,
  ⟨0x2600, 1, 4, 0x06, 1, .u32, .rwAro, .staged, [10000], 0, 4294967295⟩,
  ⟨0x2600, 1, 4, 0x07, 1, .u16, .rwAro, .standbyOnly, [2500], 100, 20000⟩,
  ⟨0x2600, 1, 4, 0x08, 1, .u16, .rwAro, .standbyOnly, [20], 0, 65535⟩,
  ⟨0x2600, 1, 4, 0x09, 1, .u16, .rwAro, .staged, [800], 200, 4000⟩,
  ⟨0x2600, 1, 4, 0x0A, 1, .u16, .rwAro, .staged, [200], 40, 1000⟩,
  ⟨0x2600, 1, 4, 0x0B, 1, .u8, .rwAro, .staged, [0], 0, 2⟩,
  ⟨0x2600, 1, 4, 0x0C, 1, .u32, .rwAro, .staged, [20000000], 0, 4294967295⟩,
  ⟨0x2600, 1, 4, 0x0D, 1, .u8, .rwAro, .staged, [0], 0, 2⟩,
  ⟨0x2600, 1, 4, 0x0E, 1, .bool, .rwAro, .standbyOnly, [0], 0, 1⟩,
  ⟨0x2604, 1, 4, 0x01, 1, .u8, .allRw, .staged, [0, 1, 0, 0], 0, 1⟩,
  ⟨0x2604, 1, 4, 0x02, 1, .u8, .rwAro, .standbyOnly, [0, 1, 0, 0], 0, 1⟩,
  ⟨0x2604, 1, 4, 0x03, 1, .u32, .allRw, .staged, [20000], 0, 1000000⟩,
  ⟨0x2604, 1, 4, 0x04, 1, .u32, .allRw, .staged, [100000], 0, 1000000⟩,
  ⟨0x2604, 1, 4, 0x05, 1, .u32, .allRw, .staged, [400000, 300000, 200000, 200000], 0, 1000000⟩,
  ⟨0x2604, 1, 4, 0x06, 1, .u32, .allRw, .staged, [8000000], 1000, 100000000⟩,
  ⟨0x2604, 1, 4, 0x07, 1, .u32, .allRw, .staged, [4000000], 1000, 100000000⟩,
  ⟨0x2604, 1, 4, 0x08, 1, .u32, .allRw, .staged, [4000000], 1000, 100000000⟩,
  ⟨0x2604, 1, 4, 0x09, 1, .u32, .allRw, .staged, [8000000], 1000, 100000000⟩,
  ⟨0x2604, 1, 4, 0x0A, 1, .u32, .allRw, .staged, [20000], 0, 1000000⟩]

/-- Objects of the indices 0x2600 and up: ACC to DEVIATION. -/
def objects26b : List ObjRow := [
  ⟨0x2604, 1, 4, 0x0B, 1, .u32, .allRw, .staged, [3000000], 1000, 100000000⟩,
  ⟨0x2604, 1, 4, 0x0C, 1, .u32, .allRw, .staged, [3000000], 1000, 100000000⟩,
  ⟨0x2604, 1, 4, 0x0D, 1, .u32, .allRw, .staged, [300000000], 1000000, 4000000000⟩,
  ⟨0x2604, 1, 4, 0x0E, 1, .u32, .allRw, .staged, [20000000], 1000, 100000000⟩,
  ⟨0x2604, 1, 4, 0x0F, 1, .u8, .allRw, .staged, [16], 0, 64⟩,
  ⟨0x2608, 1, 4, 0x01, 1, .i48, .allRw, .staged, [0], -140737488355328, 140737488355327⟩,
  ⟨0x2608, 1, 4, 0x02, 1, .i48, .allRw, .staged, [0], -140737488355328, 140737488355327⟩,
  ⟨0x2608, 1, 4, 0x03, 1, .u8, .allRw, .staged, [0], 0, 1⟩,
  ⟨0x2608, 1, 4, 0x04, 1, .u8, .allWo, .staged, [0], 1, 4⟩,
  ⟨0x2608, 1, 4, 0x05, 1, .bool, .hcsWo, .immediate, [0], 0, 1⟩,
  ⟨0x2608, 1, 4, 0x06, 1, .u8, .allRo, .none, [1], 0, 255⟩,
  ⟨0x2608, 1, 4, 0x07, 1, .i48, .allRo, .none, [0], -140737488355328, 140737488355327⟩,
  ⟨0x2608, 1, 4, 0x08, 1, .i48, .allRo, .none, [0], -140737488355328, 140737488355327⟩,
  ⟨0x2608, 1, 4, 0x09, 1, .i32, .allRo, .none, [0], -2147483648, 2147483647⟩,
  ⟨0x2608, 1, 4, 0x0A, 1, .u32, .allRo, .none, [4294967295], 0, 4294967295⟩,
  ⟨0x2608, 1, 4, 0x0B, 1, .u8, .allRo, .none, [0], 0, 255⟩,
  ⟨0x2608, 1, 4, 0x0C, 1, .u32, .allRo, .none, [4000000, 1500000, 4000000, 4000000], 0, 4294967295⟩,
  ⟨0x2608, 1, 4, 0x0D, 1, .u16, .allRo, .none, [0], 0, 65535⟩,
  ⟨0x2608, 1, 4, 0x0E, 1, .u32, .allRo, .none, [0], 0, 4294967295⟩,
  ⟨0x260C, 1, 4, 0x01, 1, .u8, .rwAro, .standbyOnly, [255, 1, 255, 255], 0, 255⟩,
  ⟨0x260C, 1, 4, 0x02, 1, .u32, .rwAro, .staged, [51200], 256, 16777216⟩,
  ⟨0x260C, 1, 4, 0x03, 1, .u8, .rwAro, .staged, [4], 1, 255⟩,
  ⟨0x260C, 1, 4, 0x04, 1, .u8, .rwAro, .staged, [2], 0, 2⟩,
  ⟨0x260C, 1, 4, 0x05, 1, .i32, .allRo, .none, [0], -2147483648, 2147483647⟩]

/-- Objects of the indices 0x2600 and up: MAX_DEV to STALL_COUNT. -/
def objects26c : List ObjRow := [
  ⟨0x260C, 1, 4, 0x06, 1, .u32, .allRo, .none, [0], 0, 4294967295⟩,
  ⟨0x260C, 1, 4, 0x07, 1, .u16, .allRo, .none, [0], 0, 65535⟩]

/-- Objects of the indices 0x2700 and up: SEG_COUNT to BAL_GAIN. -/
def objects27a : List ObjRow := [
  ⟨0x2700, 16, 2, 0x01, 1, .u8, .rwAro, .standbyOnly, [12], 1, 12⟩,
  ⟨0x2700, 16, 2, 0x02, 1, .u16, .rwAro, .standbyOnly, [432], 1, 432⟩,
  ⟨0x2700, 16, 2, 0x03, 1, .u48, .rwAro, .standbyOnly, [0], 0, 281474976710655⟩,
  ⟨0x2700, 16, 2, 0x04, 1, .u8, .rwAro, .standbyOnly, [4], 0, 15⟩,
  ⟨0x2700, 16, 2, 0x05, 1, .u8, .allRw, .staged, [0], 0, 1⟩,
  ⟨0x2700, 16, 2, 0x06, 1, .u8, .allRw, .staged, [3], 0, 255⟩,
  ⟨0x2700, 16, 2, 0x07, 1, .u8, .allRw, .staged, [0], 0, 1⟩,
  ⟨0x2700, 16, 2, 0x08, 1, .u8, .allRw, .staged, [0], 0, 1⟩,
  ⟨0x2700, 16, 2, 0x09, 1, .u32, .allRw, .staged, [3072000], 0, 268435455⟩,
  ⟨0x2700, 16, 2, 0x0A, 1, .u16, .allRw, .staged, [64], 0, 65535⟩,
  ⟨0x2700, 16, 2, 0x0B, 1, .u32, .allRw, .staged, [2400], 1, 262143⟩,
  ⟨0x2700, 16, 2, 0x0C, 1, .u8, .rwAro, .staged, [4], 0, 255⟩,
  ⟨0x2700, 16, 2, 0x0D, 1, .u16, .rwAro, .staged, [1200], 0, 65535⟩,
  ⟨0x2700, 16, 2, 0x0E, 1, .u8, .rwAro, .staged, [4], 1, 16⟩,
  ⟨0x2700, 16, 2, 0x0F, 1, .u8, .allRw, .staged, [1], 1, 4⟩,
  ⟨0x2708, 1, 4, 0x01, 1, .u8, .allRw, .staged, [1], 0, 3⟩,
  ⟨0x2708, 1, 4, 0x02, 1, .u16, .allRw, .staged, [0], 0, 65535⟩,
  ⟨0x2708, 1, 4, 0x03, 1, .u16, .allRw, .staged, [4000], 400, 65535⟩,
  ⟨0x2708, 1, 4, 0x04, 1, .u8, .allRw, .staged, [2], 1, 15⟩,
  ⟨0x2708, 1, 4, 0x05, 1, .u16, .rwAro, .staged, [2000], 0, 6000⟩,
  ⟨0x2708, 1, 4, 0x06, 1, .bool, .rwAro, .staged, [1], 0, 1⟩,
  ⟨0x2708, 1, 4, 0x07, 1, .bool, .allRw, .immediate, [0], 0, 1⟩,
  ⟨0x2708, 1, 4, 0x08, 1, .u16, .rwAro, .staged, [50000], 0, 65535⟩,
  ⟨0x2708, 1, 4, 0x09, 1, .u16, .rwAro, .staged, [512], 0, 65535⟩]

/-- Objects of the indices 0x2700 and up: I_MIN to DOC. -/
def objects27b : List ObjRow := [
  ⟨0x2708, 1, 4, 0x0A, 1, .u16, .rwAro, .staged, [200], 0, 65535⟩,
  ⟨0x2708, 1, 4, 0x0B, 1, .u16, .rwAro, .staged, [6000], 0, 65535⟩,
  ⟨0x2708, 1, 4, 0x0C, 1, .u8, .rwAro, .staged, [1], 0, 3⟩,
  ⟨0x2708, 1, 4, 0x0D, 1, .u16, .rwAro, .staged, [5120], 0, 65535⟩,
  ⟨0x2708, 1, 4, 0x0E, 1, .u16, .rwAro, .staged, [5183], 0, 65535⟩,
  ⟨0x2708, 1, 4, 0x0F, 1, .u8, .allRo, .none, [0], 0, 255⟩,
  ⟨0x2708, 1, 4, 0x10, 1, .u16, .allRo, .none, [0], 0, 65535⟩,
  ⟨0x2704, 16, 2, 0x01, 1, .bool, .allRw, .staged, [1], 0, 1⟩,
  ⟨0x2704, 16, 2, 0x02, 1, .u16, .rwAro, .staged, [60000], 0, 65535⟩,
  ⟨0x2704, 16, 2, 0x03, 1, .u16, .rwAro, .staged, [1024], 0, 65535⟩,
  ⟨0x2704, 16, 2, 0x04, 1, .u8, .hcsWo, .immediate, [0], 1, 4⟩,
  ⟨0x2704, 16, 2, 0x05, 1, .u16, .rwAro, .staged, [64], 1, 256⟩,
  ⟨0x2704, 16, 2, 0x06, 1, .u8, .allRo, .none, [0], 0, 255⟩,
  ⟨0x2704, 16, 2, 0x07, 1, .u16, .allRo, .none, [0], 0, 65535⟩,
  ⟨0x2704, 16, 2, 0x08, 1, .u16, .rwAro, .staged, [0], 0, 511⟩,
  ⟨0x2704, 16, 2, 0x09, 1, .u16, .rwAro, .staged, [0], 0, 511⟩,
  ⟨0x2704, 16, 2, 0x0A, 1, .u16, .rwAro, .staged, [0], 0, 511⟩,
  ⟨0x2704, 16, 2, 0x0B, 1, .u16, .rwAro, .staged, [0], 0, 511⟩,
  ⟨0x2704, 16, 2, 0x0C, 1, .u16, .rwAro, .staged, [1000], 0, 65535⟩,
  ⟨0x2704, 16, 2, 0x0D, 1, .u16, .rwAro, .staged, [4000], 0, 65535⟩,
  ⟨0x2704, 16, 2, 0x0E, 1, .u8, .rwAro, .staged, [1], 0, 3⟩,
  ⟨0x2704, 16, 2, 0x0F, 4, .i48, .allRo, .none, [-140737488355328], -140737488355328, 140737488355327⟩,
  ⟨0x2706, 16, 2, 0x01, 1, .u8, .allRo, .none, [0], 0, 255⟩,
  ⟨0x2706, 16, 2, 0x02, 1, .u16, .allRo, .none, [0], 0, 65535⟩]

/-- Objects of the indices 0x2700 and up: NEXT_LSN to BAL_EN. -/
def objects27c : List ObjRow := [
  ⟨0x2706, 16, 2, 0x03, 1, .u32, .allRo, .none, [0], 0, 4294967295⟩,
  ⟨0x2706, 16, 2, 0x04, 1, .i32, .allRo, .none, [-1], -2147483648, 2147483647⟩,
  ⟨0x2706, 16, 2, 0x05, 1, .u32, .allRo, .none, [0], 0, 4294967295⟩,
  ⟨0x2706, 16, 2, 0x06, 1, .u32, .allRo, .none, [0], 0, 4294967295⟩,
  ⟨0x2706, 16, 2, 0x07, 1, .u32, .allRo, .none, [0], 0, 4294967295⟩,
  ⟨0x2706, 16, 2, 0x08, 1, .u32, .allRo, .none, [0], 0, 4294967295⟩,
  ⟨0x2706, 16, 2, 0x09, 1, .u32, .allRo, .none, [0], 0, 4294967295⟩,
  ⟨0x2720, 1, 1, 0x01, 1, .u32, .allRo, .none, [16777216], 0, 4294967295⟩,
  ⟨0x2720, 1, 1, 0x02, 1, .u32, .allRo, .none, [0], 0, 4294967295⟩,
  ⟨0x2720, 1, 1, 0x03, 1, .u8, .allRo, .none, [0], 0, 255⟩,
  ⟨0x2730, 1, 1, 0x01, 1, .i32, .rwAro, .staged, [10240000], -2147483648, 2147483647⟩,
  ⟨0x2730, 1, 1, 0x02, 1, .u16, .rwAro, .staged, [1200], 0, 65535⟩,
  ⟨0x2730, 1, 1, 0x03, 1, .u16, .rwAro, .staged, [375], 0, 65535⟩,
  ⟨0x2730, 1, 1, 0x04, 1, .u16, .rwAro, .staged, [127], 0, 65535⟩,
  ⟨0x2730, 1, 1, 0x05, 1, .u8, .rwAro, .staged, [0], 0, 2⟩,
  ⟨0x2730, 1, 1, 0x06, 1, .u8, .rwAro, .staged, [1], 0, 3⟩,
  ⟨0x2730, 1, 1, 0x07, 1, .u8, .rwAro, .staged, [0], 0, 3⟩,
  ⟨0x2730, 1, 1, 0x08, 1, .u32, .allRo, .none, [0], 0, 4294967295⟩,
  ⟨0x2718, 1, 4, 0x01, 1, .u8, .allRw, .staged, [1], 0, 3⟩,
  ⟨0x2718, 1, 4, 0x02, 1, .u16, .allRw, .staged, [0], 0, 65535⟩,
  ⟨0x2718, 1, 4, 0x03, 1, .u16, .allRw, .staged, [4000], 400, 65535⟩,
  ⟨0x2718, 1, 4, 0x04, 1, .u8, .allRw, .staged, [2], 1, 15⟩,
  ⟨0x2718, 1, 4, 0x05, 1, .u16, .rwAro, .staged, [2000], 0, 6000⟩,
  ⟨0x2718, 1, 4, 0x06, 1, .bool, .rwAro, .staged, [1], 0, 1⟩]

/-- Objects of the indices 0x2700 and up: BAL_FREEZE to BAL_LEVEL. -/
def objects27d : List ObjRow := [
  ⟨0x2718, 1, 4, 0x07, 1, .bool, .allRw, .immediate, [0], 0, 1⟩,
  ⟨0x2718, 1, 4, 0x08, 1, .u16, .rwAro, .staged, [50000], 0, 65535⟩,
  ⟨0x2718, 1, 4, 0x09, 1, .u16, .rwAro, .staged, [512], 0, 65535⟩,
  ⟨0x2718, 1, 4, 0x0A, 1, .u16, .rwAro, .staged, [200], 0, 65535⟩,
  ⟨0x2718, 1, 4, 0x0B, 1, .u16, .rwAro, .staged, [6000], 0, 65535⟩,
  ⟨0x2718, 1, 4, 0x0C, 1, .u8, .rwAro, .staged, [1], 0, 3⟩,
  ⟨0x2718, 1, 4, 0x0D, 1, .u16, .rwAro, .staged, [5120], 0, 65535⟩,
  ⟨0x2718, 1, 4, 0x0E, 1, .u16, .rwAro, .staged, [5183], 0, 65535⟩,
  ⟨0x2718, 1, 4, 0x0F, 1, .u8, .allRo, .none, [0], 0, 255⟩,
  ⟨0x2718, 1, 4, 0x10, 1, .u16, .allRo, .none, [0], 0, 65535⟩]

/-- Objects of the indices 0x2800 and up: MODE to LAST_DECAY. -/
def objects28a : List ObjRow := [
  ⟨0x2800, 1, 8, 0x01, 1, .u8, .rwAro, .standbyOnly, [1], 0, 2⟩,
  ⟨0x2800, 1, 8, 0x02, 1, .u16, .rwAro, .staged, [4000], 500, 8000⟩,
  ⟨0x2800, 1, 8, 0x03, 1, .u32, .rwAro, .staged, [200000], 0, 4000000⟩,
  ⟨0x2800, 1, 8, 0x04, 1, .u16, .rwAro, .staged, [800], 0, 3000⟩,
  ⟨0x2800, 1, 8, 0x05, 1, .u32, .allRw, .staged, [0], 0, 4294967295⟩,
  ⟨0x2800, 1, 8, 0x06, 1, .u32, .allRw, .staged, [10000000], 0, 4294967295⟩,
  ⟨0x2800, 1, 8, 0x07, 1, .u32, .rwAro, .staged, [100000], 0, 20000000⟩,
  ⟨0x2800, 1, 8, 0x08, 1, .u32, .rwAro, .staged, [1000000], 0, 20000000⟩,
  ⟨0x2800, 1, 8, 0x09, 1, .u8, .rwAro, .staged, [0], 0, 1⟩,
  ⟨0x2800, 1, 8, 0x0A, 1, .u16, .allRw, .immediate, [0], 0, 4095⟩,
  ⟨0x2800, 1, 8, 0x0B, 1, .u8, .allRw, .staged, [0], 0, 3⟩,
  ⟨0x2800, 1, 8, 0x0C, 1, .u16, .allRw, .staged, [1000], 400, 4000⟩,
  ⟨0x2800, 1, 8, 0x0D, 1, .u8, .allRw, .staged, [100], 0, 250⟩,
  ⟨0x2808, 1, 8, 0x01, 1, .u8, .allRo, .none, [0], 0, 255⟩,
  ⟨0x2808, 1, 8, 0x02, 1, .u16, .allRo, .none, [0], 0, 65535⟩,
  ⟨0x2808, 1, 8, 0x03, 1, .u16, .allRo, .none, [0], 0, 65535⟩,
  ⟨0x2808, 1, 8, 0x04, 1, .u32, .allRo, .none, [0], 0, 4294967295⟩,
  ⟨0x2808, 1, 8, 0x05, 1, .u32, .allRo, .none, [0], 0, 4294967295⟩,
  ⟨0x2808, 1, 8, 0x06, 1, .u32, .allRo, .none, [0], 0, 4294967295⟩,
  ⟨0x2808, 1, 8, 0x07, 1, .u32, .allRo, .none, [0], 0, 4294967295⟩,
  ⟨0x2808, 1, 8, 0x08, 1, .u32, .allRo, .none, [0], 0, 4294967295⟩,
  ⟨0x2808, 1, 8, 0x09, 1, .u8, .allRo, .none, [0], 0, 255⟩,
  ⟨0x2808, 1, 8, 0x0A, 1, .u8, .allRo, .none, [255], 0, 255⟩,
  ⟨0x2808, 1, 8, 0x0B, 1, .u32, .allRo, .none, [0], 0, 4294967295⟩]

/-- Objects of the indices 0x2800 and up: R_COLD_NOM to MAX_WAIT. -/
def objects28b : List ObjRow := [
  ⟨0x2810, 1, 8, 0x01, 1, .u32, .rwAro, .standbyOnly, [12000], 0, 4294967295⟩,
  ⟨0x2810, 1, 8, 0x02, 1, .u16, .rwAro, .standbyOnly, [3930], 0, 65535⟩,
  ⟨0x2810, 1, 8, 0x03, 1, .u16, .rwAro, .standbyOnly, [500], 0, 65535⟩,
  ⟨0x2810, 1, 8, 0x04, 1, .u16, .rwAro, .standbyOnly, [1500], 0, 65535⟩,
  ⟨0x2810, 1, 8, 0x05, 1, .u32, .rwAro, .standbyOnly, [20000], 0, 4294967295⟩,
  ⟨0x2810, 1, 8, 0x06, 1, .u32, .rwAro, .standbyOnly, [80000], 0, 4294967295⟩,
  ⟨0x2810, 1, 8, 0x07, 1, .i16, .rwAro, .staged, [1760], -640, 3200⟩,
  ⟨0x2810, 1, 8, 0x08, 1, .i16, .rwAro, .staged, [2400], -640, 3200⟩,
  ⟨0x2810, 1, 8, 0x09, 1, .u16, .rwAro, .staged, [750], 0, 65535⟩,
  ⟨0x2810, 1, 8, 0x0A, 1, .u16, .rwAro, .staged, [60], 0, 65535⟩,
  ⟨0x2810, 1, 8, 0x0B, 1, .bool, .rwAro, .staged, [1], 0, 1⟩,
  ⟨0x2810, 1, 8, 0x0C, 1, .bool, .allRw, .immediate, [0], 0, 1⟩,
  ⟨0x2810, 1, 8, 0x0D, 1, .i16, .allRo, .none, [0], -32768, 32767⟩,
  ⟨0x2810, 1, 8, 0x0E, 1, .i16, .allRo, .none, [0], -32768, 32767⟩,
  ⟨0x2810, 1, 8, 0x0F, 1, .u32, .allRo, .none, [0], 0, 4294967295⟩,
  ⟨0x2810, 1, 8, 0x10, 1, .u32, .allRo, .none, [12000], 0, 4294967295⟩,
  ⟨0x2810, 1, 8, 0x11, 1, .u8, .allRo, .none, [0], 0, 255⟩,
  ⟨0x2810, 1, 8, 0x12, 1, .u16, .allRo, .none, [0], 0, 65535⟩,
  ⟨0x2820, 1, 2, 0x01, 1, .u32, .rwAro, .staged, [2000000], 0, 200000000⟩,
  ⟨0x2820, 1, 2, 0x02, 1, .u8, .allRo, .none, [0], 0, 255⟩,
  ⟨0x2820, 1, 2, 0x03, 1, .u8, .allRo, .none, [0], 0, 255⟩,
  ⟨0x2820, 1, 2, 0x04, 1, .u16, .allRo, .none, [0], 0, 65535⟩,
  ⟨0x2820, 1, 2, 0x05, 1, .u8, .allRo, .none, [0], 0, 255⟩,
  ⟨0x2820, 1, 2, 0x06, 1, .u32, .allRo, .none, [0], 0, 4294967295⟩]

/-- Objects of the indices 0x2800 and up: BOOST_SET to BANK_CLEAR. -/
def objects28c : List ObjRow := [
  ⟨0x2830, 1, 1, 0x01, 1, .u16, .rwAro, .staged, [60000], 40000, 65000⟩,
  ⟨0x2830, 1, 1, 0x02, 1, .u16, .rwAro, .staged, [48000], 20000, 65000⟩,
  ⟨0x2830, 1, 1, 0x03, 1, .u16, .rwAro, .staged, [2000], 0, 65535⟩,
  ⟨0x2830, 1, 1, 0x04, 1, .u16, .allRo, .none, [0], 0, 65535⟩,
  ⟨0x2830, 1, 1, 0x05, 1, .u16, .allRo, .none, [0], 0, 65535⟩,
  ⟨0x2830, 1, 1, 0x06, 1, .u32, .allRo, .none, [0], 0, 4294967295⟩,
  ⟨0x2830, 1, 1, 0x07, 1, .u32, .allRo, .none, [0], 0, 4294967295⟩,
  ⟨0x2838, 1, 1, 0x01, 1, .u16, .allWo, .immediate, [0], 0, 65535⟩,
  ⟨0x2838, 1, 1, 0x02, 1, .u8, .hcsWo, .immediate, [0], 0, 255⟩,
  ⟨0x2838, 1, 1, 0x03, 1, .u8, .hcsWo, .immediate, [0], 0, 3⟩]

/-- Objects of the indices 0x2900 and up: REF_EN to SRC. -/
def objects29a : List ObjRow := [
  ⟨0x2900, 1, 1, 0x01, 1, .bool, .rwAro, .standbyOnly, [1], 0, 1⟩,
  ⟨0x2900, 1, 1, 0x02, 1, .u8, .allRo, .none, [0], 0, 255⟩,
  ⟨0x2900, 1, 1, 0x03, 1, .bool, .rwAro, .staged, [1], 0, 1⟩,
  ⟨0x2900, 1, 1, 0x04, 1, .u16, .allRo, .none, [12816], 0, 65535⟩,
  ⟨0x2900, 1, 1, 0x05, 1, .u32, .allRo, .none, [0], 0, 4294967295⟩,
  ⟨0x2900, 1, 1, 0x06, 1, .u8, .hcsWo, .immediate, [0], 0, 15⟩,
  ⟨0x2900, 1, 1, 0x07, 1, .bool, .allWo, .immediate, [0], 0, 1⟩,
  ⟨0x2900, 1, 1, 0x08, 1, .u32, .allRo, .none, [0], 0, 4294967295⟩,
  ⟨0x2904, 1, 4, 0x01, 1, .u8, .allRo, .none, [0, 0, 0, 1], 0, 255⟩,
  ⟨0x2904, 1, 4, 0x02, 1, .i16, .allRo, .none, [0], -32768, 32767⟩,
  ⟨0x2904, 1, 4, 0x03, 1, .u16, .allRo, .none, [32768], 0, 65535⟩,
  ⟨0x2904, 1, 4, 0x04, 1, .u32, .allRo, .none, [0], 0, 4294967295⟩,
  ⟨0x2908, 1, 4, 0x01, 1, .u8, .allRw, .staged, [0], 0, 3⟩,
  ⟨0x2908, 1, 4, 0x02, 1, .u32, .allRo, .none, [0], 0, 4294967295⟩,
  ⟨0x2910, 1, 2, 0x01, 1, .bool, .allRw, .staged, [0], 0, 1⟩,
  ⟨0x2910, 1, 2, 0x02, 1, .u8, .allRw, .staged, [1], 1, 64⟩,
  ⟨0x2910, 1, 2, 0x03, 1, .u8, .allRw, .staged, [0], 0, 255⟩,
  ⟨0x2910, 1, 2, 0x04, 1, .u8, .allRo, .none, [0], 0, 255⟩,
  ⟨0x2910, 1, 2, 0x05, 1, .u8, .allRo, .none, [0], 0, 255⟩,
  ⟨0x2910, 1, 2, 0x06, 1, .u32, .allRo, .none, [0], 0, 4294967295⟩,
  ⟨0x2910, 1, 2, 0x07, 1, .u32, .allRo, .none, [0], 0, 4294967295⟩,
  ⟨0x2910, 1, 2, 0x08, 1, .u32, .allRo, .none, [0], 0, 4294967295⟩,
  ⟨0x2918, 1, 8, 0x01, 1, .bool, .allRw, .staged, [0], 0, 1⟩,
  ⟨0x2918, 1, 8, 0x02, 1, .u8, .allRw, .staged, [0], 0, 255⟩]

/-- Objects of the indices 0x2900 and up: CH to DMA_SIZE. -/
def objects29b : List ObjRow := [
  ⟨0x2918, 1, 8, 0x03, 1, .u8, .allRw, .staged, [0], 0, 255⟩,
  ⟨0x2918, 1, 8, 0x04, 1, .u8, .allRw, .staged, [0], 0, 255⟩,
  ⟨0x2918, 1, 8, 0x05, 1, .u8, .allRw, .staged, [0], 0, 1⟩,
  ⟨0x2918, 1, 8, 0x06, 1, .u8, .allRw, .staged, [255], 0, 255⟩,
  ⟨0x2918, 1, 8, 0x07, 1, .u32, .allRo, .none, [0], 0, 4294967295⟩,
  ⟨0x2918, 1, 8, 0x08, 1, .u32, .allRo, .none, [0], 0, 4294967295⟩,
  ⟨0x2918, 1, 8, 0x09, 1, .u16, .allRo, .none, [0], 0, 65535⟩,
  ⟨0x2920, 1, 16, 0x01, 1, .u8, .allRw, .staged, [0], 0, 255⟩,
  ⟨0x2920, 1, 16, 0x02, 1, .u8, .allRw, .staged, [1], 1, 4⟩,
  ⟨0x2920, 1, 16, 0x03, 1, .u16, .allRw, .staged, [1], 1, 1024⟩,
  ⟨0x2920, 1, 16, 0x04, 1, .u16, .allRw, .staged, [0], 0, 65535⟩,
  ⟨0x2920, 1, 16, 0x05, 1, .u32, .allRo, .none, [0], 0, 4294967295⟩,
  ⟨0x2920, 1, 16, 0x06, 1, .u16, .allRo, .none, [0], 0, 65535⟩,
  ⟨0x2920, 1, 16, 0x07, 1, .u8, .allRo, .none, [0], 0, 255⟩,
  ⟨0x2920, 1, 16, 0x08, 1, .u32, .allRo, .none, [0], 0, 4294967295⟩,
  ⟨0x2920, 1, 16, 0x09, 1, .u16, .allRo, .none, [0], 0, 65535⟩,
  ⟨0x2930, 1, 1, 0x01, 1, .u8, .rwAro, .staged, [72], 0, 255⟩,
  ⟨0x2930, 1, 1, 0x02, 1, .u64, .noSRo, .none, [0], 0, 18446744073709551615⟩,
  ⟨0x2930, 1, 1, 0x03, 1, .u16, .allRo, .none, [0], 0, 65535⟩,
  ⟨0x2930, 1, 1, 0x04, 1, .u32, .allRo, .none, [0], 0, 4294967295⟩,
  ⟨0x2930, 1, 1, 0x05, 1, .u16, .allRw, .staged, [768], 1, 1024⟩,
  ⟨0x2930, 1, 1, 0x06, 1, .u8, .allRw, .staged, [0], 0, 2⟩,
  ⟨0x2930, 1, 1, 0x07, 1, .u32, .aRw, .staged, [0], 0, 4294967295⟩,
  ⟨0x2930, 1, 1, 0x08, 1, .u32, .aRw, .staged, [65536], 64, 1048576⟩]

/-- Objects of the indices 0x2900 and up: DMA_WR to AXT0–AXT3. -/
def objects29c : List ObjRow := [
  ⟨0x2930, 1, 1, 0x09, 1, .u32, .allRo, .none, [0], 0, 4294967295⟩,
  ⟨0x2930, 1, 1, 0x0A, 1, .u32, .aRw, .immediate, [0], 0, 4294967295⟩,
  ⟨0x2930, 1, 1, 0x0B, 1, .bool, .allWo, .immediate, [0], 0, 1⟩,
  ⟨0x2940, 1, 1, 0x01, 1, .u8, .allRw, .staged, [64], 0, 255⟩,
  ⟨0x2940, 1, 1, 0x02, 1, .u16, .allRw, .staged, [4096], 1, 16384⟩,
  ⟨0x2940, 1, 1, 0x03, 1, .u8, .allRw, .staged, [1], 0, 255⟩,
  ⟨0x2940, 1, 1, 0x04, 1, .u8, .allWo, .immediate, [0], 1, 2⟩,
  ⟨0x2940, 1, 1, 0x05, 1, .u8, .allRo, .none, [0], 0, 255⟩,
  ⟨0x2940, 1, 1, 0x06, 1, .u64, .allRo, .none, [0], 0, 18446744073709551615⟩,
  ⟨0x2940, 1, 1, 0x07, 1, .u16, .allRo, .none, [0], 0, 65535⟩,
  ⟨0x2950, 1, 1, 0x01, 1, .i16, .allRo, .none, [0], -32768, 32767⟩,
  ⟨0x2950, 1, 1, 0x02, 3, .i16, .allRo, .none, [0], -32768, 32767⟩,
  ⟨0x2950, 1, 1, 0x05, 4, .i16, .allRo, .none, [0], -32768, 32767⟩]

/-- Objects of the indices 0x2A00 and up: WAKE_PRIO to OUT_UNDERRUNS. -/
def objects2Aa : List ObjRow := [
  ⟨0x2A00, 1, 1, 0x01, 1, .u8, .rwAro, .standbyOnly, [6], 0, 7⟩,
  ⟨0x2A00, 1, 1, 0x02, 1, .u8, .rwAro, .standbyOnly, [4], 1, 4⟩,
  ⟨0x2A00, 1, 1, 0x03, 1, .u8, .rwAro, .standbyOnly, [3], 0, 3⟩,
  ⟨0x2A01, 1, 1, 0x01, 1, .u8, .allRo, .none, [0], 0, 255⟩,
  ⟨0x2A01, 1, 1, 0x02, 1, .u8, .allRo, .none, [0], 0, 255⟩,
  ⟨0x2A01, 1, 1, 0x03, 1, .u8, .allRo, .none, [0], 0, 255⟩,
  ⟨0x2A01, 1, 1, 0x04, 1, .bool, .allRo, .none, [0], 0, 1⟩,
  ⟨0x2A01, 1, 1, 0x05, 1, .u32, .allRo, .none, [0], 0, 4294967295⟩,
  ⟨0x2A01, 1, 1, 0x06, 1, .u16, .allRo, .none, [0], 0, 65535⟩,
  ⟨0x2A01, 1, 1, 0x07, 1, .u32, .allRo, .none, [0], 0, 4294967295⟩,
  ⟨0x2A01, 1, 1, 0x08, 1, .u32, .allRo, .none, [0], 0, 4294967295⟩,
  ⟨0x2A02, 1, 1, 0x01, 1, .u8, .allRw, .staged, [72], 0, 255⟩,
  ⟨0x2A02, 1, 1, 0x02, 1, .u8, .allRw, .staged, [72], 0, 255⟩,
  ⟨0x2A02, 1, 1, 0x03, 1, .u8, .allRw, .staged, [72], 0, 255⟩,
  ⟨0x2A02, 1, 1, 0x04, 1, .u8, .allRw, .staged, [72], 0, 255⟩,
  ⟨0x2A10, 1, 1, 0x01, 1, .u8, .rwAro, .standbyOnly, [3], 0, 15⟩,
  ⟨0x2A10, 1, 1, 0x02, 1, .u32, .rwAro, .standbyOnly, [4096], 0, 4294967295⟩,
  ⟨0x2A10, 1, 1, 0x03, 1, .u16, .rwAro, .standbyOnly, [2000], 40, 65535⟩,
  ⟨0x2A10, 1, 1, 0x04, 1, .u32, .rwAro, .standbyOnly, [536936704], 0, 4294967295⟩,
  ⟨0x2A10, 1, 1, 0x05, 1, .u32, .rwAro, .standbyOnly, [536871168], 0, 4294967295⟩,
  ⟨0x2A10, 1, 1, 0x06, 14, .u32, .rwAro, .standbyOnly, [0], 0, 4294967295⟩,
  ⟨0x2A11, 1, 1, 0x01, 1, .u8, .allRo, .none, [0], 0, 255⟩,
  ⟨0x2A11, 1, 1, 0x02, 1, .u32, .allRo, .none, [0], 0, 4294967295⟩,
  ⟨0x2A11, 1, 1, 0x03, 1, .u32, .allRo, .none, [0], 0, 4294967295⟩]

/-- Objects of the indices 0x2A00 and up: EVT_PENDING to EMCY_SENT. -/
def objects2Ab : List ObjRow := [
  ⟨0x2A11, 1, 1, 0x04, 1, .u16, .allRo, .none, [0], 0, 65535⟩,
  ⟨0x2A11, 1, 1, 0x05, 1, .u32, .allRo, .none, [0], 0, 4294967295⟩,
  ⟨0x2A12, 1, 1, 0x01, 1, .u8, .allRo, .none, [0], 0, 255⟩,
  ⟨0x2A12, 1, 1, 0x02, 1, .u32, .allRo, .none, [0], 0, 4294967295⟩,
  ⟨0x2A12, 1, 1, 0x03, 1, .u32, .allRo, .none, [0], 0, 4294967295⟩,
  ⟨0x2A12, 1, 1, 0x04, 1, .u32, .allRo, .none, [0], 0, 4294967295⟩,
  ⟨0x2A12, 1, 1, 0x05, 1, .u32, .allRo, .none, [0], 0, 4294967295⟩,
  ⟨0x2A40, 1, 1, 0x01, 1, .u8, .rwAro, .standbyOnly, [16], 1, 127⟩,
  ⟨0x2A40, 1, 1, 0x02, 1, .u16, .rwAro, .standbyOnly, [500], 0, 65535⟩,
  ⟨0x2A40, 1, 1, 0x03, 1, .u16, .rwAro, .standbyOnly, [2000], 0, 65535⟩,
  ⟨0x2A40, 1, 1, 0x04, 1, .bool, .rwAro, .standbyOnly, [0], 0, 1⟩,
  ⟨0x2A41, 1, 1, 0x01, 1, .u8, .allRo, .none, [0], 0, 255⟩,
  ⟨0x2A41, 1, 1, 0x02, 1, .u8, .allRo, .none, [16], 0, 255⟩,
  ⟨0x2A41, 1, 1, 0x03, 1, .u16, .allRo, .none, [500], 0, 65535⟩,
  ⟨0x2A41, 1, 1, 0x04, 1, .u16, .allRo, .none, [2000], 0, 65535⟩,
  ⟨0x2A41, 1, 1, 0x05, 1, .u8, .allRo, .none, [0], 0, 255⟩,
  ⟨0x2A41, 1, 1, 0x06, 1, .u8, .allRo, .none, [0], 0, 255⟩,
  ⟨0x2A41, 1, 1, 0x07, 1, .u8, .allRo, .none, [0], 0, 255⟩,
  ⟨0x2A41, 1, 1, 0x08, 1, .u16, .allRo, .none, [0], 0, 65535⟩,
  ⟨0x2A41, 1, 1, 0x09, 1, .u8, .allRo, .none, [0], 0, 255⟩,
  ⟨0x2A41, 1, 1, 0x0A, 1, .u32, .allRo, .none, [0], 0, 4294967295⟩,
  ⟨0x2A41, 1, 1, 0x0B, 1, .u32, .allRo, .none, [0], 0, 4294967295⟩,
  ⟨0x2A41, 1, 1, 0x0C, 1, .u32, .allRo, .none, [0], 0, 4294967295⟩,
  ⟨0x2A41, 1, 1, 0x0D, 1, .u32, .allRo, .none, [0], 0, 4294967295⟩]

/-- Objects of the indices 0x2A00 and up: EMCY_LOST to WF_DLC. -/
def objects2Ac : List ObjRow := [
  ⟨0x2A41, 1, 1, 0x0E, 1, .u32, .allRo, .none, [0], 0, 4294967295⟩,
  ⟨0x2A41, 1, 1, 0x0F, 1, .u16, .allRo, .none, [0], 0, 65535⟩,
  ⟨0x2A41, 1, 1, 0x10, 1, .u8, .allRo, .none, [0], 0, 255⟩,
  ⟨0x2A48, 1, 1, 0x01, 1, .u8, .rwAro, .staged, [1], 0, 2⟩,
  ⟨0x2A48, 1, 1, 0x02, 1, .u8, .rwAro, .staged, [1], 0, 1⟩,
  ⟨0x2A48, 1, 1, 0x03, 1, .u8, .rwAro, .staged, [1], 1, 127⟩,
  ⟨0x2A48, 1, 1, 0x04, 1, .u16, .rwAro, .staged, [1664], 0, 1920⟩,
  ⟨0x2A48, 1, 1, 0x05, 1, .u64, .rwAro, .staged, [0], 0, 18446744073709551615⟩,
  ⟨0x2A48, 1, 1, 0x06, 1, .u64, .rwAro, .staged, [0], 0, 18446744073709551615⟩,
  ⟨0x2A48, 1, 1, 0x07, 1, .u8, .rwAro, .staged, [6], 0, 7⟩,
  ⟨0x2A48, 1, 1, 0x08, 1, .u8, .hcsWo, .immediate, [0], 1, 1⟩,
  ⟨0x2A49, 1, 1, 0x01, 1, .u8, .allRo, .none, [0], 0, 255⟩,
  ⟨0x2A49, 1, 1, 0x02, 1, .u8, .allRo, .none, [0], 0, 255⟩,
  ⟨0x2A49, 1, 1, 0x03, 1, .u8, .allRo, .none, [0], 0, 255⟩,
  ⟨0x2A49, 1, 1, 0x04, 1, .u8, .allRo, .none, [0], 0, 255⟩,
  ⟨0x2A49, 1, 1, 0x05, 1, .u8, .allRo, .none, [0], 0, 255⟩,
  ⟨0x2A49, 1, 1, 0x06, 1, .u8, .allRo, .none, [0], 0, 255⟩,
  ⟨0x2A49, 1, 1, 0x07, 1, .u32, .allRo, .none, [0], 0, 4294967295⟩,
  ⟨0x2A49, 1, 1, 0x08, 1, .u32, .allRo, .none, [0], 0, 4294967295⟩,
  ⟨0x2A49, 1, 1, 0x09, 1, .u32, .allRo, .none, [0], 0, 4294967295⟩,
  ⟨0x2A4A, 1, 1, 0x01, 1, .u8, .rwAro, .standbyOnly, [1], 0, 1⟩,
  ⟨0x2A4A, 1, 1, 0x02, 1, .u16, .rwAro, .standbyOnly, [1664], 0, 2047⟩,
  ⟨0x2A4A, 1, 1, 0x03, 1, .u16, .rwAro, .standbyOnly, [1920], 0, 2047⟩,
  ⟨0x2A4A, 1, 1, 0x04, 1, .u8, .rwAro, .standbyOnly, [8], 0, 255⟩]

/-- Objects of the indices 0x2A00 and up: WF_DATA_EN to BIT16. -/
def objects2Ad : List ObjRow := [
  ⟨0x2A4A, 1, 1, 0x05, 1, .bool, .rwAro, .standbyOnly, [1], 0, 1⟩,
  ⟨0x2A4A, 1, 1, 0x06, 1, .u64, .rwAro, .standbyOnly, [9223372036854775808], 0, 18446744073709551615⟩,
  ⟨0x2A60, 1, 2, 0x01, 1, .bool, .allRw, .staged, [0], 0, 1⟩,
  ⟨0x2A60, 1, 2, 0x02, 1, .u32, .allRw, .staged, [115200], 300, 3000000⟩,
  ⟨0x2A60, 1, 2, 0x03, 1, .u8, .allRw, .staged, [8], 7, 9⟩,
  ⟨0x2A60, 1, 2, 0x04, 1, .u8, .allRw, .staged, [0], 0, 255⟩,
  ⟨0x2A60, 1, 2, 0x05, 1, .u8, .allRw, .staged, [1], 1, 2⟩,
  ⟨0x2A60, 1, 2, 0x06, 1, .u8, .allRw, .staged, [0], 0, 255⟩,
  ⟨0x2A60, 1, 2, 0x07, 1, .bool, .allRw, .staged, [0], 0, 1⟩,
  ⟨0x2A60, 1, 2, 0x08, 1, .u16, .allRo, .none, [0], 0, 65535⟩,
  ⟨0x2A60, 1, 2, 0x09, 1, .u32, .allRo, .none, [0], 0, 4294967295⟩,
  ⟨0x2A60, 1, 2, 0x0A, 1, .u32, .allRo, .none, [0], 0, 4294967295⟩,
  ⟨0x2A60, 1, 2, 0x0B, 1, .u32, .allRo, .none, [0], 0, 4294967295⟩,
  ⟨0x2A60, 1, 2, 0x0C, 1, .u32, .allRo, .none, [0], 0, 4294967295⟩,
  ⟨0x2A60, 1, 2, 0x0D, 1, .u32, .allRo, .none, [0], 0, 4294967295⟩,
  ⟨0x2A60, 1, 2, 0x0E, 1, .u32, .allRo, .none, [0], 0, 4294967295⟩,
  ⟨0x2A60, 1, 2, 0x0F, 1, .u32, .allRo, .none, [0], 0, 4294967295⟩,
  ⟨0x2A60, 1, 2, 0x10, 1, .u32, .allRo, .none, [0], 0, 4294967295⟩,
  ⟨0x2A60, 1, 2, 0x11, 1, .u32, .allRo, .none, [27778], 0, 4294967295⟩]

/-- Objects of the indices 0x2B00 and up: FABRIC_EN to APP_PENDING. -/
def objects2Ba : List ObjRow := [
  ⟨0x2B00, 1, 1, 0x01, 1, .bool, .rwAro, .staged, [1], 0, 1⟩,
  ⟨0x2B00, 1, 1, 0x02, 1, .bool, .rwAro, .staged, [1], 0, 1⟩,
  ⟨0x2B01, 1, 1, 0x01, 1, .u16, .allRw, .immediate, [0], 0, 511⟩,
  ⟨0x2B01, 1, 1, 0x02, 1, .u32, .rwAro, .immediate, [0], 0, 4294967295⟩,
  ⟨0x2B01, 1, 1, 0x03, 1, .bool, .allRo, .none, [0], 0, 1⟩,
  ⟨0x2B01, 1, 1, 0x04, 1, .bool, .allWo, .immediate, [0], 0, 1⟩,
  ⟨0x2B01, 1, 1, 0x05, 1, .u32, .allRo, .none, [0], 0, 4294967295⟩,
  ⟨0x2B01, 1, 1, 0x06, 1, .u64, .allRo, .none, [0], 0, 18446744073709551615⟩,
  ⟨0x2B01, 1, 1, 0x07, 1, .u32, .allRo, .none, [0], 0, 4294967295⟩,
  ⟨0x2B01, 1, 1, 0x08, 1, .u32, .allRo, .none, [0], 0, 4294967295⟩,
  ⟨0x2B01, 1, 1, 0x09, 1, .bool, .allWo, .immediate, [0], 0, 1⟩,
  ⟨0x2B02, 1, 1, 0x01, 1, .u16, .allRo, .none, [0], 0, 65535⟩,
  ⟨0x2B02, 1, 1, 0x02, 1, .u8, .allRo, .none, [255], 0, 255⟩,
  ⟨0x2B02, 1, 1, 0x03, 1, .u16, .allRo, .none, [0], 0, 65535⟩,
  ⟨0x2B02, 1, 1, 0x04, 1, .u8, .allRo, .none, [0], 0, 255⟩]

/-- Objects of the indices 0x2C00 and up: TL_CLEAR to SN_RELEASE. -/
def objects2Ca : List ObjRow := [
  ⟨0x2C00, 1, 1, 0x01, 1, .bool, .hcsWo, .immediate, [0], 0, 1⟩,
  ⟨0x2C00, 1, 1, 0x02, 1, .u8, .rwAro, .immediate, [255], 0, 255⟩,
  ⟨0x2C01, 1, 1, 0x01, 1, .u16, .allRo, .none, [0], 0, 65535⟩,
  ⟨0x2C01, 1, 1, 0x02, 1, .u16, .allRo, .none, [0], 0, 65535⟩,
  ⟨0x2C01, 1, 1, 0x03, 1, .u32, .allRo, .none, [1], 0, 4294967295⟩,
  ⟨0x2C01, 1, 1, 0x04, 1, .u32, .allRo, .none, [0], 0, 4294967295⟩,
  ⟨0x2C01, 1, 1, 0x05, 1, .u32, .allRo, .none, [0], 0, 4294967295⟩,
  ⟨0x2C01, 1, 1, 0x06, 1, .u8, .allRo, .none, [0], 0, 255⟩,
  ⟨0x2C10, 1, 1, 0x01, 1, .u16, .allRo, .none, [0], 0, 65535⟩,
  ⟨0x2C10, 1, 1, 0x02, 1, .u8, .allRo, .none, [0], 0, 255⟩,
  ⟨0x2C10, 1, 1, 0x03, 1, .u32, .allRo, .none, [0], 0, 4294967295⟩,
  ⟨0x2C10, 1, 1, 0x04, 1, .u64, .allRo, .none, [0], 0, 18446744073709551615⟩,
  ⟨0x2C11, 1, 1, 0x01, 1, .bool, .hcsWo, .immediate, [0], 0, 1⟩]

/-- Objects of the indices 0x2D00 and up: INPUT_KIND to TG_MARGIN. -/
def objects2Da : List ObjRow := [
  ⟨0x2D00, 1, 1, 0x01, 1, .u8, .allRo, .none, [0], 0, 255⟩,
  ⟨0x2D00, 1, 1, 0x02, 1, .u16, .allRo, .none, [0], 0, 65535⟩,
  ⟨0x2D00, 1, 1, 0x03, 1, .u16, .allRo, .none, [0], 0, 65535⟩,
  ⟨0x2D00, 1, 1, 0x04, 1, .u16, .allRo, .none, [0], 0, 65535⟩,
  ⟨0x2D00, 1, 1, 0x05, 1, .u16, .allRo, .none, [0], 0, 65535⟩,
  ⟨0x2D00, 1, 1, 0x06, 1, .u32, .allRo, .none, [0], 0, 4294967295⟩,
  ⟨0x2D00, 1, 1, 0x07, 9, .u16, .allRo, .none, [0], 0, 65535⟩,
  ⟨0x2D00, 1, 1, 0x10, 1, .u16, .allRo, .none, [14], 0, 65535⟩,
  ⟨0x2D00, 1, 1, 0x11, 1, .u32, .allRo, .none, [0], 0, 4294967295⟩,
  ⟨0x2D01, 1, 1, 0x01, 1, .bool, .rwAro, .staged, [1], 0, 1⟩,
  ⟨0x2D01, 1, 1, 0x02, 1, .bool, .rwAro, .staged, [0], 0, 1⟩,
  ⟨0x2D01, 1, 1, 0x03, 1, .u16, .rwAro, .staged, [650], 650, 900⟩,
  ⟨0x2D01, 1, 1, 0x04, 1, .u16, .rwAro, .staged, [900], 650, 900⟩,
  ⟨0x2D01, 1, 1, 0x05, 1, .u16, .rwAro, .staged, [900], 650, 900⟩,
  ⟨0x2D01, 1, 1, 0x06, 1, .u16, .rwAro, .staged, [4096], 0, 65535⟩,
  ⟨0x2D01, 1, 1, 0x07, 1, .u16, .rwAro, .staged, [32], 0, 65535⟩,
  ⟨0x2D01, 1, 1, 0x08, 1, .u16, .allRo, .none, [900], 0, 65535⟩,
  ⟨0x2D01, 1, 1, 0x09, 1, .u16, .allRo, .none, [0], 0, 65535⟩,
  ⟨0x2D01, 1, 1, 0x0A, 1, .u8, .allRo, .none, [0], 0, 255⟩,
  ⟨0x2D01, 1, 1, 0x0B, 1, .u32, .allRo, .none, [0], 0, 4294967295⟩,
  ⟨0x2D02, 1, 1, 0x01, 1, .bool, .rwAro, .staged, [1], 0, 1⟩,
  ⟨0x2D02, 1, 1, 0x02, 1, .u32, .rwAro, .staged, [150000], 10000, 150000⟩,
  ⟨0x2D02, 1, 1, 0x03, 1, .u32, .rwAro, .staged, [360000], 10000, 360000⟩,
  ⟨0x2D02, 1, 1, 0x04, 1, .u32, .rwAro, .staged, [10000], 0, 4294967295⟩]

/-- Objects of the indices 0x2D00 and up: TG_HYST to BROWNOUT_RESETS. -/
def objects2Db : List ObjRow := [
  ⟨0x2D02, 1, 1, 0x05, 1, .u32, .rwAro, .staged, [5000], 0, 4294967295⟩,
  ⟨0x2D02, 1, 1, 0x06, 1, .u16, .rwAro, .staged, [20], 1, 1000⟩,
  ⟨0x2D02, 1, 1, 0x07, 1, .u16, .rwAro, .staged, [250], 0, 1000⟩,
  ⟨0x2D02, 1, 1, 0x08, 1, .u16, .rwAro, .staged, [500], 0, 1000⟩,
  ⟨0x2D03, 1, 1, 0x01, 1, .u32, .allRo, .none, [0], 0, 4294967295⟩,
  ⟨0x2D03, 1, 1, 0x02, 1, .u32, .allRo, .none, [360000], 0, 4294967295⟩,
  ⟨0x2D03, 1, 1, 0x03, 1, .u16, .allRo, .none, [1000], 0, 65535⟩,
  ⟨0x2D03, 1, 1, 0x04, 1, .u16, .allRo, .none, [1000], 0, 65535⟩,
  ⟨0x2D03, 1, 1, 0x05, 1, .u16, .allRo, .none, [1000], 0, 65535⟩,
  ⟨0x2D03, 1, 1, 0x06, 1, .u8, .allRo, .none, [1], 0, 255⟩,
  ⟨0x2D03, 1, 1, 0x07, 1, .u32, .allRo, .none, [0], 0, 4294967295⟩,
  ⟨0x2D08, 1, 1, 0x01, 1, .bool, .rwAro, .staged, [1], 0, 1⟩,
  ⟨0x2D08, 1, 1, 0x02, 1, .bool, .rwAro, .staged, [0], 0, 1⟩,
  ⟨0x2D08, 1, 1, 0x03, 1, .u64, .rwAro, .staged, [0], 0, 18446744073709551615⟩,
  ⟨0x2D08, 1, 1, 0x04, 1, .u8, .allRo, .none, [0], 0, 255⟩,
  ⟨0x2D08, 1, 1, 0x05, 1, .u32, .allRo, .none, [0], 0, 4294967295⟩,
  ⟨0x2D08, 1, 1, 0x06, 1, .u32, .allRo, .none, [0], 0, 4294967295⟩,
  ⟨0x2D10, 1, 1, 0x01, 1, .u64, .allRo, .none, [0], 0, 18446744073709551615⟩,
  ⟨0x2D10, 1, 1, 0x02, 1, .u32, .allRo, .none, [0], 0, 4294967295⟩,
  ⟨0x2D20, 1, 1, 0x01, 1, .u8, .allRo, .none, [0], 0, 255⟩,
  ⟨0x2D20, 1, 1, 0x02, 1, .u8, .allRo, .none, [0], 0, 255⟩,
  ⟨0x2D20, 1, 1, 0x03, 1, .u8, .allRo, .none, [0], 0, 255⟩,
  ⟨0x2D20, 1, 1, 0x04, 1, .u32, .allRo, .none, [0], 0, 4294967295⟩]

/-- Objects of the indices 0x2E00 and up: WRITE_SLOT to DEBUG_STATE. -/
def objects2Ea : List ObjRow := [
  ⟨0x2E00, 1, 1, 0x01, 1, .u8, .allRo, .none, [2], 0, 255⟩,
  ⟨0x2E00, 1, 1, 0x02, 1, .u8, .allRo, .none, [0], 0, 255⟩,
  ⟨0x2E00, 1, 1, 0x03, 1, .u8, .allRo, .none, [0], 0, 255⟩,
  ⟨0x2E00, 1, 1, 0x04, 1, .u32, .allRo, .none, [0], 0, 4294967295⟩,
  ⟨0x2E00, 1, 1, 0x05, 1, .u8, .hcsWo, .serviceOnly, [0], 1, 1⟩,
  ⟨0x2E01, 1, 1, 0x01, 1, .bool, .rwAro, .standbyOnly, [1], 0, 1⟩,
  ⟨0x2E01, 1, 1, 0x02, 1, .u8, .hcsWo, .immediate, [0], 1, 2⟩,
  ⟨0x2E01, 1, 1, 0x03, 1, .u16, .rwAro, .standbyOnly, [0], 0, 65535⟩,
  ⟨0x2E02, 1, 1, 0x01, 4, .u64, .hcsWo, .serviceOnly, [0], 0, 18446744073709551615⟩,
  ⟨0x2E02, 1, 1, 0x05, 4, .u64, .hcsWo, .serviceOnly, [0], 0, 18446744073709551615⟩,
  ⟨0x2E02, 1, 1, 0x09, 1, .u8, .hcsWo, .serviceOnly, [0], 0, 255⟩,
  ⟨0x2E02, 1, 1, 0x0A, 1, .u8, .allRo, .none, [0], 0, 255⟩,
  ⟨0x2E02, 1, 1, 0x0B, 1, .u8, .hcsWo, .serviceOnly, [0], 1, 1⟩,
  ⟨0x2E03, 1, 1, 0x01, 4, .u64, .hcsRo, .none, [0], 0, 18446744073709551615⟩,
  ⟨0x2E03, 1, 1, 0x05, 8, .u64, .hcsRw, .serviceOnly, [0], 0, 18446744073709551615⟩,
  ⟨0x2E03, 1, 1, 0x0D, 1, .u8, .hcsWo, .serviceOnly, [0], 1, 2⟩,
  ⟨0x2E03, 1, 1, 0x0E, 1, .u8, .allRo, .none, [0], 0, 255⟩]

/-- Objects of the indices 0x5100 and up: WAYMARK_IMAGE to WAYMARK_IMAGE. -/
def objects51a : List ObjRow := [
  ⟨0x5100, 1, 1, 0x00, 1, .dom, .rwAro, .standbyOnly, [0], 0, 0⟩]

/-- Objects of the indices 0x5400 and up: BASE_A to RBTRIM_B. -/
def objects54a : List ObjRow := [
  ⟨0x5400, 1, 1, 0x00, 1, .dom, .rwAro, .standbyOnly, [0], 0, 0⟩,
  ⟨0x5401, 1, 1, 0x00, 1, .dom, .rwAro, .standbyOnly, [0], 0, 0⟩,
  ⟨0x5402, 1, 1, 0x00, 1, .dom, .rwAro, .serviceOnly, [0], 0, 0⟩,
  ⟨0x5403, 1, 1, 0x00, 1, .dom, .rwAro, .standbyOnly, [0], 0, 0⟩,
  ⟨0x5410, 1, 1, 0x00, 1, .dom, .rwAro, .standbyOnly, [0], 0, 0⟩,
  ⟨0x5411, 1, 1, 0x00, 1, .dom, .rwAro, .standbyOnly, [0], 0, 0⟩,
  ⟨0x5412, 1, 1, 0x00, 1, .dom, .rwAro, .serviceOnly, [0], 0, 0⟩,
  ⟨0x5413, 1, 1, 0x00, 1, .dom, .rwAro, .standbyOnly, [0], 0, 0⟩,
  ⟨0x5414, 1, 1, 0x00, 1, .dom, .rwAro, .standbyOnly, [0], 0, 0⟩]

/-- Objects of the indices 0x5700 and up: SEG_TRIM_0 to WHITE_1. -/
def objects57a : List ObjRow := [
  ⟨0x5700, 1, 1, 0x00, 1, .dom, .rwAro, .serviceOnly, [0], 0, 0⟩,
  ⟨0x5701, 1, 1, 0x00, 1, .dom, .rwAro, .standbyOnly, [0], 0, 0⟩,
  ⟨0x5702, 1, 1, 0x00, 1, .dom, .rwAro, .standbyOnly, [0], 0, 0⟩,
  ⟨0x5710, 1, 1, 0x00, 1, .dom, .rwAro, .serviceOnly, [0], 0, 0⟩,
  ⟨0x5711, 1, 1, 0x00, 1, .dom, .rwAro, .standbyOnly, [0], 0, 0⟩,
  ⟨0x5712, 1, 1, 0x00, 1, .dom, .rwAro, .standbyOnly, [0], 0, 0⟩]

/-- Objects of the indices 0x5900 and up: SQ0_TABLE to CAPTURE_BUF. -/
def objects59a : List ObjRow := [
  ⟨0x5900, 1, 1, 0x00, 1, .dom, .allRw, .staged, [0], 0, 0⟩,
  ⟨0x5901, 1, 1, 0x00, 1, .dom, .allRw, .staged, [0], 0, 0⟩,
  ⟨0x5940, 1, 1, 0x00, 1, .dom, .allRo, .none, [0], 0, 0⟩]

/-- Objects of the indices 0x5B00 and up: EVENT_TABLE to EVENT_TABLE. -/
def objects5Ba : List ObjRow := [
  ⟨0x5B00, 1, 1, 0x00, 1, .dom, .rwAro, .standbyOnly, [0], 0, 0⟩]

/-- Objects of the indices 0x5C00 and up: TL_IMAGE to TL_SAVED. -/
def objects5Ca : List ObjRow := [
  ⟨0x5C00, 1, 1, 0x00, 1, .dom, .allRo, .none, [0], 0, 0⟩,
  ⟨0x5C01, 1, 1, 0x00, 1, .dom, .allRo, .none, [0], 0, 0⟩]

/-- Objects of the indices 0x5E00 and up: SYSTEM_IMAGE to APP_IMAGE. -/
def objects5Ea : List ObjRow := [
  ⟨0x5E00, 1, 1, 0x00, 1, .dom, .hcsWo, .serviceOnly, [0], 0, 0⟩,
  ⟨0x5E01, 1, 1, 0x00, 1, .dom, .hcsWo, .serviceOnly, [0], 0, 0⟩]

/-- The rows of the indices with one high byte. -/
def objectsOf (hi : Nat) : List ObjRow :=
  if hi = 0x10 then objects10a
  else if hi = 0x14 then objects14a
  else if hi = 0x16 then objects16a
  else if hi = 0x18 then objects18a
  else if hi = 0x1A then objects1Aa
  else if hi = 0x20 then objects20a ++ objects20b ++ objects20c ++ objects20d
  else if hi = 0x21 then objects21a ++ objects21b
  else if hi = 0x22 then objects22a ++ objects22b
  else if hi = 0x23 then objects23a ++ objects23b
  else if hi = 0x24 then objects24a ++ objects24b ++ objects24c
  else if hi = 0x25 then objects25a ++ objects25b ++ objects25c ++ objects25d
  else if hi = 0x26 then objects26a ++ objects26b ++ objects26c
  else if hi = 0x27 then objects27a ++ objects27b ++ objects27c ++ objects27d
  else if hi = 0x28 then objects28a ++ objects28b ++ objects28c
  else if hi = 0x29 then objects29a ++ objects29b ++ objects29c
  else if hi = 0x2A then objects2Aa ++ objects2Ab ++ objects2Ac ++ objects2Ad
  else if hi = 0x2B then objects2Ba
  else if hi = 0x2C then objects2Ca
  else if hi = 0x2D then objects2Da ++ objects2Db
  else if hi = 0x2E then objects2Ea
  else if hi = 0x51 then objects51a
  else if hi = 0x54 then objects54a
  else if hi = 0x57 then objects57a
  else if hi = 0x59 then objects59a
  else if hi = 0x5B then objects5Ba
  else if hi = 0x5C then objects5Ca
  else if hi = 0x5E then objects5Ea
  else []

/-- The high bytes that hold objects. -/
def objectPages : List Nat := [0x10, 0x14, 0x16, 0x18, 0x1A, 0x20, 0x21, 0x22, 0x23, 0x24, 0x25, 0x26, 0x27, 0x28, 0x29, 0x2A, 0x2B, 0x2C, 0x2D, 0x2E, 0x51, 0x54, 0x57, 0x59, 0x5B, 0x5C, 0x5E]

/-- The whole object table. -/
def objectTable : List ObjRow := objectPages.flatMap objectsOf

/-- The row that holds a key (index × 256 + sub-index), if one does. -/
def findRow : List ObjRow → Nat → Option ObjRow
  | [], _ => none
  | r :: rs, k => if r.holds k then some r else findRow rs k

/-- The object at a key (R364: an object in no row does not exist). -/
def objRow (k : Nat) : Option ObjRow := findRow (objectsOf (k / 65536)) k

/-- Does a row hold some sub-index of this index? -/
def rowHasIndex (r : ObjRow) (idx : Nat) : Bool :=
  decide (r.idx ≤ idx) && decide ((idx - r.idx) % r.step = 0) && decide ((idx - r.idx) / r.step < r.count)

/-- Does any object lie at this index? The first half of check 1 of R335. -/
def indexExists (idx : Nat) : Bool := (objectsOf (idx / 256)).any (fun r => rowHasIndex r idx)

/-- The highest sub-index of a record, which its sub-index 00 reads (R363); none for an index with a single
value. -/
def highestSub (idx : Nat) : Option Nat :=
  let rs := (objectsOf (idx / 256)).filter (fun r => rowHasIndex r idx && r.sub != 0)
  if rs.isEmpty then none else some (maxN (rs.map (fun r => r.sub + r.subs - 1)))

/-- The default of an object that holds a number. The mapping entries of the PDOs that are mapped at delivery
stand apart (R375). -/
def objDefault (k : Nat) : Int :=
  match pdoDefaultMap k with
  | some v => (v : Int)
  | none =>
    match objRow k with
    | some r => r.defaultAt k
    | none => 0

end Sys2Proof.Machine
end

