-- ==== Sys2Proof/Machine/State.lean ====
section
/-!
DEFINITION. State.lean: the machine state as plain data, one structure per unit of R18, the outcomes a step may stop
with, and the state right after reset. Settings (every writable dictionary object that keeps its value) are held once, in
`CtlSt.dict`; what a unit computes or counts is held in that unit's structure.
-/

namespace Sys2Proof.Machine

open Sys2Proof

/-- A raised event on its way to its routes: number and the two detail words (R442). -/
structure Raise where
  ev : Nat
  d1 : Nat
  d2 : Nat
  deriving DecidableEq, Repr

/-- A mode transition under way (R30–R32): the mode it left, its target, its start, the cause of EV000, and, where
DOZE follows STANDBY, the path that asked for it. -/
structure Transition where
  src : Mode
  target : Mode
  start : ST
  cause : Nat
  thenDoze : Option Path
  deriving DecidableEq, Repr

/-- The mode machine (spec/01). -/
structure ModeSt where
  mode : Mode                    -- R27
  trans : Option Transition      -- R30, R32
  held : Bool                    -- a STANDBY request is held, HELD_REQ (R32)
  lockoutCause : Nat             -- LOCKOUT_CAUSE (R445)
  floorsReached : Bool           -- LOCKOUT step 2 has reached the Safety Net floors (spec/16)
  wakeCode : Nat                 -- the wake source being served (R472), 0 none
  wakeAt : ST                    -- ST at which it was recognised
  wakeSrc : Nat                  -- sources 2, 3, 4 and 6 that have asserted in DOZE, a bit for each code (R472)
  restored : Bool                -- ST is handed back and the planes run, in the wake under way (R36)
  deriving DecidableEq, Repr

def ModeSt.reset : ModeSt :=
  { mode := .boot, trans := none, held := false, lockoutCause := 0, floorsReached := false,
    wakeCode := 0, wakeAt := 0, wakeSrc := 0, restored := false }

/-- One lane of the MSU (R45–R53). -/
structure Lane where
  prev : Int        -- a: position broadcast in the previous cycle (R55)
  pos : Int         -- b: position broadcast in this cycle (R55)
  org : Int         -- ORG (R46)
  cBase : Int       -- correction term (R48, R50)
  dc : Int          -- correction being spread in this servo period (R48)
  sp0 : Int         -- set-point at the start of the servo period, microsteps (R47)
  sp1 : Int         -- set-point at its end (R47)
  perSt : ST        -- first cycle of the servo period
  ep : Int          -- encoder term of R53
  epPrev : Int      -- encoder term of the previous cycle
  dir : Dir         -- committed direction (R49)
  ext : Int         -- E (R49)
  extPrev : Int     -- E before the position of this cycle
  saturated : Bool  -- SATURATED (R51)
  beyond : Bool     -- DIVERGED: the last hybrid error lay beyond HYB_LIMIT
  diverged : Bool   -- EV064 is not raised again (R48)
  hybErr : Int      -- HYB_ERROR
  encFault : Bool   -- ENC_FAULT
  deriving DecidableEq, Repr

def Lane.reset : Lane :=
  { prev := 0, pos := 0, org := 0, cBase := 0, dc := 0, sp0 := 0, sp1 := 0, perSt := 0, ep := 0, epPrev := 0, dir := .none,
    ext := 0, extPrev := 0, saturated := false, beyond := false, diverged := false, hybErr := 0, encFault := false }

/-- One encoder channel (R53, R76–R78). -/
structure Enc where
  c : Int            -- quadrature count
  te0 : ST           -- ST of the newest edge
  te1 : ST
  te2 : ST
  n : Nat            -- consecutive edges in direction d, at most 3
  d : Int            -- direction of those edges, 1 or -1
  k : Int            -- boundary of the newest edge
  held : Bool        -- A and B have changed together since that edge: the position is held (R53)
  cRef : Option Int  -- c_ref (R76); none before the first index after enabling
  slip : Nat         -- SLIP_COUNT
  mismatch : Nat     -- MISMATCH_COUNT
  lastDev : Int      -- LAST_DEV
  deriving DecidableEq, Repr

def Enc.reset : Enc :=
  { c := 0, te0 := 0, te1 := 0, te2 := 0, n := 0, d := 1, k := 0, held := false, cRef := none, slip := 0, mismatch := 0, lastDev := 0 }

/-- One line generator (R56–R60). -/
structure Gen where
  nf : Int               -- next-forward index
  nr : Int               -- next-reverse index
  gateOpen : Bool        -- gate of GATE = 1 (R59)
  index : Int            -- LINE_INDEX
  emitted : Nat          -- LINES_EMITTED
  late : Nat             -- LATE_COUNT
  crowded : Bool         -- EV072 raised in this committed run (R58)
  lastSt : Option ST     -- cycle that took its line, or in which it may emit none (R58, R60)
  fwdSt : Option ST      -- its last line event in each direction (R151)
  revSt : Option ST
  deriving DecidableEq, Repr

def Gen.reset : Gen :=
  { nf := 0, nr := 0, gateOpen := false, index := 0, emitted := 0, late := 0, crowded := false, lastSt := none,
    fwdSt := none, revSt := none }

/-- One entry of the Waymark Table: TARGET, the fields of CTRL, ACT and STATUS, and LAST_ST (R62–R67). -/
structure Waymark where
  target : Nat     -- TARGET, UNSIGNED64
  en : Bool
  armed : Bool
  dir : Nat        -- [29:28]
  key : Nat        -- [27:25]
  pair : Bool
  role : Bool      -- true: stop
  rearm : Nat      -- [22:0]
  tgt : Nat
  inp : Nat
  op : Nat
  evt : Bool
  evsel : Nat
  partner : Nat
  fires : Nat
  lastDir : Nat
  lastSt : Nat     -- LAST_ST
  since : ST       -- the enabling or re-arming cycle; crossings are evaluated after it (R63, R66)
  deriving DecidableEq, Repr

def Waymark.reset : Waymark :=
  { target := 0, en := false, armed := false, dir := 0, key := 0, pair := false, role := false, rearm := 0, tgt := 0,
    inp := 0, op := 0, evt := false, evsel := 0, partner := 0, fires := 0, lastDir := 0, lastSt := 0, since := 0 }

/-- A pair whose output is held on to the unit's minimum (R74, R75). -/
structure PairHold where
  start : Nat
  tgt : Nat
  inp : Nat
  due : ST
  deriving DecidableEq, Repr

/-- The Milestone Unit and the Waymark Table (spec/02). -/
structure MsuSt where
  lanes : Vector Lane 4
  encs : Vector Enc 4
  gens : Vector Gen 16
  wm : SMap Waymark                -- entries 0–1023; an unlisted entry is Waymark.reset
  wmSel : Vector Nat 4             -- SELECT per path (R80)
  holds : List PairHold            -- R74, R75
  offs : List (Nat × Nat)          -- level inputs (TGT, INPUT) that an OFF has acted on in cycle offSt (R70)
  offSt : ST
  deriving DecidableEq, Repr

def MsuSt.reset : MsuSt :=
  { lanes := Vector.replicate 4 Lane.reset, encs := Vector.replicate 4 Enc.reset,
    gens := Vector.replicate 16 Gen.reset, wm := [], wmSel := Vector.replicate 4 0, holds := [], offs := [],
    offSt := 0 }

/-- One compare channel (R89–R103). Its settings are dictionary objects. -/
structure Tc where
  run : Bool          -- enabled (R90)
  waiting : Bool      -- enabled, ST < ORIGIN (R90)
  parkDue : Bool      -- one-shot, k has stood at FRAME - 1 for a cycle (R94)
  parked : Bool       -- one-shot, parked (R94)
  opened : Bool       -- the first wrap since enabling or wake has been taken (R93)
  k : Nat             -- frame counter, COUNT
  frame : Nat         -- active FRAME
  cmpA : Nat
  cmpB : Nat
  out : Bool          -- OUT
  ma : Bool
  mb : Bool
  wr : Bool
  ovr : Bool
  frames : Nat        -- FRAMES
  slip : Nat          -- PHASE_SLIP
  preF : Nat          -- FRAME_PRE as it stood at the start of this cycle (R91)
  preA : Nat          -- CMPA_PRE
  preB : Nat          -- CMPB_PRE
  delay : List ST     -- delivery cycles of the triggers in the delay line (R98)
  drops : Nat         -- triggers dropped since the last EV136
  wrapSt : Option ST  -- cycle whose wrap has been taken
  aSt : Option ST     -- cycle whose compare A has been taken
  bSt : Option ST
  evSt : Option ST    -- cycle in which the channel's event was raised (R95)
  deriving DecidableEq, Repr

def Tc.reset : Tc :=
  { run := false, waiting := false, parkDue := false, parked := false, opened := false, k := 0, frame := 200000, cmpA := 0,
    cmpB := 100000, out := false, ma := false, mb := false, wr := false, ovr := false, frames := 0, slip := 0,
    preF := 200000, preA := 0, preB := 100000, delay := [], drops := 0, wrapSt := none, aSt := none, bSt := none, evSt := none }

/-- One capture input (R104–R106). -/
structure Cap where
  level : Bool          -- LEVEL
  new : Bool            -- NEW
  ovr : Bool            -- OVR
  capSt : Nat           -- CAP_ST
  count : Nat           -- CAP_COUNT
  presc : Nat           -- prescaler count
  tookSt : Option ST    -- cycle in which a capture was made (one per cycle)
  firstSt : ST            -- first cycle whose filter sample may count to the next level (R104)
  run : Nat             -- consecutive samples of a driven pin that differ from LEVEL (R104)
  pinSt : ST            -- ST of the pin transition behind the accepted level (R106)
  deriving DecidableEq, Repr

def Cap.reset : Cap :=
  { level := false, new := false, ovr := false, capSt := 0, count := 0, presc := 0, tookSt := none,
    firstSt := 0, run := 0, pinSt := 0 }

/-- System Time, the keeper and the Timer Unit (spec/03). -/
structure TuSt where
  st : ST                 -- ST (R84)
  keeperFrac : Nat        -- frac of R86
  keeperAhead : Nat       -- ticks the keeper has added in this DOZE
  dozeTicks : Nat         -- DOZE_TICKS
  resync : Int            -- RESYNC_ERR
  tcs : Vector Tc 32
  caps : Vector Cap 8
  gioIn : Nat             -- level shown by each GIO pin when it is an input or forced, bit per pin
  gio1 : Nat              -- pin levels one cycle earlier, bit per pin (R104)
  gio2 : Nat              -- pin levels two cycles earlier
  gioDrv : List (Nat × Bool × ST) -- each driven pin: its driven level and the cycle of that level's last change (R97)
  halted : Bool           -- the application core is halted by the debugger (R102)
  deriving DecidableEq, Repr

def TuSt.reset : TuSt :=
  { st := 0, keeperFrac := 0, keeperAhead := 0, dozeTicks := 0, resync := 0, tcs := Vector.replicate 32 Tc.reset,
    caps := Vector.replicate 8 Cap.reset, gioIn := 0, gio1 := 0, gio2 := 0, gioDrv := [],
    halted := false }

/-- One line held in the raster store (R114, R118). -/
structure RasterLine where
  rsn : Nat
  fmt : Nat
  elig : Bool
  len : Nat             -- LENGTH of the header
  payload : List Byte
  printed : Bool
  leaving : Bool        -- released in this cycle: it goes as the cycle ends (R118, R127)
  deriving DecidableEq, Repr

/-- What the energy computation makes of one line (R136–R139): its black dots as a bit set, greatest width in 1/256 tick,
slice duration, and for each slice of 1 … NS the dots it enables (R120). -/
structure LineCalc where
  dots : Nat
  wmax : Nat
  d : Nat
  slices : List Nat
  clipped : Bool
  deriving DecidableEq, Repr

/-- One rehearsed line (R159). -/
structure Rehearsed where
  rsn : Nat
  dir : Dir
  hist : List Nat
  vr : Nat
  tr : Int
  lc : LineCalc
  deriving DecidableEq, Repr

/-- One issue of a slice train: its slice, the dots it latches, the cycles in which LATCH# falls and rises, the strobes as
(group, start, end), the end of the last one, its waves, and the enabled dots × D that it fires (R121–R124, R143). -/
structure Issue where
  slice : Nat
  map : Nat
  latch : ST
  rise : ST
  strobes : List (Nat × ST × ST)
  fin : ST
  waves : Nat
  fired : Nat
  deriving DecidableEq, Repr

/-- A slice, or one pass of a split slice, that is still to be latched (R121, R124). -/
structure Slot where
  slice : Nat
  map : Nat
  pass : Bool           -- one of the passes that a slice has been split into
  deriving DecidableEq, Repr

/-- The slice train of a line: what it still has to latch, and what it has issued. -/
structure Train where
  entry : Nat           -- Job Ledger entry
  rsn : Nat
  index : Int
  dir : Dir
  lc : LineCalc
  todo : List Slot
  issues : List Issue
  ready : ST            -- earliest cycle of its first LATCH#
  firstStb : ST         -- its first strobe, once it is latched
  committed : Bool
  truncated : Bool
  elig : Bool
  vh : Nat              -- VH sensed at the first LATCH#
  rot : Nat             -- ROT of the line (R123)
  period : Option Nat   -- p of R151
  splits : Nat          -- slices split and not yet counted (R124)
  splitInfo : Nat       -- [7:0] group, [15:8] passes of the first split
  splitEv : Bool        -- EV148 raised for the line
  cutBy : Option Nat    -- slices dropped by a line event, not yet counted (R130)
  recomputed : Option (Nat × Nat) -- recomputed: failed checks, ticks from line event to LATCH# (R161)
  entered : Bool        -- the line has entered the history (R138a)
  deriving DecidableEq, Repr

/-- A line event that waits for its recompute (R161). -/
structure Recompute where
  entry : Nat
  rsn : Nat
  index : Int
  dir : Dir
  dots : Nat
  lc : LineCalc         -- computed at T_HEAD and VH sensed
  elig : Bool
  startSt : ST
  vh : Nat
  failed : Nat          -- failed checks 1–5 as bits [0]–[4]
  period : Option Nat
  deriving DecidableEq, Repr

/-- The job a port serves: its entry, the index of its first line event, and the last index it took (R126). -/
structure JobBind where
  entry : Nat
  act : Nat
  n1 : Int
  lastN : Option Int
  deriving DecidableEq, Repr

/-- A line event of the port's generator, bound to a job as its cycle ends (R127). -/
structure PortLine where
  index : Int
  dir : Dir
  vh : Nat              -- VH sensed
  period : Option Nat   -- ticks since the generator's previous event in this direction (R151)
  deriving DecidableEq, Repr

/-- One Line Engine with its head port and its part of the raster store (spec/04). -/
structure HeadSt where
  state : Nat              -- STATE
  rId : Nat                -- R_ID
  linesPrinted : Nat
  lastRsn : Nat
  lastTrain : Nat
  maxTrain : Nat
  wavesLast : Nat
  splitCount : Nat
  truncCount : Nat
  revisits : Nat
  missing : Nat
  suppressed : Nat
  formatErrs : Nat
  rot : Nat                -- ROT (R123)
  printGate : Bool         -- PRINT_GATE (R131)
  bind : Option JobBind
  missRun : Bool           -- in a run of missing lines (R129)
  supRun : Bool            -- in a run of suppressed lines (R132)
  event : Option PortLine  -- this cycle's line event (R127)
  train : Option Train     -- the line being issued, or ending
  next : Option Train      -- the line taken after it, not yet latched
  recomp : Option Recompute
  freeAt : ST              -- 20 ticks after the last strobe: no LATCH# before (R121)
  riseSt : ST              -- the last rise of LATCH#
  reg : Option Nat         -- dots in, or on the way into, the shift register
  regSt : ST               -- start of that shift
  refresh : Bool           -- the rehearsal and the raster store are looked through as the cycle ends (R118, R159)
  nextRsn : Nat            -- NEXT_RSN
  store : List RasterLine  -- lines held, oldest first
  haltAbort : Bool         -- the job is aborted at the next line event (R181)
  deriving DecidableEq, Repr

def HeadSt.reset : HeadSt :=
  { state := 0, rId := 0, linesPrinted := 0, lastRsn := 0, lastTrain := 0, maxTrain := 0, wavesLast := 0,
    splitCount := 0, truncCount := 0, revisits := 0, missing := 0, suppressed := 0, formatErrs := 0, rot := 0,
    printGate := false, bind := none, missRun := false, supRun := false, event := none, train := none, next := none,
    recomp := none, freeAt := 0, riseSt := 0, reg := none, regSt := 0, refresh := false, nextRsn := 0,
    store := [], haltAbort := false }

/-- The dot energy unit of one head (spec/05). -/
structure EnergySt where
  tHead : Int              -- T_HEAD, 1/16 °C
  tTherm : Int             -- T_THERM
  tInt : Int               -- t_int, 2⁻¹⁶ °C (R143)
  stLast : ST              -- st_last
  lastWmax : Nat
  lastD : Nat
  lastEnergy : Nat
  clipCount : Nat
  recomputes : Nat
  rcDir : Nat
  rcMap : Nat
  rcVh : Nat
  rcTemp : Nat
  maxRecompute : Nat
  recomputeLost : Nat
  histResets : Nat
  reseeds : Nat            -- MODEL_RESEEDS
  hist : List Nat          -- lines n - 1 … n - 4 as bit sets of black dots (R138a)
  revCont : Bool           -- the next line of the job takes its history from the store (R141)
  lastCommitSt : Option ST -- the last committed line, or entry to RUN or SERVICE (R140)
  coldDone : Bool          -- cleared for the time since then (R140)
  lastInterval : Nat       -- last measured line interval, ticks
  rehearsed : List Rehearsed
  recRun : Bool            -- in a run of recomputed lines (R161)
  hot : Bool               -- EV164 raised, not yet 80 below HOT_LIMIT (R145)
  thermFault : Bool        -- R146
  thermGood : Nat          -- consecutive valid readings since the fault
  clipEvAt : Option Nat    -- committed lines when EV160 was last raised (R139)
  deriving DecidableEq, Repr

def EnergySt.reset : EnergySt :=
  { tHead := 0, tTherm := 0, tInt := 0, stLast := 0, lastWmax := 0, lastD := 0, lastEnergy := 0, clipCount := 0,
    recomputes := 0, rcDir := 0, rcMap := 0, rcVh := 0, rcTemp := 0, maxRecompute := 0, recomputeLost := 0,
    histResets := 0, reseeds := 0, hist := [0, 0, 0, 0], revCont := false, lastCommitSt := none, coldDone := false,
    lastInterval := 0, rehearsed := [], recRun := false, hot := false, thermFault := false, thermGood := 0,
    clipEvAt := none }

/-- The VH loop and the resistance measurement of one head (R147–R154). -/
structure VhLoopSt where
  target : Nat             -- VH_TARGET
  sensed : Nat             -- VH_SENSED
  state : Nat              -- LOOP_STATE
  ratio : Nat              -- LAST_RATIO
  gathered : List Nat
  measState : Nat          -- MEAS_STATE
  measDot : Nat            -- MEAS_DOT, once the measurement has ended
  measSt : ST              -- its start
  measW : Nat              -- MEAS_W and MEAS_REPEAT as it started
  measRep : Nat
  dvMean : Nat             -- DV_MEAN
  openCount : Nat
  highCount : Nat
  deriving DecidableEq, Repr

def VhLoopSt.reset : VhLoopSt :=
  { target := 24000, sensed := 0, state := 0, ratio := 0, gathered := [], measState := 0, measDot := 0, measSt := 0, measW := 0, measRep := 0, dvMean := 0,
    openCount := 0, highCount := 0 }

/-- The readback trim of HEAD-B (R155–R158): counters, and per column the sample count and the sum of densities of the
document in progress. -/
structure RbSt where
  docs : Nat
  discarded : Nat
  limited : Nat
  colN : SMap Nat
  colSum : SMap Nat
  retracted : Bool         -- a RETRACT covered the document's endorsement window (R157)
  deriving DecidableEq, Repr

def RbSt.reset : RbSt := { docs := 0, discarded := 0, limited := 0, colN := [], colSum := [], retracted := false }

/-- The media index of the print lane (R174–R180). -/
structure MediaSt where
  indexState : Nat       -- INDEX_STATE: 0 off, 1 UNSYNC, 2 SYNC
  cls : Nat              -- CLASS: 0 MEDIA, 1 GAP
  xLast : Int            -- X_last
  lastSlip : Int
  frameCorr : Int        -- FRAME_CORR
  slip : Int             -- slip being spread, 0 none (R178)
  slipFrom : Int         -- lane position at which its spreading begins
  slipMax : Int          -- F so far: forward travel past that position, 0 to 512 000
  slipCount : Nat
  shortCount : Nat
  missingCount : Nat
  missingRun : Nat
  gapNoise : Nat
  m : Int                -- M
  g : Int                -- G
  thr : Int              -- threshold of the last sample
  lastPos : Int          -- p_prev
  lastCode : Int         -- s_prev
  cand : Option Int      -- candidate index x awaiting confirmation
  lowContrast : Bool     -- EV212 raised
  sampleSt : Option ST   -- cycle of the last sample taken
  deriving DecidableEq, Repr

def MediaSt.reset : MediaSt :=
  { indexState := 0, cls := 0, xLast := 0, lastSlip := 0, frameCorr := 0, slip := 0, slipFrom := 0, slipMax := 0, slipCount := 0,
    shortCount := 0, missingCount := 0, missingRun := 0, gapNoise := 0, m := 0, g := 0, thr := 0, lastPos := 0,
    lastCode := 0, cand := none, lowContrast := false, sampleSt := none }

/-- One OPT channel (R172, R173). Its LED_I is the dictionary object itself. -/
structure OptSt where
  state : Nat            -- LOOP_STATE
  lastCode : Nat
  gathered : List Nat
  deriving DecidableEq, Repr

def OptSt.reset : OptSt := ⟨0, 0, []⟩

/-- Near-end and paper-out (R182). -/
structure SupplySt where
  neAbsent : Bool
  outAbsent : Bool
  neRun : Nat            -- consecutive samples that differ from the state
  outRun : Nat
  reserveFrom : Option Int  -- lane position at paper-out, while OUT_RESERVE is being travelled
  stoppedSt : Option ST  -- cycle of the last sample with the lane stopped (R170)
  deriving DecidableEq, Repr

def SupplySt.reset : SupplySt := ⟨false, false, 0, 0, none, none⟩

/-- One Speed Governor (R183–R186). -/
structure GovSt where
  runway : Nat
  vCap : Nat
  capSrc : Nat
  halted : Nat           -- HALTED cause: 0 none, 1 short, 2 lost, 3 out, 4 jam, 5 cutter fault
  starved : Nat          -- STARVED_COUNT
  rcSlows : Nat
  vRc : Nat              -- v_rc while rcLeft > 0
  rcLeft : Nat           -- committed lines left of RC_LINES
  zero : Bool            -- cap 0 reported by EV220
  deriving DecidableEq, Repr

def GovSt.reset : GovSt :=
  { runway := 0xFFFFFFFF, vCap := 0, capSrc := 0, halted := 0, starved := 0, rcSlows := 0, vRc := 0, rcLeft := 0,
    zero := false }

/-- A cut request: kind (1 full, 2 partial) and its stop point (R187). -/
structure CutReq where
  kind : Nat
  stop : Int
  deriving DecidableEq, Repr

/-- What the CUT bridge is doing. -/
inductive CutPhase where
  | idle | waiting | forward | braking | returning | homing | finalBrake
  deriving DecidableEq, Repr

/-- The cutter (R187–R194). -/
structure CutSt where
  state : Nat            -- CUT_STATE
  count : Nat
  jams : Nat
  lastCycle : Nat
  active : Option CutReq
  queued : Option CutReq
  attempt : Nat          -- retries made
  phase : CutPhase
  phaseSt : ST           -- start of the phase
  cycleSt : ST           -- start of the cycle
  forwardOk : Bool       -- the forward drive completed (R188)
  homeSw : Bool          -- HOME asserted
  stopSet : Bool         -- a stop point caps the lane
  tripped : Bool         -- an over-current holds the bridge off until CUT_CLEAR (R190)
  deriving DecidableEq, Repr

def CutSt.reset : CutSt :=
  { state := 7, count := 0, jams := 0, lastCycle := 0, active := none, queued := none, attempt := 0, phase := .idle,
    phaseSt := 0, cycleSt := 0, forwardOk := false, homeSw := false, stopSet := false,
    tripped := false }

/-- The commands of the Motion Engine (R201). -/
inductive AxCmd where
  | go | goAlt | stop | qstop
  deriving DecidableEq, Repr

/-- A coil's chopper (R216): the bridge conducts, or decays slowly; and its last switching edge. -/
structure Chop where
  on : Bool
  edge : ST
  deriving DecidableEq, Repr

/-- One stepper axis (spec/07). Quantities in Q32 are the integers the generator computes with (R200). -/
structure AxisSt where
  x : Int                 -- position, microsteps in Q32
  v : Int                 -- speed, Q32
  a : Int                 -- acceleration, Q32
  brake : Bool            -- brake latch of the profile
  stop : Option AxCmd     -- STOP or QSTOP in force (R207)
  sT : Int                -- target, whole microsteps (R203)
  velMove : Bool          -- the move is a velocity move (R206)
  velDir : Int            -- its direction of travel
  kind : Nat              -- KIND in effect (R212)
  pend : Option AxCmd     -- command delivered since the last boundary (R202)
  pendSt : ST             -- cycle in which it was delivered
  pendWm : Bool           -- it was a waymark action (R202)
  snStop : Bool           -- a QSTOP of the Safety Net starts at the next boundary (R226)
  sp : Int                -- SETPOINT, the set-point issued last
  sp0 : Int               -- set-point at the start of the servo period (R199)
  revFrom : Int           -- sign of v when a target behind the travel was taken, 0 none (R205)
  thenStill : Bool        -- STILL is entered as soon as the axis is at rest (R226, R227)
  state : Nat             -- STATE
  snHeld : Bool
  short : Bool
  openLoad : Bool
  stall : Bool
  hot : Bool
  overshoot : Bool
  strong : Bool           -- REG bit: STRONG
  regAt : Option Bool     -- changeover pending; true once its microstep has been passed in an ended period (R217)
  stillMode : Nat         -- STILL_MODE
  stillSt : ST            -- when that standstill began (R218)
  atTarget : Bool
  moving : Bool           -- a move is under way (R210)
  movesDone : Nat
  limitSrc : Nat
  vLimit : Nat
  restSt : Option ST      -- since when v = 0 and a = 0 (R218)
  dev : Int               -- DEVIATION
  maxDev : Nat            -- MAX_DEV
  refEnc : Int            -- P_enc0
  refSp : Int             -- P_sp0
  stallRun : Nat
  stallCount : Nat
  stallHeld : Bool        -- a reported stall has not recovered (R221)
  stalling : Bool         -- STALL_ACT 2: STALLED once at rest
  chops : Vector Chop 2   -- the choppers of coils A and B
  deriving DecidableEq, Repr

def AxisSt.reset : AxisSt :=
  { x := 0, v := 0, a := 0, brake := false, stop := none, sT := 0, velMove := false, velDir := 0, kind := 0, pend := none,
    pendSt := 0, pendWm := false, snStop := false, sp := 0, sp0 := 0, revFrom := 0, thenStill := false, state := 1, snHeld := false, short := false, openLoad := false,
    stall := false, hot := false, overshoot := false, strong := false, regAt := none, stillMode := 1, stillSt := 0,
    atTarget := false, moving := false, movesDone := 0, limitSrc := 0, vLimit := 0xFFFFFFFF, restSt := none, dev := 0,
    maxDev := 0, refEnc := 0, refSp := 0, stallRun := 0, stallCount := 0, stallHeld := false, stalling := false,
    chops := Vector.replicate 2 ⟨true, 0⟩ }

/-- A line an image port has taken and not yet processed (R235–R239). -/
structure ImgTaken where
  lsn : Int               -- -1 for a pre-roll line
  due : Int               -- due position
  repeated : Bool
  snap : Bool
  job : Nat               -- the job it is exposed for, by its Carousel reservation (R243)
  deriving DecidableEq, Repr

/-- An exposed line on its way (R235, R237, R239): its line event or SNAP ON, the end of its train (none while a SNAP is on), and the lines made
from it, the copies among them. -/
structure ImgTrain where
  start : ST
  fin : Option ST
  lines : List ImgTaken
  deriving DecidableEq, Repr

/-- An illumination channel lit, with its drive current in 0.1 mA, from one cycle to another (R235, R239). -/
structure Lit where
  illum : Nat
  current : Nat
  on : ST
  off : Option ST
  deriving DecidableEq, Repr

/-- A line of the document that has been made (R253): its LSN, due position, and whether it has been sent. -/
structure ImgLine where
  lsn : Nat
  due : Int
  sent : Bool
  clean : Bool            -- neither REPEATED nor SATURATED (R259)
  samples : Nat           -- readback samples measured in it (R259)
  held : List Byte        -- the LINE record, while a FINAL_ONLY line is held (R257)
  deriving DecidableEq, Repr

/-- One exposure slot's balance loop (R262). -/
structure ImgSlot where
  state : Nat             -- BAL_STATE
  level : Nat             -- BAL_LEVEL
  gathered : List Nat
  deriving DecidableEq, Repr

def ImgSlot.reset : ImgSlot := ⟨0, 0, []⟩

/-- The settings a document takes at its DOC_START (R257). -/
structure ImgDoc where
  entry : Nat             -- Job Ledger entry
  act : Nat               -- its order of becoming ACTIVE
  key : Nat               -- its Carousel reservation
  dir : Dir
  mode : Nat              -- STREAM_MODE
  havg : Nat              -- H_AVG
  depth : Nat
  slots : List (Nat × Nat)  -- ROWS and ILLUM of each slot
  times : List (Nat × Nat)  -- START and DUR of each slot
  train : Nat             -- TRAIN of an exposed line (R235)
  n1 : Option Int         -- index of LSN 0
  maxLsn : Int            -- highest LSN taken, -1 none
  p0 : Option Int         -- due position of LSN 0
  kept : Nat              -- LINE records made
  lastSent : Int          -- last LSN sent, -1 none
  confirmAt : Int         -- FINAL_MARK of the last CONFIRM
  flags : Nat             -- DOC_END flags gathered
  ending : Bool           -- the job has left ACTIVE
  satSeen : Bool          -- EV294 raised
  dfRun : Nat             -- consecutive low DF_OPT codes
  winLo : Option Nat      -- endorsement window (R261)
  winHi : Nat
  deriving DecidableEq, Repr

/-- One image port (spec/08). -/
structure ImgPort where
  doc : Nat               -- DOC
  nextLsn : Nat
  finalMark : Int
  lastTrain : Nat
  overruns : Nat
  revisits : Nat
  retracted : Nat
  docs : Nat
  cur : Option ImgDoc
  trains : List ImgTrain  -- exposed lines whose planes have not come, oldest first
  lit : List Lit          -- when the illumination of the latest line is lit
  lines : List ImgLine    -- lines of the document, oldest first
  hist : List (Nat × List (List Nat))  -- shaded planes of exposed lines with their job, newest first (R243)
  scanGate : Bool
  longJob : Option Nat    -- the entry whose further line events are revisits after LONG (R258)
  trig : Option Nat       -- reason of the retraction decided in this cycle (R256)
  late : Option Nat       -- reason of a trigger that came after the job left ACTIVE (R256)
  endReq : Bool           -- DOC_END is due in this cycle
  finalReq : Bool         -- lines reach their confirm distance in this cycle (R253)
  overRun : Bool          -- in a run of repeated lines
  slots : Vector ImgSlot 4
  calCmd : Nat            -- CAL_CMD under way, 0 none
  calState : Nat          -- CAL_STATE
  calLeft : Nat
  calN : Nat              -- CAL_LINES of the capture under way (R241)
  calAt : ST              -- its next internal trigger
  calSlots : List (Nat × Nat)  -- ROWS and ILLUM of its slots
  calSum : List (List Nat)
  weak : Nat              -- WEAK_PIXELS
  edges : Vector Int 4    -- BAR_EDGE1–BAR_EDGE4
  edgeN : Nat             -- edges found by CAL_CMD 4
  rowEdge : Vector (Option Int) 4  -- P_r of CAL_CMD 3
  edgeMean : Vector (Option Int) 4 -- row means of the previous line
  edgeDue : Int
  calDoc : Bool           -- the document under way is the one CAL_CMD 3 or 4 applies to
  deriving DecidableEq, Repr

def ImgPort.reset : ImgPort :=
  { doc := 0, nextLsn := 0, finalMark := -1, lastTrain := 0, overruns := 0, revisits := 0, retracted := 0,
    docs := 0, cur := none, trains := [], lit := [], lines := [], hist := [],
    scanGate := false, longJob := none, trig := none, late := none, endReq := false, finalReq := false, overRun := false, slots := Vector.replicate 4 ImgSlot.reset, calCmd := 0,
    calState := 0, calLeft := 0, calN := 0, calAt := 0, calSlots := [], calSum := [], weak := 0, edges := Vector.replicate 4 posMin, edgeN := 0,
    rowEdge := Vector.replicate 4 none, edgeMean := Vector.replicate 4 none, edgeDue := 0, calDoc := false }

/-- A stream record in the Carousel: its bytes, the reservation it is charged to, and whether it is a DOC_END. -/
structure CarRec where
  key : Nat
  bytes : List Byte
  isEnd : Bool
  se : Bool               -- an SE_WORDS record, made from the result queue (R387)
  on : Option Path        -- the path its sending has begun on
  deriving DecidableEq, Repr

/-- A readback sample line waiting for its IMG1 line (R259): target position, the black dots. -/
structure RbPend where
  pos : Int
  dots : Nat
  deriving DecidableEq, Repr

/-- The Image Engine, the Carousel and the readback measurement. -/
structure ImgSt where
  ports : Vector ImgPort 2
  recs : List CarRec             -- records not yet taken, oldest first
  resvs : List (Nat × Nat)       -- reservations: key and bytes left
  rbPend : List RbPend
  rbMissed : Nat
  deriving DecidableEq, Repr

def ImgSt.reset : ImgSt :=
  { ports := Vector.replicate 2 ImgPort.reset, recs := [], resvs := [], rbPend := [], rbMissed := 0 }

/-- A command delivered to a solenoid channel (R269): ON, PULSE, OFF (of a pair or not), or the retry after a trip (R286). -/
inductive SolAsk where
  | on
  | pulse
  | off (pair : Bool)
  | retry
  deriving DecidableEq, Repr

/-- One solenoid channel (spec/09). -/
structure SolSt where
  state : Nat             -- STATE, 8 apart: 0 OFF, 1 QUEUED, 2 PEAK, 3 HOLD, 4 PROP, 5 DECAY, 6 RETRY, 7 FAULT
  ttpSlow : Bool
  ttpFast : Bool
  coupled : Bool
  shortGnd : Bool
  shortSup : Bool
  overTemp : Bool
  derated : Bool
  cmd : Bool              -- commanded level
  ttpLatch : Bool         -- latched off by TTP_ACT (R273)
  current : Nat           -- CURRENT, mA
  lastTtp : Nat
  lastWait : Nat
  onCount : Nat
  extensions : Nat
  minStretch : Nat
  ocTrips : Nat
  coupledWith : Nat
  lastDecay : Nat
  onSt : ST               -- the low side was turned on here (R271, R288)
  peakSt : ST             -- PEAK start
  reached : Option ST     -- current reached I_PEAK
  holdSt : ST             -- HOLD on MAIN24 since (R283)
  holdFrom : ST           -- HOLD_MAX counts from here (R274, R276)
  pulseOff : Option ST    -- pending OFF of a PULSE
  minOff : Option ST      -- pending OFF of the 40 000-tick minimum (R271)
  decaySt : ST
  retryAt : Option ST     -- R286
  tripped : Bool          -- a trip in this profile
  phase : Nat             -- dither phase (R277)
  target : Nat            -- regulation target of the last 1000-tick update, mA
  tw : Int                -- R282
  th : Int
  rMeas : Nat
  rLearn : Nat
  trkLimit : Nat          -- 3 AT_HIGH, 4 AT_LOW, 0 neither (R284)
  mismatches : Nat
  winSt : Option ST       -- resistance window under way (R283)
  winBad : Bool           -- the high side went to BOOST during it
  winDone : Bool          -- a window was begun in this HOLD phase
  asks : List SolAsk      -- commands delivered in this cycle (R269)
  deriving DecidableEq, Repr

def SolSt.reset : SolSt :=
  { state := 0, ttpSlow := false, ttpFast := false, coupled := false,
    shortGnd := false, shortSup := false, overTemp := false, derated := false, cmd := false, ttpLatch := false,
    current := 0, lastTtp := 0, lastWait := 0, onCount := 0, extensions := 0, minStretch := 0, ocTrips := 0,
    coupledWith := 0xFF, lastDecay := 0, onSt := 0, peakSt := 0, reached := none, holdSt := 0,
    holdFrom := 0, pulseOff := none, minOff := none, decaySt := 0, retryAt := none, tripped := false,
    phase := 0, target := 0, tw := 0, th := 0, rMeas := 0, rLearn := 12000, trkLimit := 0, mismatches := 0,
    winSt := none, winBad := false, winDone := false, asks := [] }

/-- One bank of four channels (R267, R275, R278). -/
structure BankSt where
  fault : Nat             -- BANK_STATE
  holdSum : Nat
  queue : List (ST × Fin 8)  -- PEAK requests in serving order, with the cycle each was made in
  maxWait : Nat
  limited : Bool          -- BANK_LIMITED
  deriving DecidableEq, Repr

def BankSt.reset : BankSt := ⟨0, 0, [], 0, false⟩

/-- The BOOST rail (R279, R280). -/
structure BoostSt where
  v : Nat                 -- BOOST_V, mV
  rechargeNow : Nat
  recovered : Nat
  clampCount : Nat
  clampEv : Option ST     -- when EV369 was last raised
  lowSince : Option ST    -- below BOOST_OK with a request queued since
  lowRaised : Bool        -- EV368 raised, BOOST_OK not yet reached again
  propSt : Option ST      -- the last 1000-tick update (R277, R278)
  modelSt : Option ST     -- the last 1 ms update of the coil models (R282)
  deriving DecidableEq, Repr

def BoostSt.reset : BoostSt :=
  { v := 0, rechargeNow := 0, recovered := 0, clampCount := 0, clampEv := none, lowSince := none, lowRaised := false, propSt := none,
    modelSt := none }

/-- One converter slice (R298, R300). -/
structure SliceSt where
  state : Nat             -- SL_STATE: 0 in service, 1 CALIBRATING, 2 READY, 3 FAULTED
  offset : Int            -- OFFSET
  gain : Nat              -- GAIN
  calCount : Nat
  bad : Bool              -- found faulted, and no calibration passed since
  back : Bool             -- SLICE_CLEAR has sent it back to calibration (R300)
  deriving DecidableEq, Repr

def SliceSt.reset (st : Nat) : SliceSt := ⟨st, 0, 32768, 0, false, false⟩

/-- What a host sequencer is doing (R308–R310). -/
inductive SqPhase where
  | stopped
  | halted                       -- its role is not filled (R300)
  | waiting                      -- for a trigger
  | active (acq : ST)            -- a repetition, its acquisition begun at `acq`
  | held                         -- a repetition that restarts when the slice is free again (R313)
  | delay (til : ST)             -- between entries
  deriving DecidableEq, Repr

/-- An urgent conversion that runs (R312). -/
structure UrgentRun where
  slot : Fin 8
  acq : ST                -- start of its acquisition
  len : Nat               -- ACQ
  src : Nat               -- SRC of its trigger
  ch : Nat
  filt : Option (Fin 16)  -- FILTER
  deriving DecidableEq, Repr

/-- One sequencer, with the urgent conversion on the slice of its role. -/
structure SqSt where
  phase : SqPhase
  entry : Nat             -- ENTRY
  rep : Nat               -- repetitions of the entry that are complete
  tag : Nat               -- source code of the entry's results
  loops : Nat
  preempts : Nat
  trigLost : Nat
  latched : Option Nat    -- latched trigger
  lostRun : Bool          -- in a run of lost triggers
  table : List Byte       -- table of the present pass (R311)
  len : Nat               -- LENGTH of the present pass
  stopAt : Bool           -- RUN is 0 and a conversion is in flight (R310)
  again : Bool            -- and RUN has become 1 again
  starts : Bool           -- a start of this cycle (R306)
  stops : Bool            -- a stop of this cycle, which wins over a start
  urgent : Option UrgentRun
  disp : Bool             -- the present run of urgent conversions has displaced the sequence
  deriving DecidableEq, Repr

def SqSt.reset : SqSt :=
  { phase := .stopped, entry := 0, rep := 0, tag := 0, loops := 0, preempts := 0, trigLost := 0, latched := none,
    lostRun := false, table := [], len := 1, stopAt := false, again := false, starts := false, stops := false,
    urgent := none, disp := false }

/-- One urgent slot (R312, R314). -/
structure UrgSt where
  pend : Option ST        -- trigger cycle of the pending request
  count : Nat
  overruns : Nat
  maxWait : Nat
  ovrRun : Bool
  deriving DecidableEq, Repr

def UrgSt.reset : UrgSt := ⟨none, 0, 0, 0, false⟩

/-- A result on its way to a filter or the queue. -/
structure SeResult where
  ch : Nat
  src : Nat
  value : Nat
  refU : Bool
  slice : Nat
  st : ST                 -- sampling instant
  deriving DecidableEq, Repr

/-- A result on its way to the queue: 0 of P0, 1 of P1, then the filters (R328). -/
structure SeDone where
  rank : Nat
  r : SeResult
  filtU : Bool            -- FILT_UNSETTLED
  deriving DecidableEq, Repr

/-- One sinc filter (R323–R326). -/
structure FiltSt where
  xs : List (Nat × Bool)  -- inputs since the reset, newest first, with REF_UNSETTLED
  taken : Nat             -- inputs since the reset
  phase : Nat             -- inputs since the last output
  last : Nat              -- LAST
  starved : Nat
  starvedRun : Bool
  latest : Option SeResult
  fresh : Bool            -- `latest` has arrived since the last pace point
  paceAt : ST             -- next pace point
  deriving DecidableEq, Repr

def FiltSt.reset : FiltSt := ⟨[], 0, 0, 0, 0, false, none, false, 0⟩

/-- The Sense Engine (spec/10). -/
structure SeSt where
  slices : Vector SliceSt 4
  roles : Vector (Option (Fin 4)) 3   -- slices of P0, P1, P2
  spare : Option (Fin 4)
  rotations : Nat
  rotNext : ST                        -- when the next rotation falls due
  rotDue : Bool
  refSt : Option ST                   -- REF_EN became 1 here
  refOff : ST                         -- and 0 here
  refState : Nat                      -- REF_STATE
  refEv : Bool                        -- EV400 raised since
  trigOverruns : Nat
  edges : Vector Nat 4                -- EDGES of TRIG0–TRIG3
  pinDue : List (ST × Fin 4)          -- edges on their way (R305)
  sqs : Vector SqSt 2
  urgs : Vector UrgSt 8
  filts : Vector FiltSt 16
  queue : List Nat                    -- result words, oldest first
  lost : Nat
  lostNext : Bool
  lostRun : Bool
  wmRaised : Bool                     -- EV404 raised, FILL not yet below WATERMARK ÷ 2
  dmaWr : Nat
  dmaStall : Bool
  capState : Nat
  capTrig : Option ST                 -- trigger of the armed capture
  capSt0 : Nat
  capCount : Nat
  capN : Nat                          -- CAP_N of the running capture
  temps : Vector Int 8                -- DIE_T, TS0–TS2, AXT0–AXT3
  trigs : List Nat                    -- source codes of this cycle's triggers (R305)
  words : List SeDone                 -- results completed in this cycle (R328)
  opts : List (ST × Nat)              -- OPT requests that are pending, in the order of their service (R316)
  deriving DecidableEq, Repr

def SeSt.reset : SeSt :=
  { slices := #v[SliceSt.reset 0, SliceSt.reset 0, SliceSt.reset 0, SliceSt.reset 1],
    roles := #v[some 0, some 1, some 2], spare := some 3, rotations := 0, rotNext := 0, rotDue := false,
    refSt := none, refOff := 0, refState := 0, refEv := false, trigOverruns := 0, edges := Vector.replicate 4 0,
    pinDue := [], sqs := Vector.replicate 2 SqSt.reset, urgs := Vector.replicate 8 UrgSt.reset,
    filts := Vector.replicate 16 FiltSt.reset, queue := [], lost := 0, lostNext := false, lostRun := false,
    wmRaised := false, dmaWr := 0, dmaStall := false, capState := 0, capTrig := none, capSt0 := 0, capCount := 0,
    capN := 0, temps := Vector.replicate 8 0, trigs := [], words := [], opts := [] }

/-- The open DOMAIN transfer of a path (R385): object, direction, total length, bytes written so far or the snapshot of a
read, next offset, cycle of the last segment. -/
structure DomXfer where
  idx : Nat
  wr : Bool
  total : Nat
  data : List Byte
  off : Nat
  lastSt : ST
  deriving DecidableEq, Repr

/-- The staging set of one path (R340): staged values in key order, and staged DOMAIN contents by index. -/
structure Staging where
  vals : List (Nat × Int)
  doms : List (Nat × List Byte)
  deriving DecidableEq, Repr

/-- An accepted COMMIT on its way to its epoch cycle (R341): the sets it takes as a mask [0] N, [1] H, [2] C, [3] A,
the cycle it was accepted in, and the paths whose COMMIT it answers. -/
structure Epoch where
  mask : Nat
  at_ : ST
  writers : List Path
  deriving DecidableEq, Repr

/-- The holder of one claim group (R346–R349): its path and the cycle of its last transaction. -/
structure Claim where
  path : Option Path
  lastSt : ST
  deriving DecidableEq, Repr

/-- One write accepted in the current cycle, for the tie rule R344: object, path, and whether it was staged, with the value
the object or the set held before it. -/
structure TickWrite where
  key : Nat
  path : Path
  staged : Bool
  before : Option Int
  domBefore : Option (List Byte) -- the same of a DOMAIN content
  deriving DecidableEq, Repr

/-- One NOR slot of the stored parameter set (R350–R353). -/
structure ParamSlot where
  valid : Bool                   -- the CRC verifies
  layout : Nat
  gen : Nat                      -- G
  vals : List (Nat × Int)
  doms : List (Nat × List Byte)
  deriving DecidableEq, Repr

/-- The dictionary, Commit Gate, claims and the stored set (spec/11). -/
structure CtlSt where
  dict : SMap Int                 -- every setting; an unlisted object reads its default (R337, R361)
  doms : SMap (List Byte)         -- every written DOMAIN table by index; an unlisted table reads its default (R365)
  staging : Vector Staging 4
  epoch : Option Epoch
  epochs : Nat                    -- EPOCHS
  lastEpochSt : Nat               -- LAST_EPOCH_ST
  rejects : Nat                   -- REJECTS
  lastReject : Nat                -- LAST_REJECT
  claims : Vector Claim 24
  preimg : List (Nat × Option Int)          -- SERVICE-ONLY objects written and not stored: value before (R38)
  preimgDom : List (Nat × List Byte)        -- the same for DOMAIN objects
  tiesLost : Nat                  -- TIES_LOST
  lastTie : Nat                   -- LAST_TIE
  lastLoser : Nat                 -- LAST_LOSER
  tickSt : ST                     -- cycle that `tick` belongs to
  tick : List TickWrite           -- writes accepted in that cycle (R344)
  storeState : Nat                -- STORE_STATE
  storeBy : Option Path           -- path whose STORE_ALL is running
  storeTo : Fin 2                 -- the slot it writes (R351)
  loadedLayout : Nat              -- LOADED_LAYOUT
  dropped : Nat                   -- DROPPED
  defaulted : Nat                 -- DEFAULTED
  stores : Nat                    -- STORES
  source : Nat                    -- SOURCE
  slots : Vector ParamSlot 2      -- NOR slots A and B
  xfers : Vector (Option DomXfer) 4   -- open DOMAIN transfer per path (R385)
  status : Vector Nat 4           -- status last returned on each path (R335)
  result : Vector (List Byte) 4   -- data last returned by a read on each path (R336)
  cobSet : List Nat               -- COB-ID objects written since the stored set was erased (R378)
  deriving DecidableEq, Repr

def CtlSt.reset : CtlSt :=
  { dict := [], doms := [], staging := Vector.replicate 4 ⟨[], []⟩, epoch := none, epochs := 0, lastEpochSt := 0,
    rejects := 0, lastReject := 0, claims := Vector.replicate 24 ⟨none, 0⟩, preimg := [], preimgDom := [],
    tiesLost := 0, lastTie := 0, lastLoser := 0, tickSt := 0, tick := [], storeState := 0, storeBy := none, storeTo := 0,
    loadedLayout := 4, dropped := 0, defaulted := 0, stores := 0, source := 0,
    slots := Vector.replicate 2 ⟨false, 0, 0, [], []⟩, xfers := Vector.replicate 4 none,
    status := Vector.replicate 4 0, result := Vector.replicate 4 [], cobSet := [] }

/-- One Job Ledger entry (R354–R359). -/
structure Job where
  jobId : Nat
  kind : Nat
  lane : Nat
  dir : Nat
  first : Nat
  last : Nat
  startWm : Nat
  endWm : Nat
  state : Nat        -- STATE (R358)
  cause : Nat
  progress : Nat
  stActive : Nat
  stEnd : Nat
  ignored : Nat
  order : Nat        -- order of submission (R356)
  actOrder : Nat     -- order of becoming ACTIVE (R128)
  resv : Nat         -- Carousel reservation held (R251)
  waitEv : Bool      -- EV293 raised for this wait
  conflict : Bool    -- EV151 raised (R128)
  deriving DecidableEq, Repr

def Job.reset : Job :=
  { jobId := 0, kind := 0, lane := 0, dir := 1, first := 0, last := 0, startWm := 0xFFFF, endWm := 0xFFFF, state := 0,
    cause := 0, progress := 0, stActive := 0, stEnd := 0, ignored := 0, order := 0, actOrder := 0, resv := 0,
    waitEv := false, conflict := false }

/-- The Job Ledger. -/
structure LedgerSt where
  jobs : Vector Job 64
  sel : Vector Nat 4     -- SELECT per path
  nextOrder : Nat
  nextAct : Nat
  deriving DecidableEq, Repr

def LedgerSt.reset : LedgerSt :=
  { jobs := Vector.replicate 64 Job.reset, sel := Vector.replicate 4 0, nextOrder := 0, nextAct := 0 }

/-- What the engine holds of one transmit PDO (R371, R372). -/
structure Tpdo where
  sent : List Byte         -- payload last sent
  sentSt : Option ST       -- cycle of the last send
  timerSt : ST             -- cycle the event timer counts from
  syncs : Nat              -- SYNCs counted
  due : Bool               -- a send held back by the inhibit time
  testSt : Option ST       -- cycle of the last change test
  deriving DecidableEq, Repr

/-- What a cycle asks of the TPDOs (R372): a change test, an event timer, the end of an inhibit time, a SYNC. -/
inductive PdoAsk where
  | change (n : Fin 4)
  | timer (n : Fin 4)
  | inhibitEnd (n : Fin 4)
  | sync
  deriving DecidableEq, Repr

/-- The PDO machinery: the last sends, the payloads that wait for the next SYNC, and what this cycle asks (R371, R372). -/
structure PdoSt where
  tpdos : Vector Tpdo 4
  waits : Vector (Option (List Byte)) 4
  asks : List PdoAsk
  deriving DecidableEq, Repr

def PdoSt.reset : PdoSt :=
  { tpdos := Vector.replicate 4 ⟨[], none, 0, 0, false, none⟩, waits := Vector.replicate 4 none, asks := [] }

/-- What the Ringmaster keeps of one event (R442). -/
structure EvRec where
  flag : Bool
  count : Nat
  lastSt : Nat
  d1 : Nat
  d2 : Nat
  deriving DecidableEq, Repr

def EvRec.reset : EvRec := ⟨false, 0, 0, 0, 0⟩

/-- A record in a host or application event queue (R391). -/
structure EvtRec where
  ev : Nat
  prio : Nat
  lost : Bool
  seq : Nat
  d1 : Nat
  d2 : Nat
  st : Nat
  deriving DecidableEq, Repr

/-- One event queue: records oldest first, the next sequence number, and whether a record was lost since the last one
(R391, R444). -/
structure EvQueue where
  recs : List EvtRec
  seq : Nat
  lostNext : Bool
  lostCount : Nat
  lostRun : Bool
  deriving DecidableEq, Repr

def EvQueue.reset : EvQueue := ⟨[], 0, false, 0, false⟩

/-- A raise of the present cycle that has been recorded and not yet routed, or one released from BOOT: its cycle and the mode code then (R443). -/
structure CycRaise where
  st : ST
  mode : Nat
  r : Raise
  deriving DecidableEq, Repr

/-- The Ringmaster (spec/15). -/
structure RmSt where
  recs : SMap EvRec
  sel : Vector Nat 4                 -- SELECT of 0x2B01 per path (R456)
  lastEvent : Nat                    -- LAST_EVENT
  table : SMap Nat                   -- event table entries that differ from the default (R440)
  raised : List Raise                -- raises of the present command, in the order of their raising (R443)
  cyc : List CycRaise                -- raises of the present cycle, to be routed as it ends (R443)
  held : List (ST × Raise)           -- raises held between BOOT and STANDBY, each with its cycle (R446)
  app : EvQueue                      -- the application's queue (R444)
  fabric : List (ST × Nat)           -- FABRIC codes due at t + 2 (R444)
  cutDue : List (ST × Nat × Nat)     -- event cuts due at t + 2: event and its detail word 1 (R447)
  deriving DecidableEq, Repr

def RmSt.reset : RmSt :=
  { recs := [], sel := Vector.replicate 4 0, lastEvent := 0, table := [], raised := [], cyc := [], held := [], app := EvQueue.reset,
    fabric := [], cutDue := [] }

/-- One Trouble Log entry (R451). -/
structure TlEntry where
  st : Nat
  seq : Nat
  ev : Nat
  prio : Nat
  incomplete : Bool
  lost : Bool
  unit : Nat
  lane : Nat
  pos : Int
  mode : Nat
  d1 : Nat
  d2 : Nat
  deriving DecidableEq, Repr

/-- The trailer of the NOR copy (R454, R476). -/
structure TlTrailer where
  incomplete : Bool
  cause : Nat
  skipped : Nat
  deriving DecidableEq, Repr

/-- The NOR copy of the log (R454): start marker, the trailer when it is valid, entries. -/
structure TlCopy where
  marker : Bool
  trailer : Option TlTrailer
  entries : List TlEntry
  deriving DecidableEq, Repr

/-- The Trouble Log (R450–R454). -/
structure TlSt where
  ring : List TlEntry       -- oldest first, at most 4096
  head : Nat                -- HEAD
  nextSeq : Nat             -- NEXT_SEQ
  wraps : Nat               -- WRAPS
  dropped : Nat             -- TL_DROPPED
  saveResult : Nat          -- SAVE_RESULT
  lostNext : Bool
  dropRun : Bool            -- in a run of drops
  cycSt : ST                -- cycle that `cycN` counts
  cycN : Nat                -- entries written in that cycle
  copy : TlCopy
  deriving DecidableEq, Repr

def TlSt.reset : TlSt :=
  { ring := [], head := 0, nextSeq := 1, wraps := 0, dropped := 0, saveResult := 0, lostNext := false, dropRun := false,
    cycSt := 0, cycN := 0, copy := ⟨false, none, []⟩ }

/-- The Safety Net inputs (R447). The condition of an input and its latch are held apart. -/
structure SnSt where
  coverLow : Bool
  coverDue : Option ST        -- release time of the COVER cut, COVER# high (tMS41)
  haltLow : Bool
  haltLatch : Bool
  evLatch : Bool              -- EVENT_CUT
  pdCut : Bool                -- PD_CUT
  monFail : Bool              -- the last monitor self-test failed (R445)
  monLatch : Bool
  ot : Vector Bool 2          -- comparator of HEAD_A_OT, HEAD_B_OT
  otLatch : Vector Bool 2
  ov : Vector Bool 2
  ovLatch : Vector Bool 2
  vhLow : Vector Bool 2       -- VHA_FLOOR, VHB_FLOOR
  boostLow : Bool             -- BOOST_FLOOR
  cutCount : Nat              -- CUT_COUNT
  lastCutSt : Nat             -- LAST_CUT_ST
  deriving DecidableEq, Repr

def SnSt.reset : SnSt :=
  { coverLow := false, coverDue := none, haltLow := false, haltLatch := false, evLatch := false, pdCut := false,
    monFail := false, monLatch := false, ot := Vector.replicate 2 false, otLatch := Vector.replicate 2 false,
    ov := Vector.replicate 2 false, ovLatch := Vector.replicate 2 false, vhLow := Vector.replicate 2 true,
    boostLow := true, cutCount := 0, lastCutSt := 0 }

/-- A remote wake under way (R393). -/
inductive RwPhase where
  | idle | driving (since : ST) | released (since : ST) | awaitK (since : ST) | spent
  deriving DecidableEq, Repr

/-- A raster record that is complete and waits for room (R388): head, body length, lines. -/
structure RasterWait where
  head : Fin 2
  len : Nat
  lines : List (Nat × List Byte)   -- header word and payload of each line
  deriving DecidableEq, Repr

/-- One direction-in of a stream: bytes of the record being received, and complete records that wait (R388, R389). -/
structure StreamIn where
  buf : List Byte
  waits : List RasterWait
  halted : Bool           -- EP 0x01 halted, or the IN port discards writes
  odd : Bool              -- C: the next byte is the pad byte of R386
  named : Option Bool     -- does the record under way arrive on the path STREAM_CONFIG named at its start (R387)?
  deriving DecidableEq, Repr

def StreamIn.reset : StreamIn := ⟨[], [], false, false, none⟩

/-- USB, path H (spec/13). -/
structure UsbSt where
  state : Nat             -- USB_STATE
  prev : Nat              -- state that a resume returns to
  vbus : Bool             -- VBUS is valid
  speed : Nat
  wakeCause : Nat
  remoteEn : Bool
  resumes : Nat
  recordErrs : Nat
  reqCount : Nat          -- H request count of GET_RESULT (R383)
  stalled : Bool          -- the last request was stalled
  idleSt : ST             -- bus idle in suspend since
  rw : RwPhase
  attempts : Nat          -- remote-wake attempts made
  hostK : Bool            -- a K from the host has been seen in this suspend
  cause : Nat             -- cause of the resume under way
  inp : StreamIn
  q : EvQueue
  packet : List EvtRec    -- records of the last interrupt IN packet (R391)
  nakked : Bool           -- the last bulk OUT packet was NAKed
  inOff : Nat             -- bytes of the outgoing record that acknowledged packets have carried (R390)
  inFull : Bool           -- the last bulk IN packet was full, and no packet has ended its transfer (R390)
  bulk : List Byte        -- the last bulk IN packet acknowledged
  deriving DecidableEq, Repr

def UsbSt.reset : UsbSt :=
  { state := 0, prev := 0, vbus := false, speed := 0, wakeCause := 0, remoteEn := false, resumes := 0,
    recordErrs := 0, reqCount := 0, stalled := false, idleSt := 0, rw := .idle, attempts := 0, hostK := false,
    cause := 0, inp := StreamIn.reset, q := EvQueue.reset, packet := [], nakked := false,
    inOff := 0, inFull := false, bulk := [] }

/-- The mailbox (R400, R401). -/
structure MailSt where
  index : Nat
  sub : Nat
  len : Nat
  offset : Nat
  code : Nat
  busy : Bool
  done : Bool
  ignored : Bool
  seq : Nat
  data : List Byte
  late : Option Nat       -- code of a long request that has been answered and not yet reported (R401)
  deriving DecidableEq, Repr

def MailSt.reset : MailSt := ⟨0, 0, 0, 0, 0, false, false, false, 0, [], none⟩

/-- The Mirror's snapshot (R397): address and cycle of the previous Mirror read, and the words of the snapshot. -/
structure MirrorSt where
  prev : Option Nat       -- none after any access outside the Mirror
  prevSt : ST
  snap : List Byte
  last : Option (List Byte)   -- the Mirror as the last completed cycle left it; none where no cycle has ended since power was applied
  deriving DecidableEq, Repr

/-- The companion bus, path C (spec/13). -/
structure CbSt where
  ioLevel : Bool          -- IO_LEVEL, from CB_VSEL
  recordErrs : Nat
  underruns : Nat
  inp : StreamIn
  outOff : Nat            -- words read of the record on the OUT port
  q : EvQueue
  evOff : Nat             -- words read of the record on the event port
  fifo : List (Nat × List Byte)   -- posted entries: object key and data
  dropped : Nat
  dropRun : Bool
  refused : Nat
  lastRefused : Nat
  processed : Nat
  refusedSeen : Nat       -- REFUSED at the last read of 0x2A12:03 (R402)
  pwIndex : Nat
  pwSub : Nat
  pwLen : Nat
  pwVal : Nat
  mb : MailSt
  mirror : MirrorSt
  word : Nat              -- the word the last read returned
  lastSt : Option ST      -- last C transaction (R422)
  rstLow : Bool           -- CB_RST# is low
  deriving DecidableEq, Repr

def CbSt.reset : CbSt :=
  { ioLevel := false, recordErrs := 0, underruns := 0, inp := StreamIn.reset, outOff := 0, q := EvQueue.reset,
    evOff := 0, fifo := [], dropped := 0, dropRun := false, refused := 0, lastRefused := 0, processed := 0,
    refusedSeen := 0, pwIndex := 0, pwSub := 0, pwLen := 0, pwVal := 0, mb := MailSt.reset, mirror := ⟨none, 0, [], none⟩,
    word := 0, lastSt := none, rstLow := false }

/-- A CAN frame sent by the engine (R407). -/
structure CanFrame where
  id : Nat
  data : List Byte
  fd : Bool               -- ISO CAN FD; else classical CAN
  brs : Bool              -- the data phase runs at DATA_ACT
  deriving DecidableEq, Repr

/-- One USDO session (R415): the client node, the object, and the transfer. -/
structure UsdoSess where
  client : Nat
  key : Nat
  wr : Bool
  total : Nat
  data : List Byte
  off : Nat
  lastSt : ST
  deriving DecidableEq, Repr

/-- The last USDO answer: client, abort code (0 none), data returned. -/
structure UsdoReply where
  client : Nat
  abort : Nat
  data : List Byte
  deriving DecidableEq, Repr

/-- One consumer heartbeat (R418): the node's last heartbeat while the entry is armed. -/
abbrev HbArm := Option ST

/-- The Last Ride round (R420–R428). -/
structure LrSt where
  state : Nat             -- LR_STATE
  round : Nat
  outcome : Nat
  reason : Nat
  node : Nat
  wakeCause : Nat
  rounds : Nat
  sleeps : Nat
  cancels : Nat
  master : Bool           -- the engine is the master of the round
  startSt : ST            -- CALL frame end, own answer, or COMMIT frame end
  answers : List (Nat × Nat)   -- members that answered: node and reason, 0 for READY
  veto : Option Nat       -- node whose VETO came before COMMIT
  evSince : Bool          -- an event of LR_WAKE_PRIO or higher since the CALL (R422)
  commitSent : Bool       -- the master's COMMIT is on its way
  ready : Bool            -- the participant's answer was READY
  vetoSent : Bool         -- the participant has sent its VETO
  localWake : Bool        -- a local wake source has asserted since the CALL (R422)
  lostRound : Bool        -- bus-off left this round: a WAKE follows recovery (R428)
  deriving DecidableEq, Repr

def LrSt.reset : LrSt :=
  { state := 0, round := 0, outcome := 0, reason := 0, node := 0, wakeCause := 0, rounds := 0, sleeps := 0,
    cancels := 0, master := false, startSt := 0, answers := [], veto := none, evSince := false, commitSent := false,
    ready := false, vetoSent := false, localWake := false, lostRound := false }

/-- The CAN controller and the CANopen FD services (spec/14). -/
structure NetSt where
  nmt : Nat               -- NMT_STATE
  nodeAct : Nat
  nomAct : Nat
  dataAct : Nat
  busState : Nat          -- BUS_STATE
  tec : Nat
  rec_ : Nat
  busoffs : Nat
  rpdoRefused : Nat
  rpdoShort : Nat
  lastRefusal : Nat
  refRun : Bool           -- in a run of refused RPDO frames (R416)
  emcySent : Nat
  emcyLost : Nat
  emcyRun : Bool
  emcyQ : List (List Byte)
  emcySt : Option ST      -- the previous EMCY
  errReg : Nat            -- ERROR_REGISTER at the last event (R417)
  hbSt : ST               -- the previous heartbeat of the engine
  hbTimeouts : Nat
  hb : Vector HbArm 4
  usdo : List UsdoSess
  reply : Option UsdoReply
  usdoWait : List (Nat × Nat)   -- objects whose write is still to be answered, with the client (R415)
  tx : List CanFrame      -- frames sent in cycle txSt
  txSt : ST
  lr : LrSt
  deriving DecidableEq, Repr

def NetSt.reset : NetSt :=
  { nmt := 0, nodeAct := 16, nomAct := 500, dataAct := 2000, busState := 0, tec := 0, rec_ := 0, busoffs := 0,
    rpdoRefused := 0, rpdoShort := 0, lastRefusal := 0, refRun := false, emcySent := 0, emcyLost := 0, emcyRun := false,
    emcyQ := [], emcySt := none, errReg := 0, hbSt := 0, hbTimeouts := 0, hb := Vector.replicate 4 none, usdo := [],
    reply := none, usdoWait := [], tx := [], txSt := 0, lr := LrSt.reset }

/-- One serial port (R430–R435). -/
structure UartSt where
  rxHold : Option Nat     -- received word, RX_FULL
  txHold : Option Nat     -- TX_FULL
  txShift : Option Nat    -- TX_BUSY
  rxChars : Nat
  txChars : Nat
  overruns : Nat
  framing : Nat
  parity : Nat
  breaks : Nat
  noise : Nat
  txDrops : Nat
  errRun : Bool           -- in a run of flagged or lost characters (R432)
  breakWait : Bool        -- waits for RXD high after a BREAK (R431)
  rtsWake : Bool          -- RTS# high since a wake, until the first read (R435)
  rxBusy : Bool           -- the receive shifter is in a frame (R433)
  wakePend : Bool         -- EV477 is raised after the wake
  ctsLow : Bool           -- CTS# reads low
  deriving DecidableEq, Repr

def UartSt.reset : UartSt :=
  { rxHold := none, txHold := none, txShift := none, rxChars := 0, txChars := 0, overruns := 0, framing := 0, parity := 0,
    breaks := 0, noise := 0, txDrops := 0, errRun := false, breakWait := false, rtsWake := false, rxBusy := false, wakePend := false,
    ctsLow := false }


/-- The Tollgate (R465–R468). -/
structure TgSt where
  bucket : Nat            -- BUCKET, e
  allow : Nat             -- P_ALLOW
  fBoost : Nat
  off : Bool              -- f_boost is held at 0 since RUN or SERVICE was left, LOCKOUT or a power-down (R470, R475)
  fPrint : Nat
  fScan : Nat
  state : Nat             -- TG_STATE
  limited : Nat           -- LIMITED_PERIODS
  exRun : Nat             -- consecutive periods with every factor at its floor and x > 0
  exRaised : Bool         -- EV490 raised since TG_STATE was last 1
  deriving DecidableEq, Repr

def TgSt.reset : TgSt :=
  { bucket := 0, allow := 360000, fBoost := 1000, off := false, fPrint := 1000, fScan := 1000, state := 1, limited := 0, exRun := 0,
    exRaised := false }
/-- A power-down sequence under way (R474–R476). -/
structure PfRun where
  cause : Nat
  start : ST
  step : Nat              -- last step begun
  skipped : Nat           -- mask of skipped steps
  deriving DecidableEq, Repr

/-- The Power Manager (spec/16). -/
structure PwSt where
  on : Bool               -- SB3V3 is up
  present : Bool          -- the input is present
  kind : Nat              -- INPUT_KIND
  volts : Nat             -- INPUT_V
  hz : Nat                -- INPUT_HZ
  rails : Vector Nat 10   -- last means by rail code, mV (R460)
  iMain : Nat
  pMain : Nat
  flags : Nat             -- RAIL_FLAGS
  failed : Nat            -- mask of failed rails (R476)
  dips : Nat
  vcore : Nat             -- VCORE_SET
  roMin : Nat
  avs : Nat               -- the limit the last step ended at: 3 AT_HIGH, 4 AT_LOW, 0 neither (R464)
  critSteps : Nat
  wakeCause : Nat
  wakeLatency : Nat
  dozeCount : Nat
  onMask : Nat            -- ON_MASK
  switches : Nat          -- DOMAIN_SWITCHES
  pf : Option PfRun
  lastCause : Nat         -- LAST_PF_CAUSE
  lastSkipped : Nat       -- LAST_SKIPPED
  brownouts : Nat
  stagesOn : Bool         -- the stages of RUN are on (R469, R470)
  servoSt : Option ST     -- the servo boundary last taken (R199)
  avsSt : Option ST       -- the last count of the ring oscillators (R463)
  deriving DecidableEq, Repr

def PwSt.reset : PwSt :=
  { on := true, present := true, kind := 0, volts := 0, hz := 0, rails := Vector.replicate 10 0, iMain := 0, pMain := 0,
    flags := 0x000E, failed := 0, dips := 0, vcore := 900, roMin := 0, avs := 0, critSteps := 0, wakeCause := 0,
    wakeLatency := 0, dozeCount := 0, onMask := 0xA80000000C0C77, switches := 0, pf := none, lastCause := 0, lastSkipped := 0,
    brownouts := 0, stagesOn := false, servoSt := none, avsSt := none }

/-- What the NOR holds in one system image slot (R483, R484): the fields of its header that the engine judges or reports,
and the verdict on its digest and signature. -/
structure SysSlot where
  present : Bool          -- MAGIC, KIND and header version are as in R483
  version : Nat
  rollback : Nat
  api : Nat
  layout : Nat
  mirror : Nat
  boards : List Nat
  verified : Bool         -- the body digest and the signature verify
  incomplete : Bool       -- a transfer has not completed (R490)
  empty : Bool            -- header erased or never written
  fails : Nat             -- start-fail count in the boot record
  state : Nat             -- A_STATE, B_STATE
  deriving DecidableEq, Repr

def SysSlot.blank : SysSlot :=
  { present := false, version := 0, rollback := 0, api := 0, layout := 0, mirror := 0, boards := [], verified := false,
    incomplete := false, empty := true, fails := 0, state := 0 }

/-- One customer key slot of the one-time store (R482): 0 EMPTY, 1 ACTIVE, 2 REVOKED. -/
structure KeySlot where
  state : Nat
  x : Nat
  y : Nat
  deriving DecidableEq, Repr

/-- DFU in RECOVERY (R394, R488). -/
structure DfuSt where
  state : Nat             -- DFU 1.1 bState
  status : Nat            -- DFU 1.1 bStatus
  data : List Byte
  manifested : Bool       -- a manifestation has succeeded
  deriving DecidableEq, Repr

/-- Start-up, images, keys and debug access (spec/17). -/
structure BootSt where
  start : ST              -- step 1 of the boot (R485)
  recLow : Bool           -- REC# low
  slots : Vector SysSlot 2
  running : Fin 2
  bootTime : Nat
  rollback : Nat
  keys : Vector KeySlot 4
  appNor : List Byte      -- application image region
  appStage : List Byte    -- application staging region
  stageValid : Bool       -- STAGED
  updState : Nat
  lastResult : Nat
  bytesWritten : Nat
  dfu : DfuSt
  challenge : Nat         -- how many challenges have been drawn (R501)
  debugOn : Bool
  debugRefused : Nat      -- refusals since power-on
  deriving DecidableEq, Repr

/-- At delivery slot A holds the 4.1.0 image the defaults of R505 report, and slot B is empty (DEDUCED, log entry 21). -/
def BootSt.reset : BootSt :=
  { start := 0, recLow := false,
    slots := #v[{ present := true, version := 0x00040100, rollback := 0, api := 9, layout := 4, mirror := 2,
                  boards := [0x0301], verified := true, incomplete := false, empty := false, fails := 0, state := 0 },
                SysSlot.blank],
    running := 0, bootTime := 0, rollback := 0, keys := Vector.replicate 4 ⟨0, 0, 0⟩, appNor := [], appStage := [],
    stageValid := false, updState := 0, lastResult := 0, bytesWritten := 0, dfu := ⟨2, 0, [], false⟩, challenge := 0,
    debugOn := false, debugRefused := 0 }

/-- The application core as the engine sees it (R494–R500). -/
structure AppSt where
  state : Nat             -- 0x2012:01, without the debugger's halt
  version : Nat
  apiMin : Nat
  apiMax : Nat
  layout : Nat
  stopCause : Nat
  faultPc : Nat
  faultCause : Nat
  starts : Nat
  entry : Nat             -- address execution started at
  kickSt : ST             -- last WDOG_KICK, or the start (R500)
  haltTicks : Nat         -- ticks halted by the debugger since then
  haltSt : ST             -- start of the halt under way
  waiting : Option ST     -- deadline of a WAIT under way
  a0 : Nat                -- status the last call returned
  a1 : Nat                -- value the last call returned
  mem : SMap Byte         -- TCM, data window and B7 mailbox (R498)
  accFault : Option Nat   -- address of the last access-fault exception its core has raised in this run (R26, R498)
  deriving DecidableEq, Repr

def AppSt.reset : AppSt :=
  { state := 0, version := 0, apiMin := 0, apiMax := 0, layout := 0, stopCause := 0, faultPc := 0, faultCause := 0,
    starts := 0, entry := 0, kickSt := 0, haltTicks := 0, haltSt := 0, waiting := none, a0 := 0, a1 := 0, mem := [],
    accFault := none }

/-- Why a command stops the block with a fault. No command of this block faults: every operand meets a state the spec
describes (safe). -/
inductive Fault where
  /-- raised by no meaning: the block has no memory map of its own to leave (safe) -/
  | none
  deriving DecidableEq, Repr

/-- Why a command is refused by the model. -/
inductive Refusal where
  /-- the command has no meaning yet; raised by Dispatch alone (safe) -/
  | notModelled (mnemonic : String)
  deriving DecidableEq, Repr

/-- The whole machine. -/
structure State where
  md : ModeSt
  tu : TuSt
  msu : MsuSt
  heads : Vector HeadSt 2
  en : Vector EnergySt 2
  vl : Vector VhLoopSt 2
  rb : RbSt
  media : MediaSt
  opts : Vector OptSt 8
  supply : SupplySt
  govs : Vector GovSt 2
  cut : CutSt
  axes : Vector AxisSt 4
  img : ImgSt
  sols : Vector SolSt 8
  banks : Vector BankSt 2
  boost : BoostSt
  tg : TgSt
  se : SeSt
  usb : UsbSt
  cb : CbSt
  net : NetSt
  uarts : Vector UartSt 2
  pw : PwSt
  boot : BootSt
  app : AppSt
  ctl : CtlSt
  ledger : LedgerSt
  pdo : PdoSt
  rm : RmSt
  tl : TlSt
  sn : SnSt

  turns : List Instr       -- line events and waymarks of this cycle whose turn has not come, in the order of R69
  free : Nat               -- the model's own: how many free values have been taken
  pending : List Instr     -- the commands that wait, first in, first out
  deriving DecidableEq, Repr

/-- The state right after reset: BOOT, every field at the value the spec states for reset, or the value of log entry 1. -/
def State.reset : State :=
  { md := ModeSt.reset, tu := TuSt.reset, msu := MsuSt.reset, heads := Vector.replicate 2 HeadSt.reset,
    en := Vector.replicate 2 EnergySt.reset, vl := Vector.replicate 2 VhLoopSt.reset, rb := RbSt.reset,
    media := MediaSt.reset, opts := Vector.replicate 8 OptSt.reset, supply := SupplySt.reset,
    govs := Vector.replicate 2 GovSt.reset, cut := CutSt.reset, axes := Vector.ofFn (fun n : Fin 4 => { AxisSt.reset with kind := if n.val = 1 then 1 else 0 }),
    img := ImgSt.reset, sols := Vector.replicate 8 SolSt.reset, banks := Vector.replicate 2 BankSt.reset,
    boost := BoostSt.reset,
    tg := TgSt.reset,
    se := SeSt.reset,
    usb := UsbSt.reset, cb := CbSt.reset, net := NetSt.reset, uarts := Vector.replicate 2 UartSt.reset,
    pw := PwSt.reset, boot := BootSt.reset, app := AppSt.reset,
    ctl := CtlSt.reset, ledger := LedgerSt.reset, pdo := PdoSt.reset, rm := RmSt.reset, tl := TlSt.reset,
    sn := SnSt.reset,

    turns := [], free := 0, pending := [] }

end Sys2Proof.Machine
end

