-- ==== Sys2Proof/Machine/Ops.lean ====
section
/-!
DEFINITION. Ops.lean: the named operations every unit uses: reading and setting a dictionary setting, raising an event,
changing one element of a unit's array, and what the present mode allows.
-/

namespace Sys2Proof.Machine

open Sys2Proof

/-- The ST of the present cycle (R84). -/
def now (s : State) : ST := s.tu.st

/-! Dictionary settings. -/

/-- The value in effect of the object with a key (R336): its default until it is written. -/
def objK (s : State) (k : Nat) : Int := SMap.get objDefault s.ctl.dict k

/-- The value in effect of index:sub. -/
def obj (s : State) (idx sub : Nat) : Int := objK s (okey idx sub)

/-- The same for an object that is never negative. -/
def objN (s : State) (idx sub : Nat) : Nat := (obj s idx sub).toNat

/-- The same for a BOOLEAN. -/
def objB (s : State) (idx sub : Nat) : Bool := decide (obj s idx sub ≠ 0)

/-- The state with an object's value in effect set. -/
def setObjK (s : State) (k : Nat) (v : Int) : State :=
  { s with ctl := { s.ctl with dict := SMap.put objDefault s.ctl.dict k v } }

/-- The same by index and sub-index. -/
def setObj (s : State) (idx sub : Nat) (v : Int) : State := setObjK s (okey idx sub) v

/-! Events. -/

/-- A value as the 32 bits of a detail word. -/
def w32 (x : Int) : Nat := toBits 32 x

/-- Event `ev` raised in this cycle with its detail words (R442); the routes act when the command has done its work
(R443). -/
def raise (s : State) (ev d1 d2 : Nat) : State :=
  { s with rm := { s.rm with raised := s.rm.raised ++ [⟨ev, wrap 32 d1, wrap 32 d2⟩] } }

/-! One element of a unit's array. -/

/-- Lane `i` changed. -/
def modLane (s : State) (i : Fin 4) (f : Lane → Lane) : State :=
  { s with msu := { s.msu with lanes := upd s.msu.lanes i f } }
/-- Encoder channel `i` changed. -/
def modEnc (s : State) (i : Fin 4) (f : Enc → Enc) : State :=
  { s with msu := { s.msu with encs := upd s.msu.encs i f } }
/-- Generator `i` changed. -/
def modGen (s : State) (i : Fin 16) (f : Gen → Gen) : State :=
  { s with msu := { s.msu with gens := upd s.msu.gens i f } }
/-- Compare channel `i` changed. -/
def modTc (s : State) (i : Fin 32) (f : Tc → Tc) : State :=
  { s with tu := { s.tu with tcs := upd s.tu.tcs i f } }
/-- Capture input `i` changed. -/
def modCap (s : State) (i : Fin 8) (f : Cap → Cap) : State :=
  { s with tu := { s.tu with caps := upd s.tu.caps i f } }
/-- Head port `i` changed. -/
def modHead (s : State) (i : Fin 2) (f : HeadSt → HeadSt) : State := { s with heads := upd s.heads i f }
/-- Dot energy unit `i` changed. -/
def modEn (s : State) (i : Fin 2) (f : EnergySt → EnergySt) : State := { s with en := upd s.en i f }
/-- VH loop `i` changed. -/
def modVl (s : State) (i : Fin 2) (f : VhLoopSt → VhLoopSt) : State := { s with vl := upd s.vl i f }
/-- OPT channel `i` changed. -/
def modOpt (s : State) (i : Fin 8) (f : OptSt → OptSt) : State := { s with opts := upd s.opts i f }
/-- Governor `i` changed. -/
def modGov (s : State) (i : Fin 2) (f : GovSt → GovSt) : State := { s with govs := upd s.govs i f }
/-- Axis `i` changed. -/
def modAxis (s : State) (i : Fin 4) (f : AxisSt → AxisSt) : State := { s with axes := upd s.axes i f }
/-- Image port `i` changed. -/
def modPort (s : State) (i : Fin 2) (f : ImgPort → ImgPort) : State :=
  { s with img := { s.img with ports := upd s.img.ports i f } }
/-- Solenoid channel `i` changed. -/
def modSol (s : State) (i : Fin 8) (f : SolSt → SolSt) : State := { s with sols := upd s.sols i f }
/-- Bank `i` changed. -/
def modBank (s : State) (i : Fin 2) (f : BankSt → BankSt) : State := { s with banks := upd s.banks i f }
/-- Ledger entry `i` changed. -/
def modJob (s : State) (i : Fin 64) (f : Job → Job) : State :=
  { s with ledger := { s.ledger with jobs := upd s.ledger.jobs i f } }
/-- The cutter changed. -/
def modCut (s : State) (f : CutSt → CutSt) : State := { s with cut := f s.cut }
/-- The media index changed. -/
def modMedia (s : State) (f : MediaSt → MediaSt) : State := { s with media := f s.media }

/-- Waymark entry `e`. -/
def wmAt (s : State) (e : Nat) : Waymark := SMap.get (fun _ => Waymark.reset) s.msu.wm e
/-- Waymark entry `e` set. -/
def setWm (s : State) (e : Nat) (w : Waymark) : State :=
  { s with msu := { s.msu with wm := SMap.put (fun _ => Waymark.reset) s.msu.wm e w } }

/-- The staging set of a path. -/
def stagingOf (s : State) (p : Path) : Staging := s.ctl.staging[p.idx]
/-- The staging set of a path changed. -/
def modStaging (s : State) (p : Path) (f : Staging → Staging) : State :=
  { s with ctl := { s.ctl with staging := upd s.ctl.staging p.idx f } }

/-- The status a transaction returns on its path (R335). -/
def answer (s : State) (p : Path) (st : Nat) : State :=
  { s with ctl := { s.ctl with status := upd s.ctl.status p.idx (fun _ => st) } }

/-- The next open value is taken: the count of free values advances. -/
def takeFree (s : State) : State := { s with free := s.free + 1 }

/-! What the mode allows (R28). -/

/-- The engine has its supply: SB3V3 is up, and no power-down sequence has reached its step 5 (R475). -/
def powered (s : State) : Bool :=
  s.pw.on && (match s.pw.pf with | some p => decide (p.step < 5) | none => true)

/-- DOZE entry has begun and ST is not yet with the keeper, also where a power-down sequence has abandoned the entry: the domains
are on until the handover (R471, R42; spec/16, STANDBY to DOZE, step 3). -/
def dozeEntry (s : State) : Bool :=
  decide (s.md.mode = .doze) && decide (s.md.wakeCode = 0)
    && (s.pw.pf.isSome || (match s.md.trans with | some t => decide (t.target = .doze) | none => false))

/-- The control plane is live: lanes and timers run, also in LOCKOUT, up to the handover of DOZE, and from the restoring of state
in a wake that goes on to RUN (R28, R89, R472). -/
def controlLive (s : State) : Bool :=
  powered s && (match s.md.mode with
    | .standby => true
    | .run => true
    | .service => true
    | .lockout => true
    | .doze => s.md.restored || dozeEntry s
    | _ => false)

/-- The dictionary is live (R28, R337): where the control plane is, but for the entry to DOZE, whose mode code says otherwise. -/
def dictLive (s : State) : Bool := controlLive s && !dozeEntry s

/-- `n` ticks have passed since `last`, where there is one: a unit's periodic update is due. -/
def dueAfter (last : Option ST) (n : Nat) (t : ST) : Bool :=
  match last with
  | none => true
  | some u => decide (u + n ≤ t)

/-- RUN or SERVICE. -/
def inRun (s : State) : Bool :=
  match s.md.mode with
  | .run => true
  | .service => true
  | _ => false

/-- The session path, while the service session is held (R334). -/
def sessionPath (s : State) : Option Path := (s.ctl.claims[0]).path

/-- The main clock runs (R84): not between the handover of DOZE and the wake's, but for a power-down sequence that a failing
supply starts in between (R42; DESIGN CHOICE, assumption log 95). -/
def clockRuns (s : State) : Bool :=
  s.pw.on && (match s.md.mode with
    | .doze => s.md.restored || dozeEntry s || s.pw.pf.isSome
    | _ => true)

/-! Safety Net conditions (R447). -/

/-- An output cut is in force. -/
def outputCut (s : State) : Bool :=
  s.sn.coverLow || s.sn.coverDue.isSome || s.sn.haltLow || s.sn.haltLatch || s.sn.evLatch || s.sn.pdCut
    || s.sn.monLatch

/-- A head cut is in force on head `h`. -/
def headCut (s : State) (h : Fin 2) : Bool :=
  s.sn.ot[h] || s.sn.otLatch[h] || s.sn.ov[h] || s.sn.ovLatch[h]

/-- CUTS: [0] output, [1] HEAD-A, [2] HEAD-B. -/
def cutsWord (s : State) : Nat := b2n (outputCut s) + 2 * b2n (headCut s 0) + 4 * b2n (headCut s 1)

/-- Some latched input awaits release. -/
def snLatched (s : State) : Bool :=
  s.sn.haltLatch || s.sn.evLatch || s.sn.monLatch || s.sn.otLatch[0] || s.sn.otLatch[1] || s.sn.ovLatch[0]
    || s.sn.ovLatch[1]

/-- INPUTS of 0x2C10:01. -/
def inputsWord (s : State) : Nat :=
  b2n (s.sn.coverLow || s.sn.coverDue.isSome) + 2 * b2n (s.sn.haltLow || s.sn.haltLatch) + 4 * b2n s.sn.ot[0]
    + 8 * b2n s.sn.ot[1] + 16 * b2n s.sn.ov[0] + 32 * b2n s.sn.ov[1] + 64 * b2n s.sn.vhLow[0]
    + 128 * b2n s.sn.vhLow[1] + 256 * b2n s.sn.boostLow + 512 * b2n s.sn.evLatch + 1024 * b2n s.sn.pdCut
    + 2048 * b2n s.sn.monLatch + 4096 * b2n (snLatched s)

/-- Every strobe of head `h` is held off: Safety Net, VH floor or LOCKOUT (R132). -/
def strobesHeld (s : State) (h : Fin 2) : Bool :=
  outputCut s || headCut s h || s.sn.vhLow[h] || decide (s.md.mode = .lockout)

/-! DOMAIN tables (R365, R366). -/

/-- The fixed length of a DOMAIN table; 0 for the two image objects and where there is none. -/
def domLen (idx : Nat) : Nat :=
  if idx = 0x5100 then 16384 else if idx = 0x5400 || idx = 0x5410 then 256
  else if idx = 0x5401 || idx = 0x5411 then 512 else if idx = 0x5402 then 5120
  else if idx = 0x5412 || idx = 0x5414 then 2048 else if idx = 0x5403 || idx = 0x5413 then 66
  else if idx = 0x5700 || idx = 0x5710 then 48
  else if idx = 0x5701 || idx = 0x5702 || idx = 0x5711 || idx = 0x5712 then 165888
  else if idx = 0x5900 || idx = 0x5901 then 512 else if idx = 0x5940 then 32768
  else if idx = 0x5B00 then 2048 else if idx = 0x5C00 then 131072 else if idx = 0x5C01 then 2048
  else 0

/-- Default base entry [i][j] of R167, rounded to nearest with halves up. -/
def baseDefault (i j : Nat) : Nat :=
  let v := 16000 + 1600 * j
  let num := 1200 * (24000 * 24000) * (1000 - 4 * ((10 * (i : Int) - 20) - 25))
  let den : Int := (v : Int) * v * 1000
  ((2 * num + den) / (2 * den)).toNat

/-- Default ENERGY entry of a key (R167). -/
def energyDefault (k : Nat) : Nat := 4096 - 256 * popCount 4 (k / 16) - 128 * popCount 4 (k % 16)

/-- The default THERM table of R167: the Beta law of the thermistor at code 128 k, worked out once
(DEDUCED, assumption log 14). -/
def thermDefault : List Int :=
  [3200, 2881, 2323, 2026, 1823, 1670, 1545, 1440, 1348, 1267, 1192, 1124, 1060, 999, 941, 885,
   831, 778, 726, 674, 621, 568, 514, 458, 400, 338, 271, 197, 113, 13, -117, -315, -1600]

/-- Bytes of a list of 16-bit entries. -/
def le16s (xs : List Int) : List Byte := xs.flatMap (fun x => leBytes 2 (toBits 16 x))

/-- The content of a DOMAIN table that nothing has written (R365). -/
def domDefault (idx : Nat) : List Byte :=
  if idx = 0x5400 || idx = 0x5410 then
    (upto 16).flatMap (fun i => (upto 8).flatMap (fun j => leBytes 2 (baseDefault i j)))
  else if idx = 0x5401 || idx = 0x5411 then (upto 256).flatMap (fun k => leBytes 2 (energyDefault k))
  else if idx = 0x5402 then (List.replicate 2560 (16384 : Nat)).flatMap (leBytes 2)
  else if idx = 0x5412 then (List.replicate 1024 (16384 : Nat)).flatMap (leBytes 2)
  else if idx = 0x5403 || idx = 0x5413 then le16s thermDefault
  else if idx = 0x5700 || idx = 0x5710 then (List.replicate 12 ([0, 4096] : List Int)).flatMap le16s
  else if idx = 0x5702 || idx = 0x5712 then (List.replicate 82944 (60000 : Nat)).flatMap (leBytes 2)
  else List.replicate (domLen idx) 0

/-- The content of a DOMAIN table (working copy, R24). -/
def dom (s : State) (idx : Nat) : List Byte := SMap.get domDefault s.ctl.doms idx

/-- Entries of a sequencer table as they read back: bits [1:0] of the first word of each 8 bytes are reserved and read 0
(R11, R307). -/
def seqClean (i : Nat) : List Byte → List Byte
  | [] => []
  | b :: bs => (if i % 8 = 0 then b &&& 0xFC else b) :: seqClean (i + 1) bs

/-- A DOMAIN content as the object holds it: reserved bits read 0 (R11). -/
def domKept (idx : Nat) (bs : List Byte) : List Byte := if idx = 0x5900 || idx = 0x5901 then seqClean 0 bs else bs

/-- The content of a DOMAIN table set. -/
def setDom (s : State) (idx : Nat) (bs : List Byte) : State :=
  { s with ctl := { s.ctl with doms := SMap.put domDefault s.ctl.doms idx (domKept idx bs) } }

/-- One UNSIGNED16 entry of a DOMAIN table. -/
def domU16 (s : State) (idx i : Nat) : Nat := rdLE (dom s idx) (2 * i) 2

/-- One INTEGER16 entry of a DOMAIN table. -/
def domI16 (s : State) (idx i : Nat) : Int := ofBits 16 (domU16 s idx i)

/-! The system role of the Sense Engine (R302, R303, R315, R316). -/

/-- REF_EN. -/
def refOn (s : State) : Bool := objB s 0x2900 1

/-- Is a sampling instant less than 2 ms after REF_EN became 1? -/
def refUnsettled (s : State) (st : ST) : Bool :=
  match s.se.refSt with
  | none => false
  | some r => decide (st < r + 400000)

/-- The system role converts, and its results are used (R302, R303). -/
def sysReads (s : State) : Bool :=
  controlLive s && refOn s && s.se.roles[2].isSome && !refUnsettled s (now s)

/-- An OPT request is made on channel `ch`; requests are served in the order of their cycles, those of one cycle in ascending OPT order
(R316). -/
def optAsk (s : State) (ch : Nat) : State :=
  let before := fun (x : ST × Nat) => decide (x.1 < now s) || decide (x.2 ≤ ch)
  { s with se := { s.se with opts := s.se.opts.filter before ++ [(now s, ch)] ++ s.se.opts.filter (fun x => !before x) } }

/-! Event table (R440). -/

/-- Entry `e` of the event table. -/
def evEntry (s : State) (e : Nat) : Nat := SMap.get evDefault s.rm.table e
/-- The entry set. -/
def setEvEntry (s : State) (e v : Nat) : State :=
  { s with rm := { s.rm with table := SMap.put evDefault s.rm.table e v } }
/-- ENABLE of an entry. -/
def entEnable (v : Nat) : Bool := bit v 15
/-- PRIORITY of an entry. -/
def entPrio (v : Nat) : Nat := bits v 14 12
/-- The record of event `e`. -/
def evRec (s : State) (e : Nat) : EvRec := SMap.get (fun _ => EvRec.reset) s.rm.recs e

end Sys2Proof.Machine
end

