-- ==== Sys2Proof/Machine/Msu.lean ====
section
/-!
DEFINITION. Msu.lean: lane positions, line generators and the Waymark Table (spec/02): the arithmetic of R46–R60 and the
conditions of R63–R72.
-/

namespace Sys2Proof.Machine

open Sys2Proof

/-! Lane positions. -/

/-- Object of lane configuration. -/
def laneCfg (s : State) (i : Fin 4) (sub : Nat) : Int := obj s (0x2100 + i.val) sub

/-- SOURCE of a lane (R45). -/
def laneSource (s : State) (i : Fin 4) : Nat := (laneCfg s i 1).toNat

/-- The encoder channel of a lane. -/
def laneEnc (s : State) (i : Fin 4) : Fin 4 := Fin.ofNat 4 (laneCfg s i 3).toNat

/-- The axis of a lane. -/
def laneAxis (s : State) (i : Fin 4) : Nat := (laneCfg s i 2).toNat

/-- Position of encoder boundary `j` (R46). -/
def encBoundary (s : State) (i : Fin 4) (j : Int) : Int :=
  s.msu.lanes[i].org + fdiv (j * laneCfg s i 6) (laneCfg s i 7)

/-- Position of a set-point of `x` microsteps (R46). -/
def spPos (s : State) (i : Fin 4) (x : Int) : Int := fdiv (x * laneCfg s i 4) (laneCfg s i 5)

/-- The encoder term of a lane in a cycle without an edge (R53); once A and B have changed together the position is held up to the
next edge that is counted (DEDUCED, assumption log 96). -/
def encTerm (s : State) (i : Fin 4) : Int :=
  let l := s.msu.lanes[i]
  let e := s.msu.encs[laneEnc s i]
  let dt : Int := (now s : Int) - e.te0
  if e.n = 3 && !e.held && decide (dt < laneCfg s i 12) && decide (0 < dt) then
    let bk := encBoundary s i e.k
    let p := bk + tdiv ((bk - encBoundary s i (e.k - 2 * e.d)) * dt) ((e.te0 : Int) - e.te2)
    let lim := encBoundary s i (e.k + e.d) - e.d
    if 0 < e.d then min p lim else max p lim
  else l.ep

/-- The position of a lane before saturation (R47, R48, R53), from its source as it stands: where SOURCE, AXIS or ENCODER has changed, it
is the new source's from the next cycle on, and crossings are judged over the jump (DESIGN CHOICE, assumption log 97). -/
def lanePosRaw (s : State) (i : Fin 4) : Int :=
  let l := s.msu.lanes[i]
  let src := laneSource s i
  if src = 1 then l.ep
  else if src = 2 || src = 3 then
    let j : Int := min ((now s : Int) - l.perSt) 5000
    let a := spPos s i l.sp0
    let b := spPos s i l.sp1
    a + tdiv ((b - a) * j) 5000 + l.cBase + (if src = 3 then tdiv (l.dc * j) 5000 else 0)
  else l.pos

/-- The extreme of the committed direction, kept up with a new position (R49). -/
def extAt (d : Dir) (e p : Int) : Int :=
  match d with
  | .none => e
  | .fwd => max e p
  | .rev => min e p

/-- The lane's position of this cycle is formed again: saturated at the 48-bit limits with EV065 on reaching one (R51),
the extreme kept (R49). -/
def placeLane (s : State) (i : Fin 4) : State :=
  let p := lanePosRaw s i
  let q := satPos p
  let l := s.msu.lanes[i]
  let hit := decide (p ≠ q)
  let s1 := modLane s i (fun l => { l with pos := q, saturated := hit, ext := extAt l.dir l.extPrev q })
  if hit && !l.saturated then raise s1 65 i.val (if p < 0 then 0 else 1) else s1

/-- One lane moves on to the next evaluation cycle (R55): this cycle's position becomes the previous one. -/
def advanceLane (s : State) (i : Fin 4) : State :=
  let s1 := modLane s i (fun l => { l with prev := l.pos, epPrev := l.ep, extPrev := l.ext })
  let s2 := modLane s1 i (fun l => { l with ep := encTerm s1 i })
  placeLane s2 i

/-- Is lane `i` at standstill: no edge within EDGE_TIMEOUT, or sp1 = sp0 (STATUS bit [4])? -/
def laneStopped (s : State) (i : Fin 4) : Bool :=
  let l := s.msu.lanes[i]
  let src := laneSource s i
  if src = 1 then
    let e := s.msu.encs[laneEnc s i]
    decide (e.n = 0) || decide (laneCfg s i 12 ≤ (now s : Int) - e.te0)
  else if src = 0 then true
  else decide (l.sp0 = l.sp1)

/-- VELOCITY in µm/s (0x2104:02): the set-point travel of the servo period, or the edge interval of R53
(DESIGN CHOICE, assumption log 20). -/
def laneVelocity (s : State) (i : Fin 4) : Int :=
  let l := s.msu.lanes[i]
  let src := laneSource s i
  if src = 1 then
    let e := s.msu.encs[laneEnc s i]
    if e.n = 3 && decide ((now s : Int) - e.te0 < laneCfg s i 12) then
      tdiv ((encBoundary s i e.k - encBoundary s i (e.k - 2 * e.d)) * 200000000) (256 * ((e.te0 : Int) - e.te2))
    else 0
  else if src = 0 then 0
  else tdiv ((spPos s i l.sp1 - spPos s i l.sp0) * 40000) 256

/-- STATUS of a lane. -/
def laneStatus (s : State) (i : Fin 4) : Nat :=
  let l := s.msu.lanes[i]
  128 * b2n l.saturated + 64 * b2n l.beyond + 32 * b2n l.encFault + 16 * b2n (laneStopped s i) + 4 * l.dir.code
    + laneSource s i % 4

/-- The terms a lane forms its position from, as its axis and its encoder channel stand (R46, R47). -/
def laneSourced (s : State) (i : Fin 4) : State :=
  let x := atN AxisSt.reset s.axes (laneAxis s i)
  let e := encBoundary s i s.msu.encs[laneEnc s i].k
  modLane s i (fun l => { l with sp0 := x.sp0, sp1 := x.sp, perSt := now s - now s % 5000, ep := e, epPrev := e })

/-- On a change of SOURCE the direction is NONE, with EV067, and the extreme the present position (R49, R83); the correction term and the
hybrid error start at 0 (DESIGN CHOICE, assumption log 97). -/
def sourceChanged (s : State) (i : Fin 4) : State :=
  let s1 := modLane (laneSourced s i) i (fun l =>
    { l with dir := .none, ext := l.pos, extPrev := l.pos, cBase := 0, dc := 0, beyond := false, diverged := false, hybErr := 0 })
  if s.msu.lanes[i].dir = .none then s1 else raise s1 67 i.val 0

/-! Line generators. -/

/-- The lane of a generator. -/
def genLane (g : Fin 16) : Fin 4 := ⟨g.val / 4, by omega⟩

/-- Object of a generator. -/
def genCfg (s : State) (g : Fin 16) (sub : Nat) : Int := obj s (0x2110 + g.val) sub

/-- The media lane. -/
def mediaLane (s : State) : Fin 4 := Fin.ofNat 4 (objN s 0x2500 2)

/-- F of R178: forward travel of the media lane past the start of the slip's spreading, 0 to 512 000. Travel backward takes nothing back. -/
def slipTravel (s : State) : Int :=
  max s.media.slipMax (clampI 0 512000 (s.msu.lanes[mediaLane s].pos - s.media.slipFrom))

/-- The lanes have moved: F goes on; a slip that has been spread whole is in FRAME_CORR (R178). -/
def slipTick (s : State) : State :=
  if s.media.slip = 0 then s
  else
    let f := slipTravel s
    modMedia s (fun m =>
      if f = 512000 then { m with frameCorr := m.frameCorr + m.slip, slip := 0, slipMax := 0 } else { m with slipMax := f })

/-- The frame correction in force on SYNC_GEN's line positions (R178). -/
def frameShift (s : State) : Int := s.media.frameCorr + tdiv (s.media.slip * slipTravel s) 512000

/-- L(n) of a generator (R56), with the frame correction on SYNC_GEN (R178). -/
def linePos (s : State) (g : Fin 16) (n : Int) : Int :=
  genCfg s g 4 + fdiv (n * genCfg s g 2) (genCfg s g 3) + (if objN s 0x2500 17 = g.val then frameShift s else 0)

/-- Due position of line `n` forward. -/
def dueFwd (s : State) (g : Fin 16) (n : Int) : Int := linePos s g n + genCfg s g 5
/-- Due position of line `n` reverse. -/
def dueRev (s : State) (g : Fin 16) (n : Int) : Int := linePos s g n + genCfg s g 6

/-- Least n with L(n) + FWD_OFFSET > e (R57). -/
def firstFwd (s : State) (g : Fin 16) (e : Int) : Int :=
  let y := e - dueFwd s g 0
  Int.neg (fdiv (Int.neg ((y + 1) * genCfg s g 3)) (genCfg s g 2))

/-- Greatest n with L(n) + REV_OFFSET < e (R57). -/
def firstRev (s : State) (g : Fin 16) (e : Int) : Int :=
  let y := e - dueRev s g 0
  Int.neg (fdiv (Int.neg (y * genCfg s g 3)) (genCfg s g 2)) - 1

/-- The generator's next index is formed again from extreme `e` for direction `d` (R57). -/
def indexGen (s : State) (g : Fin 16) (d : Dir) (e : Int) : State :=
  match d with
  | .fwd => modGen s g (fun x => { x with nf := firstFwd s g e })
  | .rev => modGen s g (fun x => { x with nr := firstRev s g e })
  | .none => s

/-- The same at a commit: a new committed run (R57, R58). -/
def seedGen (s : State) (g : Fin 16) (d : Dir) (e : Int) : State :=
  if d = .none then s else modGen (indexGen s g d e) g (fun x => { x with crowded := false })

/-- A setting of the generator has changed: it starts again from the present position and emits no line in this
cycle (R60). ENABLE 0 to 1 starts it in the same way (DESIGN CHOICE, assumption log 98). -/
def regridGen (s : State) (g : Fin 16) : State :=
  let l := s.msu.lanes[genLane g]
  let s1 := seedGen s g l.dir l.pos
  modGen s1 g (fun x => { x with lastSt := some (now s) })

/-- Is the generator's gate open (R59)? -/
def gateOpen (s : State) (g : Fin 16) : Bool := decide (genCfg s g 8 = 0) || s.msu.gens[g].gateOpen

/-- Does DIRS allow direction `d`? -/
def dirsAllow (s : State) (g : Fin 16) (d : Dir) : Bool :=
  match d with
  | .fwd => bit (genCfg s g 7).toNat 0
  | .rev => bit (genCfg s g 7).toNat 1
  | .none => false

/-- The line due in this cycle, if one is (R57, R58); with ENABLE 0 none is, and the indices stand (DESIGN CHOICE, assumption log 98). -/
def lineDue (s : State) (g : Fin 16) : Option (Int × Dir) :=
  let x := s.msu.gens[g]
  let l := s.msu.lanes[genLane g]
  if genCfg s g 1 = 0 || laneSource s (genLane g) = 0 || x.lastSt = some (now s) then none
  else match l.dir with
    | .fwd => if dueFwd s g x.nf ≤ l.pos then some (x.nf, .fwd) else none
    | .rev => if l.pos ≤ dueRev s g x.nr then some (x.nr, .rev) else none
    | .none => none

/-- The next line of the generator's direction is due as well (R58). -/
def moreDue (s : State) (g : Fin 16) : Bool :=
  let x := s.msu.gens[g]
  let l := s.msu.lanes[genLane g]
  match l.dir with
  | .fwd => decide (dueFwd s g x.nf ≤ l.pos)
  | .rev => decide (l.pos ≤ dueRev s g x.nr)
  | .none => false

/-- Lines of a generator due between its extreme and the commit position (R57). -/
def lateLines (s : State) (g : Fin 16) (d : Dir) : Nat :=
  let x := s.msu.gens[g]
  let l := s.msu.lanes[genLane g]
  match d with
  | .fwd => (firstFwd s g l.pos - x.nf).toNat
  | .rev => (x.nr - firstRev s g l.pos).toNat
  | .none => 0

/-- The generators of a lane. -/
def laneGens (i : Fin 4) : List (Fin 16) := (allFin 16).filter (fun g => genLane g = i)

/-- The lane takes position `p` without a crossing (R50): origin, or correction term for SETPOINT and HYBRID, previous position and extreme
move with it, no line of its generators falls due for it; EV066. -/
def reoriginLane (s : State) (i : Fin 4) (p : Int) : State :=
  let l := s.msu.lanes[i]
  let jump := p - l.pos
  let c := laneSource s i = 2 || laneSource s i = 3
  let s1 := modLane s i (fun l =>
    { l with org := (if c then l.org else l.org + jump), ep := (if c then l.ep else l.ep + jump),
             epPrev := (if c then l.epPrev else l.epPrev + jump), cBase := (if c then l.cBase + jump else l.cBase),
             pos := p, prev := p, ext := l.ext + jump, extPrev := l.extPrev + jump, saturated := false })
  let s2 := applyAll (fun t g => indexGen t g l.dir p) s1 (laneGens i)
  raise s2 66 i.val (w32 (clampI (-2147483648) 2147483647 jump))

/-! The Waymark Table. -/

/-- The kind of a waymark input (R63, R64). -/
inductive InKind where
  | level | pulse | event
  deriving DecidableEq, Repr

/-- Is TGT a listed code (R64)? -/
def tgtListed (t : Nat) : Bool :=
  [0x00, 0x01, 0x02, 0x10, 0x11, 0x20, 0x21, 0x30, 0x40, 0x50, 0x60].contains t

/-- The kind of input `i` of target `t`; none where the unit has no such input (R63). -/
def inputKind (t i : Nat) : Option InKind :=
  if t = 0x00 then (if i = 0 then some .event else none)
  else if t = 0x01 then (if i < 16 then some .level else none)
  else if t = 0x02 then (if (0x10 ≤ i && i ≤ 0x1F) || (0x20 ≤ i && i ≤ 0x27) then some .pulse else none)
  else if t = 0x10 || t = 0x11 then (if i = 0 then some .level else none)
  else if t = 0x20 || t = 0x21 then (if i ≤ 1 then some .level else if i = 2 then some .pulse else none)
  else if t = 0x30 then (if i < 16 then some .pulse else none)
  else if t = 0x40 then
    (if i < 8 then some .level else if i < 16 then some .pulse else if i = 0x20 || i = 0x21 then some .pulse else none)
  else if t = 0x50 then seInput i
  else if t = 0x60 then (if i < 64 then some .pulse else none)
  else none
where
  /-- The Sense Engine's waymark inputs (R306). -/
  seInput (i : Nat) : Option InKind := if i < 12 then some .pulse else none

/-- Does OP suit the input's kind (R63)? -/
def opSuits (k : InKind) (op : Nat) : Bool :=
  match k with
  | .event => op == 0
  | .pulse => op == 1
  | .level => op == 2 || op == 3

/-- The reason an entry fails validation, 0 where it passes (R63, EV035). -/
def entryReason (w : Waymark) : Nat :=
  if w.dir = 0 then 1
  else if 4 < w.key then 2
  else if !tgtListed w.tgt then 3
  else match inputKind w.tgt w.inp with
    | none => 4
    | some k => if opSuits k w.op then 0 else 5

/-- The reason a pair fails validation, 0 where it passes (R71, EV035); `x` and `y` are entries `e` and its
partner. -/
def pairReason (e : Nat) (x y : Waymark) : Nat :=
  if !y.pair || y.partner ≠ e then 6
  else if x.role = y.role then 7
  else if x.key ≠ y.key then 8
  else if x.key < 4 && x.dir ≠ y.dir then 8
  else if x.key < 4 && x.dir = 3 then 9
  else
    let st := if x.role then y else x
    let sp := if x.role then x else y
    if st.op ≠ 2 || sp.op ≠ 3 then 5
    else if st.tgt ≠ sp.tgt then 3
    else if st.inp ≠ sp.inp then 4
    else 0

/-- Signed target of a lane-keyed entry (INTEGER48 sign-extended). -/
def wmTarget (w : Waymark) : Int := ofBits 48 w.target

/-- T_stop − T_start of a pair. -/
def pairSpan (st sp : Waymark) : Int :=
  if st.key < 4 then wmTarget sp - wmTarget st else (sp.target : Int) - st.target

/-- A pair whose stop precedes its start in the armed direction (R72). -/
def pairInverted (st sp : Waymark) : Bool :=
  if st.key < 4 && st.dir = 2 then decide (0 < pairSpan st sp) else decide (pairSpan st sp < 0)

/-- The direction in which a target is crossed in this cycle (R55), as the code of LAST_DIR. -/
def crossing (l : Lane) (t : Int) : Nat :=
  if l.prev < t && t ≤ l.pos then 1 else if t < l.prev && l.pos ≤ t then 2 else 0

/-- The lane of a lane-keyed entry. -/
def wmLane (w : Waymark) : Fin 4 := Fin.ofNat 4 w.key

/-- The firing direction of an armed entry in this cycle: 1 forward, 2 reverse, 3 ST, 0 does not fire (R65, R67). -/
def firesNow (s : State) (w : Waymark) : Nat :=
  if !(w.en && w.armed && decide (w.since < now s) && controlLive s) then 0
  else if w.key < 4 then
    if laneSource s (wmLane w) = 0 then 0
    else
      let d := crossing s.msu.lanes[wmLane w] (wmTarget w)
      if d = 0 then 0 else if bit w.dir (d - 1) then d else 0
  else if w.target ≤ now s then 3 else 0

/-- Does a disarmed entry meet its re-arm condition in this cycle (R66)? An enabled half of a pair whose other half is disabled waits
for it (DESIGN CHOICE, assumption log 99). -/
def rearmsNow (s : State) (w : Waymark) : Bool :=
  let b := s.msu.lanes[wmLane w].pos
  let t := wmTarget w
  let r : Int := w.rearm
  w.en && !w.armed && decide (0 < w.rearm) && decide (w.key < 4) && !(w.pair && !(wmAt s w.partner).en)
    && decide (w.lastSt ≠ now s) && controlLive s
    && (if w.dir = 1 then decide (b ≤ t - r) else if w.dir = 2 then decide (t + r ≤ b)
        else decide (r ≤ b - t) || decide (r ≤ t - b))

/-- The output minimum of a pair (R74): head slice window, solenoid ON, exposure slot; 0 elsewhere. -/
def pairMinimum (w : Waymark) : Nat :=
  if w.tgt = 0x10 || w.tgt = 0x11 then 200
  else if w.tgt = 0x40 && w.inp < 8 then 40000
  else if (w.tgt = 0x20 || w.tgt = 0x21) && w.inp = 1 then 400
  else 0

/-- Does an entry fire in this cycle with operation `op` on this input? -/
def someFires (s : State) (t i op : Nat) : Bool :=
  s.msu.wm.any (fun (_, w) => w.tgt == t && w.inp == i && w.op == op && firesNow s w != 0)

/-- Has an OFF been delivered to this level input in this cycle (R70)? -/
def offActed (s : State) (t i : Nat) : Bool := s.msu.offSt == now s && s.msu.offs.contains (t, i)

/-- Does an OFF act on this level input in this cycle (R70): delivered already, or about to fire? The stop of a collapsed or stretched
pair is one. -/
def offActs (s : State) (t i : Nat) : Bool := offActed s t i || someFires s t i 3

/-- Do both halves of the entry's pair fire in this cycle (R73)? -/
def pairBoth (s : State) (w : Waymark) : Bool :=
  let y := wmAt s w.partner
  w.pair && (firesNow s y != 0 || (y.fires != 0 && y.lastSt == now s))

/-- Does the stop of a pair come sooner after its start than the output's minimum (R75)? -/
def stopEarly (s : State) (w : Waymark) : Bool :=
  let x := wmAt s w.partner
  w.pair && w.role && x.fires != 0 && decide (now s - x.lastSt < pairMinimum w)

/-- Does an entry that meets `c` fire on this level input in this cycle? -/
def someActs (s : State) (t i : Nat) (c : Waymark → Bool) : Bool :=
  s.msu.wm.any (fun (_, w) => w.tgt == t && w.inp == i && firesNow s w != 0 && c w)

/-- A level input at the end of this cycle, given its present level (R69, R70): a plain OFF ends it off; a collapsed pair gives it its
minimum (R74) and is else no edge (R73); an early stop holds it (R75); an ON counts where no OFF acts. -/
def levelAtEnd (s : State) (t i : Nat) (lvl : Bool) : Bool :=
  if someActs s t i (fun w => w.op == 3 && !pairBoth s w && !stopEarly s w) then false
  else if offActed s t i then lvl
  else if someActs s t i (fun w => pairBoth s w && pairMinimum w != 0) then true
  else if someFires s t i 3 then lvl
  else if someFires s t i 2 then true
  else lvl

/-- The gate of a generator at a line event: open, or opened by a waymark of this cycle; one that closes in this cycle lets
the line pass first (R69; spec/02, normal running). -/
def gateAtLine (s : State) (g : Fin 16) : Bool :=
  gateOpen s g || (someFires s 1 g.val 2 && !offActs s 1 g.val)

/-- A generator takes its lane's newly committed direction from extreme `e`; late lines are counted and reported
(R57). -/
def commitGen (d : Dir) (e : Int) (s : State) (g : Fin 16) : State :=
  if genCfg s g 1 = 0 then seedGen s g d e
  else
    let s1 := seedGen s g d e
    let k := lateLines s1 g d
    if 0 < k && gateAtLine s1 g && dirsAllow s1 g d then
      raise (modGen s1 g (fun x => { x with late := bump 16 (x.late + k - 1) })) 73 g.val k
    else s1

/-- The CTRL word of an entry. -/
def wmCtrl (w : Waymark) : Nat :=
  2147483648 * b2n w.en + 1073741824 * b2n w.armed + 268435456 * w.dir + 33554432 * w.key + 16777216 * b2n w.pair
    + 8388608 * b2n w.role + w.rearm

/-- The ACT word of an entry. -/
def wmAct (w : Waymark) : Nat :=
  16777216 * w.tgt + 65536 * w.inp + 16384 * w.op + 8192 * b2n w.evt + 1024 * w.evsel + w.partner

/-- The STATUS word of an entry. -/
def wmStatus (w : Waymark) : Nat := 65536 * w.fires + 16384 * w.lastDir

/-- The fields of CTRL taken from a written word; EN and ARMED are handled apart. -/
def wmSetCtrl (w : Waymark) (v : Nat) : Waymark :=
  { w with dir := bits v 29 28, key := bits v 27 25, pair := bit v 24, role := bit v 23, rearm := bits v 22 0 }

/-- The fields of ACT taken from a written word. -/
def wmSetAct (w : Waymark) (v : Nat) : Waymark :=
  { w with tgt := bits v 31 24, inp := bits v 23 16, op := bits v 15 14, evt := bit v 13, evsel := bits v 12 10,
           partner := bits v 9 0 }

/-- Entry `e` is disabled. -/
def wmDisable (s : State) (e : Nat) : State := setWm s e { wmAt s e with en := false, armed := false }

/-- Entry `e` is enabled and armed in this cycle. -/
def wmArm (s : State) (e : Nat) : State :=
  setWm s e { wmAt s e with en := true, armed := true, since := now s }

/-- EN of entry `e` is set: the entry, and with its partner the pair, is validated (R63, R71, R72). FIRES starts at 0, and LAST_DIR with it
(DESIGN CHOICE, assumption log 100). -/
def wmEnable (s : State) (e : Nat) : State :=
  let w := { wmAt s e with en := true, armed := false, fires := 0, lastDir := 0 }
  let r := entryReason w
  if r ≠ 0 then raise (wmDisable s e) 35 e r
  else if !w.pair then wmArm (setWm s e w) e
  else
    let y := wmAt s w.partner
    if !y.en then setWm s e w
    else
      let pr := pairReason e w y
      let s1 := setWm s e w
      if pr ≠ 0 then raise (wmDisable (wmDisable s1 e) w.partner) 35 e pr
      else
        let st := if w.role then w.partner else e
        let sp := if w.role then e else w.partner
        if pairInverted (wmAt s1 st) (wmAt s1 sp) then
          raise (wmDisable (wmDisable s1 e) w.partner) 32 (65536 * st + sp)
            (w32 (pairSpan (wmAt s1 st) (wmAt s1 sp)))
        else wmArm (wmArm s1 e) w.partner

end Sys2Proof.Machine
end

