-- ==== Sys2Proof/Machine/Axis.lean ====
section
/-!
DEFINITION. Axis.lean: the Motion Engine: commands, targets, the two profiles, regulation, standstill and stall detection of
spec/07 (R197–R227).
-/

namespace Sys2Proof.Machine

open Sys2Proof

/-- Object of an axis: 0 drive, 1 profile, 2 move, 3 stall (R229). -/
def axCfg (s : State) (n : Fin 4) (grp sub : Nat) : Int := obj s (0x2600 + 4 * grp + n.val) sub
/-- The same for a value that is never negative. -/
def axCfgN (s : State) (n : Fin 4) (grp sub : Nat) : Nat := (axCfg s n grp sub).toNat

/-- One in Q32 (R200). -/
def q32 : Int := 4294967296

/-- The lane of an axis: the lowest whose AXIS is n and whose SOURCE is SETPOINT or HYBRID (R198). -/
def axisLane (s : State) (n : Fin 4) : Option (Fin 4) :=
  (allFin 4).find? (fun i => laneAxis s i == n.val && (laneSource s i == 2 || laneSource s i == 3))

/-- SP_NUM of an axis. -/
def axNum (s : State) (n : Fin 4) : Int :=
  match axisLane s n with
  | some i => laneCfg s i 4
  | none => 256
/-- SP_DEN of an axis. -/
def axDen (s : State) (n : Fin 4) : Int :=
  match axisLane s n with
  | some i => laneCfg s i 5
  | none => 1

/-- A speed in µm/s converted to Q32 (R200). -/
def vToQ (s : State) (n : Fin 4) (v : Int) : Int := tdiv (v * 256 * axDen s n * q32) (axNum s n * 40000)
/-- An acceleration in µm/s² converted to Q32. -/
def aToQ (s : State) (n : Fin 4) (a : Int) : Int := tdiv (a * 256 * axDen s n * q32) (axNum s n * 1600000000)
/-- A jerk in µm/s³ converted to Q32. -/
def jToQ (s : State) (n : Fin 4) (j : Int) : Int := tdiv (j * 256 * axDen s n * q32) (axNum s n * 64000000000000)
/-- A product of two Q32 values: shifted right 32 bits, truncated toward zero (R200). -/
def qmul (a b : Int) : Int := tdiv (a * b) q32
/-- A quotient of two Q32 values: the dividend shifted left 32 bits first, truncated toward zero (R200). -/
def qdiv (a b : Int) : Int := tdiv (a * q32) b
/-- A Q32 speed in µm/s, truncated toward zero. -/
def vOfQ (s : State) (n : Fin 4) (v : Int) : Int := tdiv (v * axNum s n * 40000) (256 * axDen s n * q32)

/-- Rounded to the nearest integer, halves away from zero: `a ÷ b`, with b > 0. -/
def roundDiv (a b : Int) : Int := if a < 0 then 0 - (fdiv (2 * (0 - a) + b) (2 * b)) else fdiv (2 * a + b) (2 * b)

/-- The whole microstep of a Q32 position (R199). -/
def spOf (x : Int) : Int := roundDiv x q32

/-- The sign of an integer. -/
def sgn (x : Int) : Int := if x < 0 then -1 else if 0 < x then 1 else 0

/-- The origin term C of an axis in this cycle (R203). -/
def axOrigin (s : State) (n : Fin 4) : Int :=
  match axisLane s n with
  | none => 0
  | some i =>
    let l := s.msu.lanes[i]
    if laneSource s i = 3 then l.cBase + tdiv (l.dc * min ((now s : Int) - l.perSt) 5000) 5000 else l.cBase

/-- The microstep target of a lane position (R203). -/
def axTarget (s : State) (n : Fin 4) (t : Int) : Int := roundDiv ((t - axOrigin s n) * axDen s n) (axNum s n)

/-- ACTIVE_TARGET (R203). -/
def axActiveTarget (s : State) (n : Fin 4) : Int :=
  fdiv (s.axes[n].sT * axNum s n) (axDen s n) + axOrigin s n

/-- DEC_EFF: the deceleration limit the governor takes, by the KIND in effect (R212, R214), in the µm/s² of the objects (DEDUCED, assumption
log 120). -/
def decEff (s : State) (n : Fin 4) : Nat :=
  if s.axes[n].kind = 0 then min (axCfgN s n 1 8) (axCfgN s n 1 9) else axCfgN s n 1 12 / 2

/-- Rank of a command (R202). -/
def axRank : AxCmd → Nat
  | .go => 1
  | .goAlt => 1
  | .stop => 2
  | .qstop => 3

/-- A command is delivered to an axis; of those since the last boundary one stays (R202). -/
def axDeliver (s : State) (n : Fin 4) (c : AxCmd) (wm : Bool) : State :=
  modAxis s n (fun x =>
    let keep := match x.pend with
      | none => false
      | some p => decide (axRank c < axRank p)
                  || (decide (axRank c = axRank p) && x.pendWm && !wm && decide (x.pendSt = now s))
    if keep then x else { x with pend := some c, pendSt := now s, pendWm := wm })

/-- The scan lane of an image port: the lane of its LINE_GEN. -/
def portLane (s : State) (p : Fin 2) : Nat := objN s (0x2700 + 16 * p.val) 4 / 4

/-- CAP_TOLL of an axis, where one is set (R466). -/
def capToll (s : State) (n : Fin 4) : Option Nat :=
  let scans := fun p : Fin 2 =>
    ((allFin 64).any (fun e => s.ledger.jobs[e].kind == p.val + 3
        && (s.ledger.jobs[e].state == 2 || s.ledger.jobs[e].state == 3)))
      && laneAxis s (Fin.ofNat 4 (portLane s p)) == n.val
  if objN s 0x2D02 1 = 1 && (scans 0 || scans 1) then some (axCfgN s n 1 5 * s.tg.fScan / 1000) else none

/-- The lane of a governor: the lane of its head's LINE_GEN. -/
def govLane (s : State) (g : Fin 2) : Nat := objN s (0x2300 + 16 * g.val) 13 / 4

/-- CAP_GOV of an axis: the lower cap of the governors whose lane is its lane; 0xFFFF_FFFF for none (R213). -/
def capGov (s : State) (n : Fin 4) : Nat :=
  match axisLane s n with
  | none => 0xFFFFFFFF
  | some i =>
    let c := fun g : Fin 2 => if govLane s g = i.val then s.govs[g].vCap else 0xFFFFFFFF
    min (c 0) (c 1)

/-- vmax in µm/s and LIMIT_SRC (R213). -/
def axLimit (s : State) (n : Fin 4) : Nat × Nat :=
  let v := axCfgN s n 1 5
  let g := capGov s n
  let t := (capToll s n).getD 0xFFFFFFFF
  let m := min v (min g t)
  (m, if v = m then 0 else if g = m then 1 else 2)

/-- The profile settings of an axis in Q32. -/
structure Profile where
  kind : Nat
  vs : Int
  vk : Int
  a1 : Int
  a2 : Int
  d2 : Int
  d1 : Int
  vp : Int
  acc : Int
  dec : Int
  jerk : Int
  qs : Int
  vmax : Int
  snap : Int
  deriving DecidableEq, Repr

/-- The profile of an axis under speed limit `vmax` (µm/s), which never passes 64 microsteps per period (R199; DEDUCED, assumption log
120). -/
def axProfile (s : State) (n : Fin 4) (vmax : Nat) : Profile :=
  { kind := s.axes[n].kind, vs := vToQ s n (axCfg s n 1 3), vk := vToQ s n (axCfg s n 1 4),
    a1 := aToQ s n (axCfg s n 1 6), a2 := aToQ s n (axCfg s n 1 7), d2 := aToQ s n (axCfg s n 1 8),
    d1 := aToQ s n (axCfg s n 1 9), vp := vToQ s n (axCfg s n 1 10), acc := aToQ s n (axCfg s n 1 11),
    dec := aToQ s n (axCfg s n 1 12), jerk := jToQ s n (axCfg s n 1 13), qs := aToQ s n (axCfg s n 1 14),
    vmax := min (vToQ s n vmax) (64 * q32), snap := axCfg s n 1 15 * q32 }

/-- Stopping distance of Trapezoid-2 (R208), in the arithmetic of R200. -/
def sdTrap (p : Profile) (u : Int) : Int :=
  if p.vk < u then qdiv (qmul u u - qmul p.vk p.vk) (2 * p.d2) + qdiv (qmul p.vk p.vk - qmul p.vp p.vp) (2 * p.d1)
  else qdiv (max (qmul u u - qmul p.vp p.vp) 0) (2 * p.d1)

/-- A quotient by a product of Q32 values: `lo ÷ div` by R200; where the divisor's product is below one and shifts out to 0, the quotient of
the unshifted values, `num ÷ den` (DEDUCED, assumption log 16). -/
def qdivBy (lo div num den : Int) : Int := if div = 0 then tdiv num den else qdiv lo div

/-- Stopping distance of the S-curve (R209), in the arithmetic of R200. -/
def sdCurve (p : Profile) (u al : Int) : Int :=
  let j := p.jerk
  let round := qdiv (qmul al al) (2 * j)
  let d0 := if 0 ≤ al then
              qdiv (qmul u al) j + qdivBy (qmul (qmul al al) al) (3 * qmul j j) (al * al * al) (3 * j * j)
            else 0
  let v := if 0 ≤ al then u + round else max (u - round) 0
  let vj := qmul v j
  let dd := qmul p.dec p.dec
  if dd ≤ vj then d0 + qdivBy (qmul v (vj + dd)) (2 * qmul p.dec j) (v * (v * j + p.dec * p.dec)) (2 * p.dec * j)
  else d0 + tdiv (v * (isqrt (qdiv v j).toNat : Nat)) 65536

/-- The motion of an axis: position, speed and acceleration in Q32, the brake latch, and whether it was set in this boundary. -/
structure Motion where
  x : Int
  v : Int
  a : Int
  brake : Bool
  braked : Bool
  deriving DecidableEq, Repr

/-- Position, and the snap onto the target (R208, R209). `rem1` gives the distance left at a position. -/
def settlePos (p : Profile) (m : Motion) (v1 : Int) (halt vel : Bool) (sT : Int) : Int :=
  let x1 := m.x + tdiv (m.v + v1) 2
  if m.v ≠ 0 && v1 = 0 && !halt && !vel && decide (((sT - x1).natAbs : Int) ≤ p.snap) then sT else x1

/-- The remaining distance: to `sT`, or of a velocity move in direction `d` without a bound (R206); none where its TARGET is 0 (DESIGN CHOICE,
assumption log 120). -/
def remains (m : Motion) (sT : Int) (vel : Option Int) : Int :=
  match vel with
  | none => sT - m.x
  | some d => d * 2 ^ 90

/-- One servo boundary of Trapezoid-2 (R208). `sT` in Q32; `vel` is the direction of a velocity move. -/
def stepTrap (p : Profile) (m : Motion) (halt : Bool) (sT : Int) (vel : Option Int) : Motion :=
  let rem := remains m sT vel
  if m.v = 0 then
    let v1 := if rem = 0 || halt || p.vmax = 0 then 0 else sgn rem * min (min p.vs p.vmax) rem.natAbs
    { x := settlePos p m v1 halt vel.isSome sT, v := v1, a := 0, brake := false, braked := false }
  else
    let sg := sgn m.v
    let u : Int := m.v.natAbs
    let d := sg * rem
    let braking := halt || decide (d ≤ 0) || decide (d - u ≤ sdTrap p u)
    let u1 := if braking then u - (if p.vk < u then p.d2 else p.d1)
              else if u < p.vmax then min (u + (if p.vk ≤ u then p.a2 else p.a1)) p.vmax
              else max (u - (if p.vk < u then p.d2 else p.d1)) p.vmax
    let u2 := if u1 ≤ p.vp then (if halt || p.vmax = 0 || d ≤ u + p.vp then 0 else min p.vp p.vmax) else u1
    let v1 := sg * u2
    { x := settlePos p m v1 halt vel.isSome sT, v := v1, a := 0, brake := (m.brake || braking) && decide (v1 ≠ 0),
      braked := m.brake || braking }

/-- One servo boundary of the S-curve (R209). -/
def stepCurve (p : Profile) (m : Motion) (halt : Bool) (sT : Int) (vel : Option Int) : Motion :=
  let rem := remains m sT vel
  if m.v = 0 && m.a = 0 && (rem = 0 || halt || p.vmax = 0) then { m with brake := false, braked := false }
  else
    let sg := if m.v ≠ 0 then sgn m.v else sgn rem
    let u := sg * m.v
    let al := sg * m.a
    let d := sg * rem
    let roll := qdiv (qmul al al) (2 * p.jerk)
    let braking := m.brake || halt || decide (d ≤ 0) || decide (d - u ≤ sdCurve p u al)
    let ag := if braking then (if al < 0 && u ≤ roll then 0 else 0 - p.dec)
              else if p.vmax < u then 0 - p.dec
              else if 0 < al && p.vmax ≤ u + roll then 0
              else p.acc
    let al1 := clampI (al - p.jerk) (al + p.jerk) ag
    let u1 := u + tdiv (al + al1) 2
    let meet := !braking && decide (qmul (u - p.vmax) (u1 - p.vmax) ≤ 0) && decide (u1 ≠ u)
    let u2 := if meet then p.vmax else u1
    let al2 := if meet then 0 else al1
    let stop := decide (u2 ≤ 0)
    let v1 := if stop then 0 else sg * u2
    let a1 := if stop then 0 else sg * al2
    { x := settlePos p m v1 halt vel.isSome sT, v := v1, a := a1, brake := braking && !stop, braked := braking }

/-- One servo boundary of a QSTOP (R207). -/
def stepQuick (p : Profile) (m : Motion) : Motion :=
  let u1 := max (m.v.natAbs - p.qs) 0
  let v1 := sgn m.v * u1
  { x := m.x + tdiv (m.v + v1) 2, v := v1, a := 0, brake := decide (v1 ≠ 0), braked := true }

/-! Standstill and stall. -/

/-- The STILL choice of an axis as STILL_MODE: 1 HOLD, 2 FREEWHEEL, 3 SHORT (R218). -/
def stillChoice (s : State) (n : Fin 4) : Nat := axCfgN s n 0 11 + 1

/-- The encoder term of the lane a stall is judged on (R220). -/
def stallEnc (s : State) (n : Fin 4) : Int :=
  encTerm s (Fin.ofNat 4 (axCfgN s n 3 1))

/-- P_sp of R220. -/
def stallSp (s : State) (n : Fin 4) : Int :=
  spPos s (Fin.ofNat 4 (axCfgN s n 3 1)) s.axes[n].sp

/-- The stall reference is retaken (R220). -/
def stallRetake (s : State) (n : Fin 4) : State :=
  if axCfg s n 3 1 = 0xFF then s
  else
    let e := stallEnc s n
    let p := stallSp s n
    modAxis s n (fun x => { x with refEnc := e, refSp := p, dev := 0, maxDev := 0, stallRun := 0 })

/-- Switches of the bridge are on: it is driven, or both low sides are (R218, R222). -/
def axConducts (s : State) (n : Fin 4) : Bool :=
  controlLive s && decide (axCfg s n 0 1 ≠ 0) && decide (s.axes[n].state ≠ 5) && decide (s.axes[n].stillMode ≠ 2)

/-- The bridge is energised (R220): driven, and not at standstill in FREEWHEEL or SHORT. -/
def axEnergised (s : State) (n : Fin 4) : Bool := axConducts s n && decide (s.axes[n].stillMode ≤ 1)

/-- The axis enters its STILL choice (R218); HOLD uses QUIET unless REG = 2 (R217). -/
def enterStill (s : State) (n : Fin 4) (x : AxisSt) : AxisSt :=
  let c := stillChoice s n
  { x with
    stillMode := c
    stillSt := if x.stillMode = c then x.stillSt else now s
    strong := if c = 1 then decide (axCfg s n 0 4 = 2) else x.strong
    regAt := none }

/-- The axis stops at once with its set-point frozen; a command that waits stays for its boundary (R202). A stop after a stall is then at
rest: STALLED (R221). -/
def axFreeze (x : AxisSt) : AxisSt :=
  { x with x := x.sp * q32, v := 0, a := 0, brake := false, stop := none, moving := false, velMove := false, velDir := 0, sT := x.sp,
           snStop := false, regAt := none, revFrom := 0, thenStill := false, stalling := false,
           state := (if x.stalling then 4 else if x.state = 2 || x.state = 3 then 1 else x.state) }

/-- The stall test of a boundary (R220, R221). -/
def axStallTest (s : State) (n : Fin 4) : State :=
  if axCfg s n 3 1 = 0xFF || !axEnergised s n then s
  else
    let x := s.axes[n]
    let dev := (stallEnc s n - x.refEnc) - (stallSp s n - x.refSp)
    let win := axCfgN s n 3 2
    let beyond := decide (win < dev.natAbs)
    let run := if beyond then x.stallRun + 1 else 0
    let held := x.stallHeld && decide (win / 2 < dev.natAbs)
    let s1 := modAxis s n (fun x =>
      { x with dev := dev, maxDev := max x.maxDev dev.natAbs, stallRun := sat 8 run, stallHeld := held })
    if beyond && !held && axCfgN s n 3 3 ≤ run && x.state ≠ 4 && !x.stalling then
      let act := axCfgN s n 3 4
      let s2 := modAxis s1 n (fun x =>
        { x with stall := true, stallCount := inc16 x.stallCount, stallHeld := true })
      let s3 := raise s2 248 (n.val + 256 * act) (w32 (clampI (-2147483648) 2147483647 dev))
      if act = 1 then modAxis s3 n (fun x => { axFreeze x with state := 4, stillMode := 0 })
      else if act = 2 then
        (if x.v = 0 && x.a = 0 then modAxis s3 n (fun x => { axFreeze x with state := 4 })
         else modAxis s3 n (fun x => { x with stop := some .qstop, stalling := true, state := 3 }))
      else s3
    else s1

/-! Commands at the boundary. -/

/-- STATE as it reads: DISABLED while DRV_EN is 0. -/
def axState (s : State) (n : Fin 4) : Nat := if axCfg s n 0 1 = 0 then 0 else s.axes[n].state

/-- The reason a GO or GO_ALT is refused, 0 where it is accepted (R204). An axis in the QSTOP of a stall is on its way to STALLED and
is refused as such (DEDUCED, assumption log 120). -/
def goReason (s : State) (n : Fin 4) : Nat :=
  let x := s.axes[n]
  if !inRun s then 2
  else if 64 * q32 < vToQ s n (axCfg s n 1 5) then 3
  else if x.state = 4 || x.state = 5 || x.stalling then 4
  else if x.snHeld then 5
  else if axCfg s n 1 2 = 0 && x.v ≠ 0 then 1
  else 0

/-- An accepted or refused GO or GO_ALT (R203–R206, R212, R219). -/
def axGo (s : State) (n : Fin 4) (alt : Bool) : State :=
  let r := goReason s n
  if r ≠ 0 then raise s 241 (n.val + 256 * r) (axState s n)
  else
    let t := axCfg s n 2 (if alt then 2 else 1)
    let velocity := decide (axCfg s n 2 3 = 1)
    let sT := axTarget s n t
    let rest := decide (s.axes[n].v = 0) && decide (s.axes[n].a = 0)
    let s1 := if rest then stallRetake s n else s
    let kind := axCfgN s n 1 1
    modAxis s1 n (fun x =>
      let behind := !rest && decide (sgn x.v * (if velocity then sgn t else sT * q32 - x.x) < 0)
      { x with sT := (if velocity then x.sT else sT), velMove := velocity, velDir := (if velocity then sgn t else 0),
               kind := kind, stop := none, brake := false, moving := true, state := 2, stillMode := 0, restSt := none,
               atTarget := false, overshoot := false, openLoad := false, thenStill := false,
               revFrom := (if behind then sgn x.v else 0) })

/-- STOP or QSTOP is applied (R207). -/
def axStop (s : State) (n : Fin 4) (c : AxCmd) : State :=
  modAxis s n (fun x =>
    if !x.moving && x.v = 0 && x.a = 0 then x
    else if x.stop = some .qstop then x
    else { x with stop := some c, state := (if x.state = 2 then 3 else x.state) })

/-- The QSTOP of a Safety Net cut starts at this boundary; EV252 (R226). -/
def axSnStart (s : State) (n : Fin 4) : State :=
  let x := s.axes[n]
  if !x.snStop then s
  else
    let s1 := modAxis s n (fun x =>
      { x with snStop := false, stop := (if x.moving then some .qstop else x.stop), thenStill := x.moving || x.thenStill,
               state := (if x.state = 2 then 3 else x.state) })
    raise s1 252 n.val (w32 (vOfQ s n x.v))

/-- The pending command is applied at this boundary (R202). -/
def axApply (s0 : State) (n : Fin 4) : State :=
  let s := axSnStart s0 n
  match s.axes[n].pend with
  | none => s
  | some c =>
    let s1 := modAxis s n (fun x => { x with pend := none })
    match c with
    | .go => axGo s1 n false
    | .goAlt => axGo s1 n true
    | .stop => axStop s1 n .stop
    | .qstop => axStop s1 n .qstop

/-! The boundary. -/

/-- What a boundary that finds the axis at rest reports: rest under STOP or QSTOP, or the move complete (R207, R210). The speed a boundary
finds is that of the end of the period before it. -/
def axRest (s : State) (n : Fin 4) : State :=
  let x := s.axes[n]
  let atRest := decide (x.v = 0) && decide (x.a = 0)
  if !x.moving || !atRest then s
  else match x.stop with
  | some c =>
    let q := decide (c = .qstop)
    let s1 := modAxis s n (fun x => (if x.thenStill then enterStill s n else id) (axFreeze x))
    raise s1 243 (n.val + 256 * b2n q) (w32 x.sp)
  | none =>
    if !x.velMove && x.x = x.sT * q32 && x.sp = x.sT then
      let s1 := modAxis s n (fun x =>
        { x with moving := false, atTarget := true, state := 1, movesDone := inc32 x.movesDone, revFrom := 0 })
      raise s1 240 n.val (w32 x.sp)
    else s

/-- The boundary's finding on standstill: since when v = 0 and a = 0 (R218). -/
def axFound (s : State) (n : Fin 4) : State :=
  modAxis s n (fun x => { x with restSt := if x.v = 0 && x.a = 0 then some (x.restSt.getD (now s)) else none })

/-- x passes sT in this period while the brake latch is set and no STOP or QSTOP is in force: OVERSHOOT, once per move, with how far past
it the period ends (R211; DEDUCED, assumption log 53). -/
def axOvershoot (s : State) (n : Fin 4) (before after : Motion) : State :=
  let x := s.axes[n]
  let dir := if before.v ≠ 0 then sgn before.v else sgn after.v
  let t := x.sT * q32
  if x.moving && x.stop.isNone && !x.velMove && !x.overshoot && after.braked && decide (0 ≤ dir * (t - before.x))
      && decide (dir * (t - after.x) < 0) then
    raise (modAxis s n (fun x => { x with overshoot := true })) 244 n.val (spOf (dir * (after.x - t))).toNat
  else s

/-- The sign of v changes after a target behind the travel was taken (R205). -/
def axReversed (s : State) (n : Fin 4) : State :=
  let x := s.axes[n]
  if x.revFrom ≠ 0 && x.v ≠ 0 && sgn x.v ≠ x.revFrom then
    raise (modAxis s n (fun x => { x with revFrom := 0 })) 242 n.val (w32 x.sT)
  else s

/-- Does a travel from microstep `a`, which is left out, to `b` reach a multiple of 128 (R217)? -/
def reach128 (a b : Int) : Bool :=
  if a < b then decide (a < 128 * fdiv b 128) else if b < a then decide (128 * fdiv (b + 127) 128 < a) else false

/-- The regulation test of a boundary that finds speed `v` (R217). `last` is the set-point at the start of the period that has ended: a
changeover whose microstep was reached in that period is no longer cancelled. -/
def axRegulate (s : State) (n : Fin 4) (v last : Int) : State :=
  let reg := axCfg s n 0 4
  if reg = 1 then modAxis s n (fun x => { x with strong := false, regAt := none })
  else if reg = 2 then modAxis s n (fun x => { x with strong := true, regAt := none })
  else
    let u : Int := v.natAbs
    let want := if s.axes[n].strong then decide (u ≤ vToQ s n (axCfg s n 0 5 - axCfg s n 0 6))
                else decide (vToQ s n (axCfg s n 0 5 + axCfg s n 0 6) ≤ u)
    modAxis s n (fun x =>
      { x with regAt := match x.regAt with
          | some met => if met || reach128 last x.sp0 then some true else if want then some false else none
          | none => if want then some false else none })

/-- The axis leaves its standstill because the generator moves it on: the stall reference is retaken (R219, R220). -/
def axSetOff (s : State) (n : Fin 4) (m : Motion) : State :=
  if (m.v ≠ 0 || m.a ≠ 0) && s.axes[n].stillMode ≠ 0 then modAxis (stallRetake s n) n (fun x => { x with stillMode := 0 }) else s

/-- The generator of an axis makes its set-point for the period that starts (R199, R207–R213); it is never issued more than 64 microsteps on
(R199; DEDUCED, assumption log 120). -/
def axGenerate (s : State) (n : Fin 4) : State :=
  let x := s.axes[n]
  let lim := axLimit s n
  let p := axProfile s n lim.1
  let m : Motion := ⟨x.x, x.v, x.a, x.brake, false⟩
  let vel := if x.velMove then some x.velDir else none
  let run := x.moving && decide (x.state ≠ 5) && decide (x.state ≠ 4)
  let m1 := if !run then m
            else match x.stop with
              | some .qstop => stepQuick p m
              | st =>
                let halt := decide (st = some .stop)
                if p.kind = 0 then stepTrap p m halt (x.sT * q32) vel
                else stepCurve p m halt (x.sT * q32) vel
  let s1 := modAxis (axSetOff s n m1) n (fun x =>
    { x with x := m1.x, v := m1.v, a := m1.a, brake := m1.brake, sp0 := x.sp, sp := clampI (x.sp - 64) (x.sp + 64) (spOf m1.x),
             vLimit := (vOfQ s n (vToQ s n lim.1)).toNat, limitSrc := lim.2 })
  axRegulate (axReversed (axOvershoot s1 n m m1) n) n x.v x.sp0

/-- The lanes of an axis take the new set-point (R47). -/
def axLanes (s : State) (n : Fin 4) : State :=
  applyAll (fun s i =>
    if laneAxis s i = n.val && (laneSource s i = 2 || laneSource s i = 3) then
      modLane s i (fun l => { l with sp0 := l.sp1, sp1 := s.axes[n].sp, perSt := now s })
    else s) s (allFin 4)

/-- One axis at a servo boundary (R199): the stall test, what the boundary finds at rest, the command that waits (a move to where the axis stands
is complete at once, R210), and the set-point of the period. -/
def axBoundary (s : State) (n : Fin 4) : State :=
  axLanes (axGenerate (axRest (axApply (axRest (axFound (axStallTest s n) n) n) n) n) n) n

/-- HYBRID correction of a lane at a boundary (R48). The position is the one of the boundary cycle. -/
def hybridCorrect (s : State) (i : Fin 4) : State :=
  if laneSource s i ≠ 3 then s
  else
    let l := s.msu.lanes[i]
    let raw := l.ep - l.pos
    let lim := laneCfg s i 10
    let err := clampI (0 - lim) lim raw
    let out := decide (lim < (raw.natAbs : Int))
    let back := decide ((raw.natAbs : Int) ≤ tdiv lim 2)
    let s1 := modLane s i (fun l =>
      { l with cBase := l.cBase + l.dc, dc := tdiv (err * laneCfg s i 9) 65536,
               hybErr := clampI (-2147483648) 2147483647 raw, beyond := out,
               diverged := if out then true else if back then false else l.diverged })
    if out && !l.diverged then raise s1 64 i.val (w32 raw) else s1

/-! Safety Net, LOCKOUT, mode changes. -/

/-- A Safety Net axis stop (R226): QSTOP from the next boundary on and then STILL, or FREEWHEEL or SHORT at once. EV252
names an axis that was in motion (DEDUCED, assumption log 28); a QSTOP raises it at the boundary it starts at. -/
def axSnStop (s : State) (n : Fin 4) : State :=
  let c := axCfgN s n 0 13
  let x := s.axes[n]
  let mv := x.moving || decide (x.v ≠ 0) || decide (x.a ≠ 0)
  let s1 := modAxis s n (fun x =>
    let y := { x with snHeld := true }
    if c = 0 then (if mv then { y with snStop := true } else if y.state = 5 then y else enterStill s n y)
    else
      let z := axFreeze y
      { z with stillMode := (if z.state = 5 then z.stillMode else c + 1) })
  if mv && c ≠ 0 then raise s1 252 (n.val + 256 * c) (w32 (vOfQ s n x.v)) else s1

/-- The Safety Net turns every switch of the axis off, whatever SN_STOP holds (R476). -/
def axUnpowered (s : State) (n : Fin 4) : State :=
  modAxis s n (fun x => { axFreeze x with stillMode := 2 })

/-- The STILL_MODE of an axis in LOCKOUT: SHORT if SN_STOP = 2, FREEWHEEL otherwise (R227). -/
def lockoutStill (s : State) (n : Fin 4) : Nat := if axCfg s n 0 13 = 2 then 3 else 2

/-- LOCKOUT entry (R227); the bridge of an axis in FAULT stays off (R222). -/
def axLockout (s : State) (n : Fin 4) : State :=
  modAxis s n (fun x => { axFreeze x with stillMode := if x.state = 5 then x.stillMode else lockoutStill s n })

/-- The axis goes to its standstill choice where it rests: in STANDBY, and on the way there (R28, R227). A bridge that has tripped stays off,
and an axis the Safety Net holds stays as its stop left it (R222, R226). -/
def axToStill (s : State) (n : Fin 4) : State :=
  modAxis s n (fun x => if x.state = 5 || x.snHeld then x else enterStill s n x)

/-- Leaving RUN for STANDBY: each moving axis receives STOP and then enters STILL, the others enter it (R28, R227). -/
def axLeaveRun (s : State) (n : Fin 4) : State :=
  if s.axes[n].moving || s.axes[n].v ≠ 0 then
    modAxis (axDeliver s n .stop true) n (fun x => { x with thenStill := true })
  else axToStill s n

/-- The bridge trips (R222, R225): kind 1–3 over-current, 4 temperature; all its switches are off; EV249. -/
def axTrip (s : State) (n : Fin 4) (phase kind : Nat) : State :=
  let s1 := modAxis s n (fun x => { axFreeze x with short := true, state := 5, stillMode := 2 })
  raise s1 249 (n.val + 256 * phase + 4096 * kind) (w32 s.axes[n].sp)

/-- The bridge is energised again in HOLD, or in LOCKOUT left in the choice R227 gives there (DEDUCED, assumption log 120). -/
def axReenergise (s : State) (n : Fin 4) (x : AxisSt) : AxisSt :=
  if s.md.mode = .lockout then { x with stillMode := lockoutStill s n }
  else { x with stillMode := 1, stillSt := now s, strong := decide (axCfg s n 0 4 = 2), regAt := none }

/-- AX_CLEAR (R223). -/
def axClear (s : State) (n : Fin 4) : State :=
  let s1 := stallRetake s n
  modAxis s1 n (fun x =>
    { (if x.state = 5 then axReenergise s n x else x) with
      stall := false
      short := false
      stallHeld := false
      stalling := false
      state := if x.state = 4 || x.state = 5 then 1 else x.state })

/-- A bridge temperature reading in 1/16 °C (R225). -/
def axTemp (s : State) (n : Fin 4) (t : Int) : State :=
  let hotNow := decide (2240 ≤ t)
  let s1 := modAxis s n (fun x => { x with hot := if hotNow then true else if t < 2000 then false else x.hot })
  let s2 := if hotNow && !s.axes[n].hot then raise s1 251 n.val (w32 t) else s1
  if 2640 ≤ t && s2.axes[n].state ≠ 5 then axTrip s2 n 0 4 else s2

/-! The bridge (R197, R215–R219). -/

/-- The current setting in mA: I_RUN, derated to 75% while HOT (R225); in HOLD it falls to I_HOLD linearly over 64 servo periods (R218). -/
def axCurrent (s : State) (n : Fin 4) : Nat :=
  let x := s.axes[n]
  let run : Int := if x.hot then axCfgN s n 0 2 * 3 / 4 else axCfgN s n 0 2
  if x.stillMode = 1 then
    (run - tdiv ((run - axCfg s n 0 3) * (min (now s - x.stillSt) 320000 : Nat)) 320000).toNat
  else run.toNat

/-- I_pk in mA: √2 times the current setting (R215), as its floor. -/
def axPeak (s : State) (n : Fin 4) : Nat := isqrt (2 * axCurrent s n * axCurrent s n)

/-- θ in 1 ÷ 5 120 000 of a turn: the bridge moves linearly from sp0 to sp within the servo period; a turn is 1024 microsteps (R197, R199). -/
def axAngle (s : State) (n : Fin 4) : Nat :=
  let x := s.axes[n]
  ((x.sp0 * 5000 + (x.sp - x.sp0) * ((now s % 5000 : Nat) : Int)) % 5120000).toNat

/-- Terms of the cosine's series from term `t` on, with x² in Q40. -/
def cosSeries (x2 : Int) : Nat → Int → Int → Int
  | 0, _, _ => 0
  | k + 1, t, i => t + cosSeries x2 k (0 - tdiv (t * x2) (2 ^ 40 * (i * (i + 1)))) (i + 2)

/-- Cosine in Q40 of an angle in the first quarter of the turn. -/
def cosQuarter (a : Nat) : Int :=
  let x : Int := tdiv (a * 6908435304665) 5120000
  cosSeries (tdiv (x * x) (2 ^ 40)) 12 (2 ^ 40) 1

/-- Cosine in Q40 of an angle in 1 ÷ 5 120 000 of a turn (the scale is a DESIGN CHOICE, assumption log 121). -/
def cosTurn (a : Nat) : Int :=
  let r := a % 1280000
  match a / 1280000 % 4 with
  | 0 => cosQuarter r
  | 1 => 0 - cosQuarter (1280000 - r)
  | 2 => 0 - cosQuarter r
  | _ => cosQuarter (1280000 - r)

/-- The share of I_pk a coil carries, in Q40: cos θ for coil A, its sign reversed with INVERT, and sin θ for coil B (R197). -/
def coilShare (s : State) (n : Fin 4) (ph : Fin 2) : Int :=
  if ph.val = 0 then (if axCfg s n 0 14 = 1 then 0 - cosTurn (axAngle s n) else cosTurn (axAngle s n))
  else cosTurn (axAngle s n + 3840000)

/-- The chopper's target for a coil in mA (R216). -/
def coilTarget (s : State) (n : Fin 4) (ph : Fin 2) : Int := tdiv ((axPeak s n : Int) * coilShare s n ph) (2 ^ 40)

/-- QUIET's duty amplitude as numerator and denominator, both in µV: min((I_pk × COIL_R + BEMF_K × |speed|) ÷ V_MAIN24, 1), with V_MAIN24 as
the last boundary sensed it (R215). -/
def quietDuty (s : State) (n : Fin 4) : Nat × Nat :=
  let v := 1000 * s.pw.rails[0]
  (min (axPeak s n * axCfgN s n 0 7 + axCfgN s n 0 8 * (vOfQ s n s.axes[n].v).natAbs) v, v)

/-- How a coil's half of the bridge is driven. -/
inductive CoilDrive where
  | off                                         -- all four switches off
  | lowSides                                    -- both low sides on (SHORT)
  | pwm (num : Int) (den : Nat)                 -- QUIET: signed duty of the 40 kHz PWM
  | chop (target : Int) (conducts : Bool)       -- STRONG: its target in mA; conducting or in slow decay
  deriving DecidableEq, Repr

/-- The drive of a coil in this cycle (R215, R216, R218, R222). -/
def coilDrive (s : State) (n : Fin 4) (ph : Fin 2) : CoilDrive :=
  if !axConducts s n then .off
  else if 2 ≤ s.axes[n].stillMode then .lowSides
  else if s.axes[n].strong then .chop (coilTarget s n ph) (s.axes[n].chops[ph]).on
  else .pwm ((quietDuty s n).1 * coilShare s n ph) ((quietDuty s n).2 * 2 ^ 40)

/-- One tick of a coil's chopper (R216): it conducts until the current reaches the target, the sense being blanked for BLANK ticks after each
edge, then decays slowly for TOFF ticks. -/
def chopStep (s : State) (n : Fin 4) (ph : Fin 2) (c : Chop) : Chop :=
  let t := coilTarget s n ph
  let i := coilCurrent (now s) (2 * n.val + ph.val)
  if c.on then
    (if c.edge + axCfgN s n 0 10 ≤ now s && decide ((t.natAbs : Int) ≤ (if t < 0 then 0 - i else i)) then ⟨false, now s⟩ else c)
  else if c.edge + axCfgN s n 0 9 ≤ now s then ⟨true, now s⟩ else c

/-- One tick of an axis's choppers, which run in STRONG only. -/
def chopTick (s : State) (n : Fin 4) : State :=
  if axEnergised s n && s.axes[n].strong then
    modAxis s n (fun x => { x with chops := Vector.ofFn (fun ph : Fin 2 => chopStep s n ph x.chops[ph]) })
  else s

/-- STATUS of an axis. -/
def axStatus (s : State) (n : Fin 4) : Nat :=
  let x := s.axes[n]
  2048 * b2n x.snHeld + 1024 * b2n x.short + 512 * b2n x.openLoad + 256 * b2n x.stall + 128 * b2n x.hot
    + 64 * b2n x.overshoot + 32 * b2n x.strong + 8 * x.stillMode + 4 * b2n x.atTarget
    + 2 * b2n (decide (x.limitSrc ≠ 0)) + b2n (decide (x.v ≠ 0) || decide (x.a ≠ 0))

end Sys2Proof.Machine
end

