-- ==== Sys2Proof/Machine/Energy.lean ====
section
/-!
DEFINITION. Energy.lean: raster lines, strobe widths, slice trains and the head thermal model: the arithmetic of R114–R124
and R136–R145 (spec/04, spec/05).
-/

namespace Sys2Proof.Machine

open Sys2Proof

/-- Object of head configuration (0x2300 or 0x2310). -/
def headCfg (s : State) (h : Fin 2) (sub : Nat) : Nat := objN s (0x2300 + 16 * h.val) sub
/-- Object of energy configuration (0x2400 or 0x2410). -/
def enCfg (s : State) (h : Fin 2) (sub : Nat) : Int := obj s (0x2400 + 16 * h.val) sub
/-- The same for a value that is never negative. -/
def enCfgN (s : State) (h : Fin 2) (sub : Nat) : Nat := (enCfg s h sub).toNat
/-- Object of the VH loop (0x2402 or 0x2412). -/
def vlCfg (s : State) (h : Fin 2) (sub : Nat) : Nat := objN s (0x2402 + 16 * h.val) sub
/-- Index of one of the head's DOMAIN tables: 0 BASE, 1 ENERGY, 2 RTRIM, 3 THERM. -/
def headDom (h : Fin 2) (t : Nat) : Nat := 0x5400 + 16 * h.val + t
/-- Bit [31] of detail word 1 names the head (R135, R168). -/
def headBit (h : Fin 2) : Nat := 2147483648 * h.val

/-- DOTS of a head. -/
def headDots (s : State) (h : Fin 2) : Nat := headCfg s h 2
/-- BPL, bytes per line (R114). -/
def headBpl (s : State) (h : Fin 2) : Nat := cdiv (headDots s h) 8
/-- DOTS_PHYS (R119). -/
def dotsPhys (s : State) (h : Fin 2) : Nat := cdiv (headDots s h) (headCfg s h 3) * headCfg s h 3
/-- Ticks of one shift: SEG clocks of 320 MHz ÷ HCLK_DIV (R119). -/
def shiftTicks (s : State) (h : Fin 2) : Nat :=
  cdiv (cdiv (dotsPhys s h) (headCfg s h 3) * headCfg s h 5 * 5) 8
/-- GD, dots of a strobe group (R122). -/
def groupDots (s : State) (h : Fin 2) : Nat := cdiv (dotsPhys s h) (headCfg s h 6)

/-! Raster lines. -/

/-- A RUN8 payload decoded (R115); `fuel` bounds the control bytes. -/
def run8 (bpl : Nat) : Nat → List Byte → List Byte → List Byte
  | 0, _, out => out
  | _ + 1, [], out => out
  | fuel + 1, c :: rest, out =>
    let v := c.toNat
    if v < 0x80 then run8 bpl fuel (rest.drop (v + 1)) (out ++ rest.take (v + 1))
    else if v = 0x80 then out ++ List.replicate (bpl - out.length) 0
    else match rest with
      | [] => out
      | b :: rest' => run8 bpl fuel rest' (out ++ List.replicate (257 - v) b)

/-- The dots of a decoded line as a bit set: bit 7 of byte b is dot 8b (R117). -/
def dotSet (dots : Nat) (bs : List Byte) : Nat :=
  sumN ((upto dots).map (fun d => if bit ((bs.getD (d / 8) 0).toNat) (7 - d % 8) then 2 ^ d else 0))

/-- The line of an RSN, while it is held. -/
def lineAt (store : List RasterLine) (r : Nat) : Option RasterLine := store.find? (fun l => l.rsn == r)

/-- The decoded dots of the line with RSN `r`; none for a format error (R116). `fuel` bounds a run of REPEAT
lines. -/
def decodeLine (dots bpl : Nat) (store : List RasterLine) : Nat → Nat → Option Nat
  | 0, _ => none
  | fuel + 1, r =>
    match lineAt store r with
    | none => none
    | some l =>
      if l.fmt = 0 then (if l.len = bpl && l.payload.length = bpl then some (dotSet dots l.payload) else none)
      else if l.fmt = 1 then
        let bs := run8 bpl l.payload.length l.payload []
        if bs.length = bpl then some (dotSet dots bs) else none
      else if l.fmt = 2 then (if l.len = 0 then some 0 else none)
      else if l.len = 0 then decodeLine dots bpl store fuel (wrap 32 (r + 4294967295)) else none

/-- The decoded dots of a held line of head `h`. -/
def decodeFor (s : State) (h : Fin 2) (r : Nat) : Option Nat :=
  decodeLine (headDots s h) (headBpl s h) s.heads[h].store (s.heads[h].store.length + 1) r

/-! Widths. -/

/-- b8 of R136: the base width at temperature `t` (1/16 °C) and supply `v` (mV), in 1/256 tick. -/
def baseWidth (s : State) (h : Fin 2) (t : Int) (v : Nat) : Nat :=
  let tlo := enCfg s h 2
  let ts := enCfgN s h 3
  let vlo := enCfgN s h 4
  let vs := enCfgN s h 5
  let dt := (t - tlo).toNat
  let i := clampN 0 14 (dt / ts)
  let ft := clampN 0 256 ((dt - i * ts) * 256 / ts)
  let dv := v - vlo
  let j := clampN 0 6 (dv / vs)
  let fv := clampN 0 256 ((dv - j * vs) * 256 / vs)
  let b := fun a c => domU16 s (headDom h 0) (8 * a + c)
  let row0 := b i j * (256 - fv) + b i (j + 1) * fv
  let row1 := b (i + 1) j * (256 - fv) + b (i + 1) (j + 1) * fv
  (row0 * (256 - ft) + row1 * ft + 128) / 256

/-- The history key of dot `d` (R137). `hist` holds lines n - 1 … n - 4. -/
def historyKey (dots line : Nat) (hist : List Nat) (d : Nat) : Nat :=
  let h1 := hist.getD 0 0
  let left := fun m => if d = 0 then 0 else b2n (bit m (d - 1))
  let right := fun m => if dots ≤ d + 1 then 0 else b2n (bit m (d + 1))
  128 * b2n (bit h1 d) + 64 * b2n (bit (hist.getD 1 0) d) + 32 * b2n (bit (hist.getD 2 0) d)
    + 16 * b2n (bit (hist.getD 3 0) d) + 8 * left line + 4 * right line + 2 * left h1 + right h1

/-- RB[d]: the readback trim of HEAD-B, 0 on HEAD-A and while it is disabled (R136). -/
def rbTrim (s : State) (h : Fin 2) (d : Nat) : Int :=
  if h = 1 && objB s 0x2420 1 then domI16 s 0x5414 d else 0

/-- RT[d] (R136). -/
def rTrim (s : State) (h : Fin 2) (d : Nat) : Nat :=
  if enCfg s h 12 = 0 then 16384 else domU16 s (headDom h 2) d

/-- The width of a black dot in 1/256 tick (R136). -/
def dotWidth (s : State) (h : Fin 2) (b8 key d : Nat) : Nat :=
  let w1 := (b8 * domU16 s (headDom h 1) key + 2048) / 4096
  let w2 := (w1 * rTrim s h d + 8192) / 16384
  ((w2 * (65536 + rbTrim s h d) + 32768) / 65536).toNat

/-- The black dots of a line with their widths. -/
def lineWidths (s : State) (h : Fin 2) (line : Nat) (hist : List Nat) (t : Int) (v : Nat) : List (Nat × Nat) :=
  let b8 := baseWidth s h t v
  let n := headDots s h
  ((upto n).filter (fun d => bit line d)).map (fun d => (d, dotWidth s h b8 (historyKey n line hist d) d))

/-- A set of dots. -/
def dotMask (ds : List Nat) : Nat := sumN (ds.map (fun d => 2 ^ d))

/-- The slices of a line: widths quantised, each slice with the dots it enables (R120, R138, R139). -/
def lineCalc (s : State) (h : Fin 2) (line : Nat) (hist : List Nat) (t : Int) (v : Nat) : LineCalc :=
  let ws := lineWidths s h line hist t v
  let wmax := maxN (ws.map (fun p => p.2))
  let ns := enCfgN s h 1
  let raw := cdiv (cdiv wmax 256) ns
  let clip := decide (65535 < raw)
  let d := if clip then 65535 else max raw 200
  let q := ws.map (fun p => (p.1, min ns ((p.2 + 128 * d) / (256 * d))))
  { dots := line, wmax := wmax, d := d, clipped := clip,
    slices := (upto ns).map (fun k => dotMask ((q.filter (fun p => k + 1 ≤ p.2)).map (fun p => p.1))) }

/-- Every slice of the line is empty (R120). -/
def lcEmpty (c : LineCalc) : Bool := c.slices.all (fun m => m == 0)

/-- The non-empty slices of a line, still to be latched (R120, R121). -/
def lcSlots (c : LineCalc) : List Slot :=
  ((upto c.slices.length).zip c.slices).filterMap (fun x => if x.2 = 0 then none else some ⟨x.1 + 1, x.2, false⟩)

/-- The sum of enabled dots × D over the slices of a line (s_fired of R143). -/
def lcFired (dots : Nat) (c : LineCalc) : Nat := sumN (c.slices.map (popCount dots)) * c.d

/-! Serial data and strobe groups (R119, R122). -/

/-- SEG, dots of a segment of the shift register (R119). -/
def shiftSeg (s : State) (h : Fin 2) : Nat := cdiv (dotsPhys s h) (headCfg s h 3)

/-- The dot that lane `i` carries in the data clock with index `c` (R119). -/
def laneDot (s : State) (h : Fin 2) (i c : Nat) : Nat :=
  if headCfg s h 4 = 0 then i * shiftSeg s h + (shiftSeg s h - 1 - c) else i * shiftSeg s h + c

/-- The bit that lane `i` carries in data clock `c` of a shift of `map`; a dot numbered DOTS or higher is 0 (R119). -/
def laneBit (s : State) (h : Fin 2) (map i c : Nat) : Bool :=
  decide (laneDot s h i c < headDots s h) && bit map (laneDot s h i c)

/-- The enabled dots of strobe group `g`, ascending (R122). -/
def strobeDots (s : State) (h : Fin 2) (map g : Nat) : List Nat :=
  ((upto (groupDots s h)).map (fun d => g * groupDots s h + d)).filter (fun d => decide (d < dotsPhys s h) && bit map d)

/-- The current of `n` dots at supply `vh` (R122). -/
def dotsCurrent (s : State) (h : Fin 2) (vh n : Nat) : Nat := if headCfg s h 7 = 0 then 0 else n * vh / headCfg s h 7

/-! Waves and passes. -/

/-- The waves of one issue: groups with their currents, in packing order, cut where the current limit is passed (R123). -/
def packWaves (lim : Nat) : List (Nat × Nat) → Nat → List Nat → List (List Nat)
  | [], _, w => if w = [] then [] else [w]
  | x :: xs, sum, w =>
    if w = [] then packWaves lim xs x.2 [x.1]
    else if sum + x.2 ≤ lim then packWaves lim xs (sum + x.2) (w ++ [x.1])
    else w :: packWaves lim xs x.2 [x.1]

/-- The strobes of one wave that begins at `t` (R123). -/
def waveStrobes (stagger d : Nat) : List Nat → ST → List (Nat × ST × ST)
  | [], _ => []
  | g :: gs, t => (g, t, t + d) :: waveStrobes stagger d gs (t + stagger)

/-- The strobes of waves of which the first begins at `t` (R123). -/
def allStrobes (stagger gap d : Nat) : List (List Nat) → ST → List (Nat × ST × ST)
  | [], _ => []
  | w :: ws, t => waveStrobes stagger d w t ++ allStrobes stagger gap d ws (t + (w.length - 1) * stagger + d + gap)

/-- The groups in rotation order from `rot` (R123). -/
def rotated (rot : Nat) (xs : List Nat) : List Nat := xs.drop rot ++ xs.take rot

/-- The passes a group of current `i` is issued in (R124). -/
def groupPasses (lim i : Nat) : Nat := if lim < i then cdiv i lim else 1

/-- Sub-group `p` of `m` of a group's dots: ascending, the first ones take one dot more (R124). -/
def subGroup (ds : List Nat) (m p : Nat) : List Nat :=
  if m ≤ 1 then (if p = 0 then ds else [])
  else
    let q := ds.length / m
    let r := ds.length % m
    (ds.drop (p * q + min p r)).take (q + (if p < r then 1 else 0))

/-- The passes of each group of a slice at supply `vh` (R124). -/
def slicePasses (s : State) (h : Fin 2) (vh map : Nat) : List Nat :=
  (upto (headCfg s h 6)).map (fun g => groupPasses (headCfg s h 8) (dotsCurrent s h vh (strobeDots s h map g).length))

/-- The slots a slice is issued in: itself, or its passes (R124). -/
def passSlots (s : State) (h : Fin 2) (vh : Nat) (x : Slot) : List Slot :=
  let ms := slicePasses s h vh x.map
  if x.pass || maxN ms ≤ 1 then [x]
  else
    ((upto (maxN ms)).map (fun p => (⟨x.slice,
      dotMask ((upto ms.length).flatMap (fun g => subGroup (strobeDots s h x.map g) (ms.getD g 1) p)), true⟩ : Slot))).filter
      (fun y => y.map != 0)

/-- Detail of a split slice: [7:0] group, [15:8] passes (EV148). -/
def splitDetail (s : State) (h : Fin 2) (vh map : Nat) : Nat :=
  let ms := slicePasses s h vh map
  match (upto ms.length).find? (fun g => decide (1 < ms.getD g 1)) with
  | some g => g + 256 * wrap 8 (maxN ms)
  | none => 0

/-- One issue latched in cycle `t` at supply `vh` (R121–R123). -/
def issueAt (s : State) (h : Fin 2) (rot d vh : Nat) (x : Slot) (t : ST) : Issue :=
  let gs := (rotated rot (upto (headCfg s h 6))).map (fun g => (g, (strobeDots s h x.map g).length))
  let cur := (gs.filter (fun y => y.2 ≠ 0)).map (fun y => (y.1, dotsCurrent s h vh y.2))
  let ws := packWaves (headCfg s h 8) cur 0 []
  let rise := t + headCfg s h 10
  let sts := allStrobes (headCfg s h 9) (headCfg s h 12) d ws (rise + headCfg s h 11)
  { slice := x.slice, map := x.map, latch := t, rise := rise, strobes := sts,
    fin := maxN (rise :: sts.map (fun y => y.2.2)), waves := ws.length, fired := popCount (dotsPhys s h) x.map * d }

/-! Thermal model. -/

/-- Energy in nJ of `fired` dot-ticks at supply `vh` (R143). -/
def firedEnergy (s : State) (h : Fin 2) (fired vh : Nat) : Nat :=
  fired * vh * vh / (headCfg s h 7 * 200000)

/-- One step of the thermal model over `dt` ticks (R143). -/
def modelStep (s : State) (h : Fin 2) (tInt : Int) (enj : Nat) (dt : Int) : Int :=
  tInt + fdiv ((enj : Int) * enCfg s h 8) (2 ^ 32)
    - fdiv ((tInt - s.en[h].tTherm * 4096) * dt * enCfg s h 9) (2 ^ 40)

/-- T_HEAD of t_int (R143). -/
def headTemp (tInt : Int) : Int := fdiv (tInt + 2048) 4096

/-- The thermistor code converted through THERM (R142). -/
def thermConvert (s : State) (h : Fin 2) (c : Nat) : Int :=
  let k := min (c / 128) 31
  let e0 := domI16 s (headDom h 3) k
  let e1 := domI16 s (headDom h 3) (k + 1)
  e0 + tdiv ((e1 - e0) * ((c : Int) - 128 * k)) 128

/-- The thermal model is updated (R143–R145): reseeded with EV163 where it has diverged, EV164 on reaching
HOT_LIMIT. -/
def modelUpdate (s : State) (h : Fin 2) (fired vh : Nat) : State :=
  let e := s.en[h]
  if e.thermFault then modEn s h (fun e => { e with stLast := now s })
  else
    let t1 := modelStep s h e.tInt (firedEnergy s h fired vh) ((now s : Int) - e.stLast)
    let th := headTemp t1
    let dv := if th < e.tTherm then e.tTherm - th else th - e.tTherm
    let div := decide (enCfg s h 10 < dv)
    let t2 := if div then e.tTherm * 4096 else t1
    let tf := headTemp t2
    let lim := enCfg s h 11
    let hotNow := decide (lim ≤ tf)
    let s1 := modEn s h (fun e =>
      { e with tInt := t2, tHead := tf, stLast := now s, reseeds := (if div then inc16 e.reseeds else e.reseeds),
               hot := (if hotNow then true else if tf ≤ lim - 80 then false else e.hot) })
    let s2 := if div then raise s1 163 (headBit h + toBits 16 th) (w32 e.tTherm) else s1
    if hotNow && !e.hot then raise s2 164 (headBit h) (w32 tf) else s2

end Sys2Proof.Machine
end

