-- ==== Sys2Proof/Machine/Ledger.lean ====
section
/-!
DEFINITION. Ledger.lean: the Job Ledger's entries, what leaving ARMED or ACTIVE does, and the raster lines an entry binds
(spec/11, R354–R359; spec/04, R118).
-/

namespace Sys2Proof.Machine

open Sys2Proof

/-- The entry's head: KIND 1 PRINT_A, 2 PRINT_B; none for a scan. -/
def jobHead (j : Job) : Option (Fin 2) := if j.kind = 1 then some 0 else if j.kind = 2 then some 1 else none

/-- The entry's image port: KIND 3 SCAN_0, 4 SCAN_1; none for a print. -/
def jobPort (j : Job) : Option (Fin 2) := if j.kind = 3 then some 0 else if j.kind = 4 then some 1 else none

/-- The entry's direction: DIR 1 FWD, 2 REV. -/
def jobDir (j : Job) : Dir := if j.dir = 2 then .rev else .fwd

/-- ARMED or ACTIVE. -/
def jobLive (j : Job) : Bool := j.state == 2 || j.state == 3

/-- QUEUED, ARMED or ACTIVE. -/
def jobOpen (j : Job) : Bool := j.state == 1 || jobLive j

/-- DONE or ABORTED. -/
def jobEnded (j : Job) : Bool := j.state == 4 || j.state == 5

/-- Distance of an RSN from FIRST in RSN order (modulo 2³²). -/
def rsnOff (j : Job) (r : Nat) : Nat := wrap 32 (r + (2 ^ 32 - j.first % 2 ^ 32))

/-- Does the entry bind RSN `r` (R126)? -/
def jobBinds (j : Job) (r : Nat) : Bool := decide (rsnOff j r ≤ rsnOff j j.last)

/-- Entries of a KIND, in entry order. -/
def jobsOfKind (s : State) (k : Nat) : List (Fin 64) := (allFin 64).filter (fun e => s.ledger.jobs[e].kind == k)

/-- Is the line of head `h` released: every entry that binds it, and one at least, is DONE or ABORTED (R118)? -/
def lineReleased (s : State) (h : Fin 2) (r : Nat) : Bool :=
  let es := (jobsOfKind s (h.val + 1)).filter (fun e => jobBinds s.ledger.jobs[e] r)
  es.any (fun e => jobEnded s.ledger.jobs[e]) && !es.any (fun e => jobOpen s.ledger.jobs[e])

/-- The generator of a head. -/
def headGen (s : State) (h : Fin 2) : Fin 16 := Fin.ofNat 16 (objN s (0x2300 + 16 * h.val) 13)

/-- Every released line of head `h` leaves the store. -/
def releaseLines (s : State) (h : Fin 2) : State :=
  modHead s h (fun x => { x with store := x.store.filter (fun l => !lineReleased s h l.rsn) })

/-- The lines of head `h` that are released leave the store as the cycle ends, after the port has taken its line event (R118, R127). -/
def markLeaving (s : State) (h : Fin 2) : State :=
  modHead s h (fun x =>
    { x with refresh := true,
             store := x.store.map (fun l => if lineReleased s h l.rsn then { l with leaving := true } else l) })

/-- The entry has ended: its lines are released (R118); a document under way ends, and a reservation without a document is given back (R251). -/
def jobUnbind (s : State) (e : Fin 64) : State :=
  let j := s.ledger.jobs[e]
  match jobHead j with
  | some h => markLeaving s h
  | none =>
    match jobPort j with
    | none => s
    | some p =>
      let free := if j.actOrder = 0 then { s with img := { s.img with resvs := s.img.resvs.filter (fun r => r.1 != j.resv) } } else s
      match s.img.ports[p].cur with
      | some d =>
        if d.entry = e.val && d.key = j.resv then modPort s p (fun x => { x with cur := some { d with ending := true } }) else free
      | none => free

/-- The entry becomes DONE (4) or ABORTED (5) with its CAUSE; EV018 or EV019 (R358). -/
def jobFinish (s : State) (e : Fin 64) (st cause : Nat) : State :=
  let j := s.ledger.jobs[e]
  let s1 := modJob s e (fun j => { j with state := st, cause := cause, stEnd := now s })
  jobUnbind (raise s1 (if st = 4 then 18 else 19) (e.val + 256 * cause) (j.jobId + 65536 * sat 16 j.progress)) e

/-- The head of the entry looks through its rehearsal as the cycle ends (R159). -/
def refreshHead (s : State) (e : Fin 64) : State :=
  match jobHead s.ledger.jobs[e] with
  | some h => modHead s h (fun x => { x with refresh := true })
  | none => s

/-- The entry becomes ARMED (R356); EV016. -/
def jobSetArmed (s : State) (e : Fin 64) : State :=
  let j := s.ledger.jobs[e]
  raise (modJob (refreshHead s e) e (fun j => { j with state := 2 })) 16 (e.val + 256 * j.kind) j.jobId

/-- The earlier of two entries by the cycle of becoming ACTIVE, then by entry number (R128). -/
def jobEarlier (s : State) (best : Option (Fin 64)) (e : Fin 64) : Option (Fin 64) :=
  match best with
  | none => some e
  | some b => if s.ledger.jobs[e].stActive < s.ledger.jobs[b].stActive then some e else some b

/-- The ACTIVE entry of a KIND that the unit serves (R128). -/
def servedJob (s : State) (k : Nat) : Option (Fin 64) :=
  ((jobsOfKind s k).filter (fun e => s.ledger.jobs[e].state == 3)).foldl (jobEarlier s) none

/-- The entry becomes ACTIVE (R356, R357); EV017, and EV151 for the job that waits where two are ACTIVE for one head
(R128). -/
def jobSetActive (s : State) (e : Fin 64) : State :=
  let j := s.ledger.jobs[e]
  let n := s.ledger.nextAct + 1
  let s1 := modJob (refreshHead s e) e (fun j => { j with state := 3, stActive := now s, actOrder := n })
  let s2 := { s1 with ledger := { s1.ledger with nextAct := n } }
  let s3 := raise s2 17 (e.val + 256 * j.kind) j.jobId
  match jobHead j, servedJob s j.kind, servedJob s3 j.kind with
  | some h, some f, some g =>
    let w := if g = e then f else e
    if s3.ledger.jobs[w].conflict then s3
    else raise (modJob s3 w (fun j => { j with conflict := true })) 151 (2147483648 * h.val + w.val) g.val
  | _, _, _ => s3

/-- How many entries are in a state. -/
def jobCount (s : State) (st : Nat) : Nat :=
  ((allFin 64).filter (fun e => s.ledger.jobs[e].state == st)).length

/-- The number of lines between FIRST and LAST (R355). -/
def jobLines (j : Job) : Nat := rsnOff j j.last + 1

/-- The checks of a SUBMIT (R355). `gl` is the lane of the unit's generator. -/
def submitOk (s : State) (e : Fin 64) (gl : Nat) : Bool :=
  let j := s.ledger.jobs[e]
  let wmOk := fun w => w < 1024 || w == 0xFFFF
  decide (1 ≤ j.kind) && decide (j.kind ≤ 4) && decide (j.lane = gl) && (j.dir == 1 || j.dir == 2)
    && (if j.kind ≤ 2 then decide (jobLines j ≤ 16777216) else decide (j.first = 0) && decide (j.last = 0))
    && wmOk j.startWm && wmOk j.endWm && !(j.startWm == j.endWm && j.startWm != 0xFFFF)
    && (allFin 64).all (fun f => f == e || s.ledger.jobs[f].state == 0 || s.ledger.jobs[f].jobId != j.jobId)

/-- The lane of the generator of the entry's unit: LINE_GEN div 4 (R355). -/
def jobUnitLane (s : State) (j : Job) : Nat :=
  match jobHead j with
  | some h => objN s (0x2300 + 16 * h.val) 13 / 4
  | none =>
    match jobPort j with
    | some p => objN s (0x2700 + 16 * p.val) 4 / 4
    | none => 0

end Sys2Proof.Machine
end

