-- ==== Sys2Proof/Machine/Head.lean ====
section
/-!
DEFINITION. Head.lean: what a Line Engine does with a line event, from the mapping of R126 to the end of the slice train,
and the loops it feeds (spec/04 R111–R132, spec/05 R138a–R163).
-/

namespace Sys2Proof.Machine

open Sys2Proof

/-- The port drives its head: ENABLE, READY, RUN or SERVICE (R111). -/
def portDrives (s : State) (h : Fin 2) : Bool :=
  decide (headCfg s h 1 ≠ 0) && decide (s.heads[h].state = 1) && inRun s

/-- A line enters the history (R138a). -/
def histPush (hist : List Nat) (dots : Nat) : List Nat := (dots :: hist).take 4

/-- The history is cleared to cold (R140). A reload of R141 that was due is no longer: cold wins (DESIGN CHOICE, assumption log 111). -/
def histClear (s : State) (h : Fin 2) : State :=
  modEn s h (fun e => { e with hist := [0, 0, 0, 0], histResets := inc32 e.histResets, revCont := false })

/-- The line being issued enters the history, if it has not (R138a): it does so at its train's end, or before where a later line is
judged. -/
def enterTrain (s : State) (h : Fin 2) : State :=
  match s.heads[h].train with
  | some t =>
    if t.entered then s
    else
      modEn (modHead s h (fun x => { x with train := some { t with entered := true } })) h
        (fun e => { e with hist := histPush e.hist t.lc.dots })
  | none => s

/-- A line consumed without being committed enters as all white, after the line before it (R138a). -/
def enterWhite (s : State) (h : Fin 2) : State :=
  modEn (enterTrain s h) h (fun e => { e with hist := histPush e.hist 0, recRun := false })

/-- A change of the committed direction of the port's lane (R140, R141). -/
def histDirChange (s : State) (h : Fin 2) : State :=
  if enCfg s h 6 = 1 then modEn s h (fun e => { e with revCont := true }) else histClear s h

/-! The mapping of a line event to a raster line. -/

/-- The RSN of the k-th line of a job in its direction (R126). -/
def jobRsn (j : Job) (k : Nat) : Nat :=
  if jobDir j = .rev then wrap 32 (j.last + (2 ^ 32 - k % 2 ^ 32)) else wrap 32 (j.first + k)

/-- Waymark entry `w` fires in this cycle and pulses Job Ledger input `e` (R357). -/
def wmPulses (s : State) (e : Fin 64) (w : Nat) : Bool :=
  let x := wmAt s w
  decide (w < 1024) && x.tgt == 0x60 && x.inp == e.val && x.op == 1 && firesNow s x != 0

/-- The entry becomes ACTIVE by a start waymark that fires in this cycle (R127, R357), unless its end waymark ends it first: entries act
in their order (R69). -/
def startsNow (s : State) (e : Fin 64) : Bool :=
  let j := s.ledger.jobs[e]
  j.state == 2 && wmPulses s e j.startWm && !(decide (j.endWm < j.startWm) && wmPulses s e j.endWm)

/-- The entry was ACTIVE and has left ACTIVE in this cycle (R127). -/
def leftNow (s : State) (e : Fin 64) : Bool :=
  let j := s.ledger.jobs[e]
  jobEnded j && j.actOrder != 0 && j.stEnd == now s

/-- The job that the unit of a KIND takes this cycle's line event under: its LANE is that of the unit's generator (R22, R127, R128). -/
def lineJob (s : State) (k : Nat) : Option (Fin 64) :=
  let at_ := fun e : Fin 64 => if startsNow s e then now s else s.ledger.jobs[e].stActive
  ((jobsOfKind s k).filter (fun e =>
    (s.ledger.jobs[e].state == 3 || leftNow s e || startsNow s e)
      && decide (s.ledger.jobs[e].lane = jobUnitLane s s.ledger.jobs[e]))).foldl
    (fun b e => match b with
      | none => some e
      | some b => if at_ e < at_ b then some e else some b) none

/-- What a line event is to the port. -/
inductive LineTake where
  | nothing
  | revisit
  | line (e : Fin 64) (rsn : Nat) (b : JobBind)
  deriving DecidableEq, Repr

/-- The binding of the port to an entry, a fresh one where the entry has taken no line. -/
def bindFor (s : State) (h : Fin 2) (e : Fin 64) (n : Int) : JobBind :=
  let act := s.ledger.jobs[e].order
  match s.heads[h].bind with
  | some b => if b.entry = e.val && b.act = act then b else { entry := e.val, act := act, n1 := n, lastN := none }
  | none => { entry := e.val, act := act, n1 := n, lastN := none }

/-- The PRINT_GATE level at the end of this cycle lets the line print (R131). -/
def gateLets (s : State) (h : Fin 2) : Bool :=
  decide (headCfg s h 14 = 0) || levelAtEnd s (0x10 + h.val) 0 s.heads[h].printGate

/-- A line event at index `n` in direction `d`, mapped (R126, R131). -/
def lineTake (s : State) (h : Fin 2) (n : Int) (d : Dir) : LineTake :=
  if !portDrives s h then .nothing
  else match lineJob s (h.val + 1) with
  | none => .nothing
  | some e =>
    let j := s.ledger.jobs[e]
    if d ≠ jobDir j || !gateLets s h then .revisit
    else
      let b := bindFor s h e n
      let seen := match b.lastN with
        | none => false
        | some m => if d = Dir.rev then decide (m ≤ n) else decide (n ≤ m)
      if seen then .revisit
      else
        let k := if d = Dir.rev then b.n1 - n else n - b.n1
        if k < 0 || (jobLines j : Int) ≤ k then .nothing
        else .line e (jobRsn j k.toNat) { b with lastN := some n }

/-! Rehearsal. -/

/-- The job whose lines the head rehearses: the served one, or the first ARMED one (R159). -/
def rehearsedJob (s : State) (h : Fin 2) : Option (Fin 64) :=
  match servedJob s (h.val + 1) with
  | some e => some e
  | none =>
    ((jobsOfKind s (h.val + 1)).filter (fun e => s.ledger.jobs[e].state == 2)).foldl
      (fun b e => match b with
        | none => some e
        | some b => if s.ledger.jobs[e].order < s.ledger.jobs[b].order then some e else some b) none

/-- Offset of the next line of a job: the lines its port has passed. -/
def nextOffset (s : State) (h : Fin 2) (e : Fin 64) : Nat :=
  match s.heads[h].bind with
  | some b =>
    if b.entry = e.val && b.act = s.ledger.jobs[e].order then
      match b.lastN with
      | some m => (m - b.n1).natAbs + 1
      | none => 0
    else 0
  | none => 0

/-- The raster line of an RSN as history: white outside the job or once released (R141). -/
def storeLine (s : State) (h : Fin 2) (j : Job) (r : Nat) : Nat :=
  if jobBinds j r then (decodeFor s h r).getD 0 else 0

/-- Lines n - 1 to n - 4 taken from the raster store for RSN `r` (R141). -/
def storeHist (s : State) (h : Fin 2) (j : Job) (r : Nat) : List Nat :=
  (upto 4).map (fun m =>
    storeLine s h j (if jobDir j = .rev then wrap 32 (r + m + 1) else wrap 32 (r + (2 ^ 32 - (m + 1)))))

/-- The history that the lines on their way will leave: the line being issued, the one after it, the one that is recomputed. -/
def histAhead (s : State) (h : Fin 2) : List Nat :=
  let x := s.heads[h]
  let h1 := match x.train with
    | some t => if t.entered then s.en[h].hist else histPush s.en[h].hist t.lc.dots
    | none => s.en[h].hist
  let h2 := match x.next with
    | some t => histPush h1 t.lc.dots
    | none => h1
  match x.recomp with
  | some r => histPush h2 r.dots
  | none => h2

/-- The history the next line of job `j` at RSN `r` will meet. -/
def histFor (s : State) (h : Fin 2) (j : Job) (r : Nat) : List Nat :=
  if s.en[h].revCont then storeHist s h j r else histAhead s h

/-- T_r: T_HEAD advanced over the lines rehearsed before, and the lines on their way (R159; DEDUCED, log 15). -/
def rehearsalTemp (s : State) (h : Fin 2) (before : List Rehearsed) : Int :=
  let dt : Int := s.en[h].lastInterval
  let n := dotsPhys s h
  let step := fun (t : Int) (x : Option Train) => match x with
    | some r => modelStep s h t (firedEnergy s h (lcFired n r.lc) r.vh) dt
    | none => t
  let t0 := step (step s.en[h].tInt s.heads[h].train) s.heads[h].next
  let t1 := match s.heads[h].recomp with
    | some r => modelStep s h t0 (firedEnergy s h (lcFired n r.lc) r.vh) dt
    | none => t0
  headTemp (before.foldl (fun t r => modelStep s h t (firedEnergy s h (lcFired n r.lc) r.vr) dt) t1)

/-- Lines are rehearsed until three are held, the job's range ends, or a line is not in the store (R159). -/
def rehearseMore (s : State) (h : Fin 2) (j : Job) (v off : Nat) : Nat → List Rehearsed → List Rehearsed
  | 0, acc => acc
  | fuel + 1, acc =>
    let k := off + acc.length
    if 3 ≤ acc.length || jobLines j ≤ k then acc
    else
      let r := jobRsn j k
      if (lineAt s.heads[h].store r).isNone then acc
      else
        let dots := (decodeFor s h r).getD 0
        let hist := match acc.getLast? with
          | some p => histPush p.hist p.lc.dots
          | none => histFor s h j r
        let t := rehearsalTemp s h acc
        rehearseMore s h j v off fuel
          (acc ++ [{ rsn := r, dir := jobDir j, hist := hist, vr := v, tr := t, lc := lineCalc s h dots hist t v }])

/-- `map` is loaded into the shift register, from now on and not before LATCH# has risen (R121). -/
def loadReg (s : State) (h : Fin 2) (map : Nat) : State :=
  if s.heads[h].reg = some map then s
  else modHead s h (fun x => { x with reg := some map, regSt := max (now s) x.riseSt })

/-- The first non-empty slice of a line. -/
def lcFirst (c : LineCalc) : Option Nat := c.slices.find? (fun m => m != 0)

/-- With no slice left to issue the register takes the first slice of the next rehearsed line (R121). -/
def preload (s : State) (h : Fin 2) : State :=
  let x := s.heads[h]
  let busy := (match x.train with | some t => !t.todo.isEmpty | none => false) || x.next.isSome || x.recomp.isSome
  if busy then s
  else match s.en[h].rehearsed.head? with
    | some r => (match lcFirst r.lc with | some m => loadReg s h m | none => s)
    | none => s

/-- The head's rehearsal at supply `v`: the lines still due are kept, further ones prepared (R159). -/
def rehearseAt (s : State) (h : Fin 2) (v : Nat) : State :=
  match rehearsedJob s h with
  | none => modEn s h (fun e => { e with rehearsed := [] })
  | some e =>
    let j := s.ledger.jobs[e]
    let off := nextOffset s h e
    let held := s.en[h].rehearsed
    let keep := held.dropWhile (fun r => r.rsn != jobRsn j off || r.dir != jobDir j)
    let rs := rehearseMore s h j v off 3 keep
    preload (modEn s h (fun e => { e with rehearsed := rs })) h

/-- The head's rehearsal at VH_TARGET. -/
def rehearse (s : State) (h : Fin 2) : State := rehearseAt s h s.vl[h].target

/-- Every line still rehearsed is rehearsed again at supply `v` (R161). -/
def rehearseAgain (s : State) (h : Fin 2) (v : Nat) : State :=
  rehearseAt (modEn s h (fun e => { e with rehearsed := [] })) h v

/-! The VH loop (R151–R153). -/

/-- One value r is gathered; after LOOP_LINES of them VH_TARGET steps, or the loop is held at a limit with EV166. -/
def vhLoop (s : State) (h : Fin 2) (r : Nat) : State :=
  if vlCfg s h 1 = 0 || vlCfg s h 2 = 1 then s
  else
    let g := s.vl[h].gathered ++ [r]
    if g.length < vlCfg s h 8 then modVl s h (fun v => { v with gathered := g })
    else
      let m := maxN g
      let v := s.vl[h]
      let s1 := modVl s h (fun v => { v with gathered := [], ratio := sat 16 m })
      if vlCfg s h 6 + vlCfg s h 7 < m then
        if v.target < vlCfg s h 4 then modVl s1 h (fun v => { v with target := v.target + 50, state := 1 })
        else
          let s2 := modVl s1 h (fun v => { v with state := 3 })
          if v.state = 3 then s2 else raise s2 166 (headBit h + 1) (sat 16 m)
      else if m + vlCfg s h 7 < vlCfg s h 6 then
        if vlCfg s h 3 < v.target then modVl s1 h (fun v => { v with target := v.target - 50, state := 1 })
        else
          let s2 := modVl s1 h (fun v => { v with state := 4 })
          if v.state = 4 then s2 else raise s2 166 (headBit h) (sat 16 m)
      else modVl s1 h (fun v => { v with state := 1 })

/-! Committing a line. -/

/-- EV160 and CLIP_COUNT of a clipped line, at most one event in 100 committed lines (R139). -/
def noteClip (s : State) (h : Fin 2) (rsn : Nat) : State :=
  let e := s.en[h]
  let n := s.heads[h].linesPrinted
  let quiet := match e.clipEvAt with
    | some m => decide (wrap 32 (n + (2 ^ 32 - m)) < 100)
    | none => false
  let s1 := modEn s h (fun e => { e with clipCount := inc32 e.clipCount })
  if quiet then s1 else raise (modEn s1 h (fun e => { e with clipEvAt := some n })) 160 (headBit h) rsn

/-- Slices split and lines recomputed are counted, with their events, once the line is committed (R124, R161, R163). -/
def noteSplits (s : State) (h : Fin 2) (t : Train) : State :=
  if t.splits = 0 then s
  else
    let s1 := modHead s h (fun x => { x with splitCount := wrap 32 (x.splitCount + t.splits) })
    if t.splitEv then s1 else raise s1 148 (headBit h + t.splitInfo) t.rsn

/-- A line event has dropped slices of a committed line: EV149 (R130). -/
def noteTrunc (s : State) (h : Fin 2) (rsn : Nat) (dropped : Nat) : State :=
  raise (modHead s h (fun x => { x with truncCount := inc32 x.truncCount })) 149 (headBit h + dropped) rsn

/-- A committed line was recomputed, or was not (R161): the counters of its failed checks, MAX_RECOMPUTE, and EV161 at the first of a
run. -/
def noteRecompute (s : State) (h : Fin 2) (t : Train) : State :=
  match t.recomputed with
  | none => modEn s h (fun e => { e with recRun := false })
  | some (f, dt) =>
    let s1 := modEn s h (fun e =>
      { e with recomputes := inc32 e.recomputes, rcDir := wrap 32 (e.rcDir + b2n (bit f 0)),
               rcMap := wrap 32 (e.rcMap + b2n (bit f 1 || bit f 2)), rcVh := wrap 32 (e.rcVh + b2n (bit f 3)),
               rcTemp := wrap 32 (e.rcTemp + b2n (bit f 4)), maxRecompute := max e.maxRecompute (sat 16 dt), recRun := true })
    if s.en[h].recRun then s1 else raise s1 161 (headBit h + f) dt

/-- The line of a train is committed (R120, R123, R163, R185): counters, ROT, job progress, the RC_LINES of the head's governor. -/
def commitLine (s : State) (h : Fin 2) (t : Train) : State :=
  let g := headCfg s h 6
  let s1 := modHead s h (fun x =>
    { x with linesPrinted := inc32 x.linesPrinted, lastRsn := t.rsn, rot := (x.rot + 1) % g, supRun := false,
             store := x.store.map (fun l => if l.rsn = t.rsn then { l with printed := true } else l) })
  let s2 := modEn s1 h (fun e =>
    { e with lastWmax := t.lc.wmax, lastD := t.lc.d, lastCommitSt := some (now s), coldDone := false })
  let s3 := if t.lc.clipped then noteClip s2 h t.rsn else s2
  let s4 := noteRecompute (noteSplits s3 h t) h t
  let s5 := match t.cutBy with
    | some n => noteTrunc s4 h t.rsn n
    | none => s4
  let s6 := modJob s5 (Fin.ofNat 64 t.entry) (fun j => { j with progress := inc32 j.progress })
  modGov s6 h (fun x => if 0 < x.rcLeft then { x with rcLeft := x.rcLeft - 1 } else x)

/-- The train of the head's running line is committed if it is not yet. -/
def commitTrain (s : State) (h : Fin 2) : State :=
  match s.heads[h].train with
  | some t =>
    if t.committed then s
    else
      commitLine (modHead s h (fun x => { x with train := some { t with
        committed := true, splits := 0, splitEv := decide (0 < t.splits), cutBy := none } })) h t
  | none => s

/-- A committed FWD line of HEAD-B that was not truncated is a readback sample (R155, R259). -/
def noteSample (s : State) (h : Fin 2) (t : Train) : State :=
  if h = 1 && t.elig && t.committed && !t.truncated && t.dir = .fwd
      && decide (objN s 0x2420 4 * headDots s h ≤ 1000 * popCount (headDots s h) t.lc.dots) then
    let g := headGen s h
    { s with img := { s.img with rbPend := s.img.rbPend ++ [⟨dueFwd s g t.index + obj s 0x2730 1, t.lc.dots⟩] } }
  else s

/-- The final RSN of an ACTIVE job has left the head: DONE with CAUSE 17 (R358). -/
def finalRsn (s : State) (t : Train) : State :=
  let e : Fin 64 := Fin.ofNat 64 t.entry
  let j := s.ledger.jobs[e]
  if j.state = 3 && t.rsn = jobRsn j (jobLines j - 1) then jobFinish s e 4 17 else s

/-- The end of a list of issues. -/
def issuesEnd (is : List Issue) (t : ST) : ST :=
  match is.getLast? with
  | some i => i.fin
  | none => t

/-- The slice train has ended at tick `fin` (R121, R138a, R143, R151, R358): the waves of slice 1 and the length are read, the line
enters the history, the model takes the energy of the slices fired. -/
def endTrain (s : State) (h : Fin 2) (t : Train) (fin : ST) : State :=
  let first := match t.issues.head? with
    | some i => i.latch
    | none => fin
  let len := fin - first
  let fired := sumN (t.issues.map (fun i => i.fired))
  let waves := sumN ((t.issues.filter (fun i => i.slice == 1)).map (fun i => i.waves))
  let s1 := modHead s h (fun x =>
    { x with train := none, lastTrain := wrap 32 len, maxTrain := max x.maxTrain len, wavesLast := sat 8 waves })
  let s2 := modEn s1 h (fun e => { e with hist := (if t.entered then e.hist else histPush e.hist t.lc.dots),
                                          lastEnergy := wrap 32 (firedEnergy s h fired t.vh) })
  let s3 := modelUpdate s2 h fired t.vh
  let s4 := match t.period with
    | some p => if p = 0 then s3 else vhLoop s3 h (len * 1000 / p)
    | none => s3
  finalRsn (noteSample s4 h t) t

/-! Latching (R121, R122, R124). -/

/-- Is the slice train of the line still running? -/
def trainRuns (s : State) (t : Train) : Bool :=
  !t.todo.isEmpty || t.issues.isEmpty || !t.committed || decide (now s < issuesEnd t.issues (now s))

/-- The slice last latched, 0 before the first. -/
def sliceNow (t : Train) : Nat :=
  match t.issues.getLast? with
  | some i => i.slice
  | none => 0

/-- The rest of the slice in progress: its passes. -/
def restOfSlice (t : Train) : List Slot := t.todo.filter (fun x => x.slice == sliceNow t)

/-- The earliest cycle of the next LATCH#: 20 ticks after the last strobe and 10 after the shift (R121). -/
def latchAt (s : State) (h : Fin 2) : ST := max s.heads[h].freeAt (s.heads[h].regSt + shiftTicks s h + 10)

/-- The first slot of a train is latched in this cycle, at the VH sensed last; a slice above the current limit is split. The register takes
what is issued next (R121–R124). -/
def latchSlot (s : State) (h : Fin 2) (t : Train) : State :=
  let vh := s.vl[h].sensed
  match t.todo with
  | [] => s
  | x :: rest =>
    let slots := passSlots s h vh x
    let y := slots.headD x
    let split := decide (1 < slots.length)
    let first := t.issues.isEmpty
    let i := issueAt s h (if first then s.heads[h].rot else t.rot) t.lc.d vh y (now s)
    let t1 := { t with
      todo := slots.drop 1 ++ rest
      issues := t.issues ++ [i]
      firstStb := (if first then i.rise + headCfg s h 11 else t.firstStb)
      vh := (if first then vh else t.vh)
      rot := (if first then s.heads[h].rot else t.rot)
      splits := t.splits + b2n split
      splitInfo := (if split && t.splits = 0 && !t.splitEv then splitDetail s h vh x.map else t.splitInfo) }
    let s1 := if t.committed then noteSplits s h t1 else s
    let t2 := if t.committed then { t1 with splits := 0, splitEv := t1.splitEv || split } else t1
    let s2 := modHead s1 h (fun o => { o with train := some t2, freeAt := i.fin + 20, riseSt := i.rise, reg := none, regSt := i.rise })
    match t2.todo with
    | z :: _ => loadReg s2 h z.map
    | [] => preload s2 h

/-- The line that waits to be latched drops out: consumed without being committed (R138a). -/
def dropNext (s : State) (h : Fin 2) : State :=
  match s.heads[h].next with
  | some _ => enterWhite (modHead s h (fun x => { x with next := none, refresh := true })) h
  | none => s

/-- A new cycle for a port that issues a line (R121): the next slice is latched when its time has come, unless the port has stopped or its
strobes are held off (R111, R132, R146); then the line that follows. -/
def headTick (s : State) (h : Fin 2) : State :=
  let x := s.heads[h]
  let stop := !portDrives s h || strobesHeld s h || s.en[h].thermFault
  let run := fun s : State =>
    match s.heads[h].next with
    | none => s
    | some t =>
      if !portDrives s h then dropNext s h
      else if max t.ready (latchAt s h) ≤ now s then
        latchSlot (modHead s h (fun x => { x with next := none })) h t
      else s
  match x.train with
  | some t =>
    if t.todo.isEmpty then (if trainRuns s t then s else run s)
    else if t.committed && stop then modHead s h (fun x => { x with train := some { t with todo := restOfSlice t } })
    else if latchAt s h ≤ now s then latchSlot s h t
    else s
  | none => run s

/-- A line event meets the line before it: a train that still runs finishes the slice in progress and drops the rest, with EV149 once the
line is committed (R130); one that is not yet latched is consumed, with nothing counted (DESIGN CHOICE, assumption log 112). The line before has
entered the history when the new one is judged. -/
def giveWay (s : State) (h : Fin 2) : State :=
  let s1 := match s.heads[h].train with
    | none => s
    | some t =>
      if !trainRuns s t then endTrain s h t (issuesEnd t.issues (now s))
      else
        let keep := restOfSlice t
        let dropped := ((t.todo.filter (fun x => x.slice != sliceNow t)).map (fun x => x.slice)).dedup.length
        let t' := { t with todo := keep, truncated := true, cutBy := (if t.committed then none else some dropped) }
        let s1 := modHead s h (fun x => { x with train := some t', reg := (if dropped = 0 then x.reg else none) })
        if t.committed then noteTrunc s1 h t.rsn dropped else s1
  dropNext (enterTrain s1 h) h

/-- A pending recompute is overtaken: its line is lost, white in the history; EV162 (R162). -/
def loseRecompute (s : State) (h : Fin 2) : State :=
  match s.heads[h].recomp with
  | none => s
  | some r =>
    let s1 := modHead s h (fun x => { x with recomp := none, refresh := true })
    let s2 := modEn (enterWhite s1 h) h (fun e => { e with recomputeLost := inc32 e.recomputeLost })
    raise s2 162 (headBit h) r.rsn

/-- A line is consumed without being committed (R132, R146): `ev` says whether EV150 belongs to the run. -/
def suppressLine (s : State) (h : Fin 2) (rsn : Nat) (ev : Bool) : State :=
  let first := ev && !s.heads[h].supRun
  let s1 := modHead s h (fun x =>
    { x with suppressed := inc32 x.suppressed, supRun := x.supRun || ev, refresh := true })
  let s2 := enterWhite s1 h
  if first then raise s2 150 (headBit h) rsn else s2

/-- The line whose first strobe is due is not committed (R132): it goes with its train; where it has entered the history for a line that
followed, it turns white there. -/
def suppressTrain (s : State) (h : Fin 2) (t : Train) (ev : Bool) : State :=
  let s1 := modHead s h (fun x => { x with train := none, freeAt := now s, reg := none })
  if t.entered then
    let s2 := suppressLine s1 h t.rsn ev
    modEn s2 h (fun e => { e with hist := (e.hist.drop 1).set 0 0 ++ [0] })
  else suppressLine s1 h t.rsn ev

/-- The train of a line that can be latched from `ready` on, with calculation `lc`. -/
def makeTrain (e : Fin 64) (rsn : Nat) (n : Int) (d : Dir) (lc : LineCalc) (elig : Bool) (vh : Nat) (p : Option Nat)
    (rc : Option (Nat × Nat)) (ready : ST) : Train :=
  { entry := e.val, rsn := rsn, index := n, dir := d, lc := lc, todo := lcSlots lc, issues := [], ready := ready, firstStb := 0,
    committed := false, truncated := false, elig := elig, vh := vh, rot := 0, period := p, splits := 0, splitInfo := 0,
    splitEv := false, cutBy := none, recomputed := rc, entered := false }

/-- The checks of R160 that a rehearsed line fails, as bits [0]–[4] for checks 1–5. -/
def failedChecks (s : State) (h : Fin 2) (rsn : Nat) (d : Dir) (vh : Nat) : Nat :=
  match s.en[h].rehearsed.head? with
  | none => 2
  | some r =>
    let dv := if vh < r.vr then r.vr - vh else vh - r.vr
    b2n (r.dir ≠ d) + 2 * b2n (r.rsn ≠ rsn) + 4 * b2n (r.hist ≠ s.en[h].hist) + 8 * b2n (r.vr / 100 < dv)
      + 16 * b2n (8 < (s.en[h].tHead - r.tr).natAbs)

/-- The rehearsal of a line whose event has passed is no longer held. -/
def passRehearsed (s : State) (h : Fin 2) (rsn : Nat) : State :=
  modEn s h (fun e => { e with rehearsed := (match e.rehearsed with
    | r :: rest => if r.rsn = rsn then rest else r :: rest
    | [] => []) })

/-- What a line is issued with: the rehearsed maps where every check holds, else a computation at T_HEAD and VH sensed (R160, R161). -/
def linePlan (s : State) (h : Fin 2) (rsn : Nat) (d : Dir) (dots vh : Nat) : LineCalc × Nat :=
  let f := failedChecks s h rsn d vh
  match s.en[h].rehearsed.head? with
  | some r => if f = 0 then (r.lc, 0) else (lineCalc s h dots s.en[h].hist s.en[h].tHead vh, f)
  | none => (lineCalc s h dots s.en[h].hist s.en[h].tHead vh, f)

/-- The line is committed at once where it has no slice; else it waits for its LATCH#, 4 ticks on (tHD10), or for its recompute (R120, R125,
R160, R161). A line with no slice has nothing to recompute (DESIGN CHOICE, assumption log 112). -/
def printLine (s : State) (h : Fin 2) (e : Fin 64) (rsn : Nat) (n : Int) (d : Dir) (dots : Nat) (elig : Bool)
    (vh : Nat) (p : Option Nat) (plan : LineCalc × Nat) : State :=
  let s1 := modHead (passRehearsed s h rsn) h (fun x => { x with refresh := true })
  if lcEmpty plan.1 then
    let t := makeTrain e rsn n d plan.1 elig vh p none (now s)
    let old := s1.heads[h].train
    let s2 := endTrain (commitLine s1 h t) h { t with committed := true } (now s)
    modHead s2 h (fun x => { x with train := old })
  else if plan.2 = 0 then
    let s2 := modHead s1 h (fun x => { x with next := some (makeTrain e rsn n d plan.1 elig vh p none (now s + 4)) })
    match lcFirst plan.1 with
    | some m => loadReg s2 h m
    | none => s2
  else
    let pend : Recompute :=
      { entry := e.val, rsn := rsn, index := n, dir := d, dots := dots, lc := plan.1, elig := elig, startSt := now s, vh := vh,
        failed := plan.2, period := p }
    modHead s1 h (fun x => { x with reg := none, recomp := some pend })

/-- More than HIST_COLD has passed without a committed line, and the history has not been cleared for it (R140). -/
def histCold (s : State) (h : Fin 2) : Bool :=
  match s.en[h].lastCommitSt with
  | some c => !s.en[h].coldDone && decide (enCfg s h 7 < (now s : Int) - c)
  | none => false

/-- The history is made ready for the line: cold once HIST_COLD has passed without a committed line, or taken from the store (R140,
R141). -/
def lineHistory (s : State) (h : Fin 2) (j : Job) (rsn : Nat) : State :=
  let s1 := if histCold s h then modEn (histClear s h) h (fun e => { e with coldDone := true }) else s
  if s1.en[h].revCont then
    let hist := storeHist s1 h j rsn
    modEn s1 h (fun e => { e with hist := hist, revCont := false })
  else s1

/-- The strobes of a line event are held off: the Safety Net, LOCKOUT, or VH below 14 V as last read at a servo boundary or sensed at the
event (R132). -/
def heldAtEvent (s : State) (h : Fin 2) (vh : Nat) : Bool := strobesHeld s h || decide (vh < 14000)

/-- A due line that is not in the store, or is held with a format error, is printed BLANK; EV147 at the first of a run, EV146 (R116,
R129). Answers the state and the dots. -/
def fetchLine (s : State) (h : Fin 2) (rsn : Nat) : State × Nat :=
  match lineAt s.heads[h].store rsn with
  | none =>
    let s1 := modHead s h (fun x => { x with missing := inc32 x.missing, missRun := true })
    (if s.heads[h].missRun then s1 else raise s1 147 (headBit h) rsn, 0)
  | some l =>
    let s1 := modHead s h (fun x => { x with missRun := false })
    match decodeFor s1 h rsn with
    | some dots => (s1, dots)
    | none => (raise (modHead s1 h (fun x => { x with formatErrs := inc16 x.formatErrs })) 146 (headBit h + l.fmt) rsn, 0)

/-- The line with RSN `rsn` is taken: held back, or fetched and printed (R116, R129, R132, R146). Nothing but SUPPRESSED_LINES counts a line
that is not committed (R163). -/
def startLine (s : State) (h : Fin 2) (e : Fin 64) (rsn : Nat) (n : Int) (d : Dir) (vh : Nat) (p : Option Nat) : State :=
  let s1 := lineHistory s h s.ledger.jobs[e] rsn
  let dots := (decodeFor s1 h rsn).getD 0
  let plan := linePlan s1 h rsn d dots vh
  if s1.en[h].thermFault then suppressLine (passRehearsed s1 h rsn) h rsn false
  else if heldAtEvent s1 h vh && !lcEmpty plan.1 then suppressLine (passRehearsed s1 h rsn) h rsn true
  else
    let elig := match lineAt s1.heads[h].store rsn with
      | some l => l.elig
      | none => false
    printLine (fetchLine s1 h rsn).1 h e rsn n d dots elig vh p plan

/-- A line event of the head's generator, bound to a job (R125–R127): a recompute still under way is overtaken (R162). -/
def headLine (s : State) (h : Fin 2) (ev : PortLine) : State :=
  let s0 := modVl (modEn s h (fun e => { e with lastInterval := ev.period.getD e.lastInterval })) h
    (fun v => { v with sensed := ev.vh })
  let s1 := loseRecompute s0 h
  match lineTake s1 h ev.index ev.dir with
  | .nothing => s1
  | .revisit => modHead s1 h (fun x => { x with revisits := inc32 x.revisits })
  | .line e rsn b =>
    startLine (modHead (giveWay s1 h) h (fun x => { x with bind := some b })) h e rsn ev.index ev.dir ev.vh ev.period

/-- The first cycle in which a recomputed line can be latched: the register reloaded, the last strobe 20 ticks past (R121, R161). -/
def recomputeFrom (s : State) (h : Fin 2) (r : Recompute) : ST :=
  max s.heads[h].freeAt (r.startSt + shiftTicks s h + 10)

/-- The recomputed line may be latched in this cycle: at most 8000 ticks after its line event, unless the slice before it or the shift takes
longer (R121, R161; DEDUCED, assumption log 112). -/
def recomputeDue (s : State) (h : Fin 2) : Bool :=
  match s.heads[h].recomp with
  | none => false
  | some r => decide (recomputeFrom s h r ≤ now s) && decide (now s ≤ max (r.startSt + 8000) (recomputeFrom s h r))

/-- The recomputed line is reloaded and latched in this cycle, and the following lines are rehearsed again (R161). It is counted once it is
committed (R163). A train before it has ended. -/
def recomputeLatch (s : State) (h : Fin 2) : State :=
  match s.heads[h].recomp with
  | none => s
  | some r =>
    let s0 := match s.heads[h].train with
      | some t => if trainRuns s t then s else endTrain s h t (issuesEnd t.issues (now s))
      | none => s
    let t := makeTrain (Fin.ofNat 64 r.entry) r.rsn r.index r.dir r.lc r.elig r.vh r.period
      (some (r.failed, now s - r.startSt)) (now s)
    rehearseAgain (latchSlot (modHead s0 h (fun x => { x with recomp := none })) h t) h r.vh

/-- The first strobe of the line falls due: it is committed, or, with strobes held off, consumed (R120, R132). -/
def lineCommit (s : State) (h : Fin 2) : State :=
  match s.heads[h].train with
  | none => s
  | some t =>
    if t.committed || t.issues.isEmpty || now s < t.firstStb then s
    else if s.en[h].thermFault then suppressTrain s h t false
    else if strobesHeld s h then suppressTrain s h t true
    else rehearse (commitTrain s h) h

/-- The last strobe of the line has ended (R121). -/
def sliceTrainEnd (s : State) (h : Fin 2) : State :=
  match s.heads[h].train with
  | none => s
  | some t => if trainRuns s t then s else endTrain s h t (issuesEnd t.issues (now s))

/-- The port stops at the next slice boundary (R33, R112): slices not yet latched are not issued, a line that waits is consumed. -/
def cutTrain (s : State) (h : Fin 2) : State :=
  let s1 := match s.heads[h].train with
    | none => s
    | some t => modHead s h (fun x => { x with train := some { t with todo := restOfSlice t, truncated := true } })
  let s2 := dropNext s1 h
  match s2.heads[h].recomp with
  | some _ => enterWhite (modHead s2 h (fun x => { x with recomp := none })) h
  | none => s2

/-- The strobes of an issue cut in cycle `t`: those not begun are not made, the others end (R447). -/
def cutIssue (t : ST) (i : Issue) : Issue :=
  let sts := (i.strobes.filter (fun y => decide (y.2.1 < t))).map (fun y => (y.1, y.2.1, min y.2.2 t))
  { i with strobes := sts, fin := min i.fin t, fired := (if sts = [] then 0 else i.fired) }

/-- The strobes are held off in this cycle (R132, R146, R447): a committed line ends here, and what it has not fired is not fired later. A
slice cut short counts as fired (DESIGN CHOICE, assumption log 112). A line not yet committed is judged at its first strobe. -/
def cutStrobes (s : State) (h : Fin 2) : State :=
  match s.heads[h].train with
  | none => s
  | some t =>
    if !t.committed then s
    else
      modHead s h (fun x => { x with
        train := some { t with todo := [], truncated := true, issues := t.issues.map (cutIssue (now s)) }
        freeAt := min x.freeAt (now s + 20) })

/-- A head identification check with the measured resistance (R112): in RUN and SERVICE, and in STANDBY after a write of 1 to ENABLE. A
result that R302 or R303 discards changes nothing. -/
def headIdCheck (s : State) (h : Fin 2) (r : Nat) : State :=
  if !sysReads s then s
  else if headCfg s h 1 = 0 then modHead s h (fun x => { x with rId := wrap 32 r })
  else
    let st := if 24000 < r then 3 else if r < headCfg s h 15 || headCfg s h 16 < r then 4 else 1
    let old := s.heads[h].state
    let s1 := modHead s h (fun x => { x with rId := wrap 32 r, state := st })
    let s2 := if st = 1 then s1 else cutTrain s1 h
    if st ≠ 1 && st ≠ old then raise s2 (if st = 3 then 144 else 145) (headBit h) r else s2

/-! The pins (R110, R111, R119): what the port drives in this cycle. -/

/-- LATCH# is low. -/
def latchLow (s : State) (h : Fin 2) : Bool :=
  portDrives s h && (match s.heads[h].train with
    | some t => t.issues.any (fun i => decide (i.latch ≤ now s) && decide (now s < i.rise))
    | none => false)

/-- STBg# is low. -/
def strobeLow (s : State) (h : Fin 2) (g : Nat) : Bool :=
  portDrives s h && !strobesHeld s h && !s.en[h].thermFault && (match s.heads[h].train with
    | some t => t.issues.any (fun i => i.strobes.any (fun y => y.1 == g && decide (y.2.1 ≤ now s) && decide (now s < y.2.2)))
    | none => false)

/-- The index of the data clock of the shift under way; none while HCLK and DIn rest low. -/
def dataClock (s : State) (h : Fin 2) : Option Nat :=
  let x := s.heads[h]
  if x.reg.isSome && decide (x.regSt ≤ now s) && decide (now s < x.regSt + shiftTicks s h) && headCfg s h 5 ≠ 0 then
    some ((now s - x.regSt) * 8 / (5 * headCfg s h 5))
  else none

/-- DIi (R119). -/
def dataHigh (s : State) (h : Fin 2) (i : Nat) : Bool :=
  match dataClock s h, s.heads[h].reg with
  | some c, some m => decide (i < headCfg s h 3) && laneBit s h m i c
  | _, _ => false

/-- STATE as it reads (R134): PRINTING while a committed line is issued (DESIGN CHOICE, assumption log 112). -/
def headState (s : State) (h : Fin 2) : Nat :=
  match s.heads[h].train with
  | some t => if s.heads[h].state = 1 && t.committed then 2 else s.heads[h].state
  | none => s.heads[h].state

/-! The thermistor (R142, R146). -/

/-- A thermistor reading of code `c`. -/
def thermRead (s : State) (h : Fin 2) (c : Nat) : State :=
  if c < 16 || 4080 < c then
    let s1 := modEn s h (fun e => { e with thermFault := true, thermGood := 0 })
    if s.en[h].thermFault then s1 else raise (cutStrobes s1 h) 165 (headBit h) c
  else
    let t := thermConvert s h c
    let g := s.en[h].thermGood + 1
    modEn s h (fun e =>
      { e with tTherm := t, thermGood := (if e.thermFault && g < 10 then g else 0),
               thermFault := e.thermFault && decide (g < 10) })

/-! Resistance measurement (R147–R150). -/

/-- May a measurement of head `h` start (R147)? -/
def measAllowed (s : State) (h : Fin 2) : Bool :=
  decide (s.md.mode = .service) && decide (s.heads[h].state = 1) && s.heads[h].train.isNone
    && !(jobsOfKind s (h.val + 1)).any (fun e => jobLive s.ledger.jobs[e])

/-- Ticks of one pulse of the measurement (R148, R150): shift, latch, 200 ticks of VH, the pulse, and the wait. How the rest of R150's bound
is spent is the model's (DESIGN CHOICE, assumption log 113). -/
def measPulse (s : State) (h : Fin 2) : Nat := shiftTicks s h + headCfg s h 10 + 200 + s.vl[h].measW + 4000

/-- MEAS_DOT: the dot being measured, or the last one (R148). -/
def measDotNow (s : State) (h : Fin 2) : Nat :=
  let v := s.vl[h]
  if v.measState = 1 then min (headDots s h - 1) ((now s - v.measSt) / (max 1 v.measRep * measPulse s h)) else v.measDot

/-- The measurement starts (R147): VH goes to VH_SET. -/
def measBegin (s : State) (h : Fin 2) : State :=
  let w := objN s (0x2403 + 16 * h.val) 2
  let n := objN s (0x2403 + 16 * h.val) 3
  let v0 := vlCfg s h 5
  modVl s h (fun v => { v with measState := 1, measDot := 0, measSt := now s, measW := w, measRep := n, dvMean := 0, openCount := 0,
                               highCount := 0, target := v0, gathered := [] })

/-- Every dot has had its pulses (R148). -/
def measOver (s : State) (h : Fin 2) : Bool :=
  decide (s.vl[h].measState = 1)
    && decide (s.vl[h].measSt + headDots s h * (max 1 s.vl[h].measRep * measPulse s h) ≤ now s)

/-- dv_d: the sum of v0 − v1 over the pulses of dot `d`, divided by MEAS_REPEAT (R148). `vs` holds the drops in µV, dot by dot. -/
def dotDrop (rep_ : Nat) (vs : List Nat) (d : Nat) : Nat :=
  sumN ((vs.drop (d * max 1 rep_)).take (max 1 rep_)) / max 1 rep_

/-- A running measurement is aborted with a cause: 1 command, 2 session, 3 Safety Net, 4 job; EV172 (R150). -/
def measAbort (s : State) (h : Fin 2) (cause : Nat) : State :=
  if s.vl[h].measState = 1 then
    let d := measDotNow s h
    raise (modVl s h (fun v => { v with measState := 3, measDot := d })) 172 (headBit h + cause) d
  else s

/-- Every running measurement is aborted. -/
def measAbortAll (s : State) (cause : Nat) : State := measAbort (measAbort s 0 cause) 1 cause

/-- The RTRIM entry of a dot with mean drop `dv`, against the mean `m` of the dots that are not OPEN (R149). A drop of 0
has no stated trim (DESIGN CHOICE, assumption log 2). -/
def trimOf (free m all dv : Nat) : Nat :=
  if dv < all / 4 then 16384
  else if dv = 0 then clampN 8192 24576 (freeReading free)
  else clampN 8192 24576 (m * 16384 / dv)

/-- Every dot has been measured: `dvs` are the drops v0 − v1 of the pulses in µV, dot by dot (R148, R149). -/
def measDone (s : State) (h : Fin 2) (dvs : List Nat) : State :=
  if !measOver s h then s
  else
    let n := headDots s h
    let ds := (upto n).map (dotDrop s.vl[h].measRep dvs)
    let all := sumN ds / n
    let good := ds.filter (fun v => decide (all / 4 ≤ v))
    let m := sumN good / good.length
    let opens := n - good.length
    let high := (ds.filter (fun v => decide (2 * m < v))).length
    let old := dom s (headDom h 2)
    let s1 := setDom s (headDom h 2)
      ((((upto n).zip ds).flatMap (fun p => leBytes 2 (trimOf (s.free + p.1) m all p.2))) ++ old.drop (2 * n))
    let s2 := { s1 with free := s1.free + n }
    let s3 := modVl s2 h (fun v =>
      { v with measState := 2, measDot := n - 1, dvMean := wrap 32 m, openCount := sat 16 opens, highCount := sat 16 high })
    let s4 := raise s3 168 (headBit h) m
    if 0 < opens || 0 < high then raise s4 169 (headBit h + sat 16 opens) high else s4

/-! The raster store (R113, R118). -/

/-- Bytes of a head's part of the store. -/
def rasterSize (s : State) (h : Fin 2) : Nat :=
  let a := objN s 0x2320 1
  1048576 * (if h = 0 then a else 24 - a)

/-- Bytes a line takes: its header and its payload. -/
def lineBytes (l : RasterLine) : Nat := 4 + l.payload.length

/-- FREE_A or FREE_B. -/
def rasterFree (s : State) (h : Fin 2) : Nat := rasterSize s h - sumN (s.heads[h].store.map lineBytes)

/-- FLUSH of one head (R113, R118): lines that no ARMED or ACTIVE entry binds are released, the RSN series restarts. -/
def rasterFlush (s : State) (h : Fin 2) : State :=
  let es := (jobsOfKind s (h.val + 1)).filter (fun e => jobLive s.ledger.jobs[e])
  modHead s h (fun x =>
    { x with nextRsn := 0, store := x.store.filter (fun l => es.any (fun e => jobBinds s.ledger.jobs[e] l.rsn)) })

/-- Lines of an accepted record take the next RSNs (R113); the rehearsal takes up a line it waited for (R159). -/
def rasterAdd (s : State) (h : Fin 2) (ls : List RasterLine) : State :=
  let s1 := ls.foldl (fun s l =>
    modHead s h (fun x => { x with store := x.store ++ [{ l with rsn := x.nextRsn }], nextRsn := wrap 32 (x.nextRsn + 1) })) s
  rehearse (releaseLines s1 h) h

/-- What entry to RUN or SERVICE sets in a head (R123, R140, R143, R153). -/
def headRunEntry (s : State) (h : Fin 2) : State :=
  let s1 := modHead (histClear s h) h (fun x =>
    { x with rot := 0, maxTrain := 0, event := none, train := none, next := none, recomp := none, bind := none,
             supRun := false, missRun := false, reg := none, refresh := true })
  let s2 := modEn s1 h (fun e =>
    { e with tInt := e.tTherm * 4096, tHead := headTemp (e.tTherm * 4096), stLast := now s,
             lastCommitSt := some (now s), coldDone := false, rehearsed := [], recRun := false })
  modVl s2 h (fun v => { v with target := vlCfg s h 5, gathered := [], state := 1 })

/-- What leaving RUN or SERVICE ends in a head (R111). -/
def headOff (s : State) (h : Fin 2) : State :=
  let s1 := modHead s h (fun x =>
    { x with state := 0, event := none, train := none, next := none, recomp := none, bind := none, reg := none })
  modEn s1 h (fun e => { e with rehearsed := [] })

end Sys2Proof.Machine
end

