-- ==== Sys2Proof/Machine/Gov.lean ====
section
/-!
DEFINITION. Gov.lean: the Tollgate (spec/16, R465–R468), the Speed Governors and the media halt (spec/06, R181–R186), and the
cutter (R187–R193).
-/

namespace Sys2Proof.Machine

open Sys2Proof

/-! The Tollgate. -/

/-- TG_STATE of the factors (R468). -/
def tgStage (t : TgSt) : Nat :=
  if t.fScan < 1000 then 4 else if t.fPrint < 1000 then 3 else if t.fBoost < 1000 then 2 else 1

/-- The first factor above its floor gives way (R465). -/
def tgGiveUp (t : TgSt) (step fp fs : Nat) : TgSt :=
  if 0 < t.fBoost then { t with fBoost := t.fBoost - step }
  else if fp < t.fPrint then { t with fPrint := max (t.fPrint - step) fp }
  else if fs < t.fScan then { t with fScan := max (t.fScan - step) fs }
  else t

/-- The first factor below 1000 recovers (R465). -/
def tgGiveBack (t : TgSt) (step : Nat) : TgSt :=
  if t.fPrint < 1000 then { t with fPrint := min (t.fPrint + step) 1000 }
  else if t.fScan < 1000 then { t with fScan := min (t.fScan + step) 1000 }
  else if t.fBoost < 1000 then { t with fBoost := min (t.fBoost + step) 1000 }
  else t

/-- One servo period of the Tollgate at MAIN24 power `p` mW (R465, R468). -/
def tollgate (s : State) (p : Nat) : State :=
  let cont : Int := objN s 0x2D02 2
  let peak : Int := objN s 0x2D02 3
  let emax := (peak - cont) * 1000
  let e := clampI 0 emax ((s.tg.bucket : Int) + tdiv (((p : Int) - cont) * 25) 1000)
  let allow := cont + tdivS ((peak - cont) * (emax - e)) emax
  let x := (p : Int) - (allow - objN s 0x2D02 4)
  let step := objN s 0x2D02 6
  let fp := objN s 0x2D02 7
  let fs := objN s 0x2D02 8
  let t0 := { s.tg with bucket := e.toNat, allow := allow.toNat }
  if objN s 0x2D02 1 = 0 then
    { s with tg := { t0 with fBoost := 1000, fPrint := 1000, fScan := 1000, state := 0, exRun := 0, exRaised := false } }
  else
    let t1 := if 0 < x then tgGiveUp t0 step fp fs
              else if x < 0 - (objN s 0x2D02 5 : Int) then tgGiveBack t0 step else t0
    let st := tgStage t1
    let floor := decide (t1.fBoost = 0) && decide (t1.fPrint ≤ fp) && decide (t1.fScan ≤ fs)
    let run := if floor && decide (0 < x) then t1.exRun + 1 else 0
    let ex := decide (200 ≤ run) && !t1.exRaised
    let t2 := { t1 with state := st, limited := (if 1 < st then inc32 t1.limited else t1.limited), exRun := min run 200,
                        exRaised := (t1.exRaised || ex) && decide (st ≠ 1) }
    let s1 := { s with tg := t2 }
    let s2 := if s.tg.state < st && 1 < st then raise s1 488 st p else s1
    let s3 := if st = 1 && 1 < s.tg.state then raise s2 489 (t2.bucket / 1000) 0 else s2
    if ex then raise s3 490 p t2.allow else s3

/-! Media halt (R181). -/

/-- The media halt with its cause: 1 short, 2 lost, 3 out, 4 jam, 5 cutter fault. -/
def mediaHalt (s : State) (cause : Nat) : State :=
  applyAll (fun s (g : Fin 2) =>
    if govLane s g = (mediaLane s).val then
      let fresh := decide (s.govs[g].halted = 0)
      let s1 := modGov s g (fun x => { x with halted := cause, vCap := 0, capSrc := 5 })
      if fresh then modHead s1 g (fun x => { x with haltAbort := true }) else s1
    else s) s (allFin 2)

/-- At a line event of its generator after a halt the head's ACTIVE job is ABORTED with CAUSE 4 (R181). -/
def haltedLine (s : State) (h : Fin 2) : State :=
  if s.heads[h].haltAbort then
    let s1 := modHead s h (fun x => { x with haltAbort := false })
    match servedJob s1 (h.val + 1) with
    | some e => jobFinish s1 e 5 4
    | none => s1
  else s

/-- A head prints no line while its governor is halted and the line event that aborts its job is past (R181). -/
def haltShuts (s : State) (h : Fin 2) : Bool := decide (s.govs[h].halted ≠ 0) && !s.heads[h].haltAbort

/-! Speed Governors. -/

/-- Contiguous written RSNs of a job from its `k`-th line (R183). -/
def contiguous (s : State) (h : Fin 2) (j : Job) : Nat → Nat → Nat
  | 0, _ => 0
  | fuel + 1, k =>
    if k < jobLines j && (lineAt s.heads[h].store (jobRsn j k)).isSome then 1 + contiguous s h j fuel (k + 1) else 0

/-- The ARMED job of a head with the lowest entry number, other than `not`. -/
def armedJob (s : State) (h : Fin 2) (other : Option (Fin 64)) : Option (Fin 64) :=
  (jobsOfKind s (h.val + 1)).find? (fun e => s.ledger.jobs[e].state == 2 && some e != other)

/-- The runway of a governor in lines; none where it is unlimited (R183). -/
def runway (s : State) (h : Fin 2) : Option Nat :=
  let fuel := s.heads[h].store.length + 1
  let first := match servedJob s (h.val + 1) with
    | some e => some e
    | none => armedJob s h none
  match first with
  | none => none
  | some e =>
    let j := s.ledger.jobs[e]
    let off := nextOffset s h e
    let n := contiguous s h j fuel off
    if off + n < jobLines j then some n
    else match armedJob s h (some e) with
      | none => none
      | some f =>
        let m := contiguous s h s.ledger.jobs[f] fuel 0
        if m < jobLines s.ledger.jobs[f] then some (n + m) else none

/-- The axis of a governor's lane. -/
def govAxis (s : State) (g : Fin 2) : Fin 4 := Fin.ofNat 4 (laneAxis s (Fin.ofNat 4 (govLane s g)))

/-- v_cut, while a cut stop point is set on the governor's lane (R184). -/
def vCut (s : State) (g : Fin 2) : Option Nat :=
  match s.cut.active with
  | some c =>
    if s.cut.stopSet && govLane s g = (mediaLane s).val then
      some (isqrt (2 * decEff s (govAxis s g) * (max (c.stop - s.msu.lanes[mediaLane s].pos) 0).toNat / 256))
    else none
  | none => none

/-- Object of a governor. -/
def govCfg (s : State) (g : Fin 2) (sub : Nat) : Nat := objN s (0x2520 + 8 * g.val) sub

/-- The cap and its source (R184). -/
def govCap (s : State) (g : Fin 2) (rw : Option Nat) : Nat × Nat :=
  if s.govs[g].halted ≠ 0 then (0, 5)
  else if govCfg s g 1 = 0 then
    match vCut s g with
    | some v => (v, 4)
    | none => (0xFFFFFFFF, 0)
  else
    let vmax := govCfg s g 2
    let gen := headGen s g
    let vrw := match rw with
      | none => vmax
      | some n =>
        if n ≤ govCfg s g 3 then 0
        else isqrt (2 * decEff s (govAxis s g)
          * ((n - govCfg s g 3) * (genCfg s gen 2).toNat / ((genCfg s gen 3).toNat * 256)))
    let vtoll := vmax * s.tg.fPrint / 1000
    let vrc := if 0 < s.govs[g].rcLeft then s.govs[g].vRc else vmax
    let m := min vmax (min vrw (min vtoll vrc))
    match vCut s g with
    | some v => if v < m then (v, 4)
                else (m, if vmax = m then 0 else if vrw = m then 1 else if vtoll = m then 2 else 3)
    | none => (m, if vmax = m then 0 else if vrw = m then 1 else if vtoll = m then 2 else 3)

/-- One servo period of a governor (R183, R184, R186). -/
def govUpdate (s : State) (g : Fin 2) : State :=
  let rw := runway s g
  let c := govCap s g rw
  let old := s.govs[g]
  let live := (jobsOfKind s (g.val + 1)).any (fun e => jobLive s.ledger.jobs[e])
  let starve := decide (c.1 = 0) && decide (old.vCap ≠ 0) && decide (old.halted = 0) && live
  let resume := old.zero && decide (c.1 ≠ 0)
  let s1 := modGov s g (fun x =>
    { x with runway := (rw.getD 0xFFFFFFFF), vCap := c.1, capSrc := c.2,
             starved := (if starve then inc32 x.starved else x.starved),
             zero := if starve then true else if resume then false else x.zero })
  let s2 := if starve then raise s1 220 g.val (rw.getD 0xFFFFFFFF) else s1
  let s3 := if resume then raise s2 221 g.val c.1 else s2
  if c.2 = 2 && old.capSrc ≠ 2 then raise s3 222 g.val c.1 else s3

/-- The Line Engine reports a recompute (R185). -/
def govRecompute (s : State) (g : Fin 2) : State :=
  let v := (laneVelocity s (Fin.ofNat 4 (govLane s g))).natAbs
  let n := govCfg s g 4
  modGov s g (fun x => { x with vRc := v * 7 / 8, rcLeft := n, rcSlows := inc32 x.rcSlows })

/-- GOV_RELEASE of a governor (R181). -/
def govRelease (s : State) (g : Fin 2) : State := modGov s g (fun x => { x with halted := 0 })

/-! The cutter. -/

/-- Object of the cutter configuration. -/
def cutCfg (s : State) (sub : Nat) : Nat := objN s 0x2540 sub

/-- A request becomes the cycle under way (R187, R188). -/
def cutStart (r : CutReq) (c : CutSt) : CutSt :=
  { c with active := some r, stopSet := true, phase := .waiting, attempt := 0, forwardOk := false, state := 1 }

/-- A cut request of a kind at a stop point (R187, R191): refused with EV229, queued, or started. -/
def cutRequest (s : State) (kind : Nat) (stop : Int) : State :=
  let r := if s.msu.lanes[mediaLane s].dir = .rev then 1
           else if s.cut.state = 4 || s.cut.state = 5 || s.cut.state = 7 then 2
           else if !inRun s then 3
           else if s.cut.phase ≠ .idle && s.cut.queued.isSome then 4
           else 0
  if r ≠ 0 then raise s 229 (kind + 256 * r) s.cut.state
  else if s.cut.phase ≠ .idle then modCut s (fun c => { c with queued := some ⟨kind, stop⟩ })
  else modCut s (cutStart ⟨kind, stop⟩)

/-- A cut of CUT_CMD or a waymark, `lead` past the present position (R187). -/
def cutHere (s : State) (kind : Nat) (lead : Int) : State :=
  cutRequest s kind (s.msu.lanes[mediaLane s].pos + lead)

/-- With CUT_MODE 1 each index requests a cut (R187). -/
def cutAuto (s : State) : State :=
  if cutCfg s 1 = 1 then cutRequest s (cutCfg s 2) (s.media.xLast + obj s 0x2540 3) else s

/-- The queued request starts where there is one (R191). -/
def cutNext (c : CutSt) : CutSt :=
  match c.queued with
  | some r => { cutStart r c with queued := none }
  | none => { c with active := none, phase := .idle }

/-- The cycle ends in a state with the stop point cleared (R188). -/
def cutEnd (st : Nat) (c : CutSt) : CutSt :=
  { c with state := st, active := none, stopSet := false, phase := .idle }

/-- The blade is driven HOME (R193). -/
def cutHome (s : State) : State :=
  if s.cut.homeSw then modCut s (fun c => cutNext { c with state := 0, phase := .idle, active := none })
  else modCut s (fun c => { c with state := 6, phase := .homing, phaseSt := now s, active := none, stopSet := false,
                                   attempt := 0 })

/-- The lane reports STOPPED at the stop point: it has reached it, or v_cut is 0 there (R188). -/
def cutAtStop (s : State) (c : CutReq) : Bool :=
  let i := mediaLane s
  let left := (c.stop - s.msu.lanes[i].pos).toNat
  laneStopped s i && decide (2 * decEff s (Fin.ofNat 4 (laneAxis s i)) * left < 256)

/-- CUT_DRIVE_START (R188): EV228 with the overrun where the lane stopped past the stop point. -/
def cutDrive (s : State) : State :=
  match s.cut.active with
  | none => s
  | some c =>
    if s.cut.phase = .waiting && cutAtStop s c then
      let p := s.msu.lanes[mediaLane s].pos
      let s1 := modCut s (fun x =>
        { x with state := 2, phase := .forward, phaseSt := now s, cycleSt := now s, homeSw := false })
      if c.stop < p then raise s1 228 (w32 c.stop) (wrap 32 (p - c.stop).toNat) else s1
    else s

/-- The forward drive ends; the blade brakes, then returns (R188, R189). -/
def cutBrake (ok : Bool) (s : State) : State :=
  modCut s (fun x => { x with phase := .braking, phaseSt := now s, forwardOk := ok, state := 3 })

/-- CUT_END_REACHED (R189). -/
def cutEndReached (s : State) : State := if s.cut.phase = .forward then cutBrake true s else s

/-- CUT_PARTIAL_END: PARTIAL_T ends the forward drive of a partial cut (R187). -/
def cutPartialEnd (s : State) : State :=
  match s.cut.active with
  | some c =>
    if s.cut.phase = .forward && c.kind = 2 && cutCfg s 7 ≤ now s - s.cut.phaseSt then cutBrake true s else s
  | none => s

/-- CUT_END_TIMEOUT: a retry is left, or the cycle ends in JAM while the blade returns (R189). -/
def cutEndTimeout (s : State) : State :=
  if s.cut.phase = .forward && cutCfg s 5 ≤ now s - s.cut.phaseSt then
    if s.cut.attempt < cutCfg s 9 then cutBrake false s
    else
      let before := s.cut.state
      let n := s.cut.attempt + 1
      let s1 := modCut s (fun x =>
        { x with state := 4, jams := inc16 x.jams, active := none, stopSet := false, phase := .braking, phaseSt := now s,
                 forwardOk := false })
      mediaHalt (raise s1 225 n before) 4
  else s

/-- CUT_REVERSE_DRIVE: the brake after the forward drive ends (R188). -/
def cutReverse (s : State) : State :=
  if s.cut.phase = .braking && cutCfg s 8 ≤ now s - s.cut.phaseSt then
    modCut s (fun x => { x with phase := .returning, phaseSt := now s })
  else s

/-- CUT_HOME_REACHED (R188, R189, R193). -/
def cutHomeReached (s : State) : State :=
  match s.cut.phase with
  | .returning =>
    if s.cut.active.isNone then modCut s (fun x => { x with phase := .idle, homeSw := true })
    else if s.cut.forwardOk then
      modCut s (fun x => { x with state := 0, stopSet := false, phase := .finalBrake, phaseSt := now s, homeSw := true })
    else
      let n := s.cut.attempt + 1
      raise (modCut s (fun x => { x with state := 2, attempt := n, phase := .forward, phaseSt := now s })) 230 n 0
  | .homing => modCut s (fun x => cutNext { x with state := 0, homeSw := true, phase := .idle })
  | _ => s

/-- CUT_HOME_TIMEOUT (R189). -/
def cutHomeTimeout (s : State) : State :=
  if (s.cut.phase = .returning || s.cut.phase = .homing) && cutCfg s 6 ≤ now s - s.cut.phaseSt then
    let n := s.cut.attempt + 1
    mediaHalt (raise (modCut s (cutEnd 5)) 226 n (cutCfg s 6)) 5
  else s

/-- CUT_DONE: the brake at HOME ends (R188, R191); EV224. -/
def cutDone (s : State) : State :=
  match s.cut.active with
  | some c =>
    if s.cut.phase = .finalBrake && cutCfg s 8 ≤ now s - s.cut.phaseSt then
      let len := wrap 32 (now s - s.cut.cycleSt)
      raise (modCut s (fun x => cutNext { x with count := inc32 x.count, lastCycle := len })) 224 c.kind len
    else s
  | none => s

/-- The bridge is driven. -/
def cutDriven (c : CutSt) : Bool :=
  match c.phase with
  | .forward => true
  | .braking => true
  | .returning => true
  | .homing => true
  | .finalBrake => true
  | _ => false

/-- CUT_SHORT: a bridge over-current (R190). -/
def cutShort (s : State) : State :=
  if cutDriven s.cut then
    let before := s.cut.state
    mediaHalt (raise (modCut s (fun x => { cutEnd 5 x with tripped := true })) 227 before 0) 5
  else s

/-- A Safety Net cut of the bridge aborts the running cycle (R192). -/
def cutAbort (s : State) : State :=
  if s.cut.phase = .idle then s
  else
    let before := s.cut.state
    raise (modCut s (fun x => { cutEnd 7 x with queued := none })) 231 before 0

/-- The bridge's power goes with RUN or SERVICE: a cycle under way leaves the blade UNHOMED (DEDUCED, assumption log 17). -/
def cutPowerOff (s : State) : State :=
  if s.cut.phase = .idle then s
  else modCut s (fun x => { cutEnd (if x.homeSw && x.phase = .finalBrake then 0 else 7) x with queued := none })

/-- Entry to RUN, or to SERVICE, which only reads the switch: with HOME not asserted the blade is driven home, but not while a Safety Net
cut or an over-current holds the bridge off (R41, R190, R193). -/
def cutRunEntry (s : State) (home : Bool) : State :=
  let s1 := modCut s (fun c => { c with homeSw := home })
  if home then (if s1.cut.state = 7 then modCut s1 (fun c => { c with state := 0 }) else s1)
  else if s1.md.mode ≠ .run || s1.cut.tripped || outputCut s1 then s1 else cutHome s1

/-- An accepted CUT_CLEAR (R193): homing in RUN and SERVICE; elsewhere the bridge is off and the blade stays UNHOMED. -/
def cutClear (s0 : State) : State :=
  let s := modCut s0 (fun c => { c with tripped := false })
  if inRun s then cutHome s else modCut s (fun c => cutEnd (if c.homeSw then 0 else 7) c)

end Sys2Proof.Machine
end

