-- ==== Sys2Proof/Machine/Image.lean ====
section
/-!
DEFINITION. Image.lean: the Image Engine: a raw line's way to its LINE record, documents, the Carousel, retractions, the
calibrations, the balance loops and the readback measurement (spec/08, R231–R263; spec/05, R156–R158).
-/

namespace Sys2Proof.Machine

open Sys2Proof

/-- Object of a port: 0x2700 sensor and line. -/
def imgCfg (s : State) (p : Fin 2) (sub : Nat) : Nat := objN s (0x2700 + 16 * p.val) sub
/-- Object of slot `k` of a port. -/
def slotCfg (s : State) (p : Fin 2) (k sub : Nat) : Nat := objN s (0x2708 + 16 * p.val + k) sub
/-- Object of shading and alignment. -/
def shCfg (s : State) (p : Fin 2) (sub : Nat) : Nat := objN s (0x2704 + 16 * p.val) sub
/-- Index of the port's DOMAIN tables: 0 SEG_TRIM, 1 BLACK, 2 WHITE. -/
def imgDom (p : Fin 2) (t : Nat) : Nat := 0x5700 + 16 * p.val + t
/-- Bit [31] of detail word 1 names the port (R266). -/
def portBit (p : Fin 2) : Nat := 2147483648 * p.val

/-! Pixels. -/

/-- GAP_k of R231. -/
def gapOf (s : State) (p : Fin 2) (k : Nat) : Nat := imgCfg s p 3 / 2 ^ (3 * k) % 8

/-- NATIVE (R231). -/
def nativeWidth (s : State) (p : Fin 2) : Nat :=
  let n := imgCfg s p 1
  n * imgCfg s p 2 + sumN ((upto (n - 1)).map (gapOf s p))

/-- One segment trimmed (R232). -/
def trimSegment (s : State) (p : Fin 2) (k : Nat) (xs : List Nat) : List Nat :=
  let t := dom s (imgDom p 0)
  let off := ofBits 16 (rdLE t (4 * k) 2)
  let gain : Int := rdLE t (4 * k + 2) 2
  xs.map (fun x => (clampI 0 65535 (fdiv ((((x : Nat) : Int) - off) * gain + 2048) 4096)).toNat)

/-- The fill of a gap of `g` pixels between `a` and `b` (R232). -/
def gapFill (g a b : Nat) : List Nat := (upto g).map (fun i => (a * (g - i) + b * (i + 1) + (g + 1) / 2) / (g + 1))

/-- The segments of a raw row from `k` on, trimmed and joined over their gaps (R232). -/
def joinSegments (s : State) (p : Fin 2) : Nat → Nat → List Nat → List Nat
  | 0, _, _ => []
  | n + 1, k, xs =>
    let w := imgCfg s p 2
    let seg := trimSegment s p k (xs.take w)
    match n with
    | 0 => seg
    | _ =>
      let rest := joinSegments s p n (k + 1) (xs.drop w)
      seg ++ gapFill (gapOf s p k) (seg.getLastD 0) (rest.headD 0) ++ rest

/-- A raw row as native pixels. -/
def nativeRow (s : State) (p : Fin 2) (xs : List Nat) : List Nat := joinSegments s p (imgCfg s p 1) 0 xs

/-- The rows of a ROWS mask in the order R, G, B, IR. -/
def rowsOf (mask : Nat) : List Nat := (upto 4).filter (fun r => bit mask r)

/-- The planes of a list of slots: (slot, row), in payload order (R249). -/
def planesOf (slots : List (Nat × Nat)) : List (Nat × Nat) :=
  (slots.zip (upto slots.length)).flatMap (fun x => (rowsOf x.1.1).map (fun r => (x.2, r)))

/-- ROWS and ILLUM of the slots as configured. -/
def slotList (s : State) (p : Fin 2) : List (Nat × Nat) :=
  (upto (imgCfg s p 15)).map (fun k => (slotCfg s p k 4, slotCfg s p k 1))

/-- T_RD (R235). -/
def readoutTicks (s : State) (p : Fin 2) : Nat := cdiv (imgCfg s p 2 * 50) 3 + 100

/-- START and DUR of the slots as configured. -/
def slotTimes (s : State) (p : Fin 2) : List (Nat × Nat) :=
  (upto (imgCfg s p 15)).map (fun k => (slotCfg s p k 2, slotCfg s p k 3))

/-- es and ee of each slot from its START and DUR, and TRAIN (R235). -/
def exposures (rd : Nat) : List (Nat × Nat) → Nat → Nat → List (Nat × Nat) × Nat
  | [], _, rdEnd => ([], rdEnd)
  | (st, du) :: r, xfer, rdEnd =>
    let es := max st xfer
    let ee := es + du
    let x := max ee rdEnd
    let q := exposures rd r x (x + rd)
    ((es, ee) :: q.1, q.2)

/-- TRAIN of an exposed line as configured (R235). -/
def trainTicks (s : State) (p : Fin 2) : Nat := (exposures (readoutTicks s p) (slotTimes s p) 0 0).2

/-- The illumination of a line exposed from this cycle on: each slot's channel from es to ee, at its LED_I (R235, R262); none of it for a black
capture (R241). -/
def litFrom (s : State) (p : Fin 2) (slots times : List (Nat × Nat)) : List Lit :=
  if s.img.ports[p].calState = 1 && s.img.ports[p].calCmd = 1 then []
  else (((slots.zip (exposures (readoutTicks s p) times 0 0).1).zip (upto slots.length)).filter (fun x => x.1.1.2 != 0)).map
    (fun x => ⟨x.1.1.2, slotCfg s p x.2 5, now s + x.1.2.1, some (now s + x.1.2.2)⟩)

/-- The illumination channel of a port that is lit in this cycle, with its current (R235, R239). -/
def ledLit (s : State) (p : Fin 2) : Option (Nat × Nat) :=
  (s.img.ports[p].lit.find? (fun l => decide (l.on ≤ now s) && (match l.off with
    | some t => decide (now s < t)
    | none => true))).map (fun l => (l.illum, l.current))

/-- A reference entry of BLACK (1) or WHITE (2) (spec/08, imaging DOMAIN tables). -/
def refAt (s : State) (p : Fin 2) (t k r px : Nat) : Int := domU16 s (imgDom p t) ((4 * k + r) * 5184 + px)

/-- One pixel shaded (R240). -/
def shadePixel (s : State) (p : Fin 2) (k r px x : Nat) : Nat :=
  let b := refAt s p 1 k r px
  let span := refAt s p 2 k r px - b
  let gain : Int := if (shCfg s p 3 : Int) ≤ span && 0 < span
    then min 65535 (fdiv ((shCfg s p 2 : Int) * 4096 + fdiv span 2) span) else 65535
  (clampI 0 65535 (fdiv (((x : Int) - b) * gain + 2048) 4096)).toNat

/-- A plane shaded (R240). -/
def shadeRow (s : State) (p : Fin 2) (k r : Nat) (xs : List Nat) : List Nat :=
  if shCfg s p 1 = 0 then xs
  else (xs.zip (upto xs.length)).map (fun a => shadePixel s p k r a.2 a.1)

/-- a_r of a row (R243). -/
def rowDelay (s : State) (p : Fin 2) (rows : List Nat) (d : Dir) (r : Nat) : Nat :=
  let a := shCfg s p (8 + r)
  if d = .rev then maxN (rows.map (fun q => shCfg s p (8 + q))) - a else a

/-- The plane of an exposed line `k` lines back; before the first it reads as the first (R243). -/
def pastPlane (hist : List (List (List Nat))) (k pl : Nat) : List Nat :=
  ((hist.getD (min k (hist.length - 1)) []).getD pl [])

/-- The aligned value of one plane (R243). -/
def alignPlane (hist : List (List (List Nat))) (pl a : Nat) : List Nat :=
  let d := a / 16
  let f := a % 16
  List.zipWith (fun x y => (x * (16 - f) + y * f + 8) / 16) (pastPlane hist d pl) (pastPlane hist (d + 1) pl)

/-- Pixels averaged by H_AVG (R245). -/
def averageRow (n : Nat) (xs : List Nat) : List Nat :=
  (upto (xs.length / n)).map (fun j => (sumN ((xs.drop (j * n)).take n) + n / 2) / n)

/-- A pixel's bytes at a DEPTH (R245, R249). -/
def pixelBytes (depth v : Nat) : List Byte := if depth = 0 then leBytes 1 (min 255 ((v + 128) / 256)) else leBytes 2 v

/-- The payload of a line of document `d` (R243, R245, R249). -/
def linePayload (s : State) (p : Fin 2) (d : ImgDoc) (hist : List (List (List Nat))) : List Byte :=
  let planes := planesOf d.slots
  let rows := (planes.map (fun x => x.2)).dedup
  (planes.zip (upto planes.length)).flatMap (fun x =>
    (averageRow d.havg (alignPlane hist x.2 (rowDelay s p rows d.dir x.1.2))).flatMap (pixelBytes d.depth))

/-! The Carousel. -/

/-- FREE (R251, R252). -/
def carouselFree (s : State) : Nat := 16777216 - sumN (s.img.resvs.map (fun r => r.2))

/-- The reservation a scan entry of port `p` needs (R251). -/
def reservation (s : State) (p : Fin 2) : Nat :=
  let planes := (planesOf (slotList s p)).length
  64 + imgCfg s p 11 * (16 + planes * (nativeWidth s p / imgCfg s p 6) * (1 + imgCfg s p 7))

/-- A 16-byte record header (R248). -/
def recHeader (ty flags doc a b c : Nat) : List Byte :=
  leBytes 1 ty ++ leBytes 1 flags ++ leBytes 2 doc ++ leBytes 4 a ++ leBytes 4 b ++ leBytes 4 c

/-- A record enters the Carousel under a reservation (R247). -/
def pushRec (s : State) (key : Nat) (bytes : List Byte) (last : Bool) : State :=
  { s with img := { s.img with recs := s.img.recs ++ [⟨key, bytes, last, false, none⟩] } }

/-- Bytes of the Carousel that the document under reservation `key` of a port holds: its records, and the lines that wait to be FINAL. -/
def docBytes (s : State) (p : Fin 2) (key : Nat) : Nat :=
  sumN ((s.img.recs.filter (fun r => r.key == key && !r.se)).map (fun r => r.bytes.length))
    + sumN (s.img.ports[p].lines.map (fun l => l.held.length))

/-- Room for `n` bytes more of a document, its RETRACT and DOC_END kept free: within its reservation, or by an addition to it out of FREE; none
where the Carousel would overflow (R251; DESIGN CHOICE, assumption log 122). -/
def makeRoom (s : State) (p : Fin 2) (key n : Nat) : Option State :=
  let have_ := sumN ((s.img.resvs.filter (fun r => r.1 == key)).map (fun r => r.2))
  let need := docBytes s p key + n + 32 - have_
  if need = 0 then some s
  else if carouselFree s < need then none
  else if s.img.resvs.any (fun r => r.1 == key) then
    some { s with img := { s.img with resvs := s.img.resvs.map (fun r => if r.1 = key then (r.1, r.2 + need) else r) } }
  else some { s with img := { s.img with resvs := s.img.resvs ++ [(key, need)] } }

/-- An SE_WORDS record joins the outgoing records (R387). -/
def pushSeRec (s : State) (bytes : List Byte) : State :=
  { s with img := { s.img with recs := s.img.recs ++ [⟨0, bytes, false, true, none⟩] } }

/-- The path that takes a record: the one its sending has begun on, else the one STREAM_CONFIG names (R387). -/
def recPath (s : State) (r : CarRec) : Option Path :=
  match r.on with
  | some p => some p
  | none => Path.ofAscii (objN s 0x2A02 (if r.se then 4 else 1))

/-- The record a path sends next, in the order they were made; one begun comes first (R387). -/
def nextRec (s : State) (p : Path) : Option CarRec :=
  match s.img.recs.find? (fun r => decide (r.on = some p)) with
  | some r => some r
  | none => s.img.recs.find? (fun r => decide (recPath s r = some p))

/-- The sending of a record has begun on a path. -/
def beginRec (s : State) (r : CarRec) (p : Path) : State :=
  { s with img := { s.img with recs := s.img.recs.map (fun x => if x = r then { x with on := some p } else x) } }

/-- A record is taken: its space is released, with DOC_END the rest of its reservation (R252, R390). -/
def takeRec (s : State) (r : CarRec) : State :=
  let rs := if r.se then s.img.resvs
            else if r.isEnd then s.img.resvs.filter (fun x => x.1 != r.key)
            else s.img.resvs.map (fun x => if x.1 = r.key then (x.1, x.2 - r.bytes.length) else x)
  { s with img := { s.img with recs := s.img.recs.erase r, resvs := rs } }

/-! Documents. -/

/-- s of R246. -/
def docSign (d : ImgDoc) : Int := if d.dir = .rev then -1 else 1

/-- A document starts: settings taken, DOC_START sent; EV288 (R250, R257). Its header holds the number of planes in four bits, as tabled (R248). -/
def docStart (s : State) (p : Fin 2) (e : Fin 64) : State :=
  let j := s.ledger.jobs[e]
  match s.img.ports[p].cur with
  | some _ => s
  | none =>
    let slots := slotList s p
    let n := (s.img.ports[p].doc + 1) % 65536
    let doc : ImgDoc :=
      { entry := e.val, act := j.order, key := j.resv, dir := jobDir j, mode := imgCfg s p 8, havg := imgCfg s p 6,
        depth := imgCfg s p 7, slots := slots, times := slotTimes s p, train := trainTicks s p, n1 := none, maxLsn := -1, p0 := none, kept := 0,
        lastSent := -1, confirmAt := -1, flags := 0, ending := false, satSeen := false, dfRun := 0, winLo := none,
        winHi := 0 }
    let planes := (planesOf slots).length
    let w := nativeWidth s p / doc.havg
    let hdr := recHeader 1 p.val n (e.val + 256 * b2n (doc.dir = .rev))
      (w + 65536 * (planes % 16) + 1048576 * doc.depth + 2097152 * doc.havg) doc.mode
    let s1 := modPort s p (fun x =>
      { x with cur := some doc, doc := n, nextLsn := 0, finalMark := -1, lines := [], overRun := false, longJob := none,
               calDoc := decide (3 ≤ x.calCmd), edges := (if x.calCmd = 4 then Vector.replicate 4 posMin else x.edges),
               edgeN := 0, rowEdge := Vector.replicate 4 none, edgeMean := Vector.replicate 4 none })
    raise (pushRec s1 doc.key hdr false) 288 (portBit p + e.val) n

/-- The document is LONG: it ends as if its job had left ACTIVE, and the rest of the job's line events are revisits; EV292 (R258). -/
def longEnd (s : State) (p : Fin 2) : State :=
  match s.img.ports[p].cur with
  | none => s
  | some d =>
    let s1 := modPort s p (fun x => { x with cur := some { d with flags := d.flags ||| 16, ending := true }, longJob := some d.entry })
    let s2 := raise s1 292 (portBit p) s.img.ports[p].doc
    if jobLive s.ledger.jobs[Fin.ofNat 64 d.entry] then jobFinish s2 (Fin.ofNat 64 d.entry) 4 18 else s2

/-- Is the document under way LONG already? -/
def isLong (s : State) (p : Fin 2) : Bool :=
  match s.img.ports[p].cur with
  | some d => bit d.flags 4
  | none => false

/-- MAX_LINES lines have been sent (R258). -/
def longCheck (s : State) (p : Fin 2) : State :=
  match s.img.ports[p].cur with
  | some d => if imgCfg s p 11 ≤ d.kept && !bit d.flags 4 then longEnd s p else s
  | none => s

/-- A line's record is sent: it counts as kept, and as the job's progress (R250, R359); with MAX_LINES sent the document ends (R258). -/
def sendLine (s : State) (p : Fin 2) (d : ImgDoc) (lsn : Nat) (bytes : List Byte) : State :=
  let s1 := pushRec s d.key bytes false
  let s2 := modPort s1 p (fun x =>
    { x with cur := x.cur.map (fun d => { d with kept := d.kept + 1, lastSent := max d.lastSent lsn }),
             lines := x.lines.map (fun l => if l.lsn = lsn then { l with sent := true, held := [] } else l) })
  longCheck (modJob s2 (Fin.ofNat 64 d.entry) (fun j => if j.resv = d.key then { j with progress := inc32 j.progress } else j)) p

/-- Held lines of a FINAL_ONLY document up to the final mark are sent (R257). -/
def sendHeld (s : State) (p : Fin 2) (d : ImgDoc) : State :=
  applyAll (fun s (l : ImgLine) =>
    if !l.sent && !isLong s p && (l.lsn : Int) ≤ s.img.ports[p].finalMark then sendLine s p d l.lsn l.held else s) s s.img.ports[p].lines

/-- From mark `m` on, the last line of the run of lines, oldest first, that a test lets pass; an LSN without a line holds nothing up (R253). -/
def finalRun (far : ImgLine → Bool) : List ImgLine → Int → Int
  | [], m => m
  | x :: r, m => if (x.lsn : Int) ≤ m then finalRun far r m else if far x then finalRun far r x.lsn else m

/-- The highest LSN below which every line has its confirm distance behind it (R253). -/
def finalNow (s : State) (p : Fin 2) (d : ImgDoc) : Int :=
  let l := s.msu.lanes[Fin.ofNat 4 (imgCfg s p 4 / 4)]
  if l.dir ≠ d.dir then s.img.ports[p].finalMark
  else finalRun (fun x => decide ((imgCfg s p 9 : Int) ≤ docSign d * (l.pos - x.due))) s.img.ports[p].lines s.img.ports[p].finalMark

/-- Lines that reach CONFIRM_DIST in this cycle become FINAL; a CONFIRM is sent, or held lines (R253, R254, R257). -/
def lineFinalNow (s : State) (p : Fin 2) : State :=
  match s.img.ports[p].cur with
  | none => s
  | some d =>
    let m := finalNow s p d
    let s1 := modPort s p (fun x => { x with finalMark := m })
    if d.mode = 1 then sendHeld s1 p d
    else if (imgCfg s p 10 : Int) ≤ m - d.confirmAt && d.confirmAt < m then
      match makeRoom s1 p d.key 16 with
      | none => s1
      | some s2 =>
        let s3 := modPort s2 p (fun x => { x with cur := some { d with confirmAt := m } })
        pushRec s3 d.key (recHeader 3 p.val s.img.ports[p].doc 0 m.toNat 0) false
    else s1

/-- LINE_FINAL: the lines are confirmed as the cycle ends, after any retraction of it (R253). -/
def lineFinal (s : State) (p : Fin 2) : State :=
  if s.img.ports[p].cur.isSome then modPort s p (fun x => { x with finalReq := true }) else s

/-! Readback trim (R156–R158). -/

/-- The trims of one document are learned (R156). -/
def rbUpdate (s : State) : State :=
  let tgt : Int := objN s 0x2420 3
  let n := headDots s 1
  let step := fun d =>
    let old := domI16 s 0x5414 d
    let k := SMap.get (fun _ => 0) s.rb.colN d
    if k < objN s 0x2420 5 || k = 0 then (old, false)
    else
      let m : Int := SMap.get (fun _ => 0) s.rb.colSum d / k
      let v := clampI (-7864) 7864 (old + tdiv (tdiv ((tgt - m) * 65536) tgt) 16)
      (v, v == -7864 || v == 7864)
  let rs := (upto n).map step
  let lim := (rs.filter (fun r => r.2)).length
  let s1 := setDom s 0x5414 (le16s (rs.map (fun r => r.1)) ++ (dom s 0x5414).drop (2 * n))
  let s2 := { s1 with rb := { s1.rb with docs := inc32 s1.rb.docs, limited := sat 16 lim } }
  let s3 := if 0 < lim then raise s2 170 (headBit 1) lim else s2
  raise s3 171 (headBit 1) s3.rb.docs

/-- At IMG1's DOC_END the measurement is handed over or discarded, and cleared (R156, R157, R261). -/
def rbDocEnd (s : State) : State :=
  let s1 := if s.rb.retracted then { s with rb := { s.rb with discarded := inc32 s.rb.discarded } }
            else if objB s 0x2420 1 && !objB s 0x2420 2 then rbUpdate s else s
  { s1 with rb := { s1.rb with colN := [], colSum := [], retracted := false } }

/-- RB_RESET: every trim reads 0 (R158). -/
def rbReset (s : State) : State := setDom s 0x5414 (List.replicate 2048 0)

/-! Alignment and bar edges (R244). -/

/-- The end of CAL_CMD 3: delays from the falling edges, or EV297. -/
def alignEnd (s : State) (p : Fin 2) (d : ImgDoc) : State :=
  let rows := rowsOf ((d.slots.headD (0, 0)).1)
  let x := s.img.ports[p]
  let fail := fun r => raise (modPort s p (fun x => { x with calCmd := 0, calState := 3, calDoc := false })) 297
    (portBit p + r) 0
  match rows.find? (fun r => (x.rowEdge.toList.getD r none).isNone) with
  | some r => fail r
  | none =>
    let pos := fun r => ((x.rowEdge.toList.getD r none).getD 0)
    let top := rows.foldl (fun m r => max m (pos r)) (pos (rows.headD 0))
    let g : Fin 16 := Fin.ofNat 16 (imgCfg s p 4)
    let delay := fun r => fdiv (2 * (16 * (top - pos r) * genCfg s g 3) + genCfg s g 2) (2 * genCfg s g 2)
    match rows.find? (fun r => decide (511 < delay r)) with
    | some r => fail r
    | none =>
      let s1 := applyAll (fun s r => setObj s (0x2704 + 16 * p.val) (8 + r) (delay r)) s rows
      raise (modPort s1 p (fun x => { x with calCmd := 0, calState := 2, calDoc := false })) 296 (portBit p + 3)
        x.weak

/-- The calibration that belongs to the document is completed at its end (R244). -/
def calDocEnd (s : State) (p : Fin 2) (d : ImgDoc) : State :=
  let x := s.img.ports[p]
  if !x.calDoc then s
  else if x.calCmd = 3 then alignEnd s p d
  else raise (modPort s p (fun x => { x with calCmd := 0, calState := 2, calDoc := false })) 296 (portBit p + 4) x.weak

/-- DOC_END is sent with its flags (R250, R253); EV289. -/
def docClose (s : State) (p : Fin 2) (d : ImgDoc) (flags kept : Nat) : State :=
  let n := s.img.ports[p].doc
  let hdr := recHeader 5 p.val n kept flags (toBits 32 d.lastSent)
  let s1 := calDocEnd (pushRec s d.key hdr true) p d
  let s2 := modPort s1 p (fun x =>
    { x with cur := none, trains := [], lit := [], lines := [], docs := inc32 x.docs, hist := [],
             finalMark := max x.finalMark d.lastSent })
  let s3 := raise s2 289 (portBit p + n) flags
  if p = 1 then rbDocEnd s3 else s3

/-! The readback measurement (R259, R260). -/

/-- Greatest k below 2^n added to `acc` with 10^(2k - 1) · b^8192 ≤ a^8192, by bisection. -/
def logSearch (a b : Nat) : Nat → Nat → Nat
  | 0, acc => acc
  | n + 1, acc =>
    let k := acc + 2 ^ n
    if 10 ^ (2 * k - 1) * b ≤ a then logSearch a b n k else logSearch a b n acc

/-- round(4096 × log10(a ÷ b)), clamped to 0 … 16 383. -/
def log10Round (a b : Nat) : Nat := logSearch (a ^ 8192) (b ^ 8192) 14 0

/-- The density of a value: within ±1 of the ideal, the deviation left open (R260; DESIGN CHOICE, assumption log 2). -/
def density (s : State) (target y k : Nat) : Nat :=
  (clampI 0 16383 ((log10Round target (max y 1) : Nat) + ((freeReading (s.free + k) % 3 : Nat) : Int) - 1)).toNat

/-- The value y of dot column `d` in a line's shaded planes (R260). -/
def columnValue (s : State) (planes : List (Nat × Nat)) (line : List (List Nat)) (d : Nat) : Nat :=
  let num := objN s 0x2730 3
  let den := objN s 0x2730 4
  let i := objN s 0x2730 2 + (d * num + den / 2) / den
  let span := objN s 0x2730 5
  let row := (line.zip planes).find? (fun x => x.2.1 == objN s 0x2730 7 && x.2.2 == objN s 0x2730 6)
  let xs := match row with
    | some x => (x.1.drop (i - span)).take (2 * span + 1)
    | none => []
  sumN xs / max 1 xs.length

/-- The columns of one sample line are measured in a line of IMG1 (R259, R260). -/
def measureLine (s : State) (planes : List (Nat × Nat)) (line : List (List Nat)) (dots lsn : Nat) : State :=
  let ds := (upto (headDots s 1)).filter (fun d => bit dots d)
  let tgt := shCfg s 1 2
  let s1 := applyAll (fun s d =>
    let v := density s tgt (columnValue s planes line d) 0
    let n := SMap.get (fun _ => 0) s.rb.colN d + 1
    let t := SMap.get (fun _ => 0) s.rb.colSum d + v
    { s with free := s.free + 1,
             rb := { s.rb with colN := SMap.put (fun _ => 0) s.rb.colN d n,
                               colSum := SMap.put (fun _ => 0) s.rb.colSum d t } }) s ds
  modPort s1 1 (fun x =>
    { x with lines := x.lines.map (fun l => if l.lsn = lsn then { l with samples := l.samples + 1 } else l),
             cur := x.cur.map (fun d =>
               { d with winLo := some (min lsn (d.winLo.getD lsn)), winHi := max d.winHi lsn }) })

/-- Does an IMG1 line stand within one IMG1 pitch of `q` (R259)? -/
def withinPitch (s : State) (q due : Int) : Bool :=
  let g : Fin 16 := Fin.ofNat 16 (imgCfg s 1 4)
  decide (((due - q).natAbs : Int) * genCfg s g 3 ≤ genCfg s g 2)

/-- One sample is lost (R259). -/
def rbMiss (s : State) : State := { s with img := { s.img with rbMissed := inc32 s.img.rbMissed } }

/-- A readback sample line is measured in the nearer of the two newest lines of IMG1's FWD document, the lower LSN on a tie, or is lost (R259). -/
def rbResolve (s : State) (q : RbPend) : State :=
  let x := s.img.ports[1]
  match x.cur, x.lines.reverse with
  | some d, l :: before =>
    let c := match before.head? with
      | some b => if decide ((q.pos - b.due).natAbs ≤ (l.due - q.pos).natAbs) then (b, 1) else (l, 0)
      | none => (l, 0)
    let hist := (x.hist.filter (fun h => h.1 == d.key)).map (fun h => h.2)
    if d.dir = .fwd && withinPitch s q.pos c.1.due && c.1.clean then
      measureLine s (planesOf d.slots) (hist.getD c.2 []) q.dots c.1.lsn
    else rbMiss s
  | _, _ => rbMiss s

/-- The samples that meet a test are resolved. -/
def rbSettle (s : State) (f : RbPend → Bool) : State :=
  applyAll rbResolve { s with img := { s.img with rbPend := s.img.rbPend.filter (fun q => !f q) } } (s.img.rbPend.filter f)

/-- The sample lines whose nearest line is known now that a line of IMG1's document has been made (R259). -/
def readback (s : State) : State :=
  match s.img.ports[1].lines.getLast? with
  | some l => rbSettle s (fun q => decide (q.pos ≤ l.due))
  | none => s

/-- The document ends: no later line can be the nearest one (R259, R261). -/
def readbackEnd (s : State) : State :=
  match s.img.ports[1].lines.getLast? with
  | some l => rbSettle s (fun q => decide (q.pos ≤ l.due) || withinPitch s q.pos l.due)
  | none => s

/-- The samples that the lane of IMG1 has left more than a pitch behind with no line to come (R259). -/
def readbackLate (s : State) : State :=
  if s.img.rbPend.isEmpty || !s.img.ports[1].trains.isEmpty then s
  else
    let g : Fin 16 := Fin.ofNat 16 (imgCfg s 1 4)
    let pos := s.msu.lanes[Fin.ofNat 4 (imgCfg s 1 4 / 4)].pos
    rbSettle s (fun q => decide (genCfg s g 2 < (pos - q.pos) * genCfg s g 3))

/-- DOC_END is sent: what is left is FINAL, and held lines go first (R250, R253, R257). -/
def docEndNow (s : State) (p : Fin 2) (d : ImgDoc) : State :=
  let s0 := if p = 1 then readbackEnd s else s
  let s1 := modPort s0 p (fun x => { x with finalMark := max x.finalMark d.maxLsn })
  let s2 := if d.mode = 1 then sendHeld s1 p d else s1
  match s2.img.ports[p].cur with
  | some d2 => docClose s2 p d2 d2.flags d2.kept
  | none => s2

/-- DOC_END falls due: the job has left ACTIVE and the train of its last line has ended (R250, R256). It is sent as the cycle ends, where no
trigger of the cycle wins over it (R256). -/
def docEnd (s : State) (p : Fin 2) : State :=
  match s.img.ports[p].cur with
  | none => s
  | some d => if d.ending && s.img.ports[p].trains.isEmpty then modPort s p (fun x => { x with endReq := true }) else s

/-- The DOC_END flag of a retraction's reason (R248, R255). -/
def reasonFlag (r : Nat) : Nat := if r = 1 then 2 else if r = 2 then 4 else if r = 3 then 8 else 1

/-- A retraction with its reason: 1 double feed, 2 withdrawn, 3 jam, 4 abort (R256, R257). -/
def retract (s : State) (p : Fin 2) (reason : Nat) : State :=
  match s.img.ports[p].cur with
  | none => s
  | some d =>
    let x := s.img.ports[p]
    let gone := x.lines.filter (fun l => decide (x.finalMark < (l.lsn : Int)))
    let sent := gone.filter (fun l => l.sent)
    let lost := sumN (gone.map (fun l => l.samples))
    let lo := (x.finalMark + 1).toNat
    let cover := match d.winLo with
      | some _ => !gone.isEmpty && decide (x.finalMark < (d.winHi : Int))
      | none => false
    let s1 := if d.mode = 0 && !sent.isEmpty then
        pushRec s d.key (recHeader 4 p.val x.doc lo (toBits 32 d.lastSent) reason) false
      else s
    let s2 := modPort s1 p (fun x => { x with retracted := wrap 32 (x.retracted + gone.length) })
    let s3 := { s2 with img := { s2.img with rbMissed := wrap 32 (s2.img.rbMissed + lost) },
                        rb := { s2.rb with retracted := s2.rb.retracted || (cover && decide (p = 1)) } }
    let s4 := docClose s3 p d (d.flags ||| reasonFlag reason) (d.kept - sent.length)
    let s5 := modPort s4 p (fun y => { y with finalMark := x.finalMark })
    let s6 := raise s5 290 (portBit p + reason) gone.length
    let e : Fin 64 := Fin.ofNat 64 d.entry
    if reason = 4 || !jobLive s.ledger.jobs[e] then s6 else jobFinish s6 e 5 (4 + reason)

/-- The first in R256's order, which is that of the reasons' numbers. -/
def firstReason (r : Nat) : Option Nat → Option Nat
  | some q => some (min q r)
  | none => some r

/-- A trigger of a retraction (R255): noted, and acted on as the cycle ends, so that the first of the cycle in R256's order gives the reason. After
the job has left ACTIVE it counts only against a DOC_END of the same cycle (R256). -/
def trigger (s : State) (p : Fin 2) (reason : Nat) : State :=
  match s.img.ports[p].cur with
  | none => s
  | some d =>
    if d.ending then modPort s p (fun x => { x with late := firstReason reason x.late })
    else modPort s p (fun x => { x with trig := firstReason reason x.trig })

/-- The port's document is jammed (R255): JAM, a stall or a trip of the lane's axis. -/
def jamDoc (s : State) (p : Fin 2) : State := trigger s p 3

/-- A stall or trip of an axis jams the documents on its lane (R255). -/
def jamAxis (s : State) (n : Fin 4) : State :=
  applyAll (fun s p =>
    let i : Fin 4 := Fin.ofNat 4 (imgCfg s p 4 / 4)
    if laneAxis s i = n.val then jamDoc s p else s) s (allFin 2)

/-- IMG_WITHDRAWN: the lane's direction is opposite and it is behind LSN 0 (R255). -/
def withdrawn (s : State) (p : Fin 2) : State :=
  match s.img.ports[p].cur with
  | none => s
  | some d =>
    let l := s.msu.lanes[Fin.ofNat 4 (imgCfg s p 4 / 4)]
    match d.p0 with
    | some q => if l.dir ≠ .none && l.dir ≠ d.dir && docSign d * (l.pos - q) < 0 then trigger s p 2 else s
    | none => s

/-! Line events. -/

/-- The double-feed check of a taken line event with the DF_OPT code `df` (R255): the new run of low codes. -/
def dfRun (s : State) (p : Fin 2) (d : ImgDoc) (df : Nat) : Nat :=
  let ch := imgCfg s p 12
  if ch = 0xFF || obj s (0x2508 + ch) 1 = 0 then 0
  else if !sysReads s then d.dfRun
  else if df < imgCfg s p 13 then d.dfRun + 1 else 0

/-- A copy joins the line it is made from: the last one whose readout is running, else the SNAP that is on (R237, R239). -/
def addCopy (t : ImgTaken) (ts : List ImgTrain) : List ImgTrain :=
  let at_ := (ts.filter (fun x => x.fin.isSome)).length - 1
  (ts.zip (upto ts.length)).map (fun x => if x.2 = at_ then { x.1 with lines := x.1.lines ++ [{ t with repeated := true }] } else x.1)

/-- Is the train of a line running in this cycle? -/
def trainRunning (s : State) (p : Fin 2) : Bool :=
  s.img.ports[p].trains.any (fun x => match x.fin with
    | some t => decide (now s < t)
    | none => true)

/-- A taken line starts its exposure, or is made as a copy of the running one (R235, R237). -/
def takeImgLine (s : State) (p : Fin 2) (t : ImgTaken) (slots times : List (Nat × Nat)) : State :=
  let x := s.img.ports[p]
  if trainRunning s p then
    let s1 := modPort s p (fun x => { x with trains := addCopy t x.trains, overruns := inc32 x.overruns, overRun := true })
    if x.overRun then s1 else raise s1 291 (portBit p) (toBits 32 t.lsn)
  else
    let train := (exposures (readoutTicks s p) times 0 0).2
    modPort s p (fun x =>
      { x with trains := x.trains ++ [⟨now s, some (now s + train), [t]⟩], lit := litFrom s p slots times, overRun := false })

/-- SCAN_GATE lets the line be taken (R238). -/
def scanGateLets (s : State) (p : Fin 2) : Bool :=
  decide (imgCfg s p 5 = 0) || levelAtEnd s (0x20 + p.val) 0 s.img.ports[p].scanGate

/-- A line event that counts as a revisit (R246). -/
def revisitLine (s : State) (p : Fin 2) : State := modPort s p (fun x => { x with revisits := inc32 x.revisits })

/-- The OPT request of the double-feed check (R315). -/
def dfAsk (s : State) (p : Fin 2) : State :=
  let ch := imgCfg s p 12
  if ch = 0xFF || obj s (0x2508 + ch) 1 = 0 || !sysReads s then s else optAsk s ch

/-- A line event of an ACTIVE job (R246, R255). The line of a double feed is dropped (R256). -/
def docLine (s : State) (p : Fin 2) (d : ImgDoc) (n : Int) (dir : Dir) (due : Int) (df : Nat) : State :=
  let revisit := revisitLine s p
  if dir ≠ d.dir || !scanGateLets s p || d.flags / 16 % 2 = 1 then revisit
  else
    let n1 := d.n1.getD n
    let lsn := docSign d * (n - n1)
    if lsn ≤ d.maxLsn then revisit
    else
      let run := dfRun s p d df
      let s := dfAsk s p
      if imgCfg s p 14 ≤ run && 0 < run then
        trigger (modPort s p (fun x => { x with cur := some { d with dfRun := run } })) p 1
      else
        let s1 := modPort s p (fun x =>
          { x with cur := some { d with n1 := some n1, maxLsn := lsn, p0 := some (d.p0.getD due), dfRun := run },
                   nextLsn := (lsn + 1).toNat })
        takeImgLine s1 p ⟨lsn, due, false, false, d.key⟩ d.slots d.times

/-- A line event of an image port's generator (R236, R238, R246, R258). -/
def imgLine (s : State) (p : Fin 2) (n : Int) (dir : Dir) (df : Nat) : State :=
  if !inRun s then s
  else
    let g : Fin 16 := Fin.ofNat 16 (imgCfg s p 4)
    let due := if dir = .rev then dueRev s g n else dueFwd s g n
    match lineJob s (p.val + 3) with
    | some e =>
      let s1 := if startsNow s e then docStart s p e else s
      match s1.img.ports[p].cur with
      | some d => if d.entry = e.val then docLine s1 p d n dir due df else s1
      | none => s1
    | none =>
      match (jobsOfKind s (p.val + 3)).find? (fun e =>
          s.ledger.jobs[e].state == 2 && decide (s.ledger.jobs[e].lane = jobUnitLane s s.ledger.jobs[e])) with
      | none => if s.img.ports[p].longJob.isSome then revisitLine s p else s
      | some e =>
        if dir ≠ jobDir s.ledger.jobs[e] then s
        else if !scanGateLets s p then revisitLine s p
        else takeImgLine s p ⟨-1, due, false, false, s.ledger.jobs[e].resv⟩ (slotList s p) (slotTimes s p)

/-! SNAP (R239). -/

/-- A SNAP is on. -/
def snapOn (s : State) (p : Fin 2) : Bool := s.img.ports[p].trains.any (fun x => x.fin.isNone)

/-- SNAP ON: slot 0's illumination is lit and integration starts. -/
def snapStart (s : State) (p : Fin 2) : State :=
  match s.img.ports[p].cur with
  | some d =>
    if d.ending || snapOn s p then s
    else modPort s p (fun x =>
      { x with trains := x.trains ++ [⟨now s, none, []⟩],
               lit := if (d.slots.headD (0, 0)).2 = 0 then x.lit
                      else x.lit ++ [⟨(d.slots.headD (0, 0)).2, slotCfg s p 0 5, now s, none⟩] })
  | none => s

/-- SNAP OFF: the line is read out, once a readout under way has ended, and is the next LSN. Its train runs from SNAP ON (DESIGN CHOICE, assumption
log 123). -/
def snapEnd (s : State) (p : Fin 2) : State :=
  match s.img.ports[p].cur with
  | none => s
  | some d =>
    if !snapOn s p then s
    else
      let lsn := d.maxLsn + 1
      let pos := s.msu.lanes[Fin.ofNat 4 (imgCfg s p 4 / 4)].pos
      let from_ := maxN (now s :: s.img.ports[p].trains.filterMap (fun x => x.fin))
      modPort s p (fun x =>
        { x with trains := x.trains.map (fun t =>
                   if t.fin.isNone then { t with fin := some (from_ + readoutTicks s p), lines := t.lines ++ [⟨lsn, pos, false, true, d.key⟩] }
                   else t),
                 lit := x.lit.map (fun l => if l.off.isNone then { l with off := some (now s) } else l),
                 nextLsn := (lsn + 1).toNat,
                 cur := some { d with maxLsn := lsn, p0 := some (d.p0.getD pos) } })

/-! A line's processing. -/

/-- Mean of a row over pixels `a` to `b`. -/
def meanOver (xs : List Nat) (a b : Nat) : Nat :=
  let ys := (xs.drop a).take (b + 1 - a)
  sumN ys / max 1 ys.length

/-- The greatest LED_I of an illumination channel in 0.1 mA (R263). -/
def ledMax (illum : Nat) : Nat := if illum = 2 then 4000 else if illum = 3 then 3000 else 6000

/-- A capture of references is under way (R241). -/
def capturing (s : State) (p : Fin 2) : Bool :=
  decide (s.img.ports[p].calState = 1) && decide (1 ≤ s.img.ports[p].calCmd) && decide (s.img.ports[p].calCmd ≤ 2)

/-- The balance loop of slot `k` gathers one exposed line's mean (R262, R263); it holds during a capture, and LED_I stays within its channel's maximum,
where that is below I_MAX (DEDUCED, assumption log 123). -/
def balance (s : State) (p : Fin 2) (k : Fin 4) (m : Nat) : State :=
  if slotCfg s p k.val 6 = 0 || capturing s p then s
  else
    let setSlot := fun (s : State) (f : ImgSlot → ImgSlot) => modPort s p (fun x => { x with slots := upd x.slots k f })
    if slotCfg s p k.val 7 = 1 then setSlot s (fun o => { o with gathered := [] })
    else
      let old := s.img.ports[p].slots[k]
      let g := old.gathered ++ [m]
      if g.length < 64 then setSlot s (fun o => { o with gathered := g })
      else
        let mean := sumN g / 64
        let top := ledMax (slotCfg s p k.val 1)
        let lo := min (slotCfg s p k.val 10) top
        let hi := min (slotCfg s p k.val 11) top
        let i := clampI lo hi ((slotCfg s p k.val 5 : Int)
          + tdiv (((slotCfg s p k.val 8 : Int) - mean) * slotCfg s p k.val 9) 65536)
        let st := if i = hi then 3 else if i = lo then 4 else 1
        let s1 := setSlot (setObj s (0x2708 + 16 * p.val + k.val) 5 i)
          (fun _ => { state := st, level := mean, gathered := [] })
        if st ≠ 1 && old.state ≠ st then raise s1 300 (portBit p + k.val + 256 * b2n (st = 3)) i.toNat else s1

/-- One row's mean meets half of SH_TARGET: the edge between the last line and this one (R244). -/
def edgeBetween (half prev m : Int) (duePrev due : Int) : Option (Bool × Int) :=
  if half ≤ prev && m < half then some (true, duePrev + tdiv ((due - duePrev) * (prev - half)) (prev - m))
  else if prev < half && half ≤ m then some (false, duePrev + tdiv ((due - duePrev) * (half - prev)) (m - prev))
  else none

/-- Edges of the rows of slot 0 in one line of the calibrated document (R244). -/
def edgeLine (s : State) (p : Fin 2) (planes : List (Nat × Nat)) (ys : List (List Nat)) (due : Int) : State :=
  if !s.img.ports[p].calDoc then s
  else
    let half : Int := shCfg s p 2 / 2
    let lo := shCfg s p 12
    let hi := shCfg s p 13
    let row := shCfg s p 14
    let s1 := applyAll (fun (s : State) (x : (Nat × Nat) × List Nat) =>
      if x.1.1 ≠ 0 then s
      else
        let r : Fin 4 := Fin.ofNat 4 x.1.2
        let m : Int := meanOver x.2 lo hi
        let o := s.img.ports[p]
        let e := match o.edgeMean[r] with
          | some q => edgeBetween half q m o.edgeDue due
          | none => none
        modPort s p (fun o =>
          let o1 := { o with edgeMean := upd o.edgeMean r (fun _ => some m) }
          match e with
          | none => o1
          | some (fall, pos) =>
            let o2 := if fall && (o1.rowEdge[r]).isNone then { o1 with rowEdge := upd o1.rowEdge r (fun _ => some pos) } else o1
            if o2.calCmd = 4 && r.val = row && o2.edgeN < 4 && fall = (o2.edgeN % 2 == 0) then
              { o2 with edges := updN o2.edges o2.edgeN (fun _ => pos), edgeN := o2.edgeN + 1 }
            else o2)) s (planes.zip ys)
    modPort s1 p (fun o => { o with edgeDue := due })

/-- One taken line is processed from its raw planes (R232–R258). -/
def processLine (raw : List (List Nat)) (p : Fin 2) (s : State) (t : ImgTaken) : State :=
  let x := s.img.ports[p]
  let slots := match x.cur with
    | some d => d.slots
    | none => slotList s p
  let planes := planesOf slots
  let nat := raw.map (nativeRow s p)
  let satd := raw.any (fun r => r.any (fun v => v == 65535))
  let ys := (planes.zip nat).map (fun a => shadeRow s p a.1.1 a.1.2 a.2)
  let s1 := if t.repeated then s
    else applyAll (fun s (k : Fin 4) =>
      match (planes.zip nat).find? (fun a => a.1.1 == k.val && a.1.2 == slotCfg s p k.val 12) with
      | some a => balance s p k (meanOver a.2 (slotCfg s p k.val 13) (slotCfg s p k.val 14))
      | none => s) s (allFin 4)
  let past := ((t.job, ys) :: x.hist).take 33
  let hist := (past.filter (fun h => h.1 == t.job)).map (fun h => h.2)
  let s2 := modPort s1 p (fun o => { o with hist := past })
  match x.cur with
  | none => s2
  | some d =>
    if t.lsn < 0 then s2
    else
      let lsn := t.lsn.toNat
      let s3 := edgeLine s2 p planes ys t.due
      let cal := s3.img.ports[p].calDoc
      let pay := linePayload s3 p d (if cal then [ys] else hist)
      let fl := p.val + 2 * b2n (d.mode = 0) + 4 * b2n t.repeated + 8 * b2n satd + 16 * b2n t.snap
      let bytes := recHeader 2 fl x.doc lsn pay.length (toBits 32 t.due) ++ pay
      let line : ImgLine := { lsn := lsn, due := t.due, sent := false, clean := !t.repeated && !satd, samples := 0,
                              held := if d.mode = 1 then bytes else [] }
      let flags := d.flags ||| (32 * b2n t.repeated) ||| (64 * b2n satd)
      if isLong s3 p then s3
      else match makeRoom s3 p d.key bytes.length with
      | none => longEnd s3 p
      | some s3 =>
        let s4 := modPort s3 p (fun o =>
          { o with lines := o.lines ++ [line],
                   cur := o.cur.map (fun d => { d with flags := flags, satSeen := d.satSeen || satd }) })
        let s5 := if satd && !d.satSeen then raise s4 294 (portBit p) lsn else s4
        let s6 := if d.mode = 0 then sendLine s5 p d lsn bytes else s5
        if p = 1 && d.dir = .fwd then readback s6 else s6

/-- IMG_TRAIN_END: the train of the running line has ended; `raw` are its planes (R235, R237). -/
def imgTrainEnd (s : State) (p : Fin 2) (raw : List (List Nat)) : State :=
  match s.img.ports[p].trains with
  | [] => s
  | t :: r =>
    match t.fin with
    | none => s
    | some f =>
      if now s < f then s
      else applyAll (processLine raw p) (modPort s p (fun o => { o with trains := r, lastTrain := f - t.start })) t.lines

/-! The end of a cycle (R253, R256). -/

/-- Has the port something that the end of a cycle decides? -/
def portBusy (s : State) (p : Fin 2) : Bool :=
  let x := s.img.ports[p]
  x.trig.isSome || x.late.isSome || x.endReq || x.finalReq || (snapOn s p && (match x.cur with
    | some d => d.ending
    | none => false))

/-- The reason that decides: of a trigger while the job was ACTIVE, or of a later one against the DOC_END of this cycle (R256). -/
def endReason (x : ImgPort) : Option Nat :=
  match x.trig, x.late with
  | some r, some q => some (if x.endReq then min r q else r)
  | some r, none => some r
  | none, some q => if x.endReq then some q else none
  | none, none => none

/-- A port's cycle ends: a retraction is decided before DOC_END, and both before confirmations (R253, R256). A SNAP whose job has left ACTIVE
ends (DESIGN CHOICE, assumption log 123). -/
def portEnd (s : State) (p : Fin 2) : State :=
  let x := s.img.ports[p]
  let s0 := match x.cur with
    | some d => if d.ending then snapEnd s p else s
    | none => s
  let s1 := modPort s0 p (fun x => { x with trig := none, late := none, endReq := false, finalReq := false })
  match endReason x, s1.img.ports[p].cur with
  | some r, some _ => retract s1 p r
  | _, some d => if x.endReq then docEndNow s1 p d else if x.finalReq then lineFinalNow s1 p else s1
  | _, none => s1

/-! Shading capture (R241, R242). -/

/-- Entries of a port whose span is below SH_MIN_SPAN (R242). -/
def weakCount (s : State) (p : Fin 2) : Nat :=
  ((upto 82944).filter (fun k => decide ((domU16 s (imgDom p 2) k : Int) - domU16 s (imgDom p 1) k < shCfg s p 3))).length

/-- WEAK_PIXELS is counted again; EV298 (R242). -/
def weakUpdate (s : State) (p : Fin 2) : State :=
  let n := weakCount s p
  let s1 := modPort s p (fun x => { x with weak := sat 16 n })
  if 0 < n then raise s1 298 (portBit p) (sat 16 n) else s1

/-- CAL_CMD 1 or 2 starts a capture, with its number of lines and its slots as they stand, its first internal trigger at once (R241; DESIGN CHOICE,
assumption log 123); 3 and 4 wait for the next document (R244). -/
def calStart (s : State) (p : Fin 2) (c : Nat) : State :=
  modPort s p (fun x =>
    if c ≤ 2 then { x with calCmd := c, calState := 1, calLeft := shCfg s p 5, calN := shCfg s p 5, calAt := now s,
                           calSlots := slotList s p, calSum := [] }
    else { x with calCmd := c, calState := 1, calDoc := false })

/-- Entries from `off` on replaced in a table of 16-bit entries. -/
def putU16s (bs : List Byte) (off : Nat) (xs : List Nat) : List Byte :=
  bs.take (2 * off) ++ xs.flatMap (leBytes 2) ++ bs.drop (2 * off + 2 * xs.length)

/-- One calibration line is exposed by the internal trigger, which comes every 40 000 ticks, in RUN or SERVICE only (R236); the last one writes the
references (R241). -/
def calLine (s : State) (p : Fin 2) (raw : List (List Nat)) : State :=
  let x := s.img.ports[p]
  if !capturing s p || !inRun s || now s < x.calAt then s
  else
    let nat := raw.map (nativeRow s p)
    let sum := match x.calSum with
      | [] => nat
      | old => List.zipWith (List.zipWith (· + ·)) old nat
    let s := modPort s p (fun o => { o with lit := litFrom s p x.calSlots (slotTimes s p), calAt := (if o.calAt + 40000 ≤ now s then now s else o.calAt) + 40000 })
    if 1 < x.calLeft then modPort s p (fun o => { o with calLeft := o.calLeft - 1, calSum := sum })
    else
      let n := x.calN
      let t := imgDom p x.calCmd
      let bytes := ((planesOf x.calSlots).zip sum).foldl (fun bs a =>
        putU16s bs ((4 * a.1.1 + a.1.2) * 5184) (a.2.map (fun v => (v + n / 2) / n))) (dom s t)
      let s1 := modPort (setDom s t bytes) p (fun o =>
        { o with calLeft := 0, calSum := [], calCmd := 0, calState := 2 })
      let s2 := if x.calCmd = 2 then weakUpdate s1 p else s1
      raise s2 296 (portBit p + x.calCmd) s2.img.ports[p].weak

/-- STATE of a port: 0 idle, 1 pre-roll, 2 scanning, 3 calibrating. -/
def imgState (s : State) (p : Fin 2) : Nat :=
  if s.img.ports[p].cur.isSome then 2
  else if s.img.ports[p].calState = 1 && s.img.ports[p].calCmd ≤ 2 then 3
  else if (jobsOfKind s (p.val + 3)).any (fun e => s.ledger.jobs[e].state == 2) then 1
  else 0

/-- BAL_STATE of a slot (R263). -/
def balState (s : State) (p : Fin 2) (k : Fin 4) : Nat :=
  if slotCfg s p k.val 6 = 0 then 0 else if slotCfg s p k.val 7 = 1 then 2
  else if s.img.ports[p].slots[k].state = 0 then 1 else s.img.ports[p].slots[k].state

end Sys2Proof.Machine
end

