-- ==== Sys2Proof/Machine/Sense.lean ====
section
/-!
DEFINITION. Sense.lean: the Sense Engine (spec/10): slices, roles and calibration, the reference, triggers, the two
sequencers and the urgent slots, the interleaved capture, the filters and the result queue.
-/

namespace Sys2Proof.Machine

open Sys2Proof

/-- The Sense Engine changed. -/
def modSe (s : State) (f : SeSt → SeSt) : State := { s with se := f s.se }
/-- Slice `i` changed. -/
def modSlice (s : State) (i : Fin 4) (f : SliceSt → SliceSt) : State :=
  modSe s (fun e => { e with slices := upd e.slices i f })
/-- Sequencer `p` changed. -/
def modSq (s : State) (p : Fin 2) (f : SqSt → SqSt) : State := modSe s (fun e => { e with sqs := upd e.sqs p f })
/-- Urgent slot `u` changed. -/
def modUrg (s : State) (u : Fin 8) (f : UrgSt → UrgSt) : State := modSe s (fun e => { e with urgs := upd e.urgs u f })
/-- Filter `k` changed. -/
def modFilt (s : State) (k : Fin 16) (f : FiltSt → FiltSt) : State :=
  modSe s (fun e => { e with filts := upd e.filts k f })

/-! Channels, slices and roles. -/

/-- Is a channel code listed (R301)? -/
def chListed (c : Nat) : Bool :=
  c ≤ 0x2D || (0x30 ≤ c && c ≤ 0x3B) || (0x40 ≤ c && c ≤ 0x49)

/-- The role Pn as an index. -/
def roleOf (p : Fin 2) : Fin 3 := ⟨p.val, by omega⟩

/-- The slice that serves sequencer `p`, if its role is filled. -/
def sqSlice (s : State) (p : Fin 2) : Option (Fin 4) := s.se.roles[roleOf p]

/-- The value of a raw code by the trims of a slice (R299). -/
def sliceValue (s : State) (i : Fin 4) (raw : Nat) : Nat :=
  let x := s.se.slices[i]
  (clampI 0 65520 (fdiv ((min raw 4095 * 16 * x.gain : Nat) : Int) 32768 + x.offset)).toNat

/-- The temperature of a VALUE, in 1/16 °C (R301). -/
def valueTemp (v : Nat) : Int := tdiv ((v : Int) * 5) 64 - 1280

/-- Healthy slices (R300). -/
def seHealthy (s : State) : Nat := ((allFin 4).filter (fun i => !s.se.slices[i].bad)).length

/-- One nibble of ROLE_MAP. -/
def roleNibble (r : Option (Fin 4)) : Nat := match r with | some i => i.val | none => 0xF

/-- ROLE_MAP. -/
def roleMap (s : State) : Nat :=
  roleNibble s.se.roles[0] + 16 * roleNibble s.se.roles[1] + 256 * roleNibble s.se.roles[2]
    + 4096 * roleNibble s.se.spare

/-! The reference (R302, R303). -/

/-- Has a conversion with this sampling instant begun in an earlier cycle? None begins while REF_EN is 0 (R295, R302). -/
def convBegun (s : State) (t : ST) : Bool := decide (t < now s) && (refOn s || decide (t < s.se.refOff))

/-! The result queue (R327, R328). -/

/-- A result word. -/
def resultWord (ch src value : Nat) (refU filtU lost : Bool) (slice st : Nat) : Nat :=
  ch * 2 ^ 56 + src * 2 ^ 48 + value * 2 ^ 32 + b2n refU * 2 ^ 31 + b2n filtU * 2 ^ 30 + b2n lost * 2 ^ 29
    + slice * 2 ^ 27 + st % 2 ^ 27

/-- FILL has fallen: EV404 may be raised again below WATERMARK ÷ 2. -/
def wmRearm (s : State) : State :=
  if 2 * s.se.queue.length < objN s 0x2930 5 then modSe s (fun e => { e with wmRaised := false }) else s

/-- FILL reaches WATERMARK. -/
def wmTest (s : State) : State :=
  if !s.se.wmRaised && decide (objN s 0x2930 5 ≤ s.se.queue.length) then
    raise (modSe s (fun e => { e with wmRaised := true })) 404 s.se.queue.length 0
  else s

/-- A result enters the queue, or is dropped where it is full. -/
def seWord (s0 : State) (r : SeResult) (filtU : Bool) : State :=
  let s := wmRearm s0
  let s1 :=
    if s.se.queue.length < 1024 then
      let s2 := modSe s (fun e =>
        { e with queue := e.queue ++ [resultWord r.ch r.src r.value r.refU filtU e.lostNext r.slice r.st],
                 lostNext := false, lostRun := false })
      wmTest (if r.refU && !s.se.refEv then raise (modSe s2 (fun e => { e with refEv := true })) 400 r.ch r.st else s2)
    else
      let n := inc32 s.se.lost
      let s2 := modSe s (fun e => { e with lost := n, lostNext := true, lostRun := true })
      if s.se.lostRun then s2 else raise s2 405 n 0
  s1

/-- A result of this cycle waits for the cycle's end, in the order P0, P1, filters in ascending order (R328). -/
def seHand (s : State) (rank : Nat) (r : SeResult) (filtU : Bool) : State :=
  modSe s (fun e => { e with words := e.words.filter (fun x => decide (x.rank ≤ rank)) ++ [⟨rank, r, filtU⟩]
                                        ++ e.words.filter (fun x => decide (rank < x.rank)) })

/-- The words of this cycle enter the queue. -/
def seWords (s : State) : State :=
  applyAll (fun t (x : SeDone) => seWord t x.r x.filtU) (modSe s (fun e => { e with words := [] })) s.se.words

/-! Filters (R323–R326). -/

/-- Object of a filter. -/
def filtCfg (s : State) (k : Fin 16) (sub : Nat) : Nat := objN s (0x2920 + k.val) sub

/-- PACE (R324); 0 without pacing. -/
def filtPace (s : State) (k : Fin 16) : Nat :=
  let f := filtCfg s k 4
  let d := filtCfg s k 3
  if f = 0 then 0 else (20000000000 + f * d / 2) / (f * d)

/-- NOTCH_ACT (R324). -/
def notchAct (s : State) (k : Fin 16) : Nat :=
  if filtPace s k = 0 then 0 else 20000000000 / (filtPace s k * filtCfg s k 3)

/-- A filter is reset (R326). -/
def filtReset (s : State) (k : Fin 16) : State :=
  let p := filtPace s k
  modFilt s k (fun x => { FiltSt.reset with last := x.last, starved := x.starved, paceAt := now s + p })

/-- Sums of `d` consecutive values, newest first. -/
def boxSum (d : Nat) : List Nat → List Nat
  | [] => []
  | x :: r => sumN ((x :: r).take d) :: boxSum d r

/-- Output of R323 over inputs held newest first; the free value `free` while the history is not complete, for which
the spec states none (DESIGN CHOICE, assumption log 2). -/
def sincOut (n d : Nat) (xs : List Nat) (free : Nat) : Nat :=
  if xs.length < n * (d - 1) + 1 then freeReading free % 65536
  else
    let y := (Nat.rec xs (fun _ acc => boxSum d acc) n : List Nat)
    (y.headD 0 + d ^ n / 2) / d ^ n

/-- A filter takes an input; every D-th gives an output (R323, R325). -/
def filtTake (s : State) (k : Fin 16) (r : SeResult) : State :=
  let n := filtCfg s k 2
  let d := filtCfg s k 3
  let x := s.se.filts[k]
  let xs := ((r.value, r.refU) :: x.xs).take (n * d)
  let taken := min (x.taken + 1) (n * d)
  if x.phase + 1 < d then modFilt s k (fun y => { y with xs := xs, taken := taken, phase := x.phase + 1 })
  else
    let out := sincOut n d (xs.map (·.1)) s.free
    let s1 := if xs.length < n * (d - 1) + 1 then takeFree s else s
    seHand (modFilt s1 k (fun y => { y with xs := xs, taken := taken, phase := 0, last := out })) (2 + k.val)
      { r with value := out, refU := (xs.take (n * (d - 1) + 1)).any (·.2) } (decide (taken < n * d))

/-- A result of its channel reaches a filter (R324). -/
def filtInput (s : State) (k : Fin 16) (r : SeResult) : State :=
  let s1 := modFilt s k (fun x => { x with latest := some r, fresh := true })
  if filtCfg s k 4 = 0 then filtTake s1 k r else s1

/-- A pace point: the latest result is taken, again if none is new (R324). -/
def filtPoint (s : State) (k : Fin 16) : State :=
  let x := s.se.filts[k]
  let p := filtPace s k
  if !controlLive s || p = 0 || decide (now s < x.paceAt) then s
  else
    let s1 := modFilt s k (fun y => { y with paceAt := x.paceAt + p, fresh := false })
    match x.latest with
    | none => s1
    | some r =>
      let s2 :=
        if x.fresh then modFilt s1 k (fun y => { y with starvedRun := false })
        else
          let n := inc32 x.starved
          let s3 := modFilt s1 k (fun y => { y with starved := n, starvedRun := true })
          if x.starvedRun then s3 else raise s3 410 k.val n
      filtTake s2 k { r with src := 0x90, st := x.paceAt }

/-- STATE of a filter: 0 idle, 1 settling, 2 settled. -/
def filtState (s : State) (k : Fin 16) : Nat :=
  let x := s.se.filts[k]
  if x.taken = 0 then 0 else if x.taken < filtCfg s k 2 * filtCfg s k 3 then 1 else 2

/-- The result of a conversion on the slice of `p` goes to its filter or to the queue. -/
def seResult (s : State) (p : Fin 2) (filt : Option (Fin 16)) (r : SeResult) : State :=
  match filt with
  | some k => filtInput s k r
  | none => seHand s p.val r false

/-! Sequencers (R307–R310). -/

/-- Word 0 of an entry of a table. -/
def sqWord (tab : List Byte) (e : Nat) : Nat := rdLE tab (8 * e) 4
/-- DELAY of an entry. -/
def sqDelay (tab : List Byte) (e : Nat) : Nat := rdLE tab (8 * e + 4) 4
/-- The filter of an entry, where FILT_EN is set. -/
def sqFilter (w : Nat) : Option (Fin 16) := if bit w 3 then some (Fin.ofNat 16 (bits w 7 4)) else none

/-- The word of the entry a sequencer is in. -/
def sqNow (x : SqSt) : Nat := sqWord x.table x.entry

/-- ACQ of that entry. -/
def sqAcq (x : SqSt) : Nat := bits (sqNow x) 15 8

/-- The sampling instant of the repetition under way. -/
def sqSample (x : SqSt) : Option ST :=
  match x.phase with
  | .active a => some (a + sqAcq x)
  | _ => none

/-- Is the slice of a sequencer at a conversion boundary (R295)? -/
def atBoundary (s : State) (p : Fin 2) : Bool :=
  let x := s.se.sqs[p]
  !(match sqSample x with | some t => convBegun s t | none => false)
    && !(match x.urgent with | some u => convBegun s (u.acq + u.len) | none => false)

/-- Some head's resistance measurement, a system capture, runs (R320). -/
def sysCapture (s : State) : Bool := s.vl[0].measState == 1 || s.vl[1].measState == 1

/-- A capture of the host or of the system runs: both slices are its own (R318, R320, R321). -/
def capRuns (s : State) : Bool := s.se.capState == 2 || sysCapture s

/-- The armed capture's trigger is 2 cycles old: it takes the slices at their next boundaries (R318). -/
def capWants (s : State) : Bool :=
  s.se.capState == 1 && (match s.se.capTrig with | some t => decide (t + 2 ≤ now s) | none => false)

/-- A repetition begins its acquisition at `t`, or is held while the slice is taken (R313, R318). -/
def sqBegin (s : State) (p : Fin 2) (t : ST) : State :=
  let busy := s.se.sqs[p].urgent.isSome || capRuns s || capWants s
  modSq s p (fun x => if busy then { x with phase := .held } else { x with phase := .active t, disp := false })

/-- Entry `e` begins at `t` (R308). -/
def sqEntry (s : State) (p : Fin 2) (e : Nat) (t : ST) : State :=
  let s1 := if e = 0 then
      let tab := dom s (0x5900 + p.val)
      modSq s p (fun x => { x with table := tab, len := objN s (0x2910 + p.val) 2 })
    else s
  let s2 := modSq s1 p (fun x => { x with entry := e, rep := 0 })
  if bit (sqNow s2.se.sqs[p]) 2 then
    match s2.se.sqs[p].latched with
    | some c => sqBegin (modSq s2 p (fun x => { x with latched := none, tag := c })) p t
    | none => modSq s2 p (fun x => { x with phase := .waiting })
  else sqBegin (modSq s2 p (fun x => { x with tag := 0x80 + p.val })) p t

/-- The filters a table selects, in any of its 64 entries. -/
def tableFilters (tab : List Byte) : List (Fin 16) := (upto 64).filterMap (fun e => sqFilter (sqWord tab e))

/-- RUN goes from 0 to 1 (R308): filters reset and entry 0 begins, once a conversion that a stop has left in flight has ended; halted where
the role is not filled. -/
def sqStart (s : State) (p : Fin 2) : State :=
  let s0 := setObj s (0x2910 + p.val) 1 1
  let tab := dom s (0x5900 + p.val)
  let s1 := applyAll filtReset s0 (tableFilters tab)
  let s2 := modSq s1 p (fun x => { x with latched := none })
  if s.se.sqs[p].stopAt then modSq s2 p (fun x => { x with again := true })
  else if (sqSlice s p).isSome then sqEntry s2 p 0 (now s) else modSq s2 p (fun x => { x with phase := .halted, entry := 0 })

/-- RUN becomes 0 (R310): a conversion in flight completes, and a latched trigger is discarded. -/
def sqStop (s : State) (p : Fin 2) : State :=
  let s1 := modSq (setObj s (0x2910 + p.val) 1 0) p (fun x => { x with latched := none, again := false, disp := false })
  if atBoundary s p || s.se.sqs[p].urgent.isSome then modSq s1 p (fun x => { x with phase := .stopped })
  else modSq s1 p (fun x => { x with stopAt := true })

/-- After entry's last conversion: its DELAY, or the next entry at once (R308). -/
def sqNext (s : State) (p : Fin 2) (t : ST) : State :=
  let x := s.se.sqs[p]
  if x.entry + 1 < x.len then sqEntry s p (x.entry + 1) t
  else sqEntry (modSq s p (fun y => { y with loops := inc32 y.loops })) p 0 t

/-- The repetition under way has been converted to `raw` (R308, R310). -/
def seqDone (s : State) (p : Fin 2) (raw : Nat) : State :=
  let x := s.se.sqs[p]
  match sqSample x, sqSlice s p with
  | some t, some sl =>
    if x.urgent.isSome || decide (now s < t + 40) || !controlLive s || (!refOn s && decide (s.se.refOff ≤ t)) then s
    else
      let w := sqNow x
      let r : SeResult := { ch := bits w 31 24, src := x.tag, value := sliceValue s sl raw, refU := refUnsettled s t,
                            slice := sl.val, st := t }
      let fin := t + 40
      let s1 := seResult s p (sqFilter w) r
      if x.stopAt then
        let s2 := modSq s1 p (fun y => { y with phase := .stopped, stopAt := false, again := false })
        if x.again then sqEntry s2 p 0 fin else s2
      else if x.rep < bits w 23 16 then sqBegin (modSq s1 p (fun y => { y with rep := y.rep + 1 })) p fin
      else
        let d := sqDelay x.table x.entry
        if d = 0 then sqNext s1 p fin else modSq s1 p (fun y => { y with phase := .delay (fin + d) })
  | _, _ => s

/-- A DELAY is over; it is acted on when no urgent conversion runs (R308, R313). -/
def delayEnd (s : State) (p : Fin 2) : State :=
  let x := s.se.sqs[p]
  match x.phase with
  | .delay t =>
    if decide (now s < t) || x.urgent.isSome || capRuns s || capWants s || !controlLive s then s else sqNext s p (now s)
  | _ => s

/-- A repetition that was held restarts (R313). -/
def sqResume (s : State) (p : Fin 2) : State :=
  if s.se.sqs[p].phase = .held then sqBegin s p (now s) else s

/-- STATE of a sequencer. -/
def sqState (s : State) (p : Fin 2) : Nat :=
  let x := s.se.sqs[p]
  match x.phase with
  | .stopped => 0
  | .halted => 4
  | .held => 3
  | .waiting => 2
  | .active _ => 1
  | .delay _ => 1

/-! Urgent slots (R312–R314). -/

/-- Object of an urgent slot. -/
def urgCfg (s : State) (u : Fin 8) (sub : Nat) : Nat := objN s (0x2918 + u.val) sub

/-- The role an urgent slot runs on: P0 in place of P1 where that is not filled (R300). -/
def urgRole (s : State) (u : Fin 8) : Fin 2 :=
  if urgCfg s u 5 = 1 && s.se.roles[1].isSome then 1 else 0

/-- The slots with a request for the slice of `p`, rising. -/
def urgPending (s : State) (p : Fin 2) : List (Fin 8) :=
  (allFin 8).filter (fun u => s.se.urgs[u].pend.isSome && urgRole s u = p)

/-- The filter of an urgent slot. -/
def urgFilter (s : State) (u : Fin 8) : Option (Fin 16) :=
  if urgCfg s u 6 < 16 then some (Fin.ofNat 16 (urgCfg s u 6)) else none

/-- The armed capture begins in this cycle: both slices are free (R318). -/
def capTakes (s : State) : Bool :=
  capWants s && !capRuns s && refOn s && controlLive s && atBoundary s 0 && atBoundary s 1
    && s.se.sqs[0].urgent.isNone && s.se.sqs[1].urgent.isNone && (sqSlice s 0).isSome && (sqSlice s 1).isSome

/-- An urgent request starts on the slice of `p` (R312, R313, R321); a capture that begins in the same cycle has the slices (DESIGN CHOICE,
assumption log 126). -/
def urgStart (s : State) (p : Fin 2) : State :=
  let x := s.se.sqs[p]
  let ready := (urgPending s p).filter (fun u => match s.se.urgs[u].pend with
    | some t => decide (t + 2 ≤ now s) | none => false)
  if x.urgent.isSome || capRuns s || capTakes s || !atBoundary s p || (sqSlice s p).isNone || !refOn s || !controlLive s then s
  else
    match ready with
    | [] => s
    | u :: _ =>
      let wait := match s.se.urgs[u].pend with | some t => now s - t | none => 0
      let cut := match x.phase with | .active _ => true | .held => true | _ => false
      let run : UrgentRun := { slot := u, acq := now s, len := urgCfg s u 4, src := urgCfg s u 2, ch := urgCfg s u 3, filt := urgFilter s u }
      modSq (modUrg s u (fun y => { y with pend := none, ovrRun := false, maxWait := max y.maxWait (sat 16 wait) })) p
        (fun y => { y with urgent := some run, phase := (if cut then .held else y.phase), disp := y.disp || cut,
                           preempts := (if cut && !y.disp then inc32 y.preempts else y.preempts) })

/-- The urgent conversion on the slice of `p` has been converted to `raw` (R312, R313). -/
def urgDone (s : State) (p : Fin 2) (raw : Nat) : State :=
  match s.se.sqs[p].urgent, sqSlice s p with
  | some u, some sl =>
    let t := u.acq + u.len
    if decide (now s < t + 40) || !controlLive s || (!refOn s && decide (s.se.refOff ≤ t)) then s
    else
      let s1 := modUrg (modSq s p (fun y => { y with urgent := none })) u.slot (fun y => { y with count := inc32 y.count })
      seResult s1 p u.filt
        { ch := u.ch, src := u.src, value := sliceValue s sl raw, refU := refUnsettled s t, slice := sl.val, st := t }
  | _, _ => s

/-! Triggers (R305, R309, R314, R318). -/

/-- A sequencer's trigger is lost. -/
def sqTrigLost (s : State) (p : Fin 2) : State :=
  let n := inc32 s.se.sqs[p].trigLost
  let s1 := modSq s p (fun x => { x with trigLost := n, lostRun := true })
  if s.se.sqs[p].lostRun then s1 else raise s1 408 p.val n

/-- A trigger reaches a running sequencer (R309); with REF_EN = 0 it is lost (R302). -/
def sqTrigger (s : State) (p : Fin 2) (code : Nat) : State :=
  let x := s.se.sqs[p]
  if objN s (0x2910 + p.val) 3 ≠ code then s
  else
    match x.phase with
    | .stopped => s
    | .halted => s
    | .waiting =>
      if refOn s then sqBegin (modSq s p (fun y => { y with tag := code, lostRun := false })) p (now s)
      else sqTrigLost s p
    | _ =>
      if x.stopAt && !x.again then s
      else if x.latched.isSome || !refOn s then sqTrigLost s p
      else modSq s p (fun y => { y with latched := some code, lostRun := false })

/-- A trigger reaches an urgent slot (R312, R314). -/
def urgTrigger (s : State) (u : Fin 8) (code : Nat) : State :=
  if urgCfg s u 1 = 0 || urgCfg s u 2 ≠ code then s
  else
    let x := s.se.urgs[u]
    if x.pend.isSome || !refOn s then
      let n := inc32 x.overruns
      let s1 := modUrg s u (fun y => { y with overruns := n, ovrRun := true })
      if x.ovrRun then s1 else raise s1 409 u.val n
    else modUrg s u (fun y => { y with pend := some (now s), ovrRun := false })

/-- A trigger reaches the capture (R318). -/
def capTrigger (s : State) (code : Nat) : State :=
  if objN s 0x2940 3 ≠ code then s
  else if s.se.capState = 2 then modSe s (fun e => { e with trigOverruns := inc32 e.trigOverruns })
  else if s.se.capState = 1 && s.se.capTrig.isNone then modSe s (fun e => { e with capTrig := some (now s) })
  else s

/-- A trigger of a source reaches every consumer of its code (R305). -/
def trigReach (s : State) (code : Nat) : State :=
  let s1 := sqTrigger (sqTrigger s 0 code) 1 code
  capTrigger (applyAll (fun t u => urgTrigger t u code) s1 (allFin 8)) code

/-- A trigger of a source is delivered in this cycle (R305): its consumers see it as the cycle ends, after what the cycle has started or
stopped. -/
def seTrigger (s : State) (code : Nat) : State :=
  if controlLive s then modSe s (fun e => { e with trigs := e.trigs ++ [code] }) else s

/-- Is an edge of a pin selected by EDGE? -/
def pinSelected (s : State) (n : Fin 4) (rising : Bool) : Bool :=
  let e := objN s (0x2908 + n.val) 1
  if rising then e == 1 || e == 3 else e == 2 || e == 3

/-- A selected edge is sampled: its trigger is delivered 2 cycles later. -/
def pinEdge (s : State) (n : Fin 4) (rising : Bool) : State :=
  if controlLive s && pinSelected s n rising then
    modSe s (fun e => { e with pinDue := e.pinDue ++ [(now s + 2, n)] })
  else s

/-- The edges whose delivery cycle has come. -/
def pinDeliver (s : State) : State :=
  let due := s.se.pinDue.filter (fun x => decide (x.1 ≤ now s))
  applyAll (fun t (x : ST × Fin 4) =>
      seTrigger (modSe t (fun e => { e with edges := upd e.edges x.2 inc32 })) (0x30 + x.2.val))
    (modSe s (fun e => { e with pinDue := e.pinDue.filter (fun x => decide (now s < x.1)) })) due

/-- RUN of a sequencer becomes 1 or 0 in this cycle; the cycle's end carries it out, and a stop wins over a start (R306). -/
def sqAsk (s : State) (p : Fin 2) (run : Bool) : State :=
  modSq s p (fun x => if run then { x with starts := true } else { x with stops := true })

/-- A start or a stop of this cycle is carried out (R306, R308, R310). -/
def sqAsked (s : State) (p : Fin 2) : State :=
  let x := s.se.sqs[p]
  let s1 := modSq s p (fun y => { y with starts := false, stops := false })
  if x.stops then sqStop s1 p else if x.starts then sqStart s1 p else s1

/-- A Sense Engine waymark input (R306). -/
def seWaymark (s : State) (inp : Nat) : State :=
  if inp < 8 then seTrigger s (0x40 + inp)
  else if inp = 8 || inp = 9 then (if objN s (0x2910 + (inp - 8)) 1 = 0 then sqAsk s (Fin.ofNat 2 inp) true else s)
  else if inp = 10 || inp = 11 then sqAsk s (Fin.ofNat 2 inp) false
  else s

/-! Roles and calibration (R297, R298, R300). -/

/-- The spare, if READY, fills a vacant role; then P2 is filled before P0, and P0 before P1 (R300). -/
def seAssign (s : State) : State :=
  let inRole := fun (e : SeSt) (k : Fin 3) (v : Option (Fin 4)) => { e with roles := upd e.roles k (fun _ => v) }
  let e := s.se
  let vac := (allFin 3).find? (fun k => e.roles[k].isNone)
  let e1 := match vac, e.spare with
    | some k, some i =>
      if e.slices[i].state = 2 then
        { inRole e k (some i) with spare := none, slices := upd e.slices i (fun x => { x with state := 0 }) }
      else e
    | _, _ => e
  let move := fun (e : SeSt) (a b : Fin 3) =>
    if e.roles[b].isNone && e.roles[a].isSome then inRole (inRole e b e.roles[a]) a none else e
  let e2 := move (move (move e1 1 2) 0 2) 1 0
  { s with se := e2 }

/-- A sequencer halts when its role is vacated, and restarts at entry 0 when it is filled again (R300). -/
def sqFollow (s : State) (p : Fin 2) : State :=
  let x := s.se.sqs[p]
  if (sqSlice s p).isNone then
    (if x.phase = .stopped then modSq s p (fun y => { y with urgent := none })
     else modSq s p (fun y =>
       { y with phase := .halted, entry := 0, latched := none, urgent := none, stopAt := false, again := false }))
  else if x.phase = .halted then sqEntry s p 0 (now s) else s

/-- The events of a change in the number of healthy slices (R300). -/
def seCount (s : State) (before : Nat) : State :=
  let n := seHealthy s
  if n = before then s
  else
    let s1 := raise s 402 n (roleMap s)
    if n < 2 && 2 ≤ before then raise s1 407 n (roleMap s) else s1

/-- The slice `i` has finished its calibration with the two sums (R298, R300). -/
def calDone (s : State) (i : Fin 4) (sumLo sumHi : Nat) : State :=
  let x := s.se.slices[i]
  if x.state ≠ 1 || !controlLive s || !refOn s then s
  else
    let n := seHealthy s
    let mlo : Int := ((sumLo / 16 : Nat) : Int)
    let mhi : Int := ((sumHi / 16 : Nat) : Int)
    let gain := tdivS (49152 * 32768) (mhi - mlo)
    let off := 8192 - fdiv (mlo * gain) 32768
    if 32113 ≤ gain && gain ≤ 33423 && decide (-512 ≤ off) && decide (off ≤ 512) then
      let s1 := modSlice s i (fun y =>
        { y with state := 2, gain := gain.toNat, offset := off, calCount := inc32 y.calCount, bad := false, back := false })
      let full := (allFin 3).all (fun k => s1.se.roles[k].isSome)
      let s2 := modSe s1 (fun e => { e with spare := if full && e.spare.isSome then e.spare else some i })
      let s3 := seAssign s2
      let s4 := if x.back then raise s3 403 i.val (roleMap s3) else s3
      seCount (sqFollow (sqFollow s4 0) 1) n
    else
      let s1 := raise (modSlice s i (fun y => { y with state := 3, bad := true })) 401
        (i.val + 65536 * toBits 16 off) (w32 gain)
      let s2 := modSe s1 (fun e =>
        { e with spare := if e.spare = some i then none else e.spare, rotDue := e.rotDue && decide (e.spare ≠ some i) })
      seCount (sqFollow (sqFollow (seAssign s2) 0) 1) n

/-- SLICE_CLEAR: the slices of a mask go back to calibration (R300); a role that one of them held is vacated. -/
def sliceClear (s : State) (mask : Nat) : State :=
  let n := seHealthy s
  let s1 := applyAll (fun t (i : Fin 4) =>
    if bit mask i.val then
      modSe (modSlice t i (fun x => { x with state := 1, back := true })) (fun e =>
        { e with roles := e.roles.map (fun r => if r = some i then none else r) })
    else t) s (allFin 4)
  seCount (sqFollow (sqFollow (seAssign s1) 0) 1) n

/-- A rotation falls due (R297); none without a spare (R300). -/
def rotationDue (s : State) : State :=
  if !controlLive s || decide (now s < s.se.rotNext) then s
  else
    modSe s (fun e => { e with rotNext := e.rotNext + 12800000, rotDue := e.rotDue || (objB s 0x2900 3 && e.spare.isSome) })

/-- The spare takes over the role whose turn it is, at a conversion boundary of its slice (R297). -/
def roleHandover (s : State) : State :=
  let k : Fin 3 := Fin.ofNat 3 s.se.rotations
  match s.se.spare, s.se.roles[k] with
  | some sp, some old =>
    let bnd := if k.val = 2 then true else atBoundary s (Fin.ofNat 2 k.val)
    if !s.se.rotDue || decide (s.se.slices[sp].state ≠ 2) || capRuns s || !bnd || !controlLive s then s
    else
      modSlice (modSlice (modSe s (fun e =>
        { e with roles := upd e.roles k (fun _ => some sp), spare := some old, rotations := inc32 e.rotations,
                 rotDue := false })) sp (fun x => { x with state := 0 })) old (fun x => { x with state := 1 })
  | _, _ => s

/-! The reference buffer (R302, R303, R326). -/

/-- REF_EN becomes 1: filters reset, and what waited for a conversion begins. -/
def refEnable (s : State) : State :=
  let s1 := modSe (setObj s 0x2900 1 1) (fun e => { e with refSt := some (now s), refState := 1, refEv := false })
  let s2 := applyAll filtReset s1 (allFin 16)
  applyAll (fun t (p : Fin 2) => modSq t p (fun x =>
    { x with phase := (match x.phase with | .active _ => .active (now s) | q => q),
             urgent := x.urgent.map (fun u => { u with acq := now s }) })) s2 (allFin 2)

/-- REF_EN is written. -/
def refWrite (s : State) (v : Bool) : State :=
  if v = refOn s then s
  else if v then refEnable s
  else modSe (setObj s 0x2900 1 0) (fun e => { e with refSt := none, refOff := now s, refState := 0 })

/-- 2 ms after REF_EN became 1 (R303). -/
def refSettled (s : State) : State :=
  if s.se.refState = 1 && !refUnsettled s (now s) then modSe s (fun e => { e with refState := 2 }) else s

/-! Interleaved capture (R318–R322). -/

/-- Samples of the running capture that are complete. -/
def capTaken (s : State) : Nat :=
  if now s < s.se.capSt0 + 40 then 0 else min s.se.capN ((now s - s.se.capSt0 - 40) / 20 + 1)

/-- The first `n` raw codes, corrected by the trims of their own slices, into CAPTURE_BUF. -/
def capStore (s : State) (raws : List Nat) (n : Nat) : State :=
  let v := fun k => match sqSlice s (Fin.ofNat 2 k) with
    | some i => sliceValue s i (raws.getD k 0)
    | none => 0
  let old := dom s 0x5940
  setDom s 0x5940 ((upto n).flatMap (fun k => leBytes 2 (v k)) ++ old.drop (2 * n))

/-- A host capture ends early, in state `st` (R320). -/
def capEnd (s : State) (st : Nat) (raws : List Nat) : State :=
  let n := if s.se.capState = 2 then capTaken s else 0
  let s1 := if s.se.capState = 2 then capStore s raws n else s
  raise (modSe s1 (fun e => { e with capState := st, capTrig := none, capCount := n })) 413 st n

/-- CAP_CMD 1 (R318, R322). -/
def capArm (s : State) : State :=
  if s.se.capState = 2 then s
  else if seHealthy s < 3 then
    raise (modSe s (fun e => { e with capState := 5, capTrig := none })) 413 5 s.se.capCount
  else if s.se.capState = 1 then s
  else modSe s (fun e => { e with capState := 1, capTrig := none })

/-- CAP_CMD 2 (R320). -/
def capAbort (s : State) (raws : List Nat) : State :=
  if s.se.capState = 1 || s.se.capState = 2 then capEnd s 5 raws else s

/-- A capture takes the slice of `p` from its sequencer: an acquisition is abandoned at once, a conversion completes (R313, R318). -/
def capHold (s : State) (p : Fin 2) : State :=
  if atBoundary s p then
    modSq s p (fun x => { x with phase := (match x.phase with | .active _ => .held | q => q) })
  else s

/-- A capture whose trigger is 2 cycles old takes the slices at their boundaries, and sampling begins at the first joint one (R318); it is
refused where the roles of both are no longer filled (R300, R322). -/
def capStart (s : State) : State :=
  if !controlLive s || !(capWants s || capRuns s) then s
  else if !capRuns s && seHealthy s < 3 then capEnd s 5 []
  else
    let s1 := capHold (capHold s 0) 1
    if capTakes s then
      modSe s1 (fun e => { e with capState := 2, capTrig := none, capSt0 := now s, capCount := 0, capN := objN s 0x2940 2 })
    else s1

/-- CAP_N samples have been taken, with these raw codes (R318). -/
def capDone (s : State) (raws : List Nat) : State :=
  if s.se.capState ≠ 2 || decide (capTaken s < s.se.capN) then s
  else
    let s1 := capStore s raws s.se.capN
    raise (modSe s1 (fun e => { e with capState := 3, capCount := e.capN })) 412 s.se.capN s.se.capSt0

/-- CAP_COUNT. -/
def capCountNow (s : State) : Nat := if s.se.capState = 2 then capTaken s else s.se.capCount

/-! The queue's readers (R328, R329). -/

/-- POP: the oldest word, 0 on an empty queue. -/
def queuePop (s : State) : State × Nat :=
  match s.se.queue with
  | [] => (s, 0)
  | w :: r => (wmRearm (modSe s (fun e => { e with queue := r })), w)

/-- The queue is emptied; no loss (R328). -/
def queueFlush (s : State) : State := wmRearm (modSe s (fun e => { e with queue := [] }))

/-! OPT requests, system readings and modes (R315–R317, R330). -/

/-- The OPT request whose turn it is completes: the oldest, of one cycle's the lowest channel (R316). EV414 gives its delay. -/
def optDone (s : State) : State :=
  match s.se.opts with
  | [] => s
  | o :: r =>
    let s1 := modSe s (fun e => { e with opts := r })
    if 400 < now s - o.1 then raise s1 414 o.2 (min (now s - o.1) 0xFFFFFFFF) else s1

/-- The system readings of the bridges, the board and the die are published (R317). -/
def sysTemps (s : State) (vs : List Nat) : State :=
  if sysReads s then
    modSe s (fun e => { e with temps := Vector.ofFn (fun i : Fin 8 => valueTemp (vs.getD i.val 0)) })
  else s

/-- The SE starts: at entry to STANDBY from BOOT, and at wake (R297, R302, R330). A capture that ran when its domains went off is gone, as an
armed one is (DESIGN CHOICE, assumption log 126). -/
def seStartUp (s : State) : State :=
  let n := seHealthy s
  let s1 := modSe s (fun e =>
    { e with slices := SeSt.reset.slices, roles := SeSt.reset.roles, spare := SeSt.reset.spare,
             rotations := 0, rotNext := now s + 12800000, rotDue := false, pinDue := [],
             queue := [], wmRaised := false, trigs := [], words := [], opts := [], capTrig := none,
             capState := (if e.capState = 1 || e.capState = 2 then 0 else e.capState) })
  let s2 := refEnable s1
  let s3 := applyAll (fun t u => modUrg t u (fun x => { x with pend := none })) s2 (allFin 8)
  seCount (applyAll (fun t (p : Fin 2) =>
    let t1 := modSq t p (fun x => { x with phase := .stopped, urgent := none, latched := none, stopAt := false, again := false,
                                           starts := false, stops := false, disp := false })
    if objN t1 (0x2910 + p.val) 1 = 1 then sqStart t1 p else t1) s3 (allFin 2)) n

/-! The end of a cycle. -/

/-- What the slice of `p` does next: an urgent request starts, or the sequencer has it again (R312, R313). -/
def sliceTurn (s : State) (p : Fin 2) : State :=
  let s1 := urgStart s p
  if s1.se.sqs[p].urgent.isSome || capRuns s1 || capWants s1 then s1
  else delayEnd (if (urgPending s1 p).isEmpty then sqResume s1 p else s1) p

/-- The cycle of the Sense Engine ends, in this order: starts and stops, triggers, the capture, rotation and roles, the slices of P0 and P1, pace
points, and the words enter the queue (DESIGN CHOICE, assumption log 126). -/
def seEnd (s : State) : State :=
  if !controlLive s then s
  else
    let s1 := sqAsked (sqAsked s 0) 1
    let s2 := applyAll trigReach (modSe s1 (fun e => { e with trigs := [] })) s1.se.trigs
    let s3 := sliceTurn (sliceTurn (refSettled (roleHandover (rotationDue (capStart s2)))) 0) 1
    seWords (applyAll filtPoint s3 (allFin 16))

/-- Has the Sense Engine something that the end of a cycle may carry out? -/
def seBusy (s : State) : Bool :=
  !s.se.trigs.isEmpty || !s.se.words.isEmpty || s.se.rotDue || decide (s.se.rotNext ≤ now s) || s.se.capTrig.isSome || capRuns s
    || (s.se.refState == 1 && !refUnsettled s (now s))
    || (allFin 2).any (fun p => s.se.sqs[p].starts || s.se.sqs[p].stops || (match s.se.sqs[p].phase with
        | .held => true
        | .delay t => decide (t ≤ now s)
        | _ => false))
    || (allFin 8).any (fun u => s.se.urgs[u].pend.isSome)
    || (allFin 16).any (fun k => decide (filtCfg s k 4 ≠ 0) && decide (s.se.filts[k].paceAt ≤ now s))

/-- Entry to RUN or SERVICE sets REF_EN to 1 if it reads 0 (R302). -/
def seRunEntry (s : State) : State := if refOn s then s else refEnable s

end Sys2Proof.Machine
end

