-- ==== Sys2Proof/Machine/Solenoid.lean ====
section
/-!
DEFINITION. Solenoid.lean: the Actuator Engine (spec/09): commands, the PEAK and HOLD profile, proportional channels,
the BOOST rail, the coil model, and the shorts. A channel's DISABLED state and its ENERGISED and BOOST_SRC bits, and a
bank's high side, follow from the rest of the state.
-/

namespace Sys2Proof.Machine

open Sys2Proof

/-! Settings. -/

/-- Object of a channel's configuration. -/
def solCfg (s : State) (c : Fin 8) (sub : Nat) : Nat := objN s (0x2800 + c.val) sub
/-- Object of a channel's thermal model. -/
def solTh (s : State) (c : Fin 8) (sub : Nat) : Int := obj s (0x2810 + c.val) sub
/-- The bank of a channel (R267). -/
def chBank (c : Fin 8) : Fin 2 := if c.val < 4 then 0 else 1
/-- The channels of a bank, rising. -/
def bankChans (b : Fin 2) : List (Fin 8) := (allFin 8).filter (fun c => chBank c = b)
/-- The minimum of R271, in ticks. -/
def solMinOn : Nat := 40000
/-- Outputs are driven: RUN or SERVICE, and not on the way out of it (R268, R291). -/
def solLive (s : State) : Bool := inRun s && s.md.trans.isNone

/-- The low side conducts or chops. -/
def solEnergised (x : SolSt) : Bool := x.state == 2 || x.state == 3 || x.state == 4
/-- Some channel of the bank is in PEAK. -/
def bankPeaking (s : State) (b : Fin 2) : Bool := (bankChans b).any (fun c => s.sols[c].state == 2)
/-- HS_SRC (R267): 0 off, 1 MAIN24, 2 BOOST. -/
def bankHs (s : State) (b : Fin 2) : Nat :=
  if !solLive s || outputCut s || decide (s.banks[b].fault ≠ 0) then 0 else if bankPeaking s b then 2 else 1

/-- tw16 of R282. -/
def tw16 (x : SolSt) : Int := fdiv (x.tw + 2048) 4096
/-- th16 of R282. -/
def th16 (x : SolSt) : Int := fdiv (x.th + 2048) 4096

/-- Why an ON is refused, 0 if it is not (R270). A SHORT_GND latch counts as a fault of the channel. -/
def solRefuse (s : State) (c : Fin 8) : Nat :=
  let x := s.sols[c]
  if !solLive s then 1
  else if solCfg s c 1 = 0 || x.shortSup || x.coupled || x.ttpLatch || x.shortGnd then 2
  else if solTh s c 8 ≤ tw16 x then 3
  else if outputCut s then 4
  else if s.banks[chBank c].fault ≠ 0 then 5
  else 0

/-- The hold target of a channel (R274). -/
def holdTarget (s : State) (c : Fin 8) : Nat :=
  if s.sols[c].derated then solCfg s c 4 * (solTh s c 9).toNat / 1000 else solCfg s c 4

/-- STATE of a channel, with DISABLED (R268). -/
def solState (s : State) (c : Fin 8) : Nat :=
  if s.sols[c].state = 0 && solCfg s c 1 = 0 then 8 else s.sols[c].state

/-- STATUS of a channel. -/
def solStatus (s : State) (c : Fin 8) : Nat :=
  let x := s.sols[c]
  b2n x.cmd + 2 * b2n (solEnergised x) + 4 * b2n (bankHs s (chBank c) = 2) + 8 * b2n x.derated + 16 * b2n x.overTemp
    + 32 * b2n x.shortSup + 64 * b2n x.shortGnd + 128 * b2n x.coupled + 256 * b2n x.ttpFast + 512 * b2n x.ttpSlow
    + 1024 * b2n s.banks[chBank c].limited + 2048 * b2n (outputCut s)

/-! BOOST. -/

/-- The watch of R280 on a request that waits for BOOST. -/
def boostWatch (s : State) : State :=
  let ok := decide (objN s 0x2830 2 ≤ s.boost.v)
  let waits := !s.banks[0].queue.isEmpty || !s.banks[1].queue.isEmpty
  { s with boost := { s.boost with
      lowSince := (if ok || !waits then none else if s.boost.lowSince.isSome then s.boost.lowSince else some (now s)),
      lowRaised := s.boost.lowRaised && !ok } }

/-- BOOST_V has been read as `v` mV; below 20 V the BOOST_FLOOR input is set (R280, R447). -/
def setBoost (s : State) (v : Nat) : State :=
  boostWatch { s with boost := { s.boost with v := v }, sn := { s.sn with boostLow := decide (v < 20000) } }

/-! PEAK requests. -/

/-- A PEAK of the bank may start now (R272, R280). -/
def peakFree (s : State) (b : Fin 2) : Bool :=
  solLive s && !outputCut s && s.banks[b].fault == 0 && !bankPeaking s b && decide (objN s 0x2830 2 ≤ s.boost.v)
    && !s.sn.boostLow

/-- A bank's high side goes to BOOST: resistance windows under way are spoilt (R283). -/
def hsToBoost (s : State) (b : Fin 2) : State :=
  applyAll (fun t c => modSol t c (fun x => if x.winSt.isSome then { x with winBad := true } else x)) s (bankChans b)

/-- A bank's high side is back on MAIN24: the HOLD time of R283 counts anew. -/
def hsToMain (s : State) (b : Fin 2) : State :=
  applyAll (fun t c => modSol t c (fun x => if x.state = 3 then { x with holdSt := now s } else x)) s (bankChans b)

/-- The wait of a request is recorded (R275). -/
def recordWait (s : State) (c : Fin 8) (w : Nat) : State :=
  modBank (modSol s c (fun x => { x with lastWait := w })) (chBank c) (fun b => { b with maxWait := max b.maxWait w })

/-- PEAK starts on a channel whose request was made at `at_` (R272). -/
def startPeak (s : State) (c : Fin 8) (at_ : ST) : State :=
  let s1 := recordWait s c (now s - at_)
  hsToBoost (modSol s1 c (fun x =>
    { x with state := 2, onCount := inc32 x.onCount, onSt := now s, peakSt := now s, reached := none, ttpSlow := false,
             ttpFast := false, tripped := false, minOff := none, winSt := none, winBad := false, winDone := false }))
    (chBank c)

/-- Requests of one bank are served in the order of their cycle, then of their channel (R275). -/
def queueInsert : List (ST × Fin 8) → ST → Fin 8 → List (ST × Fin 8)
  | [], t, c => [(t, c)]
  | (u, d) :: r, t, c => if u < t || (u == t && d < c) then (u, d) :: queueInsert r t c else (t, c) :: (u, d) :: r

/-- A bank serves its queue: its first request starts when it can (R275). -/
def serveBank (s : State) (b : Fin 2) : State :=
  match s.banks[b].queue with
  | [] => s
  | (t, c) :: r => if peakFree s b then startPeak (modBank s b (fun x => { x with queue := r })) c t else s

/-- Both banks are served, and the watch of R280 is kept. -/
def serveBanks (s : State) : State := boostWatch (serveBank (serveBank s 0) 1)

/-- A channel's request leaves its bank's queue. -/
def dequeue (s : State) (c : Fin 8) : State :=
  modBank s (chBank c) (fun b => { b with queue := b.queue.filter (fun q => decide (q.2 ≠ c)) })

/-- A profile is begun on an idle channel (R272, R277): a PEAK request, or the proportional output. -/
def startProfile (s : State) (c : Fin 8) : State :=
  if solCfg s c 1 = 2 then
    let t := solCfg s c 10 * 3000 / 4095
    modSol s c (fun x => { x with state := 4, onCount := inc32 x.onCount, onSt := now s, holdFrom := now s, phase := 0,
                                  target := t, tripped := false, minOff := none })
  else if s.banks[chBank c].queue.isEmpty && peakFree s (chBank c) then startPeak s c (now s)
  else
    modBank (modSol s c (fun x => { x with state := 1 })) (chBank c)
      (fun b => { b with queue := queueInsert b.queue (now s) c })

/-! The end of a profile. -/

/-- After a channel has left PEAK: the high side falls back to MAIN24 unless a queued PEAK starts (R267, R275). -/
def peakEnded (s : State) (b : Fin 2) : State :=
  let s1 := serveBank s b
  if bankPeaking s1 b then s1 else hsToMain s1 b

/-- The low side turns off and the current decays into BOOST (R274). -/
def solDecay (s : State) (c : Fin 8) : State :=
  let was := s.sols[c].state
  let s1 := modSol s c (fun x => { x with state := 5, cmd := false, decaySt := now s, pulseOff := none, minOff := none,
                                          retryAt := none, winSt := none })
  if was = 2 then peakEnded s1 (chBank c) else s1

/-- The wait of a request that leaves the queue without a PEAK is recorded (R275). -/
def recordLeft (s : State) (c : Fin 8) : State :=
  match s.banks[chBank c].queue.find? (fun q => q.2 = c) with
  | some (t, _) => recordWait s c (now s - t)
  | none => s

/-- A request or a retry wait is withdrawn: the channel stays off and no energy is delivered (R275, R286). -/
def solWithdraw (s : State) (c : Fin 8) : State :=
  modSol (dequeue (recordLeft s c) c) c (fun x => { x with state := 0, cmd := false, pulseOff := none, retryAt := none })

/-- Whatever the channel is doing ends: a drive with a decay, a request or a retry at once. -/
def solEnd (s : State) (c : Fin 8) : State :=
  let x := s.sols[c]
  if solEnergised x then solDecay s c
  else if x.state = 1 || x.state = 6 then solWithdraw s c
  else modSol s c (fun y => { y with cmd := false })

/-- A queued request is dropped, its wait recorded (R275, R287, R290). -/
def solDrop (s : State) (c : Fin 8) : State := if s.sols[c].state = 1 then solWithdraw s c else s

/-- Every channel ends and every queue is dropped, with the commands of the cycle (R290, R291). -/
def solAllOff (s : State) : State :=
  let s1 := applyAll (fun t c => modSol t c (fun x => { x with asks := [] })) (applyAll solDrop s (allFin 8)) (allFin 8)
  boostWatch (applyAll solEnd s1 (allFin 8))

/-! Commands (R269–R271, R276). -/

/-- The later of a pending OFF and `t`. -/
def laterOff (a : Option ST) (t : ST) : ST := match a with | none => t | some u => max u t

/-- An ON, or the ON of a PULSE, reaches a channel (R270, R272, R276). -/
def solOnOp (s : State) (c : Fin 8) (pulse : Bool) : State :=
  let x := s.sols[c]
  let r := solRefuse s c
  let off := now s + solCfg s c 6
  if r ≠ 0 then raise s 370 (c.val + 256 * r) (solState s c)
  else if solEnergised x then
    modSol s c (fun y =>
      { y with cmd := true, extensions := inc32 y.extensions,
               holdFrom := (if y.state = 2 then y.holdFrom else now s),
               pulseOff := (if pulse then some (max (laterOff y.pulseOff off) (laterOff y.minOff off)) else y.pulseOff),
               minOff := (if pulse then none else y.minOff) })
  else if x.state = 1 || x.state = 6 then
    modSol s c (fun y => { y with pulseOff := (if pulse then some (laterOff y.pulseOff off) else y.pulseOff) })
  else
    boostWatch (startProfile
      (modSol s c (fun y => { y with cmd := true, pulseOff := (if pulse then some off else none), minOff := none })) c)

/-- An OFF reaches a channel; from a source other than a pair, one that falls inside the minimum is counted (R271). -/
def solOffOp (s : State) (c : Fin 8) (pair : Bool) : State :=
  let x := s.sols[c]
  if solEnergised x && decide (now s < x.onSt + solMinOn) then
    modSol s c (fun y => { y with cmd := false, pulseOff := none, minOff := some (y.onSt + solMinOn),
                                  minStretch := (if pair then y.minStretch else inc32 y.minStretch) })
  else boostWatch (solEnd s c)

/-- A command is delivered to a channel; it acts as the cycle ends (R269). -/
def solAsk (s : State) (c : Fin 8) (a : SolAsk) : State := modSol s c (fun x => { x with asks := x.asks ++ [a] })

/-- Is the command an OFF? -/
def isOff : SolAsk → Bool
  | .off _ => true
  | _ => false

/-- The retry after a trip makes a new request where an ON would be let in (R286). -/
def retryNow (s : State) (c : Fin 8) : State :=
  if s.sols[c].state ≠ 6 then s
  else if solRefuse s c ≠ 0 then solWithdraw s c
  else boostWatch (startProfile (modSol s c (fun x => { x with state := 0, retryAt := none })) c)

/-- One command of the cycle acts. -/
def askDo (s : State) (c : Fin 8) (a : SolAsk) : State :=
  match a with
  | .on => solOnOp s c false
  | .pulse => solOnOp s c true
  | .off pair => solOffOp s c pair
  | .retry => retryNow s c

/-- The commands of a cycle act on a channel as the cycle ends: where one is an OFF it wins (R70, R269), counted as from a pair only where every OFF is;
else they act in the order of their delivery. -/
def solTurn (s : State) (c : Fin 8) : State :=
  let as := s.sols[c].asks
  let s1 := modSol s c (fun x => { x with asks := [] })
  if as.any isOff then solOffOp s1 c (as.all (fun a => !isOff a || a == .off true))
  else applyAll (fun t a => askDo t c a) s1 as

/-- The channels act in ascending order, so that of two requests of a cycle the lower channel's comes first (R275). -/
def solTurns (s : State) : State := applyAll solTurn s (allFin 8)

/-- Has a channel a command of this cycle? -/
def solBusy (s : State) : Bool := s.sols.toList.any (fun x => !x.asks.isEmpty)

/-- The hold of a pair's output ends where a new ON reaches it (R74, R75). -/
def holdOver (s : State) (t i : Nat) : State :=
  { s with msu := { s.msu with holds := s.msu.holds.filter (fun h => !(h.tgt == t && h.inp == i)) } }

/-- An ON or a PULSE is delivered to a channel. -/
def solAskOn (s : State) (c : Fin 8) (pulse : Bool) : State := solAsk (holdOver s 0x40 c.val) c (if pulse then .pulse else .on)

/-- SOL_CMD takes effect at its epoch: every channel of its mask (R269). -/
def solCmd (s : State) (v : Nat) : State :=
  applyAll (fun t (c : Fin 8) =>
    if !bit v c.val then t
    else if v / 256 = 1 then solAskOn t c false
    else if v / 256 = 2 then solAsk t c (.off false)
    else if v / 256 = 3 then solAskOn t c true
    else t) s (allFin 8)

/-! What comes due. -/

/-- HOLD begins (R272, R274). -/
def enterHold (s : State) (c : Fin 8) : State :=
  let t := holdTarget s c
  peakEnded (modSol s c (fun x => { x with state := 3, holdSt := now s, holdFrom := now s, target := t }))
    (chBank c)

/-- A finding of R273 with TTP_ACT = 1: the profile ends and the channel is latched off. -/
def ttpLatchOff (s : State) (c : Fin 8) : State := solDecay (modSol s c (fun x => { x with ttpLatch := true })) c

/-- The current reaches I_PEAK (R272, R273). -/
def peakReached (s : State) (c : Fin 8) : State :=
  let x := s.sols[c]
  let ttp := now s - x.peakSt
  if x.state ≠ 2 || x.reached.isSome || decide (solCfg s c 8 < ttp) then s
  else
    let s1 := modSol s c (fun y => { y with reached := some (now s), lastTtp := ttp, current := solCfg s c 2 })
    if ttp < solCfg s c 7 then
      let s2 := raise (modSol s1 c (fun y => { y with ttpFast := true })) 353 c.val ttp
      if solCfg s c 9 = 1 then ttpLatchOff s2 c else s2
    else s1

/-- PEAK_DWELL has passed since the current was reached (R272). -/
def peakDwell (s : State) (c : Fin 8) : State :=
  let x := s.sols[c]
  match x.reached with
  | none => s
  | some t => if x.state = 2 && decide (t + solCfg s c 3 ≤ now s) then enterHold s c else s

/-- TTP_MAX has passed without I_PEAK; `i` is the current there (R273). -/
def ttpMax (s : State) (c : Fin 8) (i : Nat) : State :=
  let x := s.sols[c]
  if x.state ≠ 2 || x.reached.isSome || decide (now s < x.peakSt + solCfg s c 8) then s
  else
    let s1 := raise (modSol s c (fun y => { y with ttpSlow := true, lastTtp := solCfg s c 8, current := i })) 354 c.val i
    if solCfg s c 9 = 1 then ttpLatchOff s1 c else enterHold s1 c

/-- HOLD_MAX has passed since HOLD began or was extended (R274, R277), and the minimum of R271. -/
def holdMax (s : State) (c : Fin 8) : State :=
  let x := s.sols[c]
  let m := solCfg s c 5
  if (x.state = 3 || x.state = 4) && m ≠ 0 && decide (x.holdFrom + m ≤ now s) && decide (x.onSt + solMinOn ≤ now s)
  then boostWatch (solDecay s c) else s

/-- The pending OFF of a PULSE falls due (R276). -/
def pulseEnd (s : State) (c : Fin 8) : State :=
  match s.sols[c].pulseOff with
  | none => s
  | some t => if t ≤ now s then solOffOp (modSol s c (fun x => { x with pulseOff := none })) c false else s

/-- A stretched OFF falls due (R271). -/
def minOnEnd (s : State) (c : Fin 8) : State :=
  match s.sols[c].minOff with
  | none => s
  | some t => if t ≤ now s then boostWatch (solEnd s c) else s

/-- The current, now `i` mA, is below 50 mA: the decay is over, and BOOST went from `va` to `vb` mV (R274, R279). A
channel that is latched reads FAULT. OC_TRIPS returns to 0 when the profile saw no trip (R286). -/
def decayEnd (s : State) (c : Fin 8) (i va vb : Nat) : State :=
  let x := s.sols[c]
  if x.state ≠ 5 || decide (50 ≤ i) then s
  else
    let gain := tdiv ((vb : Int) * vb - (va : Int) * va) 2000000
    let s1 := modSol s c (fun y =>
      { y with state := (if y.ttpLatch || y.shortSup || y.coupled then 7 else 0), lastDecay := now s - y.decaySt,
               current := i, ocTrips := (if y.tripped then y.ocTrips else 0) })
    let s2 := { s1 with boost := { s1.boost with recovered := (clampI 0 4294967295 (s1.boost.recovered + gain)).toNat } }
    serveBanks (setBoost s2 vb)

/-- BOOST_V has been read as `v`: the queues are served where it has reached BOOST_OK (R275). -/
def boostRead (s : State) (v : Nat) : State := serveBanks (setBoost s v)

/-- BOOST_V has been read as `v`: the bank's queue is served (R275). -/
def peakStartOp (s : State) (b : Fin 2) (v : Nat) : State := boostWatch (serveBank (setBoost s v) b)

/-- A request has waited PEAK_QMAX: it is dropped, the channel stays off and is not latched (R275). -/
def peakTimeout (s : State) (c : Fin 8) : State :=
  match s.banks[chBank c].queue.find? (fun q => q.2 = c) with
  | none => s
  | some (t, _) =>
    if now s < t + objN s (0x2820 + (chBank c).val) 1 then s
    else
      boostWatch (raise (solWithdraw s c) 352 c.val (now s - t))

/-! Proportional outputs and the bank sum (R277, R278). -/

/-- 32767 times the sine of an angle of `p` in 2³² of a turn, by its series in Q30: within one of the ideal. -/
def sine32767 (p : Nat) : Int :=
  let h := p % 2 ^ 31
  let q := if h ≤ 2 ^ 30 then h else 2 ^ 31 - h
  let x : Int := ((q * 1686629713 / 2 ^ 30 : Nat) : Int)
  let m := fun (a b : Int) => fdiv (a * b) (2 ^ 30)
  let x2 := m x x
  let x3 := m x x2
  let x5 := m x3 x2
  let x7 := m x5 x2
  let x9 := m x7 x2
  let y := x - tdiv x3 6 + tdiv x5 120 - tdiv x7 5040 + tdiv x9 362880
  let v := fdiv (y * 32767 + 2 ^ 29) (2 ^ 30)
  if p < 2 ^ 31 then v else 0 - v

/-- w of R277 at a phase; for a sine the deviation the spec allows is the free value `n` (DESIGN CHOICE, assumption log 2). -/
def ditherW (shape phase n : Nat) : Int :=
  if shape = 1 then min (fdiv (4 * (((phase : Int) - 2 ^ 31).natAbs : Int)) (2 ^ 17)) 65535 - 32768
  else if shape = 2 then (if phase < 2 ^ 31 then 32767 else -32767)
  else if shape = 3 then sine32767 phase + clampI (-3) 3 (freeSine n)
  else 0

/-- The regulation target of a proportional channel at the next 1000-tick update (R277). -/
def propStep (s : State) (c : Fin 8) : State :=
  let x := s.sols[c]
  if x.state ≠ 4 then s
  else
    let ph := (x.phase + solCfg s c 12 * 2 ^ 32 / 2000000) % 2 ^ 32
    let t : Int := (solCfg s c 10 * 3000 / 4095 : Nat)
    let w := ditherW (solCfg s c 11) ph s.free
    let i := clampI 0 3000 (t + tdiv (t * solCfg s c 13 * w) (1000 * 32768))
    let s1 := modSol s c (fun y => { y with phase := ph, target := i.toNat })
    if solCfg s c 11 = 3 then takeFree s1 else s1

/-- What a channel adds to its bank's sum (R278). -/
def bankTerm (s : State) (c : Fin 8) : Nat :=
  if s.sols[c].state = 3 then holdTarget s c
  else if s.sols[c].state = 4 then (solCfg s c 10 * 3000 / 4095) * (1000 + solCfg s c 13) / 1000
  else 0

/-- A bank's sum is formed, and its targets are scaled where it exceeds 6000 mA (R278). -/
def bankSum (s : State) (b : Fin 2) : State :=
  let sum := sumN ((bankChans b).map (bankTerm s))
  let lim := decide (6000 < sum)
  let s1 := modBank s b (fun x => { x with holdSum := sum, limited := lim })
  let s2 := applyAll (fun t c =>
    let x := t.sols[c]
    let base := if x.state = 3 then holdTarget t c else x.target
    if x.state = 3 || x.state = 4 then
      modSol t c (fun y => { y with target := (if lim then base * 6000 / sum else base) })
    else t) s1 (bankChans b)
  if lim && !s.banks[b].limited then raise s2 365 (256 * b.val) sum else s2

/-- The 1000-tick update: dither, bank sums, and the currents read (R277, R278). -/
def propUpdate (s : State) (is : List Nat) : State :=
  let s1 := applyAll propStep s (allFin 8)
  let s2 := bankSum (bankSum s1 0) 1
  applyAll (fun t (c : Fin 8) => modSol t c (fun x => { x with current := is.getD c.val x.current })) s2 (allFin 8)

/-! BOOST events (R280). -/

/-- The clamp begins to conduct at `v` mV. -/
def boostClamp (s : State) (v : Nat) : State :=
  let s1 := boostRead s v
  let n := inc32 s1.boost.clampCount
  let s2 := { s1 with boost := { s1.boost with clampCount := n } }
  let due := match s2.boost.clampEv with | none => true | some t => decide (t + 200000000 ≤ now s)
  if due then raise { s2 with boost := { s2.boost with clampEv := some (now s) } } 369 v n else s2

/-- BOOST, at `v` mV, has been below BOOST_OK for 10 ms with a request queued. -/
def boostLowOp (s : State) (v : Nat) : State :=
  let s1 := serveBanks (setBoost s v)
  match s1.boost.lowSince with
  | none => s1
  | some t =>
    if s1.boost.lowRaised || decide (now s < t + 2000000) then s1
    else raise { s1 with boost := { s1.boost with lowRaised := true } } 368 v
      (s1.banks[0].queue.length + 256 * s1.banks[1].queue.length)

/-- RECHARGE_NOW from the Tollgate's factor, while the BOOST converter works (R279, R466). -/
def recharge (s : State) : State :=
  { s with boost := { s.boost with
      rechargeNow := if s.pw.stagesOn && !s.tg.off then objN s 0x2830 3 * s.tg.fBoost / 1000 else 0 } }

/-! Coil model (R282–R285). -/

/-- r_mod of R282. -/
def rMod (s : State) (c : Fin 8) : Int :=
  tdiv (s.sols[c].rLearn * (1000000 + tdiv (solTh s c 2 * (tw16 s.sols[c] - 320)) 16)) 1000000

/-- The reactions to the winding temperature (R285). -/
def coilHeat (s : State) (c : Fin 8) : State :=
  let x := s.sols[c]
  let t := tw16 x
  let warn := solTh s c 7
  let lim := solTh s c 8
  if t < warn - 160 then modSol s c (fun y => { y with derated := false, overTemp := false })
  else
    let s1 :=
      if warn ≤ t && !x.derated then raise (modSol s c (fun y => { y with derated := true })) 361 c.val (w32 t) else s
    if lim ≤ t then
      let s2 := modSol s1 c (fun y => { y with overTemp := true })
      let s3 := boostWatch (solEnd s2 c)
      if x.overTemp then s3 else raise s3 362 c.val (w32 t)
    else s1

/-- One millisecond of a coil's model: `i2` is the mean square of its current, `ta` the ambient reading (R282). -/
def coilStep (s : State) (c : Fin 8) (i2 : Nat) (ta : Int) : State :=
  let x := s.sols[c]
  let p := tdiv (i2 * rMod s c) 1000000
  let qwh := tdivS ((tw16 x - th16 x) * 6250) (solTh s c 3)
  let qha := tdivS ((th16 x - ta) * 6250) (solTh s c 4)
  coilHeat (modSol s c (fun y =>
    { y with tw := y.tw + tdivS ((p - qwh) * 65536) (1000 * solTh s c 5),
             th := y.th + tdivS ((qwh - qha) * 65536) (1000 * solTh s c 6) })) c

/-- The 1 ms update of every channel. -/
def solModel (s : State) (i2s : List Nat) (ta : Int) : State :=
  applyAll (fun t (c : Fin 8) => coilStep t c (i2s.getD c.val 0) ta) s (allFin 8)

/-- The models are seeded with the ambient reading (R282). -/
def solSeed (s : State) (ta : Int) : State :=
  applyAll (fun t (c : Fin 8) => modSol t c (fun x => { x with tw := ta * 4096, th := ta * 4096 })) s (allFin 8)

/-- 2 ms of HOLD on MAIN24 have passed: the averaging window starts, once in a HOLD phase (R283). -/
def resStart (s : State) (c : Fin 8) : State :=
  let x := s.sols[c]
  if x.state = 3 && !x.winDone && x.winSt.isNone && bankHs s (chBank c) = 1 && decide (x.holdSt + 400000 ≤ now s) then
    modSol s c (fun y => { y with winSt := some (now s), winBad := false, winDone := true })
  else s

/-- R_LEARN tracks the measured resistance `r` (R283, R284). -/
def resTrack (s : State) (c : Fin 8) (r : Nat) : State :=
  let x := s.sols[c]
  let nom := solTh s c 1
  let r20 := tdivS (r * 1000000) (1000000 + tdiv (solTh s c 2 * (tw16 x - 320)) 16)
  let raw := (x.rLearn : Int) + tdiv (r20 - x.rLearn) 16
  let lo := tdiv (nom * 800) 1000
  let hi := tdiv (nom * 1200) 1000
  let v := clampI lo hi raw
  let lim := if hi ≤ v then 3 else if v ≤ lo then 4 else 0
  let s1 := modSol s c (fun y => { y with rLearn := v.toNat, trkLimit := lim })
  if lim ≠ 0 && lim ≠ x.trkLimit then raise s1 364 (c.val + 256 * b2n (lim = 3)) v.toNat else s1

/-- The window is complete, with mean voltage `v` mV and current `i` mA (R283). -/
def resEnd (s : State) (c : Fin 8) (v i : Nat) : State :=
  let x := s.sols[c]
  match x.winSt with
  | none => s
  | some t0 =>
    if now s < t0 + 200000 then s
    else
      let s1 := modSol s c (fun y => { y with winSt := none, winBad := false })
      if x.winBad || decide (i < 100) then s1
      else
        let r := v * 1000 / i
        let rm := rMod s c
        let err := tdivS ((r - rm) * 1000) rm
        let s2 := modSol s1 c (fun y => { y with rMeas := r })
        if (err.natAbs : Int) ≤ solTh s c 10 then
          if solTh s c 11 = 1 && solTh s c 12 = 0 then resTrack s2 c r else s2
        else
          let w := 320 + tdivS ((tdivS ((r : Int) * 1000000) x.rLearn - 1000000) * 16) (solTh s c 2)
          coilHeat (raise (modSol s2 c (fun y => { y with tw := w * 4096, mismatches := inc16 y.mismatches })) 363
            (c.val + 65536 * toBits 16 err) r) c

/-- R_LEARN returns to R_COLD_NOM (R284). -/
def rLearnReset (s : State) (c : Fin 8) : State :=
  modSol s c (fun x => { x with rLearn := (solTh s c 1).toNat, trkLimit := 0 })

/-- TRK_STATE (R284): 0 off, 2 frozen, 3 and 4 at a limit, else tracking. -/
def trkState (s : State) (c : Fin 8) : Nat :=
  if solTh s c 11 = 0 then 0 else if solTh s c 12 = 1 then 2
  else if s.sols[c].trkLimit ≠ 0 then s.sols[c].trkLimit else 1

/-! Shorts (R286–R289). -/

/-- A low-side over-current trip. The fourth one latches SHORT_SUPPLY; before that a channel still commanded on retries
10 ms later. -/
def ocTrip (s : State) (c : Fin 8) : State :=
  let x := s.sols[c]
  if !solEnergised x then s
  else
    let n := inc8 x.ocTrips
    let s1 := modSol s c (fun y => { y with ocTrips := n, tripped := true, winSt := none })
    let s2 :=
      if 4 ≤ n then
        raise (modSol s1 c (fun y => { y with shortSup := true, state := 7, cmd := false, pulseOff := none,
                                              minOff := none })) 356 c.val n
      else if x.cmd then
        raise (modSol s1 c (fun y => { y with state := 6, retryAt := some (now s + 2000000), minOff := none })) 357 c.val n
      else raise (modSol s1 c (fun y => { y with state := 5, decaySt := now s, pulseOff := none, minOff := none })) 357 c.val n
    if x.state = 2 then boostWatch (peakEnded s2 (chBank c)) else s2

/-- The retry interval is over: a new request of this cycle by R272 (R286). -/
def ocRetry (s : State) (c : Fin 8) : State :=
  match s.sols[c].retryAt with
  | none => s
  | some t => if s.sols[c].state ≠ 6 || decide (now s < t) then s else solAsk s c .retry

/-- The bank's high side turns off: its profiles end with a decay and its queue is dropped (R287). -/
def bankFault (s : State) (b : Fin 2) (kind : Nat) : State :=
  let s1 := modBank (applyAll solDrop s (bankChans b)) b (fun x => { x with fault := kind })
  boostWatch (applyAll solEnd s1 (bankChans b))

/-- The output of an OFF channel has read low for 20 000 ticks. -/
def shortGndOp (s : State) (c : Fin 8) : State :=
  if !controlLive s || decide (solState s c ≠ 0) || s.sols[c].shortGnd then s
  else
    let b := chBank c
    bankFault (raise (modSol s c (fun x => { x with shortGnd := true })) 358 (c.val + 256 * b.val) 0) b 1

/-- A high-side over-current. -/
def hsShortOp (s : State) (b : Fin 2) : State :=
  let hs := bankHs s b
  if hs = 0 then s else bankFault (raise s 360 (256 * b.val) hs) b 2

/-- Channel `y` fell low within 20 000 ticks of the turn-on of `x` (R288). -/
def coupledOp (s : State) (x y : Fin 8) : State :=
  let a := s.sols[x]
  if x = y || !solEnergised a || decide (a.onSt + 20000 < now s) || decide (solState s y ≠ 0) then s
  else
    let off := fun (t : State) (p q : Fin 8) => modSol t p (fun z =>
      { z with state := 7, coupled := true, coupledWith := q.val, cmd := false, pulseOff := none, minOff := none,
               winSt := none })
    let s1 := raise (off (off s x y) y x) 359 (x.val + 256 * y.val) 0
    if a.state = 2 then boostWatch (peakEnded s1 (chBank x)) else s1

/-- SOL_CLEAR on the channels of a mask (R289). -/
def solClear (s : State) (mask : Nat) : State :=
  applyAll (fun t (c : Fin 8) =>
    if bit mask c.val then
      modSol t c (fun x => { x with shortSup := false, coupled := false, coupledWith := 0xFF, ttpLatch := false,
                                    state := (if x.state = 7 then 0 else x.state) })
    else t) s (allFin 8)

/-- BANK_CLEAR on the banks of a mask (R289). -/
def bankClear (s : State) (mask : Nat) : State :=
  applyAll (fun t (b : Fin 2) =>
    if bit mask b.val then
      applyAll (fun u c => modSol u c (fun x => { x with shortGnd := false }))
        (modBank t b (fun x => { x with fault := 0 })) (bankChans b)
    else t) s (allFin 2)

/-! Safety Net and modes (R290, R291). -/

/-- A Safety Net output cut begins: every low side off, EV366 once with the channels that were energised. -/
def solSnCut (s : State) : State :=
  let mask := sumN ((allFin 8).map (fun c => if solEnergised s.sols[c] then 2 ^ c.val else 0))
  solAllOff (raise s 366 mask 0)

/-- RUN or SERVICE is entered: the counts kept since then begin anew (R275, R279). -/
def solRunEntry (s : State) : State :=
  let s1 := modBank (modBank s 0 (fun b => { b with maxWait := 0 })) 1 (fun b => { b with maxWait := 0 })
  recharge { s1 with boost := { s1.boost with recovered := 0, lowSince := none, lowRaised := false } }

/-- The channels and BOOST lose their supply, and read OFF afterwards but for the latched faults (R291). -/
def solUnpowered (s : State) : State :=
  let s1 := applyAll (fun t (c : Fin 8) => modSol t c (fun x =>
    { x with state := (if x.ttpLatch || x.shortSup || x.coupled then 7 else 0), cmd := false, pulseOff := none,
             minOff := none, retryAt := none, winSt := none, current := 0 })) s (allFin 8)
  recharge { s1 with boost := { s1.boost with v := 0, lowSince := none } }

/-- A write of MODE = 0 ends what the channel is doing (R268). -/
def solDisabled (s : State) (c : Fin 8) : State := if solCfg s c 1 = 0 then boostWatch (solEnd s c) else s

end Sys2Proof.Machine
end

