-- ==== Sys2Proof/Machine/Jobs.lean ====
section
/-!
DEFINITION. Jobs.lean: how a ledger entry is armed, started, ended and aborted, with what its head or image port does then
(spec/11, R355–R359; spec/08, R250–R256), and how RUN and SERVICE are left and LOCKOUT is entered (spec/01, R33, R34;
spec/16, R470).
-/

namespace Sys2Proof.Machine

open Sys2Proof

/-- RUN or SERVICE, and not being left (R33, R356). -/
def runOpen (s : State) : Bool := inRun s && s.md.trans.isNone

/-- The entry becomes ACTIVE; a scan entry starts its document (R250). -/
def jobActivate (s : State) (e : Fin 64) : State :=
  match jobPort s.ledger.jobs[e] with
  | some p => docStart (jobSetActive s e) p e
  | none => jobSetActive s e

/-- The entry becomes ARMED, and ACTIVE at once without a start waymark (R356); a measurement of its head ends (R150). -/
def jobArmNow (s : State) (e : Fin 64) : State :=
  let s1 := match jobHead s.ledger.jobs[e] with
    | some h => measAbort s h 4
    | none => s
  let s2 := jobSetArmed s1 e
  if s.ledger.jobs[e].startWm = 0xFFFF then jobActivate s2 e else s2

/-- May the scan entry be asked for its reservation: no other entry of its port is ARMED or ACTIVE, none submitted earlier is QUEUED (R356), and the port
has no document in flight, of which there is one at most (limits of spec/08; DEDUCED, assumption log 122)? -/
def scanTurn (s : State) (p : Fin 2) (e : Fin 64) : Bool :=
  let j := s.ledger.jobs[e]
  s.img.ports[p].cur.isNone && (jobsOfKind s j.kind).all (fun f =>
    f == e || !(jobLive s.ledger.jobs[f] || (s.ledger.jobs[f].state == 1 && decide (s.ledger.jobs[f].order < j.order))))

/-- EV293, once for the entry (R251). -/
def carouselWait (s : State) (p : Fin 2) (e : Fin 64) (r : Nat) : State :=
  if s.ledger.jobs[e].waitEv then s
  else raise (modJob s e (fun j => { j with waitEv := true })) 293 (portBit p + e.val) r

/-- One QUEUED entry is armed when its conditions hold (R251, R356). -/
def jobTryArm (s : State) (e : Fin 64) : State :=
  let j := s.ledger.jobs[e]
  if j.state ≠ 1 then s
  else match jobPort j with
    | none => jobArmNow s e
    | some p =>
      if !scanTurn s p e then s
      else
        let r := reservation s p
        if 16777216 < r then jobFinish (carouselWait s p e r) e 5 10
        else if carouselFree s < r then carouselWait s p e r
        else
          let s1 := modJob s e (fun j => { j with resv := j.order + 1 })
          jobArmNow { s1 with img := { s1.img with resvs := s1.img.resvs ++ [(j.order + 1, r)] } } e

/-- A list of entries with one more in its place by order of submission. -/
def insertByOrder (s : State) (e : Fin 64) : List (Fin 64) → List (Fin 64)
  | [] => [e]
  | f :: r => if s.ledger.jobs[e].order < s.ledger.jobs[f].order then e :: f :: r else f :: insertByOrder s e r

/-- QUEUED entries in order of submission. -/
def queuedJobs (s : State) : List (Fin 64) :=
  ((allFin 64).filter (fun e => s.ledger.jobs[e].state == 1)).foldr (insertByOrder s) []

/-- The ledger arms what it can (R356). -/
def jobsArm (s : State) : State := if runOpen s then applyAll jobTryArm s (queuedJobs s) else s

/-- The document of a scan entry under way, which the entry has not left. -/
def openDoc (s : State) (e : Fin 64) : Option (Fin 2) :=
  match jobPort s.ledger.jobs[e] with
  | none => none
  | some p =>
    match s.img.ports[p].cur with
    | some d => if d.entry = e.val && !d.ending then some p else none
    | none => none

/-- The entry becomes ABORTED with a cause; a document under way is retracted with the reason abort, or with that of a trigger earlier in the cycle, which
then is the cause (R255, R256, R358). -/
def jobAbort (cause : Nat) (s : State) (e : Fin 64) : State :=
  match openDoc s e with
  | some p => jobFinish (trigger s p 4) e 5 (match s.img.ports[p].trig with
      | some r => if r < 4 then 4 + r else cause
      | none => cause)
  | none => jobFinish s e 5 cause

/-- The end waymark of an entry whose document was LONG: its line events are over (R258). -/
def longOver (s : State) (e : Fin 64) (w : Nat) : State :=
  match jobPort s.ledger.jobs[e] with
  | some p =>
    if s.img.ports[p].longJob = some e.val && s.ledger.jobs[e].endWm = w then modPort s p (fun x => { x with longJob := none }) else s
  | none => s

/-- CMD 3: an ACTIVE entry is DONE with cause 19, an ARMED one ABORTED with cause 9 (R358, R359). -/
def jobEnd (s : State) (e : Fin 64) : State :=
  if s.ledger.jobs[e].state = 3 then jobFinish s e 4 19 else jobFinish s e 5 9

/-- CMD 4: the entry returns to FREE; its selectable fields read their reset values (DESIGN CHOICE, assumption log 22). -/
def jobFree (s : State) (e : Fin 64) : State := modJob s e (fun _ => Job.reset)

/-- A pulse on Job Ledger input `e` from waymark entry `w` (R357). -/
def jobPulse (s : State) (e : Fin 64) (w : Nat) : State :=
  let j := s.ledger.jobs[e]
  if j.state = 2 && j.startWm = w then jobActivate s e
  else if j.state = 3 && j.endWm = w then jobFinish s e 4 16
  else if j.state = 1 && j.startWm = w then jobFinish s e 5 8
  else if j.state = 2 && j.endWm = w then jobFinish s e 5 9
  else raise (modJob (longOver s e w) e (fun j => { j with ignored := inc16 j.ignored })) 20 e.val w

/-- No QUEUED, ARMED or ACTIVE entry (R35). -/
def ledgerIdle (s : State) : Bool := (allFin 64).all (fun e => !jobOpen s.ledger.jobs[e])

/-- Entries in some states are aborted in entry order. -/
def jobsAbort (s : State) (cause : Nat) (which : Job → Bool) : State :=
  applyAll (jobAbort cause) s ((allFin 64).filter (fun e => which s.ledger.jobs[e]))

/-! Leaving RUN or SERVICE, and LOCKOUT. -/

/-- Both heads end their trains at the slice boundary; a line that waits for its LATCH# or its recompute is not printed. -/
def headsStop (s : State) : State :=
  applyAll (fun s h => modHead (cutTrain s h) h (fun x => { x with bind := none })) s (allFin 2)

/-- f_boost is 0 until the next entry to RUN or SERVICE (R470). -/
def boostOff (s : State) : State := recharge { s with tg := { s.tg with off := true } }

/-- The axes stand in their standstill choice (R28, R227). -/
def axesStill (s : State) : State := applyAll axToStill s (allFin 4)

/-- Step 1 of leaving RUN or SERVICE (R33, R227, R291), toward STANDBY and, where `doze` names the path that asked for it, on to
DOZE. -/
def leaveRun (s : State) (cause : Nat) (doze : Option Path) : State :=
  let s1 := { s with md := { s.md with
    trans := some { src := s.md.mode, target := .standby, start := now s, cause := cause, thenDoze := doze } } }
  let s2 := jobsAbort s1 2 jobLive
  let s3 := headsStop (measAbortAll s2 2)
  let s4 := solAllOff s3
  let s5 := applyAll axLeaveRun s4 (allFin 4)
  boostOff s5

/-- LOCKOUT is latched by event `ev` in this cycle (R34, R227, R291, R445, R470). Of the entries that are not DONE, one that is
FREE stays FREE and one that is ABORTED keeps its cause: both hold no job (DESIGN CHOICE, assumption log 94). -/
def lockout (s : State) (ev : Nat) : State :=
  match s.md.mode with
  | .standby | .run | .service =>
    let m := s.md.mode
    let s1 := { s with md := { s.md with mode := .lockout, trans := none, held := false, lockoutCause := ev,
                                         floorsReached := !s.pw.stagesOn } }
    let s2 := raise (raise s1 2 ev m.code) 0 (m.code * 256 + 5) 2
    let s3 := jobsAbort s2 3 jobOpen
    let s4 := headsStop (applyAll cutStrobes (measAbortAll s3 3) (allFin 2))
    let s5 := cutPowerOff (solAllOff s4)
    boostOff (applyAll axLockout s5 (allFin 4))
  | _ => s

end Sys2Proof.Machine
end

