-- ==== Sys2Proof/Machine/Media.lean ====
section
/-!
DEFINITION. Media.lean: the OPT channels, the threshold tracker, the label index and the paper supply of spec/06
(R169–R182).
-/

namespace Sys2Proof.Machine

open Sys2Proof

/-- Object of the media index. -/
def mediaCfg (s : State) (sub : Nat) : Int := obj s 0x2500 sub
/-- MEDIA_MODE. -/
def mediaMode (s : State) : Nat := objN s 0x2500 1
/-- The OPT channel in use: GAP_OPT in gap mode, MARK_OPT in mark mode (R174). -/
def mediaOpt (s : State) : Nat := if mediaMode s = 2 then objN s 0x2500 4 else objN s 0x2500 3
/-- Object of an OPT channel. -/
def optCfg (s : State) (n sub : Nat) : Int := obj s (0x2508 + n) sub
/-- Object of the paper supply. -/
def supplyCfg (s : State) (sub : Nat) : Nat := objN s 0x2510 sub
/-- The LED drivers are on (R171). -/
def ledsOn (s : State) : Bool :=
  match s.md.mode with
  | .standby => true
  | .run => true
  | .service => true
  | _ => false

/-- X_exp (R177). -/
def mediaExpected (s : State) : Int := s.media.xLast + mediaCfg s 6

/-- The tracker's levels at entry to RUN and at a change of MEDIA_MODE (R174); a low contrast that they do not lift has been reported
(R175). -/
def trackReset (s : State) : State :=
  if mediaMode s = 0 then s
  else
    let m := optCfg s (mediaOpt s) 5
    let g := if mediaMode s = 1 then mediaCfg s 13 else mediaCfg s 14
    modMedia s (fun x => { x with m := m, g := g,
                                  lowContrast := x.lowContrast && decide (((g - m).natAbs : Int) < mediaCfg s 12) })

/-- INDEX_STATE becomes UNSYNC (R180). -/
def mediaUnsync (s : State) : State :=
  modMedia s (fun x => { x with indexState := if mediaMode s = 0 then 0 else 1 })

/-- A lane takes a position without a crossing (R50); the index of the media lane is then UNSYNC (R180). The places on the media that the
index, the frame correction and the paper supply hold are carried over to the new numbers (DESIGN CHOICE, assumption log 117). -/
def laneReorigin (s : State) (i : Fin 4) (p : Int) : State :=
  let s1 := reoriginLane s i p
  if mediaLane s = i then
    let d := p - s.msu.lanes[i].pos
    let s2 := modMedia (mediaUnsync s1) (fun m =>
      { m with xLast := m.xLast + d, lastPos := m.lastPos + d, cand := m.cand.map (fun x => x + d), slipFrom := m.slipFrom + d })
    { s2 with supply := { s2.supply with reserveFrom := s2.supply.reserveFrom.map (fun x => x + d) } }
  else s1

/-! LED current loop (R172, R173). -/

/-- A code of channel `n` is gathered where it counts; after 32 of them LED_I is updated. -/
def ledGather (s : State) (n : Fin 8) (code : Nat) (counts : Bool) : State :=
  if optCfg s n.val 3 = 0 then s
  else if s.opts[n].state = 0 && optCfg s n.val 4 = 0 && counts then
    modOpt s n (fun o => { o with state := 1, gathered := [code] })
  else if optCfg s n.val 4 = 1 then modOpt s n (fun o => { o with gathered := [] })
  else if !counts then s
  else
    let g := s.opts[n].gathered ++ [code]
    if g.length < 32 then modOpt s n (fun o => { o with gathered := g })
    else
      let mean : Int := (sumN g / 32 : Nat)
      let err := optCfg s n.val 5 - mean
      let lo := optCfg s n.val 6
      let hi := optCfg s n.val 7
      let i := clampI lo hi (optCfg s n.val 2 + tdiv (err * optCfg s n.val 8) 4096)
      let st := if i = hi then 3 else if i = lo then 4 else 1
      let s1 := setObj (modOpt s n (fun o => { o with gathered := [], state := st })) (0x2508 + n.val) 2 i
      if st ≠ 1 && s.opts[n].state ≠ st then raise s1 213 (n.val + 256 * b2n (st = 3)) i.toNat else s1

/-! Label index. -/

/-- One label has passed without an index (R179). -/
def labelMissing (s : State) : State :=
  let xe := mediaExpected s
  let run := inc8 s.media.missingRun
  let s1 := modMedia s (fun x => { x with missingRun := run, missingCount := inc16 x.missingCount })
  if (run : Int) ≤ mediaCfg s 16 then
    cutAuto (raise (modMedia s1 (fun x => { x with xLast := xe })) 210 (w32 xe) run)
  else
    mediaHalt (raise (modMedia s1 (fun x => { x with indexState := 1 })) 211 (w32 xe) run) 2

/-- The labels that a candidate at `x` has left behind are counted first (R179); `fuel` bounds them. -/
def passMissing (x : Int) : Nat → State → State
  | 0, s => s
  | fuel + 1, s =>
    if s.media.indexState = 2 && mediaExpected s + mediaCfg s 7 < x then passMissing x fuel (labelMissing s) else s

/-- A candidate index is confirmed at position `p` and judged (R177, R178). -/
def indexConfirm (s0 : State) (x p : Int) : State :=
  let s := passMissing x 256 (modMedia s0 (fun m => { m with cand := none }))
  if s.media.indexState ≠ 2 then
    cutAuto (modMedia s (fun m => { m with xLast := x, indexState := 2 }))
  else
    let xe := mediaExpected s
    if xe - mediaCfg s 7 ≤ x then
      let slip := x - xe
      let s1 := modMedia s (fun m =>
        { m with lastSlip := slip, slipCount := inc32 m.slipCount, frameCorr := m.frameCorr + m.slip, slip := slip,
                 slipMax := 0, slipFrom := p + mediaCfg s 18, xLast := x, missingRun := 0 })
      cutAuto (raise s1 208 (w32 x) (w32 slip))
    else
      let s1 := modMedia s (fun m =>
        { m with shortCount := inc16 m.shortCount, xLast := x, missingRun := 0 })
      let s2 := raise s1 209 (w32 x) (w32 (xe - x))
      cutAuto (if mediaCfg s 15 = 1 then mediaHalt s2 1 else s2)

/-- The candidate index between the last two samples (R176); with equal codes the spec states none (DESIGN CHOICE, log 2). -/
def candidateAt (s : State) (thr sPrev sNow pPrev : Int) : Int :=
  if sNow = sPrev then pPrev + (freeReading s.free % (mediaCfg s 5).toNat : Nat)
  else pPrev + tdiv (mediaCfg s 5 * (thr - sPrev)) (sNow - sPrev)

/-- One sample of the channel in use at grid position `p` (R174–R176). -/
def trackSample (s : State) (p : Int) (c : Int) : State :=
  let m := s.media
  let thr := m.m + tdiv ((m.g - m.m) * mediaCfg s 9) 1024
  let h := if m.m < m.g then mediaCfg s 10 else 0 - mediaCfg s 10
  let sg := (if m.m < m.g then 1 else if m.g < m.m then -1 else 0 : Int)
  let c1 := if m.cls = 0 && decide (0 ≤ (c - (thr + h)) * sg) then 1 else m.cls
  let c2 := if c1 = 1 && decide (0 ≤ ((thr - h) - c) * sg) then 0 else c1
  let shift : Int := 2 ^ (mediaCfg s 11).toNat
  let m1 := if c2 = 0 then m.m + fdiv (c - m.m) shift else m.m
  let g1 := if c2 = 1 then m.g + fdiv (c - m.g) shift else m.g
  let low := decide (((g1 - m1).natAbs : Int) < mediaCfg s 12)
  let s1 := modMedia s (fun x =>
    { x with m := m1, g := g1, thr := thr, cls := c2, lowContrast := low, lastPos := p, lastCode := c })
  let s2 := if low && !m.lowContrast then raise s1 212 m1.toNat g1.toNat else s1
  let s3 := match m.cand with
    | none => s2
    | some x =>
      if c2 = 0 then modMedia s2 (fun y => { y with cand := none, gapNoise := inc16 y.gapNoise })
      else if x + mediaCfg s 8 ≤ p then indexConfirm s2 x p
      else s2
  if m.cls = 0 && c2 = 1 && !low && s.msu.lanes[mediaLane s].dir = .fwd && m.cand.isNone then
    let x := candidateAt s3 thr m.lastCode c m.lastPos
    let s4 := if c = m.lastCode then takeFree s3 else s3
    if x < s4.media.xLast + mediaCfg s 7 then s4
    else if x + mediaCfg s 8 ≤ p then indexConfirm s4 x p
    else modMedia s4 (fun y => { y with cand := some x })
  else s3

/-! Paper supply (R182). -/

/-- A paper-out whose reserve has been travelled, or that finds the lane stopped, halts (R182). -/
def reserveCheck (s : State) : State :=
  match s.supply.reserveFrom with
  | none => s
  | some p =>
    if p + obj s 0x2510 7 ≤ s.msu.lanes[mediaLane s].pos || laneStopped s (mediaLane s) then
      mediaHalt { s with supply := { s.supply with reserveFrom := none } } 3
    else s

/-- Does a code read "absent"? `w` is 0 for near-end, 1 for out. -/
def supplyAbsent (s : State) (w code : Nat) : Bool :=
  let th := supplyCfg s (3 + w)
  if bit (supplyCfg s 5) w then decide (th ≤ code) else decide (code < th)

/-- One near-end sample. -/
def nearSample (s : State) (code : Nat) : State :=
  let a := supplyAbsent s 0 code
  if a = s.supply.neAbsent then { s with supply := { s.supply with neRun := 0 } }
  else
    let n := s.supply.neRun + 1
    if n < supplyCfg s 6 then { s with supply := { s.supply with neRun := n } }
    else
      let s1 := { s with supply := { s.supply with neRun := 0, neAbsent := a } }
      if a then raise s1 214 (w32 s.msu.lanes[mediaLane s].pos) 0 else s1

/-- One out sample: EV215 starts the reserve, EV216 ends the frame (R180, R182). -/
def outSample (s : State) (code : Nat) : State :=
  let a := supplyAbsent s 1 code
  if a = s.supply.outAbsent then { s with supply := { s.supply with outRun := 0 } }
  else
    let n := s.supply.outRun + 1
    if n < supplyCfg s 6 then { s with supply := { s.supply with outRun := n } }
    else
      let p := s.msu.lanes[mediaLane s].pos
      let s1 := { s with supply := { s.supply with outRun := 0, outAbsent := a, reserveFrom := if a then some p else none } }
      if a then reserveCheck (raise s1 215 (w32 p) 0) else mediaUnsync (raise s1 216 0 0)

/-- The supply roles of a converted channel (R169, R170). -/
def supplySample (s : State) (n code : Nat) : State :=
  let s1 := if supplyCfg s 1 = n then nearSample s code else s
  if supplyCfg s1 2 = n then outSample s1 code else s1

/-! Samples. -/

/-- The grid positions that the media lane crosses in this cycle, in the order of its travel (R55, R169). -/
def gridCrossed (s : State) : List Int :=
  let l := s.msu.lanes[mediaLane s]
  let q := mediaCfg s 5
  if laneSource s (mediaLane s) = 0 || q ≤ 0 then []
  else if l.prev < l.pos then
    let a := fdiv l.prev q
    (upto (fdiv l.pos q - a).toNat).map (fun k => q * (a + 1 + (k : Int)))
  else
    let a := Int.neg (fdiv (Int.neg l.prev) q)
    (upto (a - Int.neg (fdiv (Int.neg l.pos) q)).toNat).map (fun k => q * (a - 1 - (k : Int)))

/-- The gap or mark channel has a role. -/
def classifies (s : State) (n : Nat) : Bool := decide (mediaMode s ≠ 0) && decide (mediaOpt s = n)
/-- The channel has a supply role. -/
def supplies (s : State) (n : Nat) : Bool := decide (supplyCfg s 1 = n) || decide (supplyCfg s 2 = n)

/-- The conversion of one channel at a grid crossing (R169, R172). -/
def gridChannel (p : Int) (codes : List Nat) (s : State) (n : Fin 8) : State :=
  if optCfg s n.val 1 = 1 && (classifies s n.val || supplies s n.val) then
    let c := codes.getD n.val 0
    let s1 := modOpt (optAsk s n.val) n (fun o => { o with lastCode := c })
    let s2 := if classifies s n.val then trackSample s1 p c else s1
    let s3 := ledGather s2 n c (!classifies s n.val || decide (s2.media.cls = 0))
    if supplies s n.val then supplySample s3 n.val c else s3
  else s

/-- The conversions of OPT0–OPT7 at the `k`-th grid position crossed in a cycle: eight codes a position; with fewer the last ones stand. -/
def codesAt (codes : List Nat) (k : Nat) : List Nat := codes.drop (8 * min k ((codes.length - 1) / 8))

/-- One grid position sampled (R169). -/
def gridSample (codes : List Nat) (s : State) (x : Nat × Int) : State :=
  applyAll (gridChannel x.2 (codesAt codes x.1)) s (allFin 8)

/-- MEDIA_SAMPLE: the media lane crosses grid positions; `codes` are the conversions of OPT0–OPT7 at each in turn
(R169). Results that R302 and R303 discard change nothing. -/
def mediaSample (s : State) (codes : List Nat) : State :=
  let ps := gridCrossed s
  if !ledsOn s || !sysReads s || s.media.sampleSt = some (now s) || ps.isEmpty then s
  else applyAll (gridSample codes) (modMedia s (fun m => { m with sampleSt := some (now s) })) ((upto ps.length).zip ps)

/-- The conversion of one supply channel while the lane is stopped (R170, R172). -/
def stoppedChannel (codes : List Nat) (s : State) (n : Fin 8) : State :=
  if optCfg s n.val 1 = 1 && supplies s n.val then
    let c := codes.getD n.val 0
    let s1 := modOpt (optAsk s n.val) n (fun o => { o with lastCode := c })
    supplySample (ledGather s1 n c (!classifies s n.val)) n.val c
  else s

/-- SUPPLY_SAMPLE: 1 ms after the last one, with the media lane STOPPED (R170). -/
def supplySampleStopped (s : State) (codes : List Nat) : State :=
  let due := match s.supply.stoppedSt with
    | some t => decide (t + 200000 ≤ now s)
    | none => true
  if ledsOn s && sysReads s && laneStopped s (mediaLane s) && due then
    applyAll (stoppedChannel codes) { s with supply := { s.supply with stoppedSt := some (now s) } } (allFin 8)
  else s

/-- LABEL_MISSING's condition: the lane crosses X_exp + WINDOW + MIN_GAP forward with no index (R179). -/
def labelPassed (s : State) : Bool :=
  decide (mediaMode s ≠ 0) && decide (s.media.indexState = 2)
    && crossing s.msu.lanes[mediaLane s] (mediaExpected s + mediaCfg s 7 + mediaCfg s 8) == 1

/-- LOOP_STATE of an OPT channel (R173); it reads 0, as at reset, until the loop has taken its first code (DESIGN CHOICE, assumption
log 118). -/
def optLoopState (s : State) (n : Fin 8) : Nat :=
  if optCfg s n.val 3 = 0 then 0 else if optCfg s n.val 4 = 1 then 2 else s.opts[n].state

end Sys2Proof.Machine
end

