-- ==== Sys2Proof/Machine/Tu.lean ====
section
/-!
DEFINITION. Tu.lean: the compare channels, their triggers and the capture inputs (spec/03).
-/

namespace Sys2Proof.Machine

open Sys2Proof

/-- Object of compare channel `c` (R108). -/
def tcCfg (s : State) (c : Fin 32) (sub : Nat) : Int := obj s (0x2210 + c.val) sub
/-- The same for a value that is never negative. -/
def tcCfgN (s : State) (c : Fin 32) (sub : Nat) : Nat := (tcCfg s c sub).toNat

/-- The channel does not advance in this cycle: FRZ with the application core halted (R102). -/
def tcFrozen (s : State) (c : Fin 32) : Bool := s.tu.halted && decide (tcCfg s c 10 ≠ 0)

/-- The active registers taken from the preloads (R91). -/
def tcLoad (s : State) (c : Fin 32) (x : Tc) : Tc :=
  { x with frame := tcCfgN s c 4, cmpA := tcCfgN s c 5, cmpB := tcCfgN s c 6 }

/-- The preloads as the cycle begins, for a wrap in it (R91). -/
def tcNote (s : State) (c : Fin 32) (x : Tc) : Tc :=
  { x with preF := tcCfgN s c 4, preA := tcCfgN s c 5, preB := tcCfgN s c 6 }

/-- The active registers of a wrap cycle: the preloads as they stood when it began (R91). -/
def tcCopy (x : Tc) : Tc := { x with frame := x.preF, cmpA := x.preA, cmpB := x.preB }

/-- The channel is enabled in this cycle (R90): it takes its preloads as they stand, also where that is a wrap cycle (DESIGN CHOICE,
assumption log 107). -/
def tcEnable (s : State) (c : Fin 32) : State :=
  let org := tcCfgN s c 3
  modTc s c (fun x =>
    let y := tcLoad s c (tcNote s c x)
    { y with run := true, parkDue := false, parked := false, opened := false, frames := 0, out := false,
             waiting := decide (now s < org),
             k := (if now s < org then 0 else if y.frame = 0 then 0 else (now s - org) % y.frame),
             wrapSt := none, aSt := none, bSt := none })

/-- The channel is disabled in this cycle: OUT low, flags kept (R90). -/
def tcDisable (s : State) (c : Fin 32) : State :=
  modTc s c (fun x => { x with run := false, waiting := false, parkDue := false, parked := false, out := false })

/-- A MODE or ORIGIN epoch of an enabled channel: it loads its preloads and joins its grid again; FRAMES goes on, and the frame it
joins is not counted (spec/95, TC_ENABLE; DESIGN CHOICE, assumption log 107). -/
def tcRejoin (s : State) (c : Fin 32) : State :=
  modTc (tcEnable s c) c (fun x => { x with frames := s.tu.tcs[c].frames })

/-- One evaluation cycle of the frame counter (R89, R90, R94); a frozen channel holds and counts its PHASE_SLIP (R102). -/
def tcCount (s : State) (c : Fin 32) : State :=
  let x := s.tu.tcs[c]
  if tcFrozen s c then modTc s c (fun x => { x with slip := wrap 64 (x.slip + 1) })
  else if !x.run || x.parked then s
  else if x.waiting then
    (if tcCfgN s c 3 ≤ now s then modTc s c (fun x => { x with waiting := false, k := 0 }) else s)
  else if x.k + 1 < x.frame then modTc s c (fun x => { x with k := x.k + 1 })
  else if tcCfg s c 2 = 1 then modTc s c (fun x => { x with parkDue := true })
  else modTc s c (fun x => { x with k := 0 })

/-- A new cycle for a channel: its preloads as the cycle begins, and its count. -/
def tcTick (s : State) (c : Fin 32) : State :=
  tcCount (if s.tu.tcs[c].run then modTc s c (tcNote s c) else s) c

/-- The channel makes compares in this cycle (R92). -/
def tcCounts (s : State) (c : Fin 32) : Bool :=
  let x := s.tu.tcs[c]
  x.run && !x.waiting && !x.parked && !x.parkDue && !tcFrozen s c

/-- The cycle is a wrap cycle whose preloads have not been copied yet. -/
def tcWrapDue (s : State) (c : Fin 32) : Bool :=
  tcCounts s c && decide (s.tu.tcs[c].k = 0) && decide (s.tu.tcs[c].wrapSt ≠ some (now s))

/-- CMPA as this cycle's compare sees it: the preload in a wrap cycle (R91). -/
def tcCmpA (s : State) (c : Fin 32) : Nat := if tcWrapDue s c then s.tu.tcs[c].preA else s.tu.tcs[c].cmpA
/-- CMPB as this cycle's compare sees it. -/
def tcCmpB (s : State) (c : Fin 32) : Nat := if tcWrapDue s c then s.tu.tcs[c].preB else s.tu.tcs[c].cmpB

/-- k = CMPA in this cycle. -/
def tcHitA (s : State) (c : Fin 32) : Bool := tcCounts s c && decide (s.tu.tcs[c].k = tcCmpA s c)
/-- k = CMPB in this cycle. -/
def tcHitB (s : State) (c : Fin 32) : Bool := tcCounts s c && decide (s.tu.tcs[c].k = tcCmpB s c)
/-- The cycle is a wrap cycle, a RESTART wrap or the parking cycle. -/
def tcHitW (s : State) (c : Fin 32) : Bool :=
  tcWrapDue s c || decide (s.tu.tcs[c].wrapSt = some (now s)) || s.tu.tcs[c].parkDue

/-- The conditions of this cycle as [2] wrap, [1] B, [0] A. -/
def tcConds (s : State) (c : Fin 32) : Nat := b2n (tcHitA s c) + 2 * b2n (tcHitB s c) + 4 * b2n (tcHitW s c)

/-- OVR as the cycle leaves it: a compare or a wrap of this cycle that is still to come finds its flag set (R92, R109). -/
def tcOvrAfter (s : State) (c : Fin 32) : Bool :=
  let x := s.tu.tcs[c]
  x.ovr || (tcHitA s c && decide (x.aSt ≠ some (now s)) && x.ma) || (tcHitB s c && decide (x.bSt ≠ some (now s)) && x.mb)
    || (tcWrapDue s c && x.wr)

/-- FRAMES as the cycle leaves it (R93, R109). -/
def tcFramesAfter (s : State) (c : Fin 32) : Nat :=
  let x := s.tu.tcs[c]
  if tcWrapDue s c && x.opened then inc32 x.frames else x.frames

/-- The channel's event of this cycle: once, with every selected condition, and with OVR and FRAMES as the cycle leaves them (R95,
R109). -/
def tcEvent (conds : Nat) (s : State) (c : Fin 32) : State :=
  let sel := conds &&& (tcCfgN s c 7 % 8)
  let x := s.tu.tcs[c]
  if sel = 0 || x.evSt = some (now s) then s
  else raise (modTc s c (fun x => { x with evSt := some (now s) })) (96 + c.val) 
    (sel + 8 * b2n (tcOvrAfter s c)) (tcFramesAfter s c)

/-- A trigger of the channel's selected condition enters its delay line, or is dropped (R98). -/
def tcTrigger (s : State) (c : Fin 32) (cond : Nat) : State :=
  if tcCfgN s c 8 ≠ cond then s
  else if s.tu.tcs[c].delay.length < 4 then
    modTc s c (fun x => { x with delay := x.delay ++ [now s + tcCfgN s c 9] })
  else
    raise (modTc s c (fun x => { x with drops := 0 })) 136 c.val (s.tu.tcs[c].drops + 1)

/-- Compare A of this cycle: MA and OUT (R92). -/
def tcDoA (s : State) (c : Fin 32) : State :=
  let conds := tcConds s c
  let b := tcHitB s c
  let s1 := modTc s c (fun x =>
    { x with ma := true, ovr := x.ovr || x.ma, out := (if b then false else true), aSt := some (now s) })
  tcTrigger (tcEvent conds s1 c) c 1

/-- Compare B of this cycle: MB, OUT cleared (R92). -/
def tcDoB (s : State) (c : Fin 32) : State :=
  let conds := tcConds s c
  let s1 := modTc s c (fun x => { x with mb := true, ovr := x.ovr || x.mb, out := false, bSt := some (now s) })
  tcTrigger (tcEvent conds s1 c) c 2

/-- The wrap of this cycle: preloads copied, FRAMES and WR (R91–R93). -/
def tcDoWrap (s : State) (c : Fin 32) : State :=
  let conds := tcConds s c ||| 4
  let s1 := modTc s c (fun x =>
    let y := tcCopy x
    { y with wr := true, ovr := x.ovr || x.wr, frames := (if x.opened then inc32 x.frames else x.frames),
             opened := true, wrapSt := some (now s) })
  tcTrigger (tcEvent conds s1 c) c 3

/-- The parking cycle of a one-shot frame (R93, R94). -/
def tcPark (s : State) (c : Fin 32) : State :=
  let s1 := modTc s c (fun x =>
    { x with parked := true, parkDue := false, wr := true, ovr := x.ovr || x.wr, frames := inc32 x.frames, out := false })
  tcTrigger (tcEvent 4 s1 c) c 3

/-- RESTART: a wrap with k = 0; a parked channel opens a new frame (R93, R100, R101). -/
def tcRestart (s : State) (c : Fin 32) : State :=
  let x := s.tu.tcs[c]
  if !x.run then s
  else if x.wrapSt = some (now s) then modTc s c (fun x => { x with k := 0 })
  else
    let s1 := modTc s c (fun x =>
      { x with k := 0, waiting := false, parkDue := false, parked := false, opened := x.opened && !x.parked })
    tcDoWrap s1 c

/-- The channel that drives a pin (R96). -/
def gioDriver (s : State) (pin : Nat) : Option (Fin 32) :=
  (allFin 32).find? (fun c => tcCfgN s c 11 == pin)

/-- The level a channel drives its pin to: held low in LOCKOUT (R96). -/
def gioDriven (s : State) (c : Fin 32) : Bool := s.tu.tcs[c].out && decide (s.md.mode ≠ .lockout)

/-- Every driven pin with its channel: the settings of OUT_GIO that name one. -/
def gioDrivers (s : State) : List (Nat × Fin 32) :=
  s.ctl.dict.filterMap (fun x =>
    if x.1 % 256 = 11 ∧ 0x2210 ≤ x.1 / 256 ∧ x.1 / 256 ≤ 0x222F ∧ 0 ≤ x.2 ∧ x.2 < 16 then
      some (x.2.toNat, Fin.ofNat 32 (x.1 / 256 - 0x2210))
    else none)

/-- The levels of the pins in this cycle: what drives them, else what is put on them. A driven level is on its pin in its own cycle
(DESIGN CHOICE, assumption log 108). -/
def gioLevels (s : State) : Nat :=
  (gioDrivers s).foldl (fun w x => if gioDriven s x.2 then setBit w x.1 else clrBit w x.1) s.tu.gioIn

/-- The cycle of the last change of a driven pin's level, with the present cycle counted (R97). -/
def gioChange (s : State) (pin : Nat) (lvl : Bool) : ST :=
  match s.tu.gioDrv.find? (fun x => x.1 == pin && x.2.1 == lvl) with
  | some x => x.2.2
  | none => now s

/-- The cycle ends for the pins: the synchronisers take their levels (R104), and the driven levels are noted (R97). -/
def gioNote (s : State) : State :=
  { s with tu := { s.tu with
      gio2 := s.tu.gio1, gio1 := gioLevels s,
      gioDrv := (gioDrivers s).map (fun x => (x.1, gioDriven s x.2, gioChange s x.1 (gioDriven s x.2))) } }

/-- Object of capture `m`. -/
def capCfg (s : State) (m : Fin 8) (sub : Nat) : Nat := objN s (0x2240 + m.val) sub

/-- One capture: CAP_ST, NEW or OVR, CAP_COUNT and its event; at most one in a cycle (R105). -/
def capture (s : State) (m : Fin 8) (soft : Bool) : State :=
  let x := s.tu.caps[m]
  if x.tookSt = some (now s) then s
  else
    let s1 := modCap s m (fun x =>
      { x with capSt := now s, ovr := x.ovr || x.new, new := true, count := inc32 x.count, tookSt := some (now s) })
    if capCfg s m 10 = 1 then
      raise s1 (128 + m.val) (b2n x.level + 2 * b2n (x.ovr || x.new) + 4 * b2n soft) (now s)
    else s1

/-- Is this a sample cycle of the filter (R104)? -/
def capSamples (s : State) (m : Fin 8) : Bool := decide (now s % capCfg s m 5 = 0)

/-- A capture's filter in a new cycle (R104): a sample of a driven pin, two cycles old, that differs from LEVEL, or one that does not. -/
def capTick (s : State) (m : Fin 8) : State :=
  if capCfg s m 1 = 0 || !capSamples s m then s
  else
    modCap s m (fun x => { x with run := (if bit s.tu.gio2 (capCfg s m 2) != x.level then x.run + 1 else 0) })

/-- The filter begins anew: an epoch of ENABLE, SRC, FILT_N or FILT_P, or a wake (DESIGN CHOICE, assumption log 108). -/
def capAnew (s : State) (m : Fin 8) : State :=
  capTick (modCap s m (fun x => { x with firstSt := now s, run := 0 })) m

/-- May the filter accept a level in this cycle: it is the FILT_N-th consecutive sample that shows it (R104, R106)? The samples of a
driven pin are counted; an undriven pin is the outside's, and only the time of FILT_N samples since the other level was seen bars it. -/
def capMay (s : State) (m : Fin 8) : Bool :=
  let x := s.tu.caps[m]
  let n := capCfg s m 4
  capSamples s m &&
    (if (gioDriver s (capCfg s m 2)).isSome then decide (x.run = n) else decide (x.firstSt + (n - 1) * capCfg s m 5 ≤ now s))

/-- The ST of the pin transition behind a level accepted in this cycle: a driven pin's own, else an open value within R106's bounds. -/
def capPinSt (s : State) (m : Fin 8) (lvl : Bool) : ST :=
  let p := capCfg s m 5
  let s1 := now s - (capCfg s m 4 - 1) * p
  match gioDriver s (capCfg s m 2) with
  | some _ => gioChange s (capCfg s m 2) lvl
  | none => s1 - 2 - freeReading s.free % p

/-- A new filtered level is accepted: the prescaler counts a selected transition and every PRESC-th one is captured
(R104, R105). -/
def capAccept (s : State) (m : Fin 8) (lvl : Bool) : State :=
  let s1 := takeFree (modCap s m (fun x => { x with level := lvl, firstSt := now s + 1, run := 0, pinSt := capPinSt s m lvl }))
  let edge := capCfg s m 3
  let sel := if lvl then edge = 1 || edge = 3 else edge = 2 || edge = 3
  if !sel then s1
  else if s.tu.caps[m].presc + 1 < capCfg s m 6 then modCap s1 m (fun x => { x with presc := x.presc + 1 })
  else capture (modCap s1 m (fun x => { x with presc := 0 })) m false

/-- FLAGS of a compare channel. -/
def tcFlags (x : Tc) : Nat := b2n x.ma + 2 * b2n x.mb + 4 * b2n x.wr + 8 * b2n x.ovr + 16 * b2n x.out
/-- FLAGS of a capture input. -/
def capFlags (x : Cap) : Nat := b2n x.new + 2 * b2n x.ovr + 4 * b2n x.level

/-- Write-1-to-clear of a channel's FLAGS. -/
def tcClearFlags (s : State) (c : Fin 32) (v : Nat) : State :=
  modTc s c (fun x => { x with ma := x.ma && !bit v 0, mb := x.mb && !bit v 1, wr := x.wr && !bit v 2,
                               ovr := x.ovr && !bit v 3 })
/-- Write-1-to-clear of a capture's FLAGS. -/
def capClearFlags (s : State) (m : Fin 8) (v : Nat) : State :=
  modCap s m (fun x => { x with new := x.new && !bit v 0, ovr := x.ovr && !bit v 1 })

/-- Every enabled channel restarts against the resynchronised ST (R103); triggers due in DOZE are gone (DESIGN CHOICE, assumption log
109). -/
def tcWake (s : State) (c : Fin 32) : State :=
  let s1 := modTc s c (fun x => { x with delay := x.delay.filter (fun t => decide (now s ≤ t)) })
  if s.tu.tcs[c].run then tcRejoin s1 c else s1

end Sys2Proof.Machine
end

