-- ==== Sys2Proof/Machine/Read.lean ====
section
/-!
DEFINITION. Read.lean: the value every object reads (R336): a setting reads the value in effect, a state, counter or report
object the state of its unit. `p` is the reading path, which has selections of its own (R80).
-/

namespace Sys2Proof.Machine

open Sys2Proof

/-- Mode, Commit Gate, claims, store and ties: 0x2000–0x2022 (R361, R505). -/
def readCtl (s : State) (p : Path) (idx sub : Nat) : Int :=
  let c := s.ctl
  if idx = 0x2000 then
    match sub with
    | 2 => s.md.mode.code
    | 5 => s.md.lockoutCause
    | 6 => b2n s.md.held
    | _ => obj s idx sub
  else if idx = 0x2001 then
    match sub with
    | 2 => c.epochs
    | 3 => c.lastEpochSt
    | 4 => (stagingOf s p).vals.length + (stagingOf s p).doms.length
    | 5 => sumN (c.staging.toList.map (fun g => g.vals.length + g.doms.length))
    | 6 => c.rejects
    | 7 => c.lastReject
    | _ => obj s idx sub
  else if idx = 0x2003 then
    match (atN ⟨none, 0⟩ c.claims (sub - 1)).path with
    | some q => q.ascii
    | none => 0
  else if idx = 0x2004 then
    match sub with
    | 1 => c.storeState
    | 2 => c.loadedLayout
    | 3 => c.dropped
    | 4 => c.defaulted
    | 5 => c.stores
    | _ => c.source
  else if idx = 0x2005 then
    match sub with
    | 1 => c.tiesLost
    | 2 => c.lastTie
    | _ => c.lastLoser
  else if idx = 0x2020 then
    let j := s.ledger.jobs[Fin.ofNat 64 s.ledger.sel[p.idx]]
    match sub with
    | 1 => s.ledger.sel[p.idx]
    | 2 => j.jobId
    | 3 => j.kind
    | 4 => j.lane
    | 5 => j.dir
    | 6 => j.first
    | 7 => j.last
    | 8 => j.startWm
    | 9 => j.endWm
    | 11 => j.state
    | 12 => j.cause
    | 13 => j.progress
    | 14 => j.stActive
    | 15 => j.stEnd
    | 16 => j.ignored
    | _ => obj s idx sub
  else if idx = 0x2021 then (if sub = 5 then obj s idx sub else jobCount s (sub - 1))
  else if idx = 0x2022 then s.ledger.jobs[Fin.ofNat 64 (sub - 1)].state
  else obj s idx sub

/-- How many waymark entries are enabled, or armed. -/
def wmCount (s : State) (f : Waymark → Bool) : Nat := (s.msu.wm.filter (fun x => f x.2)).length

/-- Lanes, generators, waymarks and encoders: 0x2100–0x2153. -/
def readMsu (s : State) (p : Path) (idx sub : Nat) : Int :=
  if 0x2104 ≤ idx ∧ idx ≤ 0x2107 then
    let i := Fin.ofNat 4 idx
    let l := s.msu.lanes[i]
    match sub with
    | 1 => l.pos
    | 2 => laneVelocity s i
    | 3 => l.dir.code
    | 4 => l.hybErr
    | 5 => laneStatus s i
    | _ => obj s idx sub
  else if 0x2110 ≤ idx ∧ idx ≤ 0x211F then
    let g := s.msu.gens[Fin.ofNat 16 idx]
    match sub with
    | 9 => g.index
    | 10 => g.emitted
    | 11 => g.late
    | _ => obj s idx sub
  else if idx = 0x2140 then
    let e := s.msu.wmSel[p.idx]
    let w := wmAt s e
    match sub with
    | 1 => e
    | 2 => w.target
    | 3 => wmCtrl w
    | 4 => wmAct w
    | 5 => wmStatus w
    | _ => w.lastSt
  else if idx = 0x2141 then
    match sub with
    | 1 => wmCount s (fun w => w.en)
    | 2 => wmCount s (fun w => w.armed)
    | _ => obj s idx sub
  else if 0x2150 ≤ idx ∧ idx ≤ 0x2153 then
    let e := s.msu.encs[Fin.ofNat 4 idx]
    match sub with
    | 3 => e.slip
    | 4 => e.mismatch
    | 5 => e.lastDev
    | _ => obj s idx sub
  else obj s idx sub

/-- System Time, compare channels and captures: 0x2200–0x2247. -/
def readTu (s : State) (idx sub : Nat) : Int :=
  if idx = 0x2200 then
    match sub with
    | 1 => wrap 64 (now s)
    | 2 => s.tu.dozeTicks
    | 3 => s.tu.resync
    | _ => b2n (s.app.state == 2)
  else if 0x2210 ≤ idx ∧ idx ≤ 0x222F then
    let x := s.tu.tcs[Fin.ofNat 32 (idx - 0x2210)]
    match sub with
    | 12 => tcFlags x
    | 13 => x.k
    | 14 => x.frames
    | 15 => x.slip
    | _ => obj s idx sub
  else if 0x2240 ≤ idx ∧ idx ≤ 0x2247 then
    let x := s.tu.caps[Fin.ofNat 8 idx]
    match sub with
    | 7 => x.capSt
    | 8 => capFlags x
    | 9 => x.count
    | _ => obj s idx sub
  else obj s idx sub

/-- Heads, raster store, dot energy, VH loop and readback trim: 0x2300–0x2420. -/
def readHead (s : State) (idx sub : Nat) : Int :=
  let h := Fin.ofNat 2 (idx / 16)
  let x := s.heads[h]
  let e := s.en[h]
  let v := s.vl[h]
  if idx = 0x2301 ∨ idx = 0x2311 then
    match sub with
    | 1 => headState s h
    | 2 => x.rId
    | 3 => x.linesPrinted
    | 4 => x.lastRsn
    | 5 => x.lastTrain
    | 6 => x.maxTrain
    | 7 => x.wavesLast
    | 8 => x.splitCount
    | 9 => x.truncCount
    | 10 => x.revisits
    | 11 => x.missing
    | 12 => x.suppressed
    | _ => x.formatErrs
  else if idx = 0x2320 then
    match sub with
    | 2 => rasterFree s 0
    | 3 => rasterFree s 1
    | 4 => s.heads[0].nextRsn
    | 5 => s.heads[1].nextRsn
    | 6 => (s.heads[0].store.filter (fun l => !l.printed)).length
    | 7 => (s.heads[1].store.filter (fun l => !l.printed)).length
    | _ => obj s idx sub
  else if idx = 0x2401 ∨ idx = 0x2411 then
    match sub with
    | 1 => e.tHead
    | 2 => e.tTherm
    | 3 => e.lastWmax
    | 4 => e.lastD
    | 5 => e.lastEnergy
    | 6 => e.clipCount
    | 7 => e.recomputes
    | 8 => e.rcDir
    | 9 => e.rcMap
    | 10 => e.rcVh
    | 11 => e.rcTemp
    | 12 => e.maxRecompute
    | 13 => e.recomputeLost
    | 14 => e.histResets
    | _ => e.reseeds
  else if idx = 0x2402 ∨ idx = 0x2412 then
    match sub with
    | 9 => v.target
    | 10 => v.sensed
    | 11 => if vlCfg s h 1 = 0 then 0 else if vlCfg s h 2 = 1 then 2 else v.state
    | 12 => v.ratio
    | _ => obj s idx sub
  else if idx = 0x2403 ∨ idx = 0x2413 then
    match sub with
    | 4 => v.measState
    | 5 => measDotNow s h
    | 6 => v.dvMean
    | 7 => v.openCount
    | 8 => v.highCount
    | _ => obj s idx sub
  else if idx = 0x2420 then
    match sub with
    | 7 => s.rb.docs
    | 8 => s.rb.discarded
    | 9 => s.rb.limited
    | 10 => if !objB s 0x2420 1 then 0 else if objB s 0x2420 2 then 2 else 1
    | _ => obj s idx sub
  else obj s idx sub

/-- Media index, OPT channels, supply, governors and cutter: 0x2500–0x2541. -/
def readMedia (s : State) (idx sub : Nat) : Int :=
  let m := s.media
  if idx = 0x2501 then
    match sub with
    | 1 => m.indexState
    | 2 => m.cls
    | 3 => m.xLast
    | 4 => if m.indexState = 2 then mediaExpected s else 0
    | 5 => m.lastSlip
    | 6 => m.frameCorr
    | 7 => m.slipCount
    | 8 => m.shortCount
    | 9 => m.missingCount
    | 10 => m.missingRun
    | 11 => m.gapNoise
    | 12 => m.m
    | 13 => m.g
    | _ => m.thr
  else if 0x2508 ≤ idx ∧ idx ≤ 0x250F then
    match sub with
    | 9 => optLoopState s (Fin.ofNat 8 idx)
    | 10 => s.opts[Fin.ofNat 8 idx].lastCode
    | _ => obj s idx sub
  else if idx = 0x2510 then
    (if sub = 8 then b2n s.supply.neAbsent + 2 * b2n s.supply.outAbsent else obj s idx sub)
  else if idx = 0x2520 ∨ idx = 0x2528 then
    let g := s.govs[Fin.ofNat 2 (idx / 8)]
    match sub with
    | 6 => g.runway
    | 7 => g.vCap
    | 8 => g.capSrc
    | 9 => g.halted
    | 10 => g.starved
    | 11 => g.rcSlows
    | _ => obj s idx sub
  else if idx = 0x2541 then
    match sub with
    | 1 => s.cut.state
    | 4 => s.cut.count
    | 5 => s.cut.jams
    | 6 => s.cut.lastCycle
    | 7 => (match s.cut.queued with | some r => r.kind | none => 0)
    | _ => obj s idx sub
  else obj s idx sub

/-- Axes: 0x2600–0x260F. -/
def readAxis (s : State) (idx sub : Nat) : Int :=
  let n := Fin.ofNat 4 idx
  let x := s.axes[n]
  if 0x2608 ≤ idx ∧ idx ≤ 0x260B then
    match sub with
    | 6 => axState s n
    | 7 => axActiveTarget s n
    | 8 => x.sp
    | 9 => vOfQ s n x.v
    | 10 => x.vLimit
    | 11 => x.limitSrc
    | 12 => decEff s n
    | 13 => axStatus s n
    | 14 => x.movesDone
    | _ => obj s idx sub
  else if 0x260C ≤ idx ∧ idx ≤ 0x260F then
    match sub with
    | 5 => x.dev
    | 6 => x.maxDev
    | 7 => x.stallCount
    | _ => obj s idx sub
  else obj s idx sub

/-- Image ports, exposure slots, shading, Carousel and readback: 0x2700–0x2730. -/
def readImg (s : State) (idx sub : Nat) : Int :=
  let p := Fin.ofNat 2 (idx / 16)
  let x := s.img.ports[p]
  let low := idx % 16
  if idx = 0x2720 then
    match sub with
    | 1 => carouselFree s
    | 2 => sumN (s.img.resvs.map (fun r => r.2))
    | _ => ((allFin 64).filter (fun e => s.ledger.jobs[e].state == 1 && s.ledger.jobs[e].waitEv)).length
  else if idx = 0x2730 then (if sub = 8 then s.img.rbMissed else obj s idx sub)
  else if low = 4 then
    match sub with
    | 6 => x.calState
    | 7 => x.weak
    | 15 => x.edges[0]
    | 16 => x.edges[1]
    | 17 => x.edges[2]
    | 18 => x.edges[3]
    | _ => obj s idx sub
  else if low = 6 then
    match sub with
    | 1 => imgState s p
    | 2 => x.doc
    | 3 => x.nextLsn
    | 4 => x.finalMark
    | 5 => x.lastTrain
    | 6 => x.overruns
    | 7 => x.revisits
    | 8 => x.retracted
    | _ => x.docs
  else if 8 ≤ low ∧ low ≤ 11 then
    match sub with
    | 15 => balState s p (Fin.ofNat 4 low)
    | 16 => x.slots[Fin.ofNat 4 low].level
    | _ => obj s idx sub
  else obj s idx sub

/-- Solenoids, banks and BOOST: 0x2800–0x2838. -/
def readSol (s : State) (idx sub : Nat) : Int :=
  let c := Fin.ofNat 8 idx
  let x := s.sols[c]
  if 0x2808 ≤ idx ∧ idx ≤ 0x280F then
    match sub with
    | 1 => solState s c
    | 2 => solStatus s c
    | 3 => x.current
    | 4 => x.lastTtp
    | 5 => x.lastWait
    | 6 => x.onCount
    | 7 => x.extensions
    | 8 => x.minStretch
    | 9 => x.ocTrips
    | 10 => x.coupledWith
    | _ => x.lastDecay
  else if 0x2810 ≤ idx ∧ idx ≤ 0x2817 then
    match sub with
    | 13 => tw16 x
    | 14 => th16 x
    | 15 => x.rMeas
    | 16 => x.rLearn
    | 17 => trkState s c
    | 18 => x.mismatches
    | _ => obj s idx sub
  else if idx = 0x2820 ∨ idx = 0x2821 then
    let b := Fin.ofNat 2 idx
    match sub with
    | 2 => bankHs s b
    | 3 => s.banks[b].fault
    | 4 => s.banks[b].holdSum
    | 5 => s.banks[b].queue.length
    | 6 => s.banks[b].maxWait
    | _ => obj s idx sub
  else if idx = 0x2830 then
    match sub with
    | 4 => s.boost.v
    | 5 => s.boost.rechargeNow
    | 6 => s.boost.recovered
    | 7 => s.boost.clampCount
    | _ => obj s idx sub
  else obj s idx sub

/-- The Sense Engine: 0x2900–0x2950. The pop of 0x2930:02 is made by its own command (R329). -/
def readSe (s : State) (idx sub : Nat) : Int :=
  if idx = 0x2900 then
    match sub with
    | 2 => s.se.refState
    | 4 => roleMap s
    | 5 => s.se.rotations
    | 8 => s.se.trigOverruns
    | _ => obj s idx sub
  else if 0x2904 ≤ idx ∧ idx ≤ 0x2907 then
    let x := s.se.slices[Fin.ofNat 4 idx]
    match sub with
    | 1 => x.state
    | 2 => x.offset
    | 3 => x.gain
    | _ => x.calCount
  else if 0x2908 ≤ idx ∧ idx ≤ 0x290B then (if sub = 2 then s.se.edges[Fin.ofNat 4 idx] else obj s idx sub)
  else if idx = 0x2910 ∨ idx = 0x2911 then
    let q := Fin.ofNat 2 idx
    match sub with
    | 4 => sqState s q
    | 5 => s.se.sqs[q].entry
    | 6 => s.se.sqs[q].loops
    | 7 => s.se.sqs[q].preempts
    | 8 => s.se.sqs[q].trigLost
    | _ => obj s idx sub
  else if 0x2918 ≤ idx ∧ idx ≤ 0x291F then
    let u := s.se.urgs[Fin.ofNat 8 idx]
    match sub with
    | 7 => u.count
    | 8 => u.overruns
    | 9 => u.maxWait
    | _ => obj s idx sub
  else if 0x2920 ≤ idx ∧ idx ≤ 0x292F then
    let k := Fin.ofNat 16 idx
    match sub with
    | 5 => filtPace s k
    | 6 => notchAct s k
    | 7 => filtState s k
    | 8 => s.se.filts[k].starved
    | 9 => s.se.filts[k].last
    | _ => obj s idx sub
  else if idx = 0x2930 then
    match sub with
    | 3 => s.se.queue.length
    | 4 => s.se.lost
    | 9 => s.se.dmaWr
    | _ => obj s idx sub
  else if idx = 0x2940 then
    match sub with
    | 5 => s.se.capState
    | 6 => s.se.capSt0
    | 7 => capCountNow s
    | _ => obj s idx sub
  else if idx = 0x2950 then s.se.temps[Fin.ofNat 8 (sub - 1)]
  else obj s idx sub

/-- Serial port STATUS (R437). -/
def uartOwned (s : State) : Bool := s.app.state == 2

/-- ENABLE = 1 and an application image runs (R434). -/
def uartActive (s : State) (n : Fin 2) : Bool := uartOwned s && objB s (0x2A60 + n.val) 1

/-- RTS# is low: the port is active and flow control does not hold it high (R433–R435). FLOW = 2 also holds it while a frame is being received
(DESIGN CHOICE, assumption log 23). -/
def rtsLow (s : State) (n : Fin 2) : Bool :=
  let u := s.uarts[n]
  uartActive s n && !u.rtsWake && (objN s (0x2A60 + n.val) 6 = 0 || (u.rxHold.isNone && !(objN s (0x2A60 + n.val) 6 = 2 && u.rxBusy)))

/-- STATUS of a serial port. -/
def uartStatus (s : State) (n : Fin 2) : Nat :=
  let u := s.uarts[n]
  64 * b2n (rtsLow s n) + 32 * b2n u.ctsLow + 16 * b2n (uartActive s n && u.txShift.isSome) + 8 * b2n u.txHold.isSome
    + 4 * b2n u.rxHold.isSome + 2 * b2n (uartOwned s) + b2n (uartActive s n)

/-- BIT16 of R430. -/
def bit16 (baud : Nat) : Nat := ndivS (3200000000 + baud / 2) baud

/-- Links, network and serial ports: 0x2A00–0x2A61. -/
def readLink (s : State) (idx sub : Nat) : Int :=
  let u := s.usb
  let c := s.cb
  let n := s.net
  if idx = 0x2A01 then
    match sub with
    | 1 => u.state
    | 2 => u.speed
    | 3 => u.wakeCause
    | 4 => b2n u.remoteEn
    | 5 => u.resumes
    | 6 => u.q.recs.length
    | 7 => u.q.lostCount
    | _ => u.recordErrs
  else if idx = 0x2A11 then
    match sub with
    | 1 => b2n c.ioLevel
    | 2 => c.recordErrs
    | 3 => c.underruns
    | 4 => c.q.recs.length
    | _ => c.q.lostCount
  else if idx = 0x2A12 then
    match sub with
    | 1 => c.fifo.length
    | 2 => c.dropped
    | 3 => c.refused
    | 4 => c.lastRefused
    | _ => c.processed
  else if idx = 0x2A41 then
    match sub with
    | 1 => n.nmt
    | 2 => n.nodeAct
    | 3 => n.nomAct
    | 4 => n.dataAct
    | 5 => n.busState
    | 6 => n.tec
    | 7 => n.rec_
    | 8 => n.busoffs
    | 9 => if 2000 ≤ n.dataAct then wrap 8 loopDelay else 0
    | 10 => n.rpdoRefused
    | 11 => n.rpdoShort
    | 12 => n.lastRefusal
    | 13 => n.emcySent
    | 14 => n.emcyLost
    | 15 => n.hbTimeouts
    | _ => n.usdo.length
  else if idx = 0x2A49 then
    match sub with
    | 1 => n.lr.state
    | 2 => n.lr.round
    | 3 => n.lr.outcome
    | 4 => n.lr.reason
    | 5 => n.lr.node
    | 6 => n.lr.wakeCause
    | 7 => n.lr.rounds
    | 8 => n.lr.sleeps
    | _ => n.lr.cancels
  else if idx = 0x2A60 ∨ idx = 0x2A61 then
    let x := s.uarts[Fin.ofNat 2 idx]
    match sub with
    | 8 => uartStatus s (Fin.ofNat 2 idx)
    | 9 => x.rxChars
    | 10 => x.txChars
    | 11 => x.overruns
    | 12 => x.framing
    | 13 => x.parity
    | 14 => x.breaks
    | 15 => x.noise
    | 16 => x.txDrops
    | 17 => bit16 (objN s idx 2)
    | _ => obj s idx sub
  else obj s idx sub

/-- The flagged events with their entries. -/
def flaggedEvents (s : State) : List Nat := (s.rm.recs.filter (fun r => r.2.flag)).map (fun r => r.1)

/-- A bit of ERROR_REGISTER: a flagged and enabled event with R_EMCY has a code that satisfies `f` (R446). -/
def errBit (s : State) (f : Nat → Bool) : Bool :=
  (flaggedEvents s).any (fun e => let v := evEntry s e; entEnable v && bit v 2 && f (v / 65536))

/-- ERROR_REGISTER (R379, R446). -/
def errorRegister (s : State) : Nat :=
  let x := 2 * b2n (errBit s (fun c => c / 4096 == 2)) + 4 * b2n (errBit s (fun c => c / 4096 == 3))
    + 8 * b2n (errBit s (fun c => c / 4096 == 4)) + 16 * b2n (errBit s (fun c => c / 4096 == 8))
    + 128 * b2n (errBit s (fun c => c / 256 == 255))
  x + b2n (x != 0 || decide (s.md.mode = .lockout))

/-- AVS_STATE: off, frozen, at a limit (as the last step left it), or tracking (R464). -/
def avsState (s : State) : Nat :=
  if objN s 0x2D01 1 = 0 then 0 else if objN s 0x2D01 2 = 1 then 2 else if s.pw.avs = 0 then 1 else s.pw.avs

/-- Ringmaster, Trouble Log, Safety Net and power: 0x2B00–0x2D20. -/
def readSys (s : State) (p : Path) (idx sub : Nat) : Int :=
  if idx = 0x2B01 then
    let e := s.rm.sel[p.idx]
    let r := evRec s e
    match sub with
    | 1 => e
    | 2 => evEntry s e
    | 3 => b2n r.flag
    | 5 => r.count
    | 6 => r.lastSt
    | 7 => r.d1
    | 8 => r.d2
    | _ => obj s idx sub
  else if idx = 0x2B02 then
    let fl := flaggedEvents s
    match sub with
    | 1 => fl.length
    | 2 => if fl.isEmpty then 255 else maxN (fl.map (fun e => entPrio (evEntry s e)))
    | 3 => s.rm.lastEvent
    | _ => s.rm.app.recs.length
  else if idx = 0x2C01 then
    match sub with
    | 1 => s.tl.head
    | 2 => s.tl.ring.length
    | 3 => s.tl.nextSeq
    | 4 => s.tl.wraps
    | 5 => s.tl.dropped
    | _ => s.tl.saveResult
  else if idx = 0x2C10 then
    match sub with
    | 1 => inputsWord s
    | 2 => cutsWord s
    | 3 => s.sn.cutCount
    | _ => s.sn.lastCutSt
  else if idx = 0x2D00 then
    match sub with
    | 1 => s.pw.kind
    | 2 => s.pw.volts
    | 3 => s.pw.hz
    | 4 => s.pw.rails[0]
    | 5 => s.pw.iMain
    | 6 => s.pw.pMain
    | 16 => s.pw.flags
    | 17 => s.pw.dips
    | k => ((atN 0 s.pw.rails (k - 6) : Nat) : Int)
  else if idx = 0x2D01 then
    match sub with
    | 8 => s.pw.vcore
    | 9 => s.pw.roMin
    | 10 => avsState s
    | 11 => s.pw.critSteps
    | _ => obj s idx sub
  else if idx = 0x2D03 then
    match sub with
    | 1 => s.tg.bucket
    | 2 => s.tg.allow
    | 3 => if s.tg.off then 0 else s.tg.fBoost
    | 4 => s.tg.fPrint
    | 5 => s.tg.fScan
    | 6 => s.tg.state
    | _ => s.tg.limited
  else if idx = 0x2D08 then
    match sub with
    | 4 => s.pw.wakeCause
    | 5 => s.pw.wakeLatency
    | 6 => s.pw.dozeCount
    | _ => obj s idx sub
  else if idx = 0x2D10 then (if sub = 1 then s.pw.onMask else s.pw.switches)
  else if idx = 0x2D20 then
    match sub with
    | 1 => b2n s.pw.pf.isSome
    | 2 => s.pw.lastCause
    | 3 => s.pw.lastSkipped
    | _ => s.pw.brownouts
  else obj s idx sub

/-- The application's STATE: a halt by the debugger shows as 6 (R505). -/
def appState (s : State) : Nat := if s.app.state = 2 && s.tu.halted then 6 else s.app.state

/-- Versions, images, keys and debug access: 0x2010–0x2012, 0x2E00–0x2E03 (R505). -/
def readBoot (s : State) (idx sub : Nat) : Int :=
  let b := s.boot
  let run := b.slots[b.running]
  if idx = 0x2010 then
    match sub with
    | 2 => run.version
    | 3 => run.api
    | 4 => run.layout
    | 5 => run.mirror
    | 6 => b.rollback
    | _ => obj s idx sub
  else if idx = 0x2011 then
    match sub with
    | 1 => b.running.val + 1
    | 2 => b.slots[0].version
    | 3 => b.slots[0].state
    | 4 => b.slots[0].rollback
    | 5 => b.slots[1].version
    | 6 => b.slots[1].state
    | 7 => b.slots[1].rollback
    | _ => b.bootTime
  else if idx = 0x2012 then
    match sub with
    | 1 => appState s
    | 2 => s.app.version
    | 3 => s.app.apiMin
    | 4 => s.app.apiMax
    | 5 => s.app.layout
    | 6 => s.app.stopCause
    | 7 => s.app.faultPc
    | 8 => s.app.faultCause
    | 9 => s.app.starts
    | _ => b2n b.stageValid
  else if idx = 0x2E00 then
    match sub with
    | 1 => 2 - b.running.val
    | 2 => b.updState
    | 3 => b.lastResult
    | 4 => b.bytesWritten
    | _ => obj s idx sub
  else if idx = 0x2E02 ∧ sub = 10 then
    b.keys[0].state + 4 * b.keys[1].state + 16 * b.keys[2].state + 64 * b.keys[3].state
  else if idx = 0x2E03 then
    if sub ≤ 4 then wrap 64 (freeChallenge (4 * b.challenge + sub - 1))
    else if sub = 14 then (if b.debugOn then 1 else if 8 ≤ b.debugRefused then 2 else 0)
    else obj s idx sub
  else obj s idx sub

/-- A COB-ID that has never been written reads its base plus the node-ID in force (R378); after a write, bits [30] and [28:11]
read as the field map has them (DEDUCED, assumption log 24). -/
def cobId (s : State) (idx sub : Nat) : Int :=
  if s.ctl.cobSet.contains (okey idx sub) then
    (obj s idx sub).toNat / 2147483648 * 2147483648 + 1073741824 + (obj s idx sub).toNat % 2048
  else obj s idx sub + (if idx = 0x1005 then 0 else (s.net.nodeAct : Int))

/-- Is the object a COB-ID? -/
def isCob (idx sub : Nat) : Bool :=
  (idx == 0x1005 || idx == 0x1014) || (sub == 1 && (idx / 4 == 0x500 || idx / 4 == 0x600))

/-- The communication profile: 0x1000–0x1FFF (R377–R379). -/
def readComm (s : State) (idx sub : Nat) : Int :=
  if idx = 0x1001 then errorRegister s
  else if idx = 0x1018 ∧ sub = 4 then wrap 32 unitSerial
  else if idx = 0x1010 ∨ idx = 0x1011 then 1
  else if isCob idx sub then cobId s idx sub
  else obj s idx sub

/-- The value an object that holds a number reads on path `p`, in this cycle (R336). -/
def readNum (s : State) (p : Path) (idx sub : Nat) : Int :=
  if sub = 0 ∧ (highestSub idx).isSome then (highestSub idx).getD 0
  else if idx < 0x2000 then readComm s idx sub
  else if 0x2010 ≤ idx ∧ idx ≤ 0x2012 then readBoot s idx sub
  else if idx < 0x2100 then readCtl s p idx sub
  else if idx < 0x2200 then readMsu s p idx sub
  else if idx < 0x2300 then readTu s idx sub
  else if idx < 0x2500 then readHead s idx sub
  else if idx < 0x2600 then readMedia s idx sub
  else if idx < 0x2700 then readAxis s idx sub
  else if idx < 0x2800 then readImg s idx sub
  else if idx < 0x2900 then readSol s idx sub
  else if idx < 0x2A00 then readSe s idx sub
  else if idx < 0x2B00 then readLink s idx sub
  else if idx < 0x2E00 then readSys s p idx sub
  else readBoot s idx sub

/-! DOMAIN objects and strings. -/

/-- The bytes of an ASCII text. -/
def asciiBytes (cs : List Nat) : List Byte := cs.map (BitVec.ofNat 8)

/-- The decimal digits of a number below 1000, as ASCII. -/
def decimal (n : Nat) : List Nat :=
  if n < 10 then [48 + n] else if n < 100 then [48 + n / 10, 48 + n % 10]
  else [48 + n / 100 % 10, 48 + n / 10 % 10, 48 + n % 10]

/-- A version word as its text major.minor.patch (R483). -/
def versionText (v : Nat) : List Nat :=
  decimal (bits v 23 16) ++ [46] ++ decimal (bits v 15 8) ++ [46] ++ decimal (bits v 7 0)

/-- One waymark entry in the table image: TARGET, CTRL, ACT (R81). -/
def wmBytes (w : Waymark) : List Byte := leBytes 8 w.target ++ leBytes 4 (wmCtrl w) ++ leBytes 4 (wmAct w)

/-- A Trouble Log entry as its 32 bytes (R451). -/
def tlBytes (x : TlEntry) : List Byte :=
  leBytes 8 x.st ++ leBytes 4 x.seq
    ++ leBytes 2 (x.ev + 512 * x.prio + 4096 * b2n x.incomplete + 8192 * b2n x.lost)
    ++ leBytes 1 x.unit ++ leBytes 1 x.lane ++ leBytes 6 (toBits 48 x.pos) ++ leBytes 1 x.mode ++ leBytes 1 0
    ++ leBytes 4 x.d1 ++ leBytes 4 x.d2

/-- TL_IMAGE: the slots in slot order; an empty slot reads zero (R453). -/
def tlImage (s : State) : List Byte :=
  let n := s.tl.ring.length
  let k := if n = 4096 then (4096 - s.tl.head) % 4096 else 0
  let xs := (s.tl.ring.drop k ++ s.tl.ring.take k).flatMap tlBytes
  xs ++ List.replicate (131072 - xs.length) 0

/-- TL_SAVED: the NOR copy; all zero where it is torn or was not attempted (R454). -/
def tlSaved (s : State) : List Byte :=
  let xs := if s.tl.copy.trailer.isSome then s.tl.copy.entries.flatMap tlBytes else []
  xs ++ List.replicate (2048 - xs.length) 0

/-- The content of a DOMAIN object or a string, as it stands in this cycle (R366). -/
def readDom (s : State) (idx : Nat) : List Byte :=
  if idx = 0x1008 then asciiBytes [0x53, 0x56, 0x2D, 0x39, 0x31, 0x34, 0x30]
  else if idx = 0x1009 then asciiBytes [0x33]
  else if idx = 0x100A then asciiBytes (versionText s.boot.slots[s.boot.running].version)
  else if idx = 0x5100 then (upto 1024).flatMap (fun e => wmBytes (wmAt s e))
  else if idx = 0x5B00 then (upto 512).flatMap (fun e => leBytes 4 (evEntry s e))
  else if idx = 0x5C00 then tlImage s
  else if idx = 0x5C01 then tlSaved s
  else dom s idx

/-- The data a read of an object returns. -/
def readData (s : State) (p : Path) (k : Nat) : List Byte :=
  match objRow k with
  | none => leBytes 1 (toBits 8 (readNum s p (k / 256) (k % 256)))
  | some r =>
    match r.ty with
    | .dom | .str => readDom s (k / 256)
    | t => t.toData (readNum s p (k / 256) (k % 256))

end Sys2Proof.Machine
end

