-- ==== Sys2Proof/Machine/Ctl.lean ====
section
/-!
DEFINITION. Ctl.lean: claim groups, staging sets, claims and the service session (spec/11, R340–R349; spec/01, R37, R38), and
what the loss of a path ends (R385, R403, R419).
-/

namespace Sys2Proof.Machine

open Sys2Proof

/-- Is `idx` in a range? -/
def within (a b idx : Nat) : Bool := decide (a ≤ idx) && decide (idx ≤ b)

/-- The claim group of an object's index (R346); none for an object that cannot be claimed. -/
def groupOf (idx : Nat) : Option Nat :=
  if idx = 0x2000 then some 1
  else if within 0x2100 0x2107 idx || within 0x2150 0x2153 idx then some (2 + idx % 4)
  else if within 0x2110 0x211F idx then some (2 + idx % 16 / 4)
  else if idx = 0x2140 || idx = 0x2141 || idx = 0x5100 then some 6
  else if within 0x2220 0x222F idx || within 0x2240 0x2247 idx then some 7
  else if idx = 0x2300 || within 0x2400 0x2403 idx || within 0x5400 0x5403 idx then some 8
  else if idx = 0x2310 || within 0x2410 0x2413 idx || idx = 0x2420 || within 0x5410 0x5414 idx then some 9
  else if idx = 0x2320 then some 10
  else if idx = 0x2500 || within 0x2508 0x2510 idx || idx = 0x2520 || idx = 0x2528 || idx = 0x2540 || idx = 0x2541
    then some 11
  else if within 0x2600 0x260F idx then some (12 + idx % 4)
  else if within 0x2700 0x270B idx || within 0x5700 0x5702 idx then some 16
  else if within 0x2710 0x271B idx || idx = 0x2730 || within 0x5710 0x5712 idx then some 17
  else if within 0x2800 0x2838 idx then some 18
  else if within 0x2900 0x2940 idx || idx = 0x5900 || idx = 0x5901 then some 19
  else if within 0x2020 0x2022 idx then some 20
  else if within 0x2A00 0x2A7F idx then some 21
  else if within 0x2B00 0x2CFF idx then some 22
  else if within 0x2D00 0x2DFF idx then some 23
  else none

/-- The holder of a group. -/
def holder (s : State) (g : Nat) : Option Path := (atN ⟨none, 0⟩ s.ctl.claims g).path

/-- Check 4 of R335: the object is not claimed by another path. -/
def claimLets (s : State) (p : Path) (idx : Nat) : Bool :=
  match groupOf idx with
  | none => true
  | some g =>
    match holder s g with
    | none => true
    | some q => decide (q = p)

/-- Does a path hold any claim (R341)? -/
def holdsAny (s : State) (p : Path) : Bool := s.ctl.claims.toList.any (fun c => decide (c.path = some p))

/-- One claim set. -/
def setClaim (s : State) (g : Nat) (c : Claim) : State :=
  { s with ctl := { s.ctl with claims := updN s.ctl.claims g (fun _ => c) } }

/-- A transaction of a path renews the leases of what it holds (R349); C's last one is kept for R422. -/
def touch (s : State) (p : Path) : State :=
  { s with ctl := { s.ctl with claims := s.ctl.claims.map (fun c => if c.path = some p then { c with lastSt := now s } else c) },
           cb := { s.cb with lastSt := if p = .c then some (now s) else s.cb.lastSt } }

/-! Staging sets. -/

/-- Objects in a set. -/
def stagedCount (g : Staging) : Nat := g.vals.length + g.doms.length

/-- EV009 where something was discarded (R345, R347): `why` 1 claim, 2 DOZE. -/
def noteDiscard (p : Path) (n why : Nat) (s : State) : State :=
  if n = 0 then s else raise s 9 p.ascii (min n 65535 + 65536 * why)

/-- The staged values of a path for objects of group `g` are discarded (R347). -/
def discardGroup (g : Nat) (keep : Path) (s : State) (p : Path) : State :=
  if p = keep then s
  else
    let inG := fun (k : Nat) => decide (groupOf k = some g)
    let x := stagingOf s p
    let vs := x.vals.filter (fun v => inG (v.1 / 256))
    let ds := x.doms.filter (fun v => inG v.1)
    noteDiscard p (vs.length + ds.length) 1
      (modStaging s p (fun x => { vals := x.vals.filter (fun v => !inG (v.1 / 256)), doms := x.doms.filter (fun v => !inG v.1) }))

/-- Every set is discarded at DOZE entry (R345). -/
def discardAll (s : State) : State :=
  applyAll (fun s p => noteDiscard p (stagedCount (stagingOf s p)) 2 (modStaging s p (fun _ => ⟨[], []⟩))) s Path.all

/-- A claim is granted, or renewed (R347). -/
def claimGrant (s : State) (p : Path) (g : Nat) : State :=
  let s1 := setClaim s g ⟨some p, now s⟩
  raise (applyAll (discardGroup g p) s1 Path.all) 11 g p.ascii

/-! The service session. -/

/-- Every SERVICE-ONLY write of the session that has not been stored is discarded (R38). -/
def discardService (s : State) : State :=
  let s1 := applyAll (fun s (x : Nat × Option Int) => setObjK s x.1 (x.2.getD (objDefault x.1))) s s.ctl.preimg
  let s2 := applyAll (fun s (x : Nat × List Byte) => setDom s x.1 x.2) s1 s.ctl.preimgDom
  { s2 with ctl := { s2.ctl with preimg := [], preimgDom := [] } }

/-- The stages of RUN go off again when their entry is given up (R469). -/
def stagesOff (s : State) : State :=
  let s1 := applyAll headOff s (allFin 2)
  let s2 := cutPowerOff (solUnpowered s1)
  { s2 with pw := { s2.pw with stagesOn := false } }

/-- The service session is released or lost: STANDBY follows, and unstored writes are discarded (R38, R348). -/
def sessionEnd (s : State) : State :=
  let s1 := discardService (measAbortAll s 2)
  if s1.md.mode = .service && s1.md.trans.isNone then leaveRun s1 4 none
  else
    match s1.md.trans with
    | some t =>
      if t.target = .service then stagesOff { s1 with md := { s1.md with trans := none, held := false } } else s1
    | none => s1

/-- A group is freed; with group 0 the session ends. -/
def freeGroup (s : State) (g : Nat) : State :=
  let s1 := setClaim s g ⟨none, 0⟩
  if g = 0 then sessionEnd s1 else s1

/-- A claim lapses (R349): 1 path lost, 2 lease, 3 DOZE, 4 application stopped. -/
def claimLapse (why : Nat) (s : State) (g : Nat) : State :=
  match holder s g with
  | none => s
  | some p => freeGroup (raise s 12 g (p.ascii + 256 * why)) g

/-- Every claim of a path lapses. -/
def lapsePath (why : Nat) (s : State) (p : Path) : State :=
  applyAll (claimLapse why) s ((upto 24).filter (fun g => decide (holder s g = some p)))

/-- RELEASE of a group held by the writer, or of every such group (R347). -/
def claimRelease (s : State) (p : Path) (g : Nat) : State :=
  if g = 255 then applyAll freeGroup s ((upto 24).filter (fun g => decide (holder s g = some p)))
  else if holder s g = some p then freeGroup s g else s

/-- The lease of a group in ticks; 0 for none (R349). -/
def leaseTicks (s : State) (g : Nat) : Nat := 200000 * (if g = 0 then objN s 0x2002 4 else objN s 0x2002 3)

/-- Has the holder made no transaction for the lease time? -/
def leaseOver (s : State) (g : Nat) : Bool :=
  let c := atN ⟨none, 0⟩ s.ctl.claims g
  c.path.isSome && decide (0 < leaseTicks s g) && decide (c.lastSt + leaseTicks s g ≤ now s)

/-! Open transfers. -/

/-- The open DOMAIN transfer of a path is abandoned with no effect (R385); a system image stays incomplete (R490). -/
def dropXfer (s : State) (p : Path) : State :=
  match s.ctl.xfers[p.idx] with
  | none => s
  | some x =>
    let s1 := { s with ctl := { s.ctl with xfers := upd s.ctl.xfers p.idx (fun _ => none) } }
    if x.wr && x.idx == 0x5E00 then { s1 with boot := { s1.boot with updState := 0 } } else s1

/-- What the loss of any path does (R349, R385). -/
def losePath (s : State) (p : Path) : State := lapsePath 1 (dropXfer s p) p

end Sys2Proof.Machine
end

