-- ==== Sys2Proof/Machine/Link.lean ====
section
/-!
DEFINITION. Link.lean: event queues, stream records in both directions, the attachment and loss of the paths H, C and N, the
Mirror and the CAN frames the engine sends (spec/13, R381–R403; spec/14, R412–R419).
-/

namespace Sys2Proof.Machine

open Sys2Proof

/-! Event queues (R391, R444). -/

/-- A record enters a queue that holds at most `cap`; answers whether it was the first drop of a run. -/
def evqPush (q : EvQueue) (cap ev prio d1 d2 st : Nat) : EvQueue × Bool :=
  if q.recs.length < cap then
    ({ q with recs := q.recs ++ [⟨ev, prio, q.lostNext, q.seq, d1, d2, wrap 32 st⟩], seq := wrap 16 (q.seq + 1),
              lostNext := false, lostRun := false }, false)
  else ({ q with lostNext := true, lostCount := inc32 q.lostCount, lostRun := true }, !q.lostRun)

/-- An event record as its 16 bytes (R391). -/
def evBytes (r : EvtRec) : List Byte :=
  leBytes 2 (r.ev + 4096 * r.prio + 32768 * b2n r.lost) ++ leBytes 2 r.seq ++ leBytes 4 r.d1 ++ leBytes 4 r.d2
    ++ leBytes 4 r.st

/-! USB attachment (R381) and the loss of H (R403). -/

/-- USB changed. -/
def modUsb (s : State) (f : UsbSt → UsbSt) : State := { s with usb := f s.usb }
/-- The companion bus changed. -/
def modCb (s : State) (f : CbSt → CbSt) : State := { s with cb := f s.cb }
/-- The network changed. -/
def modNet (s : State) (f : NetSt → NetSt) : State := { s with net := f s.net }
/-- The Last Ride round changed. -/
def modLr (s : State) (f : LrSt → LrSt) : State := modNet s (fun n => { n with lr := f n.lr })
/-- One serial port changed. -/
def modUart (s : State) (n : Fin 2) (f : UartSt → UartSt) : State := { s with uarts := upd s.uarts n f }

/-- Does the mode allow the D+ pull-up (R381)? -/
def pullupMode (s : State) : Bool :=
  match s.md.mode with
  | .boot => false
  | .doze => s.md.restored
  | _ => true

/-- The pull-up is applied: H can be lost (DEDUCED, assumption log 25). -/
def usbUp (s : State) : Bool := s.usb.state != 0

/-- The pull-up is applied where VBUS is valid and the mode allows it. -/
def usbAttach (s : State) : State :=
  if s.usb.vbus && pullupMode s && s.usb.state == 0 then modUsb s (fun u => { u with state := 1 }) else s

/-- H is lost with its cause: 1 reset, 2 VBUS, 3 deconfigured, 4 DOZE; a partly received record is discarded (R403), a partly sent one is to be
sent again from its first byte (R390). -/
def loseH (s : State) (cause : Nat) : State :=
  if usbUp s then
    let s1 := losePath s .h
    raise (modUsb s1 (fun u => { u with inp := { u.inp with buf := [], named := none, halted := false }, inOff := 0, inFull := false }))
      449 cause 0
  else s

/-- The link leaves whatever state it was in; a remote wake under way ends with it. -/
def usbTo (s : State) (st : Nat) : State :=
  modUsb s (fun u => { u with state := st, prev := 0, rw := .idle, attempts := 0, hostK := false,
                              speed := (if st < 2 then 0 else u.speed) })

/-- The pull-up is removed (R381). -/
def usbDetach (s : State) (cause : Nat) : State := usbTo (loseH s cause) 0

/-- C is lost (R403). -/
def loseC (s : State) : State :=
  let s1 := losePath s .c
  raise (modCb s1 (fun c => { c with inp := { c.inp with buf := [], named := none } })) 458 0 0

/-- N is lost with its cause: 1 reset, 2 bus-off, 3 standby, 4 DOZE; USDO sessions are abandoned (R419). -/
def loseN (s : State) (cause : Nat) : State :=
  let s1 := losePath s .n
  raise (modNet s1 (fun n => { n with usdo := [], usdoWait := [] })) 475 cause 0

/-! Incoming records (R386–R389). -/

/-- Free bytes of the 4 MB of stream staging. -/
def streamBytes (i : StreamIn) : Nat := i.buf.length + sumN (i.waits.map (fun w => 8 + w.len))

/-- IN_SPACE: what both incoming streams leave of stream staging. -/
def inSpace (s : State) : Nat := 4194304 - (streamBytes s.usb.inp + streamBytes s.cb.inp)

/-- The lines of a body, `n` of them, that fill it exactly. -/
def splitLines : Nat → List Byte → Option (List (Nat × List Byte))
  | 0, [] => some []
  | 0, _ => none
  | n + 1, b =>
    let w := rdLE b 0 4
    let len := w % 65536
    if b.length < 4 + len then none
    else
      match splitLines n (b.drop (4 + len)) with
      | some ls => some ((w, (b.drop 4).take len) :: ls)
      | none => none

/-- What the bytes at the head of a stream amount to: more is needed, an error with its reason, or a record and its
length in bytes (R389). `named` says whether the record's path is the one STREAM_CONFIG names. -/
def scanRecord (buf : List Byte) (named : Bool) : Option (Except Nat (RasterWait × Nat)) :=
  let t := rdLE buf 0 1
  let h := rdLE buf 1 1
  let n := rdLE buf 2 2
  let len := rdLE buf 4 4
  if buf.length < 1 then none
  else if t ≠ 0x10 then some (.error 1)
  else if buf.length < 2 then none
  else if 1 < h then some (.error 2)
  else if buf.length < 8 then none
  else if n = 0 || 1048576 < len then some (.error 3)
  else if buf.length < 8 + len then none
  else
    match splitLines n ((buf.drop 8).take len) with
    | none => some (.error 4)
    | some ls => if named then some (.ok (⟨Fin.ofNat 2 h, len, ls⟩, 8 + len)) else some (.error 5)

/-- The path that STREAM_CONFIG names for the raster of the head a record is for. -/
def rasterNamed (s : State) (p : Path) (buf : List Byte) : Bool :=
  decide (objN s 0x2A02 (2 + rdLE buf 1 1 % 2) = p.ascii)

/-- The incoming stream of H or C. -/
def inStream (s : State) (p : Path) : StreamIn := if p = .c then s.cb.inp else s.usb.inp

/-- The incoming stream of H or C changed. -/
def modStream (s : State) (p : Path) (f : StreamIn → StreamIn) : State :=
  if p = .c then modCb s (fun c => { c with inp := f c.inp }) else modUsb s (fun u => { u with inp := f u.inp })

/-- A record error: the record is discarded, the stream discards data until it is cleared; EV454 (R389). -/
def recordError (s : State) (p : Path) (reason : Nat) : State :=
  let s1 := modStream s p (fun i => { i with buf := [], halted := true, odd := false, named := none })
  let s2 := if p = .c then modCb s1 (fun c => { c with recordErrs := inc32 c.recordErrs })
            else modUsb s1 (fun u => { u with recordErrs := inc32 u.recordErrs })
  raise s2 454 (p.ascii + 256 * reason) (if p = .c then s2.cb.recordErrs else s2.usb.recordErrs)

/-- One record, or the pad byte of C, is taken off the head of a stream; none where more bytes are needed. -/
def streamStep (s : State) (p : Path) : Option State :=
  let i := inStream s p
  if i.buf.isEmpty || i.halted then none
  else if i.odd then some (modStream s p (fun i => { i with buf := i.buf.drop 1, odd := false }))
  else
    match scanRecord i.buf (i.named.getD (rasterNamed s p i.buf)) with
    | none => none
    | some (.error r) => some (recordError s p r)
    | some (.ok (w, k)) =>
      some (modStream s p (fun i => { i with buf := i.buf.drop k, waits := i.waits ++ [w], named := none,
                                             odd := p = .c && k % 2 == 1 }))

/-- Records are taken off a stream as long as they are complete; `n` bounds them by the bytes held. -/
def streamRun : Nat → State → Path → State
  | 0, s, _ => s
  | n + 1, s, p =>
    match streamStep s p with
    | none => s
    | some t => streamRun n t p

/-- Bytes arrive on the incoming stream of H or C (R388, R389). -/
def streamReceive (s : State) (p : Path) (bs : List Byte) : State :=
  if (inStream s p).halted then s
  else
    let s1 := modStream s p (fun i => { i with buf := i.buf ++ bs })
    let s2 := streamRun (bs.length + 2) s1 p
    modStream s2 p (fun i =>
      { i with named := if i.named.isNone && decide (2 ≤ i.buf.length) && !i.odd then some (rasterNamed s2 p i.buf) else i.named })

/-- A raster line from its header word and payload (R114). -/
def lineOf (x : Nat × List Byte) : RasterLine :=
  { rsn := 0, fmt := bits x.1 21 20, elig := bit x.1 23, len := x.1 % 65536, payload := x.2, printed := false, leaving := false }

/-- The first waiting record, of a head with none before it, whose body fits the free space of its head (R388). -/
def acceptable (s : State) : List RasterWait → List (Fin 2) → Option RasterWait
  | [], _ => none
  | w :: r, seen =>
    if !seen.contains w.head && decide (w.len ≤ rasterFree s w.head) then some w else acceptable s r (w.head :: seen)

/-- A waiting raster record is accepted: its lines take the next RSNs of its head (R113, R388). -/
def rasterAccept (s : State) (p : Path) : State :=
  match acceptable s (inStream s p).waits [] with
  | none => s
  | some w => rasterAdd (modStream s p (fun i => { i with waits := i.waits.erase w })) w.head (w.lines.map lineOf)

/-- Waiting records of a path are accepted as long as one fits; `n` bounds them by the records that wait. -/
def acceptRun : Nat → State → Path → State
  | 0, s, _ => s
  | n + 1, s, p => acceptRun n (rasterAccept s p) p

/-- In the first cycle in which a record fits it is accepted (R388), those of H before those of C (DESIGN CHOICE, assumption log 129). -/
def acceptAll (s : State) : State :=
  let s1 := acceptRun s.usb.inp.waits.length s .h
  acceptRun s1.cb.inp.waits.length s1 .c

/-- A waiting record can be accepted. -/
def acceptDue (s : State) : Bool :=
  (acceptable s s.usb.inp.waits []).isSome || (acceptable s s.cb.inp.waits []).isSome

/-! Outgoing records (R386, R387, R390). -/

/-- A record as C sends it: an odd length is followed by a zero pad byte (R386). -/
def paddedLen (r : CarRec) : Nat := r.bytes.length + r.bytes.length % 2

/-- The records that wait for a path. -/
def recsFor (s : State) (p : Path) : List CarRec := s.img.recs.filter (fun r => decide (recPath s r = some p))

/-- OUT_AVAIL: bytes of whole records ready on the OUT port. -/
def outAvail (s : State) : Nat := sumN ((recsFor s .c).map paddedLen) - 2 * s.cb.outOff

/-- An SE_WORDS record is made where the stream mode is chosen, the queue holds words, and none of its path waits (R387). -/
def seRecord (s : State) : State :=
  if objN s 0x2930 6 ≠ 2 || s.se.queue.isEmpty || s.img.recs.any (fun r => r.se && decide (recPath s r = Path.ofAscii (objN s 0x2A02 4))) then s
  else
    let ws := s.se.queue.take 128
    let hdr := leBytes 1 6 ++ leBytes 1 0 ++ leBytes 2 0 ++ leBytes 4 ws.length ++ leBytes 4 (8 * ws.length) ++ leBytes 4 0
    let s1 := wmRearm { s with se := { s.se with queue := s.se.queue.drop 128 } }
    pushSeRec s1 (hdr ++ ws.flatMap (leBytes 8))

/-! CAN frames. -/

/-- The engine sends and receives: the dictionary is live, and the bus is neither off nor in standby (R412, R413). -/
def canLive (s : State) : Bool := dictLive s && s.net.busState != 2 && s.net.busState != 3

/-- A frame is sent in this cycle. -/
def sendFrame (s : State) (f : CanFrame) : State :=
  modNet s (fun n => { n with tx := (if n.txSt = now s then n.tx else []) ++ [f], txSt := now s })

/-- A CANopen frame is sent: ISO CAN FD, with BRS where DATA_ACT exceeds NOMINAL_ACT (R407). -/
def sendCan (s : State) (id : Nat) (data : List Byte) : State :=
  sendFrame s ⟨id, data, true, decide (s.net.nomAct < s.net.dataAct)⟩

/-- The NMT state changes; EV467 with the command, 0 if none (R413). -/
def nmtTo (s : State) (st cmd : Nat) : State :=
  if s.net.nmt = st then s
  else raise (modNet s (fun n => { n with nmt := st })) 467 (s.net.nmt + 256 * st) cmd

/-- ERR_BEHAVIOUR after a bus-off or a heartbeat timeout (R412). -/
def errBehaviour (s : State) : State :=
  match objN s 0x1029 1 with
  | 0 => if s.net.nmt = 5 then nmtTo s 0x7F 0 else s
  | 2 => nmtTo s 4 0
  | _ => s

/-- The transceiver enters standby: N is lost and the EMCY queue is emptied (R417, R419, R426). -/
def canStandby (s : State) (cause : Nat) : State :=
  let s1 := if s.net.busState = 3 then s else loseN s cause
  modNet s1 (fun n => { n with busState := 3, emcyQ := [] })

/-- The transceiver leaves standby: NMT INITIALISING, error counters clear (R413). -/
def canUp (s : State) : State :=
  modNet (nmtTo s 0 0) (fun n => { n with busState := 0, tec := 0, rec_ := 0 })

/-- Host queues, EMCY queue and application queue are emptied at DOZE entry (R391, R417). -/
def emptyQueues (s : State) : State :=
  let e := fun (q : EvQueue) => { q with recs := [], lostNext := false, lostRun := false }
  let s1 := modUsb s (fun u => { u with q := e u.q, packet := [] })
  let s2 := modCb s1 (fun c => { c with q := e c.q, evOff := 0 })
  let s3 := modNet s2 (fun n => { n with emcyQ := [] })
  { s3 with rm := { s3.rm with app := e s3.rm.app } }

/-! The Mirror (R396, R397). -/

/-- MB_STATUS (R400). -/
def mbStatus (s : State) : Nat :=
  let m := s.cb.mb
  m.code + 256 * b2n m.busy + 512 * b2n m.done + 1024 * b2n m.ignored

/-- Fields 0x000–0x047. -/
def mirrorLow (s : State) : List Byte :=
  leBytes 2 2 ++ leBytes 2 (s.md.mode.code + 256 * b2n s.md.held) ++ leBytes 2 s.cb.fifo.length ++ leBytes 2 (mbStatus s)
    ++ leBytes 8 (now s)
    ++ (allFin 4).flatMap (fun i => leBytes 8 (toBits 64 s.msu.lanes[i].pos))
    ++ (allFin 4).flatMap (fun i => leBytes 4 (toBits 32 (laneVelocity s i)))
    ++ leBytes 2 (sumN ((allFin 4).map (fun i => s.msu.lanes[i].dir.code * 4 ^ i.val)))
    ++ leBytes 2 (sumN ((allFin 4).map (fun n => axState s n * 16 ^ n.val)))
    ++ leBytes 2 s.cb.q.recs.length ++ leBytes 2 0

/-- The flags, eight events to a byte. -/
def mirrorFlags (s : State) : List Byte :=
  (upto 64).map (fun b => BitVec.ofNat 8 (sumN ((upto 8).map (fun k => b2n (evRec s (8 * b + k)).flag * 2 ^ k))))

/-- Fields 0x088–0x0E3. -/
def mirrorHigh (s : State) : List Byte :=
  leBytes 4 s.govs[0].runway ++ leBytes 4 s.govs[1].runway ++ leBytes 4 s.govs[0].vCap ++ leBytes 4 s.govs[1].vCap
    ++ (upto 32).map (fun b => BitVec.ofNat 8 (s.ledger.jobs[Fin.ofNat 64 (2 * b)].state
        + 16 * s.ledger.jobs[Fin.ofNat 64 (2 * b + 1)].state))
    ++ leBytes 2 s.pw.rails[0] ++ leBytes 2 s.pw.rails[1] ++ leBytes 2 s.pw.rails[2] ++ leBytes 2 s.pw.rails[3]
    ++ leBytes 2 s.pw.rails[4] ++ leBytes 2 s.pw.rails[5] ++ leBytes 2 s.pw.rails[8] ++ leBytes 2 0
    ++ leBytes 4 s.heads[0].linesPrinted ++ leBytes 4 s.heads[1].linesPrinted
    ++ leBytes 4 s.img.ports[0].nextLsn ++ leBytes 4 s.img.ports[1].nextLsn
    ++ leBytes 4 (carouselFree s) ++ leBytes 4 (inSpace s) ++ leBytes 4 (outAvail s)

/-- The Mirror as a snapshot takes it; offsets past the last field read zero. -/
def mirrorImage (s : State) : List Byte := mirrorLow s ++ mirrorFlags s ++ mirrorHigh s

/-- Does a Mirror read at `a` take a new snapshot (R397)? -/
def mirrorFresh (s : State) (a : Nat) : Bool :=
  match s.cb.mirror.prev with
  | none => true
  | some p => decide (a ≤ p) || decide (s.cb.mirror.prevSt + objN s 0x2A10 3 < now s)

/-- The Mirror as the last completed cycle left it (R397); where none has ended, as it stands. -/
def mirrorLast (s : State) : List Byte := s.cb.mirror.last.getD (mirrorImage s)

/-- The cycle that ends is the one the next snapshot shows (R397). -/
def mirrorNote (s : State) : State := modCb s (fun c => { c with mirror := { c.mirror with last := some (mirrorImage s) } })

/-- A Mirror read of the word at byte address `a` (R397). -/
def mirrorRead (s : State) (a : Nat) : State :=
  let snap := if mirrorFresh s a then mirrorLast s else s.cb.mirror.snap
  modCb s (fun c => { c with mirror := ⟨some a, now s, snap, c.mirror.last⟩, word := rdLE snap a 2 })

/-- An access outside the Mirror: the next Mirror read takes a new snapshot (R397). -/
def cbAccess (s : State) : State := modCb s (fun c => { c with mirror := { c.mirror with prev := none } })

/-- The companion bus is powered: PD51 is off in DOZE only, from the handover to the recognition of a wake (R395, R462). -/
def cbPowered (s : State) : Bool := s.pw.on && (decide (s.md.mode ≠ .doze) || s.md.trans.isSome)

/-- CB_IRQ# is low (R402). -/
def cbIrq (s : State) : Bool :=
  let en := objN s 0x2A10 1
  (bit en 0 && !s.cb.q.recs.isEmpty) || (bit en 1 && s.cb.mb.done) || (bit en 2 && decide (objN s 0x2A10 2 ≤ outAvail s))
    || (bit en 3 && decide (s.cb.refused ≠ s.cb.refusedSeen))

end Sys2Proof.Machine
end

