-- ==== Sys2Proof/Machine/App.lean ====
section
/-!
DEFINITION. App.lean: image headers and their checks, the choice of the system image, and the start and stop of the
application (spec/17, R483, R484, R494–R500).
-/

namespace Sys2Proof.Machine

open Sys2Proof

/-- Boot and image state changed. -/
def modBoot (s : State) (f : BootSt → BootSt) : State := { s with boot := f s.boot }
/-- The application core changed. -/
def modApp (s : State) (f : AppSt → AppSt) : State := { s with app := f s.app }

/-! Images (R483). -/

/-- MAGIC, header version and KIND are those of kind `k` (1 system, 2 application). -/
def headerOk (b : List Byte) (k : Nat) : Bool :=
  decide (512 ≤ b.length) && decide (rdLE b 0 4 = 0x53560000 + k) && decide (rdLE b 4 2 = 1) && decide (rdLE b 6 2 = k)

/-- The body an image's header announces. -/
def imageBody (b : List Byte) : List Byte := (b.drop 512).take (rdLE b 20 4)

/-- The body is whole and its digest is the header's. -/
def digestOk (b : List Byte) : Bool :=
  decide (512 + rdLE b 20 4 ≤ b.length) && decide (sha256Bytes (imageBody b) = sliceBytes b 48 32)

/-- The signature over bytes 0–79 verifies under a public key; r and s are read least significant byte first (DEDUCED, assumption
log 26). -/
def signedBy (b : List Byte) (x y : Nat) : Bool := ecdsaOk x y (sha256 (b.take 80)) (rdLE b 80 32) (rdLE b 112 32)

/-- What a system image slot holds after a completed transfer of these bytes (R490). -/
def slotOf (b : List Byte) : SysSlot :=
  { present := headerOk b 1, version := rdLE b 8 4, rollback := rdLE b 12 1, api := rdLE b 14 2, layout := rdLE b 16 2,
    mirror := rdLE b 18 2, boards := (upto 8).map (fun i => rdLE b (32 + 2 * i) 2),
    verified := digestOk b && signedBy b vendorKeyX vendorKeyY, incomplete := false, empty := false, fails := 0, state := 0 }

/-- The first check of R484 a slot fails, 0 for none; `four` says whether check 4 is made. -/
def slotCheck (s : State) (x : SysSlot) (four : Bool) : Nat :=
  if !x.present || x.incomplete then 1
  else if !x.boards.contains (objN s 0x2010 1) then 2
  else if x.rollback < s.boot.rollback then 3
  else if four && decide (3 ≤ x.fails) then 4
  else if !x.verified then 5
  else 0

/-- A_STATE or B_STATE of a failed check (R505). -/
def stateOfCheck (x : SysSlot) (c : Nat) : Nat :=
  if x.empty then 0 else if x.incomplete then 6
  else match c with
    | 0 => 1
    | 1 => 2
    | 2 => 3
    | 3 => 4
    | 4 => 5
    | _ => 7

/-- The slots in the order they are tried: the higher version first, A where they are equal (R484). -/
def slotOrder (s : State) : List (Fin 2) :=
  if s.boot.slots[0].version < s.boot.slots[1].version then [1, 0] else [0, 1]

/-- The slot the ROM starts, if any qualifies (R484). -/
def chosenSlot (s : State) : Option (Fin 2) :=
  (slotOrder s).find? (fun i => decide (slotCheck s s.boot.slots[i] true = 0))

/-- The first check a slot fails at start-up, 0 for none: checks 1–4 are made of both slots, check 5 of the slots that pass them in the order
they are tried, up to the first that passes (R484). -/
def romCheck (s : State) (i : Fin 2) : Nat :=
  let x := s.boot.slots[i]
  let c := slotCheck s { x with verified := true } true
  if c ≠ 0 then c
  else if chosenSlot s = some (1 - i) && (slotOrder s).head? = some (1 - i) then 0
  else slotCheck s x true

/-- Every slot's state is recorded (R484). -/
def recordSlots (s : State) : State :=
  modBoot s (fun b => { b with slots := Vector.ofFn (fun i =>
    { s.boot.slots[i] with state := stateOfCheck s.boot.slots[i] (romCheck s i) }) })

/-! Application memory (R498). -/

/-- Bytes laid out from an address; a zero byte is what an unlisted address reads as. -/
def memOf (addr : Nat) (bs : List Byte) : SMap Byte :=
  ((List.range bs.length).zip bs).filterMap (fun x => if x.2 = 0 then none else some (addr + x.1, x.2))

/-- Bytes written at an address, in rising order. -/
def memWrite : SMap Byte → Nat → List Byte → SMap Byte
  | m, _, [] => m
  | m, a, b :: bs => memWrite (SMap.put (fun _ => 0) m a b) (a + 1) bs

/-- One byte of application memory. -/
def memRead (m : SMap Byte) (a : Nat) : Byte := SMap.get (fun _ => 0) m a

/-- The regions open to the application (R498). -/
def appRegion (a : Nat) : Bool :=
  within 0 0x7FFFF a || within 0x80000000 0x807FFFFF a || within 0x90000000 0x900FFFFF a

/-- The B7 mailbox holds the whole buffer. -/
def inMailbox (a n : Nat) : Bool := decide (0x90000000 ≤ a) && decide (a + n ≤ 0x90100000)

/-! Start and stop (R494–R500). -/

/-- Does the image's key slot hold the key that signed it? -/
def appSigned (s : State) (b : List Byte) : Bool :=
  let k := s.boot.keys[Fin.ofNat 4 (rdLE b 13 1)]
  digestOk b && signedBy b k.x k.y

/-- Is the image's KEY_SLOT ACTIVE? -/
def keyActive (s : State) (b : List Byte) : Bool :=
  decide (rdLE b 13 1 < 4) && decide (s.boot.keys[Fin.ofNat 4 (rdLE b 13 1)].state = 1)

/-- R494 check 2. -/
def appImageOk (s : State) (b : List Byte) : Bool :=
  headerOk b 2 && objB s 0x2E01 1 && keyActive s b && appSigned s b

/-- The number EV505 gives for a failed application image: R484 numbers the header and the signature; the spec numbers no
other check of R494, so that value is free (DESIGN CHOICE, assumption log 27). -/
def appFailed (s : State) (b : List Byte) : Nat :=
  if !headerOk b 2 then 1
  else if objB s 0x2E01 1 && keyActive s b then 5
  else wrap 32 (freeReading s.free)

/-- EV505 for the application. -/
def rejectApp (s : State) (b : List Byte) : State := takeFree (raise s 505 2 (appFailed s b))

/-- The application stops with a cause (R500). -/
def appStop (s : State) (cause : Nat) : State :=
  if s.app.state ≠ 2 then s
  else
    let s1 := modApp s (fun a => { a with state := 3, stopCause := cause, waiting := none, mem := [] })
    let s2 := lapsePath 4 (dropXfer s1 .a) .a
    let s3 := { s2 with rm := { s2.rm with app := { s2.rm.app with recs := [], lostNext := false, lostRun := false } } }
    let s4 := applyAll (fun s n => modUart s n (fun u => { u with txShift := none })) s3 (allFin 2)
    raise s4 507 cause s4.app.faultCause

/-- A staged image that is valid is copied over the application image (R494 step 1). -/
def appTakeStaged (s : State) : State :=
  if s.boot.stageValid then modBoot s (fun b => { b with appNor := b.appStage, appStage := [], stageValid := false }) else s

/-- What the header of the application image reports. -/
def appHeader (s : State) : State :=
  let b := s.boot.appNor
  modApp s (fun a => { a with version := rdLE b 8 4, apiMin := rdLE b 14 2, apiMax := rdLE b 16 2, layout := rdLE b 18 2 })

/-- The image runs: memory is loaded and execution starts at the entry offset (R494 steps 4–6). -/
def appRun (s : State) : State :=
  let b := s.boot.appNor
  let body := imageBody b
  modApp s (fun a =>
    { a with state := 2, starts := inc32 a.starts, entry := rdLE b 24 4, kickSt := now s, haltTicks := 0, haltSt := now s,
             waiting := none, accFault := none,
             mem := memOf 0 (body.take 524288) ++ memOf 0x80000000 (body.drop 524288) })

/-- EV506 with its bits (R495, R496). -/
def apiEvent (s : State) (bitsOf : Nat) : State := raise s 506 bitsOf (s.app.apiMin + 65536 * s.app.apiMax)

/-- The application is started (R494–R496); a start while it runs counts as a stop with cause 1 first. -/
def appStart (s : State) : State :=
  let s1 := appTakeStaged (appStop s 1)
  let run := s1.boot.slots[s1.boot.running]
  if s1.boot.appNor.isEmpty then modApp s1 (fun a => { a with state := 0 })
  else
    let s2 := appHeader s1
    if !appImageOk s2 s2.boot.appNor then rejectApp (modApp s2 (fun a => { a with state := 5 })) s2.boot.appNor
    else if run.api < s2.app.apiMin || s2.app.apiMax < run.api then apiEvent (modApp s2 (fun a => { a with state := 4 })) 1
    else
      let s3 := appRun s2
      if s3.app.layout = run.layout then s3 else apiEvent s3 2

end Sys2Proof.Machine
end

