-- ==== Sys2Proof/Machine/SafetyNet.lean ====
section
/-!
DEFINITION. SafetyNet.lean: the inputs of the Safety Net, its output and head cuts with their reactions, its release, and the
clear of LOCKOUT (spec/15, R445–R449; spec/01, R40, R41).
-/

namespace Sys2Proof.Machine

open Sys2Proof

/-- The Safety Net changed. -/
def modSn (s : State) (f : SnSt → SnSt) : State := { s with sn := f s.sn }

/-- One more cut in CUT_COUNT and LAST_CUT_ST. -/
def countCut (s : State) : State := modSn s (fun n => { n with cutCount := inc32 n.cutCount, lastCutSt := wrap 64 (now s) })

/-- The reactions to an output cut that begins (R447). -/
def outputCutActs (s : State) : State :=
  let s1 := applyAll cutStrobes (countCut s) (allFin 2)
  let s2 := cutAbort (solSnCut (measAbortAll s1 3))
  applyAll axSnStop s2 (allFin 4)

/-- The reactions to a head cut that begins (R447). -/
def headCutActs (s : State) (h : Fin 2) : State := measAbort (cutStrobes (countCut s) h) h 3

/-- The axes take GO again once the output cut has ended (R226). -/
def axesReleased (s : State) : State := applyAll (fun s n => modAxis s n (fun x => { x with snHeld := false })) s (allFin 4)

/-- What follows from a change of the inputs since `before`: cuts that begin, and EV501 when the last one has ended. -/
def cutsFollow (before s : State) : State :=
  let s1 := if outputCut s && !outputCut before then outputCutActs s else s
  let s2 := applyAll (fun t h => if headCut s h && !headCut before h then headCutActs t h else t) s1 (allFin 2)
  let s3 := if outputCut before && !outputCut s then axesReleased s2 else s2
  if cutsWord before ≠ 0 && cutsWord s = 0 then raise s3 501 (inputsWord s3) s3.sn.cutCount else s3

/-- An input of the Safety Net changes: its event is raised with INPUTS and CUTS as they then stand. -/
def snInput (s : State) (f : SnSt → SnSt) (ev : Nat) (d1 d2 : State → Nat) : State :=
  let s1 := modSn s f
  cutsFollow s (raise s1 ev (d1 s1) (d2 s1))

/-- COVER# low (R447). -/
def coverAssert (s : State) : State :=
  if !s.pw.on || s.sn.coverLow then s
  else snInput s (fun n => { n with coverLow := true, coverDue := none }) 496 inputsWord cutsWord

/-- COVER# high: the release time starts. -/
def coverDeassert (s : State) : State :=
  if !s.pw.on || !s.sn.coverLow then s
  else snInput s (fun n => { n with coverLow := false, coverDue := some (now s + 2000000) }) 497 inputsWord (fun _ => 0)

/-- The release time of COVER has run out. -/
def coverRelease (s : State) : State :=
  match s.sn.coverDue with
  | none => s
  | some t => if t ≤ now s then cutsFollow s (modSn s (fun n => { n with coverDue := none })) else s

/-- HALT# falls, or returns high. -/
def haltPin (s : State) (low : Bool) : State :=
  if !s.pw.on || s.sn.haltLow == low then s
  else if low then snInput s (fun n => { n with haltLow := true, haltLatch := true }) 498 inputsWord cutsWord
  else cutsFollow s (modSn s (fun n => { n with haltLow := false }))

/-- The over-temperature comparator of a head asserts. -/
def otAssert (s : State) (h : Fin 2) : State :=
  if !s.pw.on || s.sn.ot[h] then s
  else snInput s (fun n => { n with ot := upd n.ot h (fun _ => true), otLatch := upd n.otLatch h (fun _ => true) }) 499
    (fun _ => h.val) inputsWord

/-- The over-temperature comparator of a head deasserts. -/
def otDeassert (s : State) (h : Fin 2) : State := cutsFollow s (modSn s (fun n => { n with ot := upd n.ot h (fun _ => false) }))

/-- The over-voltage comparator of a head asserts at `v` mV. -/
def ovAssert (s : State) (h : Fin 2) (v : Nat) : State :=
  if !s.pw.on || s.sn.ov[h] then s
  else snInput s (fun n => { n with ov := upd n.ov h (fun _ => true), ovLatch := upd n.ovLatch h (fun _ => true) }) 500
    (fun _ => h.val) (fun _ => v)

/-- The over-voltage comparator of a head deasserts. -/
def ovDeassert (s : State) (h : Fin 2) : State := cutsFollow s (modSn s (fun n => { n with ov := upd n.ov h (fun _ => false) }))

/-- An event cut falls due: EV502 with the event routed and its detail word 1 (R444, R447). -/
def eventCut (s : State) (x : ST × Nat × Nat) : State :=
  snInput s (fun n => { n with evLatch := true }) 502 (fun _ => x.2.1) (fun _ => x.2.2)

/-- The event cuts that are due (tMS43). -/
def eventCutsDue (s : State) : State :=
  let due := s.rm.cutDue.filter (fun x => x.1 ≤ now s)
  if due.isEmpty then s
  else applyAll eventCut { s with rm := { s.rm with cutDue := s.rm.cutDue.filter (fun x => !decide (x.1 ≤ now s)) } } due

/-- A monitor self-test has ended; `bad` is the failing input bit, if one fails (R449). -/
def selfTest (s : State) (bad : Option Nat) : State :=
  match bad with
  | none => modSn s (fun n => { n with monFail := false })
  | some b => snInput s (fun n => { n with monFail := true, monLatch := true }) 503 (fun _ => b) (fun _ => 0)

/-- Is a latched input still asserted (R448)? -/
def latchHeld (s : State) : Bool :=
  (s.sn.haltLatch && s.sn.haltLow) || (s.sn.monLatch && s.sn.monFail) || (s.sn.otLatch[0] && s.sn.ot[0])
    || (s.sn.otLatch[1] && s.sn.ot[1]) || (s.sn.ovLatch[0] && s.sn.ov[0]) || (s.sn.ovLatch[1] && s.sn.ov[1])

/-- Every latched input is released. -/
def snReleaseAll (s : State) : State :=
  cutsFollow s (modSn s (fun n =>
    { n with haltLatch := false, evLatch := false, monLatch := false, otLatch := Vector.replicate 2 false,
             ovLatch := Vector.replicate 2 false }))

/-- SN_RELEASE: the state and its status (R448). -/
def snRelease (s : State) : State × Nat := if latchHeld s then (s, 0x23) else (snReleaseAll s, 0)

/-- Is the cause `e` of LOCKOUT asserted (R445)? -/
def causeAsserted (s : State) (e : Nat) : Bool :=
  let v := evEntry s e
  entEnable v && bit v 7 &&
    (if e = 407 then decide (seHealthy s < 2)
     else if e = 499 then s.sn.ot[0] || s.sn.ot[1]
     else if e = 500 then s.sn.ov[0] || s.sn.ov[1]
     else if e = 503 then s.sn.monFail
     else (evRec s e).flag)

/-- The events that may latch LOCKOUT and are asserted now. -/
def lockCauses (s : State) : List Nat :=
  (flaggedEvents s ++ [407, 499, 500, 503]).filter (causeAsserted s)

/-- LOCKOUT_CLEAR from a path: the state and its status (R29, R40, R448). -/
def lockoutClear (s : State) (p : Path) : State × Nat :=
  if s.md.mode ≠ .lockout then (raise s 1 (s.md.mode.code * 256 + 1) p.ascii, 0x24)
  else if !(lockCauses s).isEmpty then (s, 0x23)
  else
    let s1 := axesStill (stagesOff { s with md := { s.md with mode := .standby, floorsReached := false } })
    let s2 := raise (raise s1 3 p.ascii 0) 0 0x0501 3
    (if latchHeld s2 then s2 else snReleaseAll s2, 0)

end Sys2Proof.Machine
end

