-- ==== Sys2Proof/Machine/Power.lean ====
section
/-!
DEFINITION. Power.lean: the power domains of each mode, AVS, the rail monitors, input dips, and the power-down sequence
(spec/16, R459–R478).
-/

namespace Sys2Proof.Machine

open Sys2Proof

/-- The Power Manager changed. -/
def modPw (s : State) (f : PwSt → PwSt) : State := { s with pw := f s.pw }

/-! Domains (R462). -/

/-- ST is with the keeper: from the handover of DOZE to the restoring of state at the wake. -/
def dozeOff (s : State) : Bool := decide (s.md.mode = .doze) && !clockRuns s

/-- A wake has been recognised and state is not yet restored: the rails rise (R461, R472). -/
def wakeRising (s : State) : Bool := decide (s.md.mode = .doze) && decide (s.md.wakeCode ≠ 0) && !s.md.restored

/-- The last step the power-down sequence has begun, 0 without one. -/
def pfStep (s : State) : Nat := match s.pw.pf with | some p => p.step | none => 0

/-- Has step 3 of a power-down sequence switched off what it switches off? -/
def pfStagesOff (s : State) : Bool :=
  match s.pw.pf with
  | some p => decide (4 ≤ p.step) && !bit p.skipped 3
  | none => false

/-- The domain of the converter of head `h` is on (footnotes 2 and 3). -/
def vhOn (s : State) (h : Fin 2) : Bool :=
  s.pw.stagesOn && decide (headCfg s h 1 = 1) && (s.heads[h].state == 1 || s.heads[h].state == 2)

/-- The VH and BOOST converters work: neither is RUN being left, nor LOCKOUT in force, nor a power-down under way. -/
def convertersOn (s : State) : Bool :=
  s.pw.stagesOn && decide (s.md.mode ≠ .lockout) && s.pw.pf.isNone
    && (match s.md.trans with | some t => decide (t.target ≠ .standby) | none => true)

/-- Is domain `d` on where the planes run: STANDBY, RUN, SERVICE and LOCKOUT? -/
def liveDomain (s : State) (d : Nat) : Bool :=
  if d = 8 || d = 9 || d = 17 then s.app.state == 2
  else if d = 22 || d = 23 then s.pw.stagesOn && decide (headCfg s (Fin.ofNat 2 d) 1 = 1)
  else if d = 24 || d = 25 then vhOn s (Fin.ofNat 2 d)
  else if within 27 30 d || within 38 41 d then s.pw.stagesOn
  else if within 32 35 d then
    inRun s || (decide (s.md.mode = .lockout) && !s.md.floorsReached) || s.axes[Fin.ofNat 4 d].stillMode != 2
  else if d = 47 then refOn s
  else if d = 48 then !(decide (s.md.mode = .lockout) && s.md.floorsReached)
  else if d = 54 then s.boot.debugOn
  else true

/-- Is domain `d` ON? -/
def domainOn (s : State) (d : Nat) : Bool :=
  if !s.pw.on then false
  else if d = 0 || d = 1 || d = 55 then true
  else if 5 ≤ pfStep s then false
  else if pfStagesOff s && within 31 41 d then false
  else if dozeOff s || wakeRising s then d = 51 && wakeRising s
  else match s.md.mode with
    | .boot => [2, 4, 5, 6, 10, 11, 18, 19, 51, 53].contains d
    | .recovery => [2, 4, 6, 10, 11, 16, 18, 19, 49, 51, 53].contains d
    | _ => liveDomain s d

/-- ON_MASK. -/
def onMaskNow (s : State) : Nat := sumN ((upto 56).map (fun d => if domainOn s d then 2 ^ d else 0))

/-- ON_MASK and DOMAIN_SWITCHES follow what the command has done. -/
def domainsFollow (s : State) : State :=
  let m := onMaskNow s
  let n := popCount 56 (Nat.xor m s.pw.onMask)
  if m = s.pw.onMask then s else modPw s (fun w => { w with onMask := m, switches := bump 32 (w.switches + n - 1) })

/-! AVS (R463, R464). -/

/-- A step that ends at a limit: AVS_STATE and EV486 on entry to that state. -/
def avsLimit (s : State) : State :=
  let v := s.pw.vcore
  let now_ := if v = objN s 0x2D01 4 then 3 else if v = objN s 0x2D01 3 then 4 else 0
  let s1 := modPw s (fun w => { w with avs := now_ })
  if now_ ≠ 0 && avsState s1 = now_ && s.pw.avs ≠ now_ then raise s1 486 (b2n (decide (now_ = 3))) v else s1

/-- A count of the eight ring oscillators has ended. A critical count raises VCORE_SET by 25 mV in all (DEDUCED, assumption log
29). -/
def avsUpdate (s : State) (counts : List Nat) : State :=
  let ro := counts.foldl min 65535
  let tgt := objN s 0x2D01 6
  let band := objN s 0x2D01 7
  let lo := objN s 0x2D01 3
  let hi := objN s 0x2D01 4
  let v := s.pw.vcore
  let runs := objN s 0x2D01 1 = 1 && objN s 0x2D01 2 = 0
  let s1 := modPw s (fun w => { w with roMin := ro })
  if ro < tgt * 15 / 16 then
    let s2 := modPw s1 (fun w => { w with vcore := max v (min (v + 25) hi), critSteps := inc32 w.critSteps })
    avsLimit (raise s2 487 ro s2.pw.vcore)
  else if runs then
    let up := decide (ro + band < tgt)
    let down := decide (tgt + band < ro)
    let w := clampN lo hi (if up then v + 5 else if down then v - 5 else v)
    let s2 := modPw s1 (fun x => { x with vcore := w })
    if up || down then avsLimit s2 else s2
  else s1

/-- A change of the AVS settings: without AVS, VCORE stays at VCORE_FIXED (R464). -/
def avsFollow (s : State) : State :=
  if objN s 0x2D01 1 = 1 then s else modPw s (fun w => { w with vcore := objN s 0x2D01 5, avs := 0 })

/-- VCORE starts at VCORE_FIXED (R464). -/
def avsStart (s : State) : State := modPw s (fun w => { w with vcore := objN s 0x2D01 5, avs := 0 })

/-! Rails (R459, R460). -/

/-- The UV threshold of a rail in mV. -/
def railUv (s : State) (r : Nat) : Nat :=
  if r = 0 then 18000 else if r = 1 || r = 2 then 14000 else if r = 3 then 20000 else if r = 4 then 4600
  else if r = 5 then 3000 else if r = 6 then 1620 else if r = 7 then 1000 else if r = 8 then s.pw.vcore - 60 else 2900

/-- The set point of a rail in mV; VH-A and VH-B have none of interest here (R459). -/
def railSet (s : State) (r : Nat) : Nat :=
  if r = 0 then 24000 else if r = 3 then objN s 0x2830 1 else if r = 4 then 5000 else if r = 5 then 3300
  else if r = 6 then 1800 else if r = 7 then 1100 else if r = 8 then s.pw.vcore else 3300

/-- The means of the last completed servo period: rails by code, I_MAIN24 and P_MAIN24 (R460). RAIL_FLAGS follow. -/
def railMeans (s : State) (vs : List Nat) (i p : Nat) : State :=
  modPw s (fun w =>
    { w with rails := Vector.ofFn (fun r : Fin 10 => wrap 16 (vs.getD r.val 0)), iMain := wrap 16 i, pMain := wrap 32 p,
             flags := sumN ((upto 10).map (fun r => if vs.getD r 0 < railUv s r then 2 ^ r else 0)) })

/-- The rails and the flash that a step of the power-down sequence needs, as a mask (R475). -/
def stepNeeds (k : Nat) : Nat := if k = 2 then 0x160 else if k = 3 then 0x141 else if k = 4 then 0x160 else 0

/-- Has the engine itself turned the rail off: by the mode, the power-down sequence or DOZE (R459)? -/
def railOff (s : State) (r : Nat) : Bool :=
  if r = 1 || r = 2 then !(convertersOn s && vhOn s (Fin.ofNat 2 (r - 1)) && !headCut s (Fin.ofNat 2 (r - 1)))
  else if r = 3 then !convertersOn s
  else if r = 0 then pfStagesOff s || decide (5 ≤ pfStep s) || dozeOff s
  else if r = 9 then false
  else decide (5 ≤ pfStep s) || dozeOff s

/-! The power-down sequence (R474–R477). -/

/-- The sequence's own state changed. -/
def modPf (s : State) (f : PfRun → PfRun) : State := modPw s (fun w => { w with pf := w.pf.map f })

/-- Step 5: every domain but PD00, PD01 and PD55 goes off; the application stops with cause 6 (R475, R500). -/
def pfStep5 (s : State) : State := appStop (modPf s (fun p => { p with step := 5 })) 6

/-- Step 4: EV482, and the copy to NOR begins with its start marker (R454, R475). -/
def pfStep4 (s : State) : State :=
  match s.pw.pf with
  | none => s
  | some p =>
    if bit p.skipped 4 then pfStep5 s
    else
      let s1 := raise (modPf s (fun p => { p with step := 4 })) 482 p.skipped p.cause
      { s1 with tl := { s1.tl with copy := ⟨true, none, []⟩ } }

/-- Step `k` is skipped or abandoned because rail `r` has failed (R476); EV481. -/
def pfSkipStep (s : State) (k : Nat) : State :=
  let s1 := modPf s (fun p => { p with skipped := setBit p.skipped k })
  applyAll axUnpowered (raise s1 481 k s1.pw.failed) (allFin 4)

/-- The steps from `first` on that need a failed rail are skipped; the sequence goes on after an abandoned step. -/
def pfSkip (s : State) (first : Nat) : State :=
  let go := fun (t : State) (k : Nat) =>
    if first ≤ k && Nat.land (stepNeeds k) t.pw.failed ≠ 0 && !(match t.pw.pf with | some p => bit p.skipped k | none => true)
    then pfSkipStep t k else t
  let s1 := applyAll go s [2, 3, 4]
  match s1.pw.pf with
  | none => s1
  | some p =>
    if p.step = 3 && bit p.skipped 3 then pfStep4 s1
    else if p.step = 4 && bit p.skipped 4 then pfStep5 s1
    else s1

/-- Running NOR programs are abandoned: a store, an image being written, a DFU download (R475, R490). -/
def norAbandon (s : State) : State :=
  let s1 := { s with ctl := { s.ctl with storeState := (if s.ctl.storeState = 1 then 3 else s.ctl.storeState), storeBy := none } }
  let s2 := applyAll (fun t p =>
    match t.ctl.xfers[p.idx] with
    | some x => if x.wr && (x.idx == 0x5E00 || x.idx == 0x5E01) then dropXfer t p else t
    | none => t) s1 Path.all
  modBoot s2 (fun b => { b with dfu := { b.dfu with data := [] } })

/-- The sequence starts (R474, R475): the transition under way is abandoned (R42), a wake among them, PD_CUT is asserted, EV480.
None starts in DOZE (R478). -/
def pfBegin (s : State) (cause : Nat) (present : Bool) : State :=
  if !s.pw.on || s.pw.pf.isSome || (dozeOff s && s.md.trans.isNone) then s
  else
    let s1 := { s with md := { s.md with trans := none, held := false },
                       pw := { s.pw with present := present, pf := some ⟨cause, now s, 3, 0⟩ } }
    let s2 := raise s1 480 cause s.md.mode.code
    let s3 := cutsFollow s2 (modSn s2 (fun n => { n with pdCut := true }))
    pfSkip (norAbandon (boostOff s3)) 2

/-- A rail has failed at `v` mV (R459, R474, R476). -/
def railFail (s : State) (r v : Nat) : State :=
  if !s.pw.on || 9 < r || railUv s r ≤ v then s
  else
    let s1 := modPw s (fun w => { w with flags := setBit w.flags r })
    if railOff s r then s1
    else
      let s2 := raise (modPw s1 (fun w => { w with failed := setBit w.failed r })) 484 r v
      if s2.pw.pf.isSome then pfSkip s2 (pfStep s2)
      else if r = 0 && s2.pw.present then pfBegin s2 3 true
      else if within 4 8 r && s2.pw.present then pfBegin s2 4 true
      else s2

/-- A rail reads above 110% of its set point (R459). -/
def railOver (s : State) (r v : Nat) : State :=
  if !s.pw.on || 9 < r || r = 1 || r = 2 || 10 * v ≤ 11 * railSet s r then s else raise s 485 r v

/-- Every axis is at rest. -/
def axesAtRest (s : State) : Bool :=
  (allFin 4).all (fun n => !s.axes[n].moving && decide (s.axes[n].v = 0) && decide (s.axes[n].a = 0) && !s.axes[n].snStop)

/-- The sequence in one cycle: step 3 ends with the axes at rest or after 20 ms, step 4 and step 5 at their latest times
(DESIGN CHOICE, assumption log 30). -/
def pfTick (s : State) : State :=
  match s.pw.pf with
  | none => s
  | some p =>
    let t := now s - p.start
    if p.step = 3 && (axesAtRest s || decide (4000000 ≤ t)) then pfStep4 s
    else if p.step = 4 && decide (6400000 ≤ t) then
      pfStep5 { s with tl := { s.tl with copy := { s.tl.copy with
        trailer := some ⟨decide (p.skipped ≠ 0), p.cause, p.skipped⟩ } } }
    else if p.step = 5 && decide (7000000 ≤ t) then
      let s1 := modPf s (fun p => { p with step := 6 })
      if s.pw.present then
        let s2 := modPw s1 (fun w => { w with brownouts := inc32 w.brownouts })
        raise s2 483 s2.pw.volts s2.pw.brownouts
      else s1
    else s

/-- The copy takes the newest 64 entries of the log as they stand when its step has begun (R454). -/
def copyTaken (s : State) : State :=
  if pfStep s = 4 && s.tl.copy.entries.isEmpty then
    { s with tl := { s.tl with copy := { s.tl.copy with entries := s.tl.ring.drop (s.tl.ring.length - 64) } } }
  else s

/-! Resets. -/

/-- A start that BOOT has not brought to STANDBY leaves the raised start-fail count of its slot in the NOR (R485, R486; DESIGN CHOICE,
assumption log 131). -/
def startFailed (s : State) : State :=
  if s.md.mode = .boot && s.pw.on then
    match chosenSlot s with
    | some i => modBoot s (fun b => { b with slots := upd b.slots i (fun x => { x with fails := x.fails + 1 }) })
    | none => s
  else s

/-- What the NOR and the one-time store keep through every reset (R24, R482, R503). -/
def norKept (s0 r : State) : State :=
  let s := startFailed s0
  let r1 := { r with
    ctl := { r.ctl with slots := s.ctl.slots },
    tl := { r.tl with copy := s.tl.copy },
    boot := { r.boot with slots := s.boot.slots, rollback := s.boot.rollback, keys := s.boot.keys, appNor := s.boot.appNor,
                          appStage := s.boot.appStage, stageValid := s.boot.stageValid, challenge := s.boot.challenge },
    free := s.free, pending := s.pending }
  setObj r1 0x2E01 1 (obj s 0x2E01 1)

/-- All state but NOR is lost with SB3V3 (R477). -/
def coldReset (s : State) : State :=
  let r := norKept s State.reset
  modPw r (fun w => { w with on := false, present := false, onMask := 0 })

/-- A reset into BOOT with PD00 and PD01 kept (R477, R486): the log, the supply and the Safety Net stay, and pins stand as
they are. -/
def warmReset (s : State) : State :=
  let r := norKept s State.reset
  { r with
    tl := { s.tl with cycSt := 0, cycN := 0 },
    sn := { s.sn with pdCut := false, coverDue := (if s.sn.coverDue.isSome then some 2000000 else none) },
    pw := { r.pw with kind := s.pw.kind, volts := s.pw.volts, hz := s.pw.hz, rails := s.pw.rails, flags := s.pw.flags,
                      present := s.pw.present, brownouts := s.pw.brownouts },
    usb := { r.usb with vbus := s.usb.vbus },
    cb := { r.cb with ioLevel := s.cb.ioLevel, rstLow := s.cb.rstLow },
    cut := { r.cut with homeSw := s.cut.homeSw },
    tu := { r.tu with gioIn := s.tu.gioIn, gio1 := s.tu.gioIn, gio2 := s.tu.gioIn },
    boot := { r.boot with recLow := s.boot.recLow, debugRefused := s.boot.debugRefused } }

/-- A short gap of the input has been ridden through; its length in µs (R474). -/
def inputDip (s : State) (us : Nat) : State :=
  if !s.pw.on || s.pw.pf.isSome || dozeOff s || us < 5000 || 6000 ≤ us then s
  else
    let s1 := modPw s (fun w => { w with dips := inc32 w.dips })
    raise s1 493 s1.pw.dips us

end Sys2Proof.Machine
end

