-- ==== Sys2Proof/Machine/Mode.lean ====
section
/-!
DEFINITION. Mode.lean: mode requests, the steps of every transition between STANDBY, RUN, SERVICE and DOZE, and the keeper
(spec/01, R29–R42; spec/03, R86–R88; spec/16, R469–R473).
-/

namespace Sys2Proof.Machine

open Sys2Proof

/-- The mode machine changed. -/
def modMd (s : State) (f : ModeSt → ModeSt) : State := { s with md := f s.md }

/-- A new mode is reported; EV000 with its cause. -/
def modeTo (s : State) (m : Mode) (cause : Nat) : State :=
  raise (modMd s (fun d => { d with mode := m })) 0 (s.md.mode.code * 256 + m.code) cause

/-- A request is refused with WRONG_MODE; EV001 (R29). -/
def modeRefuse (s : State) (p : Path) (req : Nat) : State × Nat := (raise s 1 (s.md.mode.code * 256 + req) p.ascii, 0x24)

/-! STANDBY to RUN or SERVICE (R469). -/

/-- Every factor of the Tollgate starts at 1000 (R465). -/
def tgStart (s : State) : State :=
  recharge { s with tg := { s.tg with fBoost := 1000, off := false, fPrint := 1000, fScan := 1000,
                                      state := (if objN s 0x2D02 1 = 0 then 0 else 1), exRun := 0, exRaised := false } }

/-- Step 1 of the way to RUN or SERVICE: the stages come on. -/
def startRun (s : State) (target : Mode) (cause : Nat) : State :=
  let s1 := modMd s (fun d => { d with
    trans := some { src := d.mode, target := target, start := now s, cause := cause, thenDoze := none } })
  tgStart (modPw s1 (fun w => { w with stagesOn := true }))

/-! STANDBY to DOZE (R35, R471, R345, R349, R391, R417, R419). -/

/-- A Last Ride round that has not ended goes with N. -/
def lrDrop (s : State) : State :=
  modLr s (fun l => if l.state = 4 then l else { l with state := 0, master := false, ready := false })

/-- Steps 1 and 2 of DOZE entry: claims lapse, staging sets and transfers go, the pull-up is removed, N is lost. MODE reads
DOZE from here, and the queues are emptied once the raises of this cycle have entered their routes. -/
def startDoze (s : State) (cause : Nat) : State :=
  let s1 := applyAll (claimLapse 3) s (upto 24)
  let s2 := applyAll dropXfer (discardAll s1) Path.all
  let s3 := { s2 with ctl := { s2.ctl with epoch := none } }
  let s4 := canStandby (usbDetach (lrDrop s3) 4) 4
  let s5 := modeTo s4 .doze cause
  modMd s5 (fun d => { d with
    trans := some { src := .standby, target := .doze, start := now s, cause := cause, thenDoze := none },
    held := false, wakeSrc := 0, wakeCode := 0, restored := false })

/-! Requests (R29, R32, R35). -/

/-- A request for a mode from a path: the state and its status. -/
def modeRequest (s : State) (p : Path) (v : Nat) : State × Nat :=
  let stable := s.md.trans.isNone && s.pw.pf.isNone
  match v with
  | 1 =>
    match s.md.trans with
    | some t => if t.target = .standby || s.md.held then (s, 0) else (modMd s (fun d => { d with held := true }), 0)
    | none => if s.md.mode = .run && stable then (leaveRun s 0 none, 0) else modeRefuse s p 1
  | 2 => if s.md.mode = .standby && stable then (startRun s .run 0, 0) else modeRefuse s p 2
  | 3 =>
    if stable && ledgerIdle s && s.md.mode = .standby then (startDoze s 0, 0)
    else if stable && ledgerIdle s && s.md.mode = .run then (leaveRun s 0 (some p), 0)
    else modeRefuse s p 3
  | r => modeRefuse s p r

/-! RUN or SERVICE is reported (R469). -/

/-- Is a VH reading within 1% of VH_SET? -/
def vhWithin (s : State) (h : Fin 2) (v : Nat) : Bool :=
  let t := vlCfg s h 5
  decide (100 * v ≤ 101 * t) && decide (99 * t ≤ 100 * v)

/-- The first rail short of its level: its code and reading (R469). -/
def shortRail (s : State) (va vb boost : Nat) : Option (Nat × Nat) :=
  if vhOn s 0 && !vhWithin s 0 va then some (1, va)
  else if vhOn s 1 && !vhWithin s 1 vb then some (2, vb)
  else if boost < objN s 0x2830 2 then some (3, boost)
  else none

/-- The heads' ports as entry to RUN or SERVICE finds them, with the measured head-ID resistances (R112). -/
def headsEntry (s : State) (ra rb : Nat) : State :=
  headIdCheck (headIdCheck (headRunEntry (headRunEntry s 0) 1) 0 ra) 1 rb

/-- At entry to RUN a media halt ends and the tracker starts (R174, R181); the cutter, the solenoids and the SE start as their chapters
say, in SERVICE too (R193, R275, R302). -/
def unitsEntry (s : State) (home : Bool) : State :=
  let s1 := if s.md.mode = .run then
      trackReset (applyAll (fun s h => modHead (govRelease s h) h (fun x => { x with haltAbort := false })) s (allFin 2))
    else s
  seRunEntry (solRunEntry (cutRunEntry s1 home))

/-- How long the transition under way has taken, against the most R30 allows it; EV004 (R31). -/
def lateCheck (s : State) (from_ : ST) (most d1 : Nat) : State :=
  if now s - from_ ≤ most then s else raise s 4 d1 (now s - from_)

/-- The held request for STANDBY takes effect (R32); a session it ends is released. -/
def applyHeld (s : State) : State :=
  if !s.md.held then s
  else
    let s1 := modMd s (fun d => { d with held := false })
    if s1.md.mode = .service then freeGroup s1 0 else leaveRun s1 0 none

/-- The wake is complete with the mode reported now; EV492 (R473). -/
def wokenEvent (s : State) : State :=
  let l := now s - s.md.wakeAt
  let s1 := modPw s (fun w => { w with wakeLatency := wrap 32 l })
  raise (modMd s1 (fun d => { d with restored := false, wakeCode := 0 })) 492 s1.pw.wakeCause l

/-- RUN or SERVICE is entered for good: MODE, EV000, EV004, a new challenge for SERVICE, what was held, and the ledger. -/
def runEntered (s : State) (t : Transition) : State :=
  let old := s.md.mode
  let s1 := modeTo s t.target t.cause
  let s2 := modMd s1 (fun d => { d with trans := none })
  let s3 := if old = .doze then lateCheck s2 s.md.wakeAt 30000000 (old.code * 256 + t.target.code)
            else if t.target = .run then lateCheck s2 t.start 12000000 (old.code * 256 + t.target.code) else s2
  let s4 := if old = .doze then wokenEvent s3 else s3
  let s5 := if t.target = .service then modBoot s4 (fun b => { b with challenge := b.challenge + 1 }) else s4
  applyHeld (jobsArm s5)

/-- RUN_REACHED: `ra`, `rb` the head-ID resistances, `va`, `vb`, `boost` the rails in mV, `home` the HOME switch, `bad` the
failing input of the monitor self-test. A failed test latches LOCKOUT through EV503 instead. -/
def runReached (s : State) (ra rb va vb boost : Nat) (home : Bool) (bad : Option Nat) : State :=
  match s.md.trans with
  | none => s
  | some t =>
    if t.target ≠ .run && t.target ≠ .service || dozeOff s then s
    else if bad.isSome then selfTest s bad
    else
      let inMode := modMd s (fun d => { d with mode := t.target })
      let s1 := headsEntry inMode ra rb
      if (shortRail s1 va vb boost).isSome then s
      else
        let s2 := setBoost (selfTest (unitsEntry s1 home) none) boost
        let s3 := modSn s2 (fun n => { n with vhLow := #v[decide (va < 14000), decide (vb < 14000)] })
        runEntered (modMd s3 (fun d => { d with mode := s.md.mode })) t

/-- A way to RUN or SERVICE is given up: the stages go off again and STANDBY stays, or is what a wake reports, past the most that
R30 allows a wake to STANDBY (R31). -/
def runGivenUp (s : State) (t : Transition) : State :=
  let s1 := stagesOff (modMd s (fun d => { d with trans := none, held := false }))
  let s2 := if t.target = .service then setClaim s1 0 ⟨none, 0⟩ else s1
  if s.md.mode = .doze then wokenEvent (lateCheck (modeTo s2 .standby 1) s.md.wakeAt 6000000 0x0301) else s2

/-- RUN_ENTRY_TIMEOUT (R469), with the head states of the identification check. -/
def runTimeout (s : State) (ra rb va vb boost : Nat) : State :=
  match s.md.trans with
  | none => s
  | some t =>
    if t.target ≠ .run && t.target ≠ .service || dozeOff s || decide (now s < t.start + 40000000) then s
    else
      let inMode := modMd s (fun d => { d with mode := t.target })
      match shortRail (headIdCheck (headIdCheck inMode 0 ra) 1 rb) va vb boost with
      | none => s
      | some r => raise (runGivenUp s t) 484 r.1 r.2

/-! STANDBY is reported (R30, R33). -/

/-- The axes are at rest and the rails read below the floors of the Safety Net. -/
def floorsMet (s : State) (va vb boost : Nat) : Bool :=
  axesAtRest s && decide (va < 14000) && decide (vb < 14000) && decide (boost < 20000)

/-- The floors as the rails read. -/
def floorsRead (s : State) (va vb boost : Nat) : State :=
  modSn (setBoost s boost) (fun n => { n with vhLow := #v[decide (va < 14000), decide (vb < 14000)] })

/-- STANDBY_REACHED: DOZE follows where it was asked for, and is refused where a job has come since (R35). -/
def standbyReached (s : State) (va vb boost : Nat) : State :=
  match s.md.trans with
  | none => s
  | some t =>
    if t.target ≠ .standby || !inRun s || !floorsMet s va vb boost then s
    else
      let s1 := stagesOff (modMd (floorsRead s va vb boost) (fun d => { d with trans := none }))
      let s2 := modeTo s1 .standby t.cause
      match t.thenDoze with
      | none => s2
      | some p => if ledgerIdle s2 then startDoze s2 t.cause else raise s2 1 (s2.md.mode.code * 256 + 3) p.ascii

/-- LOCKOUT_FLOORS_REACHED: the domains take their LOCKOUT states (R470). -/
def lockoutFloors (s : State) (va vb boost : Nat) : State :=
  if s.md.mode ≠ .lockout || s.md.floorsReached || !floorsMet s va vb boost then s
  else stagesOff (modMd (floorsRead s va vb boost) (fun d => { d with floorsReached := true }))

/-! DOZE (R471–R473, R86–R88). -/

/-- DOZE entry is under way and ST is not yet with the keeper. -/
def dozeEntering (s : State) : Bool :=
  decide (s.md.mode = .doze) && (match s.md.trans with | some t => decide (t.target = .doze) | none => false)

/-- ST is with the keeper and no wake is under way. -/
def dozing (s : State) : Bool := dozeOff s && s.md.trans.isNone

/-- The keeper edge of the handover: ST passes to the keeper, the application stops with cause 6, debug access ends. -/
def dozeHandover (s : State) : State :=
  if !dozeEntering s || s.pw.pf.isSome then s
  else
    let s1 := appStop s 6
    let s2 := { s1 with md := { s1.md with trans := none }, tu := { s1.tu with keeperAhead := 0, keeperFrac := 0 } }
    modBoot (modPw s2 (fun w => { w with dozeCount := inc32 w.dozeCount })) (fun b => { b with debugOn := false })

/-- One keeper period (R86). -/
def keeperTick (s : State) : State :=
  if !dozeOff s then s
  else
    let f := s.tu.keeperFrac + 33
    let n := 6103 + f / 64
    { s with tu := { s.tu with st := s.tu.st + n, keeperAhead := s.tu.keeperAhead + n, keeperFrac := f % 64 } }

/-- The wake sources asserted at a keeper edge, a bit for each code of R472; `pin`: WAKE# has been low for tMS57. -/
def wakeMask (s : State) (pin : Bool) : Nat :=
  let alarm := objN s 0x2D08 3
  let m1 := if pin && objN s 0x2D08 1 = 1 then setBit s.md.wakeSrc 1 else s.md.wakeSrc
  if dozeOff s && alarm ≠ 0 && alarm ≤ now s then setBit m1 5 else m1

/-- The lowest code of a mask of wake sources. -/
def lowestWake (m : Nat) : Option Nat := [1, 2, 3, 4, 5, 6].find? (fun k => bit m k)

/-- The mode that a wake aims at: WAKE_TARGET. -/
def wakeTarget (s : State) : Mode := if objN s 0x2000 3 = 2 then .run else .standby

/-- A wake source is recognised: WAKE_CAUSE, and the rails rise (R472). -/
def wakeRecognised (s : State) (pin : Bool) : State :=
  if !dozing s then s
  else match lowestWake (wakeMask s pin) with
  | none => s
  | some k =>
    let s1 := modMd s (fun d => { d with
      wakeCode := k, wakeAt := now s,
      trans := some { src := .doze, target := wakeTarget s, start := now s, cause := 1, thenDoze := none } })
    modPw s1 (fun w => { w with wakeCause := k })

/-- A Last Ride frame of the engine, in classical CAN (R407, R420). -/
def lrSend (s : State) (op reason : Nat) : State :=
  let b := fun (n : Nat) => BitVec.ofNat 8 n
  sendFrame s ⟨objN s 0x2A48 4 + s.net.nodeAct,
    [b op, b s.net.lr.round, b s.net.nodeAct, b reason, 0, 0, 0, if op = 7 then 0x80 else 0], false, false⟩

/-- The transceiver has left the standby of a Last Ride round: EV474; a local cause sends WAKE first (R427). -/
def lrWoken (s : State) (cause reason : Nat) : State :=
  if s.net.lr.state ≠ 4 then s
  else
    let s1 := modLr s (fun l => { l with state := 0, wakeCause := cause })
    let s2 := if cause = 4 && objN s 0x2A48 1 ≠ 0 then lrSend s1 7 reason else s1
    raise s2 474 cause s.net.lr.round

/-- The cause of a wake from DOZE for the network: what the transceiver reported, or local. -/
def lrCause (s : State) (code : Nat) : Nat := if code = 4 then s.net.lr.wakeCause else 4

/-- A wake source before the handover: DOZE entry is abandoned (R471). -/
def dozeAbort (s : State) (pin : Bool) : State :=
  if !dozeEntering s then s
  else match lowestWake (wakeMask s pin) with
  | none => s
  | some k =>
    let s1 := modMd s (fun d => { d with trans := none, wakeSrc := 0 })
    let s2 := usbAttach (canUp (modeTo s1 .standby 1))
    raise (lrWoken s2 (lrCause s2 k) 6) 491 k 0

/-- ST as the main counter takes it back: within 200 ticks of the keeper and above every earlier value, or one more than
the keeper's last value where the keeper had stopped (R87, R88). -/
def stBack (s : State) (stopped : Bool) : State :=
  let k := now s
  if stopped then
    let s1 := { s with tu := { s.tu with st := k + 1, dozeTicks := 2 ^ 64 - 1, resync := 1 } }
    raise (raise s1 137 0xFFFFFFFF 1) 138 k 0
  else
    let e := clampI (-200) 200 (freeHandover s.free)
    let e1 := max e (1 - (s.tu.keeperAhead : Int))
    let s1 := takeFree { s with tu := { s.tu with st := ((k : Int) + e1).toNat, dozeTicks := s.tu.keeperAhead, resync := e1 } }
    raise s1 137 (min s.tu.keeperAhead 0xFFFFFFFF) (w32 e1)

/-- A lane resumes at the position it held, with no direction (R52). -/
def laneWake (s : State) (i : Fin 4) : State :=
  let src := laneSource s i
  let p := s.msu.lanes[i].pos
  let s1 := modLane s i (fun l =>
    { l with prev := p, sp0 := l.sp1, perSt := now s, dc := 0, ep := (if src = 1 then p else l.ep), dir := .none, ext := p,
             extPrev := p })
  if src = 2 || src = 3 then modLane s1 i (fun l => { l with cBase := p - spPos s1 i l.sp1 }) else s1

/-- The MSU and the Waymark Table after DOZE: encoders without history, gates closed, entries disarmed (R36, R52). -/
def msuWake (s : State) : State :=
  let s1 := applyAll laneWake s (allFin 4)
  let s2 := applyAll (fun s c => modEnc s c (fun e => { e with n := 0 })) s1 (allFin 4)
  let s3 := applyAll (fun s g => modGen s g (fun x => { x with gateOpen := false, crowded := false, lastSt := none })) s2 (allFin 16)
  { s3 with msu := { s3.msu with wm := s3.msu.wm.filterMap (fun x =>
      let w := { x.2 with armed := false }
      if w = Waymark.reset then none else some (x.1, w)), holds := [], offs := [] } }

/-- The raster store, the Carousel, the ledger and the stream staging are empty after DOZE; the RSN series restart (R36,
R113). -/
def dataWake (s : State) : State :=
  let s1 := applyAll (fun s h => modHead s h (fun x =>
    { x with store := [], nextRsn := 0, bind := none, missRun := false, supRun := false })) s (allFin 2)
  let s2 := { s1 with img := { s1.img with recs := [], resvs := [], rbPend := [] },
                      ledger := { s1.ledger with jobs := Vector.replicate 64 Job.reset } }
  modUsb (modCb s2 (fun c => { c with inp := StreamIn.reset, outOff := 0, fifo := [], mb := { c.mb with busy := false, late := none },
                                          mirror := { c.mirror with last := none } }))
    (fun u => { u with inp := StreamIn.reset, inOff := 0, inFull := false })

/-- A start edge that woke the engine: EV477 after the wake (R435). -/
def uartWoken (s : State) (n : Fin 2) : State :=
  if s.uarts[n].wakePend then raise (modUart s n (fun u => { u with wakePend := false })) 477 (2147483648 * n.val) 0 else s

/-- State as a wake restores it (R36): every unit as its chapter says. -/
def wakeRestore (s : State) : State :=
  let s1 := axesStill (dataWake (msuWake s))
  let s2 := applyAll tcWake s1 (allFin 32)
  let s3 := applyAll (fun s m => modCap (capAnew s m) m (fun x => { x with presc := 0 })) s2 (allFin 8)
  let s4 := seStartUp (mediaUnsync (solUnpowered s3))
  let s5 := lrWoken (canUp s4) (lrCause s4 s4.md.wakeCode) 6
  applyAll uartWoken (appStart (usbAttach (avsStart s5))) (allFin 2)

/-- WAKE_COMPLETE: STANDBY is reported, or the way to RUN begins with no STANDBY between (R472, R473). -/
def wakeComplete (s : State) (stopped : Bool) : State :=
  match s.md.trans with
  | none => s
  | some t =>
    if !dozeOff s then s
    else
      let s1 := modMd (stBack s stopped) (fun d => { d with restored := true, wakeSrc := 0, wakeAt := d.wakeAt })
      if t.target = .run then
        let s2 := modMd s1 (fun d => { d with trans := some { t with start := now s1 } })
        wakeRestore (tgStart (modPw s2 (fun w => { w with stagesOn := true })))
      else
        let s2 := wakeRestore (modMd s1 (fun d => { d with trans := none }))
        let s3 := modeTo s2 .standby 1
        wokenEvent (lateCheck s3 s.md.wakeAt 6000000 0x0301)

end Sys2Proof.Machine
end

