-- ==== Sys2Proof/Machine/Ring.lean ====
section
/-!
DEFINITION. Ring.lean: the Ringmaster: the recording of the raises of one command with flags, counters and LOCKOUT, the order of the
raises of one cycle and their routes (spec/15, R442–R447, R450–R452; spec/13, R391; spec/14, R417).
-/

namespace Sys2Proof.Machine

open Sys2Proof

/-- The Ringmaster changed. -/
def modRm (s : State) (f : RmSt → RmSt) : State := { s with rm := f s.rm }

/-- The Ringmaster works: PD05 is off in RECOVERY and DOZE, and after a power-down sequence (R462, R475). -/
def rmLive (s : State) : Bool :=
  s.pw.on && decide (s.md.mode ≠ .recovery) && !dozeOff s && !(decide (pfStep s = 6) && !s.pw.present)

/-! Order (R443). -/

/-- Does raise `a` come before `b`: by PRIORITY, then by number? -/
def raiseBefore (s : State) (a b : Raise) : Bool :=
  let pa := entPrio (evEntry s a.ev)
  let pb := entPrio (evEntry s b.ev)
  decide (pb < pa) || (decide (pa = pb) && decide (a.ev < b.ev))

/-- An element put into its place, after those it does not come before. -/
def insertBy {α : Type} (before : α → α → Bool) (a : α) : List α → List α
  | [] => [a]
  | b :: r => if before a b then a :: b :: r else b :: insertBy before a r

/-- A list in an order; elements of which neither comes before the other stay as they stand. -/
def sortBy {α : Type} (before : α → α → Bool) (xs : List α) : List α := xs.foldl (fun acc a => insertBy before a acc) []

/-- Raises in their order; raises of one number stay in the order of their raising. -/
def raiseSort (s : State) (xs : List Raise) : List Raise := sortBy (raiseBefore s) xs

/-! The record of an event (R442). -/

/-- Flag, COUNT, LAST_ST and the detail words. -/
def recordRaise (st : ST) (s : State) (r : Raise) : State :=
  let x := evRec s r.ev
  let y : EvRec := { flag := true, count := sat 32 (x.count + 1), lastSt := wrap 64 st, d1 := r.d1, d2 := r.d2 }
  modRm s (fun m => { m with recs := SMap.put (fun _ => EvRec.reset) m.recs r.ev y, lastEvent := r.ev })

/-! The Trouble Log (R450–R452). -/

/-- The lane of a MSU event: the one named in detail word 1, the lane of the encoder or generator named there, or the lane a
waymark entry is keyed to. -/
def msuEventLane (s : State) (r : Raise) : Option (Fin 4) :=
  if 48 ≤ r.ev && r.ev ≤ 55 || 32 ≤ r.ev && r.ev ≤ 36 then
    let w := wmAt s (r.d1 % 1024)
    if w.key < 4 then some (wmLane w) else none
  else if 80 ≤ r.ev then (allFin 4).find? (fun i => (laneEnc s i).val = r.d1 % 4)
  else if 72 ≤ r.ev then some (genLane (Fin.ofNat 16 r.d1))
  else some (Fin.ofNat 4 r.d1)

/-- TL_LANE; none for 0xFF and for a number that names no lane. -/
def tlLane (s : State) : Option (Fin 4) := let n := objN s 0x2C00 2; if h : n < 4 then some ⟨n, h⟩ else none

/-- The lane of an entry (R452). -/
def eventLane (s : State) (r : Raise) : Option (Fin 4) :=
  let port := Fin.ofNat 2 (r.d1 / 2147483648)
  if within 32 95 r.ev then msuEventLane s r
  else if within 144 207 r.ev then some (genLane (headGen s port))
  else if within 208 239 r.ev then some (mediaLane s)
  else if within 240 287 r.ev then axisLane s (Fin.ofNat 4 r.d1)
  else if within 288 351 r.ev then some (Fin.ofNat 4 (imgCfg s port 4 / 4))
  else tlLane s

/-- The entry of a raise of cycle `st` in mode `mode`. -/
def tlEntryOf (s : State) (st : ST) (mode : Nat) (r : Raise) : TlEntry :=
  let ln := eventLane s r
  { st := wrap 64 st, seq := s.tl.nextSeq, ev := r.ev, prio := entPrio (evEntry s r.ev),
    incomplete := (match s.pw.pf with | some p => decide (p.skipped ≠ 0) | none => false), lost := s.tl.lostNext,
    unit := evUnit r.ev, lane := (match ln with | some i => i.val | none => 255),
    pos := (match ln with | some i => s.msu.lanes[i].pos | none => 0), mode := mode, d1 := r.d1, d2 := r.d2 }

/-- An entry is written at HEAD (R450, R451). -/
def tlPush (t : TlSt) (x : TlEntry) : TlSt :=
  let full := decide (4096 ≤ t.ring.length)
  { t with ring := (if full then t.ring.drop 1 else t.ring) ++ [x], head := (t.head + 1) % 4096,
           wraps := (if full then inc32 t.wraps else t.wraps),
           nextSeq := (if wrap 32 (t.nextSeq + 1) = 0 then 1 else wrap 32 (t.nextSeq + 1)),
           lostNext := false, dropRun := false }

/-- One raise on its way into the log: at most 16 entries in a cycle (R451). -/
def routeTl (s : State) (st : ST) (mode : Nat) (r : Raise) : State :=
  let n := if s.tl.cycSt = now s then s.tl.cycN else 0
  if n < 16 then
    { s with tl := { tlPush s.tl (tlEntryOf s st mode r) with cycSt := now s, cycN := n + 1 } }
  else
    let first := !s.tl.dropRun
    let s1 := { s with tl := { s.tl with dropped := inc32 s.tl.dropped, lostNext := true, dropRun := true } }
    if first then raise s1 511 s1.tl.dropped 0 else s1

/-! The other routes (R444). -/

/-- A record enters H's queue; EV453 at the first drop of a run (R391). -/
def routeUsb (s : State) (st : ST) (r : Raise) : State :=
  let x := evqPush s.usb.q 256 r.ev (entPrio (evEntry s r.ev)) r.d1 r.d2 st
  let s1 := modUsb s (fun u => { u with q := x.1 })
  if x.2 then raise s1 453 0x48 s1.usb.q.lostCount else s1

/-- A record enters C's queue. -/
def routeCb (s : State) (st : ST) (r : Raise) : State :=
  let x := evqPush s.cb.q 256 r.ev (entPrio (evEntry s r.ev)) r.d1 r.d2 st
  let s1 := modCb s (fun c => { c with q := x.1 })
  if x.2 then raise s1 453 0x43 s1.cb.q.lostCount else s1

/-- An EMCY frame (R417). -/
def emcyFrame (s : State) (code ev d1 d2 st : Nat) : List Byte :=
  leBytes 2 code ++ leBytes 1 (errorRegister s) ++ leBytes 1 0 ++ leBytes 2 ev ++ leBytes 2 0 ++ leBytes 4 d1 ++ leBytes 4 d2
    ++ leBytes 4 st

/-- A frame enters the EMCY queue of 16; EV471 at the first drop of a run. -/
def emcyPush (s : State) (f : List Byte) : State :=
  if s.net.emcyQ.length < 16 then modNet s (fun n => { n with emcyQ := n.emcyQ ++ [f], emcyRun := false })
  else
    let first := !s.net.emcyRun
    let s1 := modNet s (fun n => { n with emcyLost := inc32 n.emcyLost, emcyRun := true })
    if first then raise s1 471 s1.net.emcyLost 0 else s1

/-- The EMCY route; at transceiver standby the queue stays empty. -/
def routeEmcy (s : State) (st : ST) (r : Raise) : State :=
  if s.net.busState = 3 then s else emcyPush s (emcyFrame s (evEntry s r.ev / 65536) r.ev r.d1 r.d2 st)

/-- The application's queue of 64, while an application runs (R444, R499). -/
def routeApp (s : State) (st : ST) (r : Raise) : State :=
  if s.app.state ≠ 2 then s
  else modRm s (fun m => { m with app := (evqPush m.app 64 r.ev (entPrio (evEntry s r.ev)) r.d1 r.d2 st).1 })

/-- The Safety Net route: an event cut at t + 2 (R447). -/
def routeSn (s : State) (r : Raise) : State :=
  if objN s 0x2B00 2 = 0 then s else modRm s (fun m => { m with cutDue := m.cutDue ++ [(now s + 2, r.ev, r.d1)] })

/-- The fabric route: one trigger or capture for a code in a cycle, at t + 2 (R444). -/
def routeFabric (s : State) (code : Nat) : State :=
  if objN s 0x2B00 1 = 0 || s.rm.fabric.contains (now s + 2, code) then s
  else modRm s (fun m => { m with fabric := m.fabric ++ [(now s + 2, code)] })

/-- An event of LR_WAKE_PRIO or higher is remembered for the Last Ride (R422). -/
def routeLr (s : State) (r : Raise) : State :=
  if objN s 0x2A48 7 ≤ entPrio (evEntry s r.ev) then modLr s (fun l => { l with evSince := true }) else s

/-- Every route of a raise, in the order of the routes' bits from R_FABRIC down (R442, R444). -/
def routeRaise (st : ST) (mode : Nat) (s : State) (r : Raise) : State :=
  let v := evEntry s r.ev
  let on := fun k => entEnable v && bit v k
  let s1 := if on 6 then routeFabric s (bits v 11 8) else s
  let s2 := if on 5 then routeSn s1 r else s1
  let s3 := if on 4 then routeTl s2 st mode r else s2
  let s4 := if on 3 then routeApp s3 st r else s3
  let s5 := if on 2 then routeEmcy s4 st r else s4
  let s6 := if on 1 then routeCb s5 st r else s5
  if on 0 then routeUsb s6 st r else s6

/-- The raises of a cycle go down their routes in order, those released from BOOT first (R443, R446). -/
def routeCycle (s : State) : State :=
  let c := s.rm.cyc
  applyAll (fun t x => routeRaise x.st x.mode t x.r) (modRm s (fun m => { m with cyc := [] }))
    (c.filter (fun x => x.st != now s) ++ sortBy (fun a b => raiseBefore s a.r b.r) (c.filter (fun x => x.st == now s)))

/-! LOCKOUT and holding (R445, R446). -/

/-- Does a raise latch LOCKOUT? -/
def raiseLocks (s : State) (r : Raise) : Bool := let v := evEntry s r.ev; entEnable v && bit v 7

/-- The LOCK events among some raises act. -/
def lockPass (s : State) (rs : List Raise) : State :=
  applyAll (fun t r => if raiseLocks t r then lockout t r.ev else t) s rs

/-- A raise of BOOT is held; the 65th and later go to the log only. -/
def holdRaise (s : State) (r : Raise) : State :=
  if s.rm.held.length < 64 then modRm s (fun m => { m with held := m.held ++ [(now s, r)] })
  else
    let v := evEntry s r.ev
    if entEnable v && bit v 4 then routeTl s (now s) 0 r else s

/-- A raise is recorded, and waits for the end of its cycle to be routed (R442, R443). -/
def noteRaise (s : State) (r : Raise) : State :=
  let m := s.md.mode.code
  modRm (routeLr (recordRaise (now s) s r) r) (fun x => { x with cyc := x.cyc ++ [⟨now s, m, r⟩] })

/-- The raises of BOOT so far are recorded and held. -/
def holdAll (s : State) : State :=
  let xs := raiseSort s s.rm.raised
  applyAll (fun t r => holdRaise (recordRaise (now s) t r) r) (modRm s (fun m => { m with raised := [] })) xs

/-- One round: what has been raised latches LOCKOUT and is recorded, in order; what was held in BOOT is released into its routes
(R445, R446). -/
def settleRound (s : State) : State :=
  if !rmLive s then modRm s (fun m => { m with raised := [] })
  else if s.md.mode = .boot then holdAll s
  else
    let held := s.rm.held
    let s1 := modRm s (fun m => { m with held := [], cyc := m.cyc ++ held.map (fun x => ⟨x.1, 0, x.2⟩) })
    let s2 := lockPass s1 (held.map (fun x => x.2) ++ raiseSort s s.rm.raised)
    applyAll noteRaise (modRm s2 (fun m => { m with raised := [] })) (raiseSort s2 s2.rm.raised)

/-- Rounds until nothing is left. -/
def settleN : Nat → State → State
  | 0, s => s
  | n + 1, s => if s.rm.raised.isEmpty && (s.rm.held.isEmpty || s.md.mode = .boot || s.md.mode = .recovery) then s
                else settleN n (settleRound s)

/-- The raises of a command act. -/
def settle (s : State) : State := settleN 8 s

/-- What a cycle has raised is routed, and what the routes raise in turn (EV453, EV471, EV511); each comes once in a run, which bounds the
rounds. -/
def flushN : Nat → State → State
  | 0, s => s
  | n + 1, s => if s.rm.cyc.isEmpty then s else flushN n (settle (routeCycle s))

/-- The raises of the cycle so far are routed. -/
def ringFlush (s : State) : State := flushN 6 s

/-- ERROR_REGISTER as the cycle leaves it; on its return to 0 one frame with code 0 is queued (R417, R446). -/
def emcyReset (s : State) : State :=
  let e := errorRegister s
  if e = s.net.errReg then s
  else
    let s1 := modNet s (fun n => { n with errReg := e })
    if e = 0 && s.net.busState ≠ 3 && rmLive s then settle (emcyPush s1 (emcyFrame s1 0 0 0 0 (now s))) else s1

/-- The Ringmaster's part at the end of a cycle: the routes in the order of R443, and the error reset of EMCY. -/
def ringEnd (s : State) : State := ringFlush (emcyReset (ringFlush s))

/-- The Ringmaster has something to do as the cycle ends. -/
def ringDue (s : State) : Bool := !s.rm.cyc.isEmpty || decide (errorRegister s ≠ s.net.errReg)

end Sys2Proof.Machine
end

