-- ==== Sys2Proof/Machine/Check.lean ====
section
/-!
DEFINITION. Check.lean: check 6 of R335. What values each object takes, beyond the range of its row, and the rules that
bind several objects (R343), judged on the values that would result.
-/

namespace Sys2Proof.Machine

open Sys2Proof

/-- The dictionary as it would stand: values and DOMAIN contents by key and by index, and whether a COB-ID would have been
written (R378). -/
structure View where
  v : Nat → Int
  d : Nat → List Byte
  wr : Nat → Bool

/-- The active values. -/
def activeView (s : State) : View := ⟨objK s, dom s, fun k => s.ctl.cobSet.contains k⟩

/-- The view with a list of values and of DOMAIN contents written over it. -/
def View.over (w : View) (vals : List (Nat × Int)) (doms : List (Nat × List Byte)) : View :=
  { v := fun k => match vals.lookup k with | some x => x | none => w.v k
    d := fun i => match doms.lookup i with | some x => x | none => w.d i
    wr := fun k => (vals.lookup k).isSome || w.wr k }

/-- A value that is never negative, in a view. -/
def View.n (w : View) (idx sub : Nat) : Nat := (w.v (okey idx sub)).toNat

/-! Values (R335, check 6). -/

/-- Is a code a source a consumer may name (R305)? 0 names none. -/
def srcListed (c : Nat) : Bool :=
  c == 0 || c == 1 || (0x10 ≤ c && c ≤ 0x2F) || (0x30 ≤ c && c ≤ 0x33) || (0x40 ≤ c && c ≤ 0x47)

/-- An object that a posted write or a doorbell may name: BOOLEAN, UNSIGNED8 or UNSIGNED16 (R399); 0 names none. -/
def doorbellOk (v : Nat) : Bool :=
  v == 0 || (v % 256 == 0 && (match objRow (v / 256) with
    | some r => decide (r.ty = .bool) || decide (r.ty = .u8) || decide (r.ty = .u16)
    | none => false))

/-- A transmission type (R372). -/
def pdoTypeOk (v : Nat) : Bool := decide (v ≤ 240) || v == 0xFE || v == 0xFF

/-- The PDO a communication or mapping index belongs to is invalid: bit [31] of its COB-ID is 1 (R370). -/
def pdoInvalid (s : State) (idx : Nat) : Bool :=
  let c := if 0x1800 ≤ idx then 0x1800 + idx % 4 else 0x1400 + idx % 4
  bit (objN s c 1) 31

/-- Values a row's range does not say: communication profile (R370, R372, R378) and its commands (R351, R352). -/
def valueOk10 (s : State) (idx sub v : Nat) : Bool :=
  if idx = 0x1010 then v == 0x65766173
  else if idx = 0x1011 then v == 0x64616F6C
  else if idx = 0x1005 || idx = 0x1014 then !bit v 31 && !bit v 29
  else if idx / 4 = 0x500 || idx / 4 = 0x600 then
    (if sub = 1 then !bit v 29 else if sub = 2 then pdoTypeOk v && pdoInvalid s idx else true)
  else if idx / 4 = 0x580 || idx / 4 = 0x680 then pdoInvalid s idx
  else true

/-- Claims, timers and heads (R96, R154, R347). -/
def valueOk20 (idx sub v : Nat) : Bool :=
  if idx = 0x2002 then (if sub = 1 then decide (v ≤ 23) else if sub = 2 then decide (v ≤ 23) || v == 255 else true)
  else if within 0x2220 0x222F idx then (if sub = 11 then decide (v ≤ 15) || v == 255 else true)
  else if idx = 0x2300 then (if sub = 3 || sub = 6 then [1, 2, 4, 8].contains v else true)
  else if idx = 0x2310 then
    (if sub = 2 then decide (v ≤ 1024) else if sub = 3 || sub = 6 then [1, 2, 4].contains v
     else if sub = 8 then decide (v ≤ 6000) else true)
  else if idx = 0x2402 || idx = 0x2412 then (if 3 ≤ sub && sub ≤ 5 then v % 50 == 0 else true)
  else if idx = 0x2500 then (if sub = 17 then decide (v ≤ 15) || v == 255 else true)
  else if idx = 0x2510 then (if sub ≤ 2 then decide (v ≤ 7) || v == 255 else true)
  else true

/-- Motion, imaging, actuators and sensing (R231, R245, R281, R301, R305, R323, R329). -/
def valueOk26 (idx sub v : Nat) : Bool :=
  if within 0x260C 0x260F idx then (if sub = 1 then decide (v ≤ 3) || v == 255 else true)
  else if idx = 0x2700 || idx = 0x2710 then
    (if sub = 3 then (upto 16).all (fun k => decide (v / 2 ^ (3 * k) % 8 ≤ 4))
     else if sub = 6 then [1, 2, 3, 4, 6].contains v
     else if sub = 12 then decide (v ≤ 7) || v == 255 else true)
  else if idx = 0x2830 then (if sub = 1 then v % 500 == 0 else true)
  else if idx = 0x2838 then (if sub = 1 then decide (1 ≤ v / 256) && decide (v / 256 ≤ 3) else true)
  else if idx = 0x2910 || idx = 0x2911 then (if sub = 3 then srcListed v else true)
  else if within 0x2918 0x291F idx then
    (if sub = 2 then srcListed v else if sub = 3 then chListed v
     else if sub = 6 then decide (v ≤ 15) || v == 255 else true)
  else if within 0x2920 0x292F idx then
    (if sub = 1 then chListed v else if sub = 4 then v == 0 || (decide (1000 ≤ v) && decide (v ≤ 10000)) else true)
  else if idx = 0x2930 then
    (if sub = 1 then (Path.ofAscii v).isSome
     else if sub = 7 then v % 8 == 0 && decide (v < 8388608)
     else if sub = 8 then v % 8 == 0 else true)
  else if idx = 0x2940 then (if sub = 1 then chListed v else if sub = 3 then srcListed v else true)
  else true

/-- Links, events, power and security (R387, R399, R408, R429, R430, R433, R439, R463, R493). -/
def valueOk2A (s : State) (p : Path) (idx sub v : Nat) : Bool :=
  if idx = 0x2A02 then v == 0x48 || v == 0x43
  else if idx = 0x2A10 then (if 4 ≤ sub then doorbellOk v else true)
  else if idx = 0x2A40 then
    (if sub = 2 then [125, 250, 500, 800, 1000].contains v
     else if sub = 3 then [1000, 2000, 4000, 5000].contains v else true)
  else if idx = 0x2A4A then (if sub = 1 then !(v == 1 && objN s 0x2A40 2 == 800) else true)
  else if idx = 0x2A60 || idx = 0x2A61 then
    (if sub = 4 then decide (v ≤ 4) else if sub = 6 then decide (v ≤ 2) else true)
  else if idx = 0x2B01 then
    (if sub = 2 then v == 0 || evListed (atN 0 s.rm.sel p.idx.val) else true)
  else if idx = 0x2C00 then (if sub = 2 then decide (v ≤ 3) || v == 255 else true)
  else if idx = 0x2D01 then (if 3 ≤ sub && sub ≤ 5 then v % 5 == 0 else true)
  else if idx = 0x2E02 then (if sub = 9 then decide (1 ≤ v) && decide (v ≤ 5) else true)
  else true

/-- The value alone passes check 6. -/
def valueOk (s : State) (p : Path) (k : Nat) (v : Int) : Bool :=
  let idx := k / 256
  let sub := k % 256
  let n := v.toNat
  (match objRow k with
   | some r => decide (r.lo ≤ v) && decide (v ≤ r.hi)
   | none => false)
  && (if idx < 0x2000 then valueOk10 s idx sub n
      else if idx < 0x2600 then valueOk20 idx sub n
      else if idx < 0x2A00 then valueOk26 idx sub n
      else valueOk2A s p idx sub n)

/-! Cross-object rules (R343). -/

/-- One rule: the objects it binds (DOMAIN tables by the key of their sub-index 00), and whether a view keeps it. -/
structure XRule where
  keys : List Nat
  ok : View → Bool

/-- A rational scale lies within 1 to 16 777 216 pu (limits of spec/02). -/
def scaleOk (num den : Nat) : Bool := decide (den ≤ num) && decide (num ≤ 16777216 * den)

/-- The set-point and encoder scales of a lane (limits of spec/02). -/
def ruleScales (i : Nat) : List XRule :=
  [⟨[okey (0x2100 + i) 4, okey (0x2100 + i) 5], fun w => scaleOk (w.n (0x2100 + i) 4) (w.n (0x2100 + i) 5)⟩,
   ⟨[okey (0x2100 + i) 6, okey (0x2100 + i) 7], fun w => scaleOk (w.n (0x2100 + i) 6) (w.n (0x2100 + i) 7)⟩]

/-- The pitch of a generator is 256 pu or more (limits of spec/02). -/
def rulePitch (g : Nat) : XRule :=
  ⟨[okey (0x2110 + g) 2, okey (0x2110 + g) 3], fun w => decide (256 * w.n (0x2110 + g) 3 ≤ w.n (0x2110 + g) 2)⟩

/-- PREs of a channel: CMPA and CMPB below FRAME (R91, limits of spec/03). -/
def ruleTc (n : Nat) : XRule :=
  let i := 0x2220 + n
  ⟨[okey i 4, okey i 5, okey i 6], fun w => decide (w.n i 5 < w.n i 4) && decide (w.n i 6 < w.n i 4)⟩

/-- No two channels name one pin (R96). -/
def ruleGio : XRule :=
  ⟨(upto 16).map (fun n => okey (0x2220 + n) 11), fun w =>
    let gs := ((upto 32).map (fun n => w.n (0x2210 + n) 11)).filter (fun g => g != 255)
    decide gs.Nodup⟩

/-- VH_MIN does not exceed VH_MAX (R154). -/
def ruleVh (h : Nat) : XRule :=
  let i := 0x2402 + 16 * h
  ⟨[okey i 3, okey i 4], fun w => decide (w.n i 3 ≤ w.n i 4)⟩

/-- WINDOW is at most LABEL_PITCH ÷ 4 (limits of spec/06). -/
def ruleWindow : XRule := ⟨[okey 0x2500 6, okey 0x2500 7], fun w => decide (4 * w.n 0x2500 7 ≤ w.n 0x2500 6)⟩

/-- T_END + T_HOME + 2 × BRAKE (R194). -/
def ruleCut : XRule :=
  ⟨[okey 0x2540 5, okey 0x2540 6, okey 0x2540 8], fun w =>
    decide (w.n 0x2540 5 + w.n 0x2540 6 + 2 * w.n 0x2540 8 ≤ 60000000)⟩

/-- I_HOLD is at most I_RUN, and V_CHOP_HYST below V_CHOP (limits of spec/07, R212). -/
def ruleAxDrive (n : Nat) : XRule :=
  let i := 0x2600 + n
  ⟨[okey i 2, okey i 3, okey i 5, okey i 6], fun w => decide (w.n i 3 ≤ w.n i 2) && decide (w.n i 6 < w.n i 5)⟩

/-- The speeds of Trapezoid-2 (R212). -/
def ruleAxSpeeds (n : Nat) : XRule :=
  let i := 0x2604 + n
  ⟨[okey i 3, okey i 4, okey i 5, okey i 10], fun w =>
    decide (w.n i 3 ≤ w.n i 4) && decide (w.n i 10 ≤ w.n i 4) && decide (w.n i 4 ≤ w.n i 5)⟩

/-- NATIVE is at most 5184 (R231). -/
def ruleNative (p : Nat) : XRule :=
  let i := 0x2700 + 16 * p
  ⟨[okey i 1, okey i 2, okey i 3], fun w =>
    decide (w.n i 1 * w.n i 2 + sumN ((upto (w.n i 1 - 1)).map (fun k => w.n i 3 / 2 ^ (3 * k) % 8)) ≤ 5184)⟩

/-- The slots in use follow each other (R234). -/
def ruleSlots (p : Nat) : XRule :=
  let i := 0x2700 + 16 * p
  ⟨okey i 15 :: (upto 4).flatMap (fun k => [okey (i + 8 + k) 2, okey (i + 8 + k) 3]), fun w =>
    (upto (w.n i 15 - 1)).all (fun k => decide (w.n (i + 8 + k) 2 + w.n (i + 8 + k) 3 ≤ w.n (i + 9 + k) 2))⟩

/-- LED_I is within the maximum of its illumination channel (R263). -/
def ruleLed (p k : Nat) : XRule :=
  let i := 0x2708 + 16 * p + k
  ⟨[okey i 1, okey i 5], fun w =>
    decide (w.n i 5 ≤ (if w.n i 1 = 2 then 4000 else if w.n i 1 = 3 then 3000 else 6000))⟩

/-- TTP_MIN is below TTP_MAX, and T_WARN below T_LIMIT (limits of spec/09). -/
def ruleSol (c : Nat) : XRule :=
  let i := 0x2800 + c
  ⟨[okey i 7, okey i 8], fun w => decide (w.n i 7 < w.n i 8)⟩
/-- See `ruleSol`. -/
def ruleSolTemp (c : Nat) : XRule :=
  let i := 0x2810 + c
  ⟨[okey i 7, okey i 8], fun w => decide (w.v (okey i 7) < w.v (okey i 8))⟩

/-- BOOST_OK is at most BOOST_SET (R281). -/
def ruleBoost : XRule := ⟨[okey 0x2830 1, okey 0x2830 2], fun w => decide (w.n 0x2830 2 ≤ w.n 0x2830 1)⟩

/-- Every entry of a sequencer table names a listed channel, and a filter of the same channel (R311). -/
def tableOk (w : View) (tab : List Byte) : Bool :=
  (upto 64).all (fun e =>
    let x := sqWord tab e
    chListed (bits x 31 24) && (match sqFilter x with
      | some k => w.n (0x2920 + k.val) 1 == bits x 31 24
      | none => true))

/-- A filter is bound to producers of its own channel only (R311, R323). -/
def ruleFilters : XRule :=
  ⟨(upto 8).flatMap (fun u => [okey (0x2918 + u) 3, okey (0x2918 + u) 6])
     ++ (upto 16).map (fun k => okey (0x2920 + k) 1) ++ [okey 0x5900 0, okey 0x5901 0], fun w =>
    (upto 8).all (fun u =>
      let k := w.n (0x2918 + u) 6
      k == 255 || w.n (0x2920 + k) 1 == w.n (0x2918 + u) 3)
    && tableOk w (w.d 0x5900) && tableOk w (w.d 0x5901)⟩

/-- The DMA ring lies inside the application's data window of 8 MB (R26, R329). -/
def ruleDma : XRule :=
  ⟨[okey 0x2930 7, okey 0x2930 8], fun w => decide (w.n 0x2930 7 + w.n 0x2930 8 ≤ 8388608)⟩

/-- DATA_RATE is at least NOMINAL_RATE (R410). -/
def ruleCan : XRule := ⟨[okey 0x2A40 2, okey 0x2A40 3], fun w => decide (w.n 0x2A40 2 ≤ w.n 0x2A40 3)⟩

/-- No parity with 9 data bits (spec/14, R430). -/
def ruleUart (n : Nat) : XRule :=
  let i := 0x2A60 + n
  ⟨[okey i 3, okey i 4], fun w => !(w.n i 3 == 9 && w.n i 4 != 0)⟩

/-- VCORE_MIN is below VCORE_MAX (R463). -/
def ruleVcore : XRule := ⟨[okey 0x2D01 3, okey 0x2D01 4], fun w => decide (w.n 0x2D01 3 < w.n 0x2D01 4)⟩

/-- P_PEAK is not below P_CONT (spec/16). -/
def rulePeak : XRule := ⟨[okey 0x2D02 2, okey 0x2D02 3], fun w => decide (w.n 0x2D02 2 ≤ w.n 0x2D02 3)⟩

/-- The run of non-zero mapping entries of a PDO (R368); `n` counts RPDO1–4 as 0–3 and TPDO1–4 as 4–7. -/
def mapEntries (w : View) (n : Nat) : List Nat :=
  let i := if n < 4 then 0x1600 + n else 0x1A00 + (n - 4)
  ((upto 64).map (fun k => w.n i (k + 1))).takeWhile (fun e => e != 0)

/-- One entry can be mapped (R369). -/
def mapEntryOk (rx : Bool) (e : Nat) : Bool :=
  match objRow (e / 256) with
  | none => false
  | some r =>
    let right := r.rights.ofPath .n
    decide (r.ty ≠ .dom) && decide (r.ty ≠ .str) && e % 256 == 8 * r.ty.bytes && e / 256 != okey 0x2930 2
      && (if rx then (decide (right = .rw) || decide (right = .wo)) && (decide (r.cls = .immediate) || decide (r.cls = .staged))
          else decide (right = .ro) || decide (right = .rw) || decide (right = .const))

/-- A mapping is sound (R369). -/
def mapOk (w : View) (n : Nat) : Bool :=
  let es := mapEntries w n
  es.all (mapEntryOk (decide (n < 4))) && decide (es.Nodup) && decide (sumN (es.map (fun e => e % 256)) ≤ 512)

/-- The COB-ID object of a PDO. -/
def pdoCobKey (n : Nat) : Nat := if n < 4 then okey (0x1400 + n) 1 else okey (0x1800 + (n - 4)) 1

/-- The identifier a COB-ID object gives, with the node-ID while it has never been written (R378). -/
def viewCob (w : View) (node k : Nat) : Nat := ((w.v k).toNat + (if w.wr k then 0 else node)) % 2048

/-- A valid PDO has a sound mapping and an identifier of its own (R370). -/
def rulePdo (node n : Nat) : XRule :=
  ⟨okey 0x1014 0 :: (upto 8).map pdoCobKey, fun w =>
    bit (w.v (pdoCobKey n)).toNat 31 || (
      let c := viewCob w node (pdoCobKey n)
      mapOk w n && c != viewCob w node (okey 0x1014 0) && c != (0x700 + node) % 2048
      && (upto 8).all (fun m => m == n || bit (w.v (pdoCobKey m)).toNat 31 || c != viewCob w node (pdoCobKey m)))⟩

/-- The rules of one page of the dictionary. -/
def rulesOf (node hi : Nat) : List XRule :=
  if hi < 0x20 then (upto 8).map (rulePdo node)
  else if hi = 0x21 then (upto 4).flatMap ruleScales ++ (upto 16).map rulePitch
  else if hi = 0x22 then (upto 16).map ruleTc ++ [ruleGio]
  else if hi = 0x24 then [ruleVh 0, ruleVh 1]
  else if hi = 0x25 then [ruleWindow, ruleCut]
  else if hi = 0x26 then (upto 4).map ruleAxDrive ++ (upto 4).map ruleAxSpeeds
  else if hi = 0x27 then
    (upto 2).flatMap (fun p => ruleNative p :: ruleSlots p :: (upto 4).map (ruleLed p))
  else if hi = 0x28 then (upto 8).map ruleSol ++ (upto 8).map ruleSolTemp ++ [ruleBoost]
  else if hi = 0x29 then [ruleFilters, ruleDma]
  else if hi = 0x59 then [ruleFilters]
  else if hi = 0x2A then [ruleCan, ruleUart 0, ruleUart 1]
  else if hi = 0x2D then [ruleVcore, rulePeak]
  else []

/-- Every rule. -/
def allRules (node : Nat) : List XRule := [0x10, 0x21, 0x22, 0x24, 0x25, 0x26, 0x27, 0x28, 0x29, 0x2A, 0x2D].flatMap (rulesOf node)

/-- Every rule that binds the object holds in the view. -/
def crossOk (s : State) (w : View) (k : Nat) : Bool :=
  (rulesOf s.net.nodeAct (k / 65536)).all (fun r => !r.keys.contains k || r.ok w)

/-! DOMAIN contents (R366). -/

/-- A length a DOMAIN object takes. -/
def domLenOk (idx n : Nat) : Bool :=
  if idx = 0x5E00 then decide (1 ≤ n) && decide (n ≤ 4194304)
  else if idx = 0x5E01 then decide (1 ≤ n) && decide (n ≤ 1048576)
  else decide (n = domLen idx)

/-- The entries of the event table image: a reserved event has none (R439). -/
def evImageOk (bs : List Byte) : Bool := (upto 512).all (fun e => evListed e || rdLE bs (4 * e) 4 == 0)

/-- The entries of a trim table lie in its limits (spec/05). -/
def trimsOk (idx : Nat) (bs : List Byte) : Bool :=
  (upto (bs.length / 2)).all (fun i =>
    let v := rdLE bs (2 * i) 2
    if idx = 0x5414 then decide (-7864 ≤ ofBits 16 v) && decide (ofBits 16 v ≤ 7864)
    else decide (8192 ≤ v) && decide (v ≤ 24576))

/-- The content of a DOMAIN write passes check 6. -/
def domValueOk (idx : Nat) (bs : List Byte) : Bool :=
  domLenOk idx bs.length &&
  (if idx = 0x5402 || idx = 0x5412 || idx = 0x5414 then trimsOk idx bs
   else if idx = 0x5B00 then evImageOk bs else true)

end Sys2Proof.Machine
end

