-- ==== Sys2Proof/Machine/Lr.lean ====
section
/-!
DEFINITION. Lr.lean: the Last Ride round (spec/14, R420–R429): what makes the engine busy, the master's and the
participant's part, the curtain, and the transceiver's sleep and wake.
-/

namespace Sys2Proof.Machine

open Sys2Proof

/-- H is configured and not suspended, or C has made a transaction in the last second with CB_RST# high (R422, 5). -/
def hostActive (s : State) : Bool :=
  s.usb.state == 4 || (!s.cb.rstLow && (match s.cb.lastSt with
    | some t => decide (now s < t + 200000000)
    | none => false))

/-- The reason of the first condition that makes the engine busy; 0 where it is ready (R422). -/
def lrBusy (s : State) : Nat :=
  if objN s 0x2A48 2 = 1 && s.md.mode ≠ .standby then 1
  else if !ledgerIdle s then 2
  else if s.md.trans.isSome || s.md.held then 3
  else if s.net.lr.evSince then 4
  else if hostActive s then 5
  else if s.net.lr.localWake then 6
  else 0

/-- The Last Ride service runs: the controller is live and has left INITIALISING (R413). -/
def lrLive (s : State) : Bool := canLive s && s.net.nmt != 0

/-- The engine may take part: the service runs and its role is not 0 (R421). -/
def lrPart (s : State) : Bool := lrLive s && decide (objN s 0x2A48 1 ≠ 0)

/-- The members of the master's round: the node-IDs of LR_MEMBERS_LO and LR_MEMBERS_HI but its own (R421). -/
def lrMembers (s : State) : List Nat :=
  ((upto 128).filter (fun n =>
    if n < 64 then decide (1 ≤ n) && bit (objN s 0x2A48 5) n else bit (objN s 0x2A48 6) (n - 64))).filter
    (fun n => n != s.net.nodeAct)

/-- The round ends with an outcome: 2 aborted, 3 cancelled, 4 timed out; EV473. -/
def lrEnd (s : State) (outcome reason node : Nat) : State :=
  let s1 := modLr s (fun l =>
    { l with state := 0, outcome := outcome, reason := reason, node := node, master := false, ready := false,
             commitSent := false, veto := none, cancels := (if outcome = 3 then inc32 l.cancels else l.cancels) })
  raise s1 473 (s.net.lr.round + 256 * outcome) (reason + 256 * node)

/-- A round begins with the CALL frame: number, start and what R422 counts from it. -/
def lrBegin (s : State) (round st : Nat) (master : Bool) : State :=
  modLr s (fun l =>
    { l with state := st, round := round, master := master, startSt := now s, answers := [], veto := none,
             evSince := false, localWake := false, commitSent := false, ready := false, vetoSent := false,
             rounds := inc32 l.rounds })

/-- LR_CALL = 1 (R423): the state and the status of the write. A round of the engine that still runs is ended with ABORT; a
busy engine refuses the round with WRONG_MODE and sends no frame (DEDUCED, assumption log 31). -/
def lrCall (s : State) : State × Nat :=
  if objN s 0x2A48 1 ≠ 2 || !lrLive s then (s, 0)
  else
    let s1 := if s.net.lr.master && (s.net.lr.state = 2 || s.net.lr.state = 3) then
                lrEnd (lrSend s 6 0) 2 0 s.net.nodeAct else s
    let s2 := modLr s1 (fun l => { l with evSince := false, localWake := false })
    let r := lrBusy s2
    if r ≠ 0 then (modLr s1 (fun l => { l with reason := r }), 0x24)
    else (lrSend (lrBegin s2 (inc8 s2.net.lr.round) 2 true) 1 0, 0)

/-- A CALL of `node` has been received (R421, R424). -/
def lrCallReceive (s : State) (node round : Nat) : State :=
  if !lrPart s || objN s 0x2A48 1 ≠ 1 then s
  else if node ≠ objN s 0x2A48 3 then raise (modLr s (fun l => { l with node := node })) 478 node round
  else if s.net.lr.state = 3 || s.net.lr.state = 4 then s
  else
    let s1 := lrBegin s (wrap 8 round) 1 false
    let r := lrBusy s1
    let s2 := modLr s1 (fun l => { l with ready := decide (r = 0) })
    if r = 0 then lrSend s2 2 0 else lrSend s2 3 r

/-- A READY or BUSY of a member has been received (R423); `reason` 0 is READY. -/
def lrAnswer (s : State) (node round reason : Nat) : State :=
  let l := s.net.lr
  if !lrPart s || l.state ≠ 2 || !l.master || l.round ≠ round || !(lrMembers s).contains node
      || (l.answers.lookup node).isSome then s
  else modLr s (fun l => { l with answers := l.answers ++ [(node, reason)] })

/-- The first failing answer, node and reason: the first BUSY received, else the lowest member that has not answered, which counts as missing
(DEDUCED, assumption log 130). -/
def lrFailing (s : State) : Option (Nat × Nat) :=
  match s.net.lr.answers.find? (fun a => a.2 != 0) with
  | some a => some a
  | none => ((lrMembers s).find? (fun n => (s.net.lr.answers.lookup n).isNone)).map (fun n => (n, 7))

/-- The answer window of 50 ms has ended (R423). -/
def lrWindowEnd (s : State) : State :=
  let l := s.net.lr
  if !lrPart s || l.state ≠ 2 || !l.master || l.commitSent || decide (now s < l.startSt + 10000000) then s
  else
    let abort := fun (reason node : Nat) => lrEnd (lrSend s 6 reason) 2 reason node
    match l.veto, lrFailing s with
    | some n, _ => abort 8 n
    | none, some (n, r) => abort r n
    | none, none =>
      let r := lrBusy s
      if r ≠ 0 then abort r s.net.nodeAct
      else lrSend (modLr s (fun l => { l with commitSent := true })) 5 0

/-- A VETO has been received (R423, R425). -/
def lrVeto (s : State) (node round : Nat) : State :=
  let l := s.net.lr
  if !lrPart s || l.round ≠ round then s
  else if l.state = 3 then lrEnd (lrSend s 7 8) 3 8 node
  else if l.state = 2 && l.master then
    (if l.commitSent then lrEnd (lrSend s 6 8) 2 8 node else modLr s (fun l => { l with veto := some node }))
  else s

/-- A COMMIT frame has ended on the bus: the curtain starts on every node of the round (R425). -/
def lrCommit (s : State) (node round : Nat) : State :=
  let l := s.net.lr
  let own := l.master && l.state = 2 && l.commitSent && decide (node = s.net.nodeAct)
  let other := !l.master && l.state = 1 && decide (node = objN s 0x2A48 3)
  if lrPart s && l.round = round && (own || other) then modLr s (fun l => { l with state := 3, startSt := now s }) else s

/-- An ABORT of the round has been received (R424). -/
def lrAbort (s : State) (node round reason : Nat) : State :=
  let l := s.net.lr
  if lrPart s && l.state = 1 && l.round = round && node = objN s 0x2A48 3 then lrEnd s 2 reason node else s

/-- No COMMIT or ABORT within 100 ms of READY (R424). -/
def lrWaitTimeout (s : State) : State :=
  let l := s.net.lr
  if l.state = 1 && l.ready && decide (l.startSt + 20000000 ≤ now s) then lrEnd s 4 0 (objN s 0x2A48 3) else s

/-- A WAKE frame in the curtain (R425). -/
def lrWake (s : State) (node : Nat) : State :=
  if lrPart s && s.net.lr.state = 3 then lrEnd s 3 9 node else s

/-- The curtain of 20 ms has ended without a cancel (R426, R428). -/
def lrCurtainEnd (s : State) : State :=
  let l := s.net.lr
  if l.state ≠ 3 || decide (now s < l.startSt + 3980000) then s
  else
    let s1 := modLr s (fun l => { l with state := 4, outcome := 1, reason := 0, sleeps := inc32 l.sleeps, master := false,
                                         ready := false, commitSent := false })
    let s2 := canStandby (raise s1 472 l.round (objN s 0x2A48 2)) 3
    if objN s 0x2A48 2 = 1 && s2.md.mode = .standby && s2.md.trans.isNone && s2.pw.pf.isNone then startDoze s2 0 else s2

/-- The transceiver reports a wake: 1 WUF, 2 WUP, 3 frame errors (R427, R429, R472). In DOZE it is a wake source. -/
def canWake (s : State) (cause : Nat) : State :=
  if s.net.busState ≠ 3 then s
  else if s.md.mode = .doze then
    modMd (modLr s (fun l => { l with wakeCause := cause })) (fun d => { d with wakeSrc := setBit d.wakeSrc 4 })
  else lrWoken (canUp s) cause 0

/-- What a round makes of the state a command has left: VETO and WAKE of an engine that has become busy (R424, R425), and
the local wake of one that sleeps with LR_ACTION = 0 (R427). -/
def lrWatch (s : State) : State :=
  let l := s.net.lr
  let r := lrBusy s
  if r = 0 || !dictLive s then s
  else if l.state = 1 && l.ready && !l.vetoSent && lrPart s then
    lrSend (modLr s (fun l => { l with vetoSent := true })) 4 r
  else if l.state = 3 && lrPart s then lrEnd (lrSend s 7 r) 3 r s.net.nodeAct
  else if l.state = 4 && s.md.mode ≠ .doze && objN s 0x2A48 2 = 0 then lrWoken (canUp s) 4 r
  else s

/-- A Reset Communication, a bus-off or an NMT command ends the engine's part in a round before COMMIT; a curtain runs on
(R428). -/
def lrLeave (s : State) (busOff : Bool) : State :=
  let l := s.net.lr
  if l.state = 1 || l.state = 2 then
    modLr s (fun l => { l with state := 0, master := false, ready := false, commitSent := false, veto := none,
                               lostRound := busOff && !l.master })
  else s

/-- Back from bus-off after other nodes' curtain: the participant sends a WAKE, and the round is treated as a wake (R428). -/
def lrBack (s : State) : State :=
  if s.net.lr.lostRound then
    let s1 := modLr s (fun l => { l with lostRound := false, wakeCause := 4 })
    raise (if lrPart s1 then lrSend s1 7 0 else s1) 474 4 s.net.lr.round
  else s

end Sys2Proof.Machine
end

