-- ==== Sys2Proof/Machine/Effect.lean ====
section
/-!
DEFINITION. Effect.lean: what a setting does in the cycle its new value takes effect, and what each command object does when
it is written. Every rule cited is that of the owning chapter.
-/

namespace Sys2Proof.Machine

open Sys2Proof

/-! Waymark table commands (R81, R82). -/

/-- COMMAND 1: every entry is disabled. -/
def wmDisableAll (s : State) : State := applyAll (fun t (x : Nat × Waymark) => wmDisable t x.1) s s.msu.wm

/-- The firing condition of an enabled entry holds at the present position or ST (R82). -/
def wmHolds (s : State) (w : Waymark) : Bool := decide (firesNow s { w with armed := true, since := 0 } ≠ 0)

/-- COMMAND 2: every enabled entry whose condition does not hold is armed; a pair only as a whole. -/
def wmArmAll (s : State) : State :=
  applyAll (fun t (x : Nat × Waymark) =>
    let w := x.2
    let y := wmAt s w.partner
    if !w.en || w.armed || wmHolds s w then t
    else if w.pair && (!y.en || wmHolds s y) then t
    else wmArm t x.1) s s.msu.wm

/-- Entry `e` as an image holds it; EN is handled apart. -/
def wmOfImage (bs : List Byte) (e : Nat) : Waymark :=
  wmSetAct (wmSetCtrl { Waymark.reset with target := rdLE bs (16 * e) 8 } (rdLE bs (16 * e + 8) 4)) (rdLE bs (16 * e + 12) 4)

/-- The whole table is written, and every entry with EN = 1 validated (R81). -/
def wmImageWrite (s : State) (bs : List Byte) : State :=
  let s1 := applyAll (fun t e => setWm t e (wmOfImage bs e)) s (upto 1024)
  applyAll (fun t e => if bit (rdLE bs (16 * e + 8) 4) 31 then wmEnable t e else t) s1 (upto 1024)

/-- A write of CTRL to entry `e` (R62, R63). -/
def wmCtrlWrite (s : State) (e v : Nat) : State :=
  let s1 := setWm s e { wmSetCtrl (wmAt s e) v with en := false, armed := false }
  if bit v 31 then wmEnable s1 e else s1

/-- A write of TARGET, CTRL or ACT through the window of a path (R62, R80). -/
def wmWindow (s : State) (p : Path) (sub v : Nat) : State :=
  let e := atN 0 s.msu.wmSel p.idx.val
  match sub with
  | 1 => { s with msu := { s.msu with wmSel := upd s.msu.wmSel p.idx (fun _ => v) } }
  | 2 => setWm s e { wmAt s e with target := v }
  | 3 => wmCtrlWrite s e v
  | _ => setWm s e (wmSetAct (wmAt s e) v)

/-! Job Ledger commands (R354, R355, R359). -/

/-- The entry a path has selected. -/
def jobSel (s : State) (p : Path) : Fin 64 := Fin.ofNat 64 (atN 0 s.ledger.sel p.idx.val)

/-- A field of a FREE entry is written (R354). -/
def jobField (j : Job) (sub v : Nat) : Job :=
  match sub with
  | 2 => { j with jobId := v }
  | 3 => { j with kind := v }
  | 4 => { j with lane := v }
  | 5 => { j with dir := v }
  | 6 => { j with first := v }
  | 7 => { j with last := v }
  | 8 => { j with startWm := v }
  | _ => { j with endWm := v }

/-- CMD 1: a FREE entry becomes QUEUED after the checks of R355. -/
def jobSubmit (s : State) (e : Fin 64) : State × Nat :=
  let j := s.ledger.jobs[e]
  if !submitOk s e (jobUnitLane s j) then (s, 0x23)
  else
    let n := s.ledger.nextOrder
    let s1 := modJob s e (fun j => { j with state := 1, cause := 0, progress := 0, stActive := 0, stEnd := 0, ignored := 0,
                                            order := n, actOrder := 0, resv := 0, waitEv := false, conflict := false })
    ({ s1 with ledger := { s1.ledger with nextOrder := n + 1 } }, 0)

/-- The states a CMD applies to (R355, R359). -/
def jobCmdFits (cmd st : Nat) : Bool :=
  match cmd with
  | 1 => st == 0
  | 2 => st == 1 || st == 2 || st == 3
  | 3 => st == 2 || st == 3
  | _ => st == 4 || st == 5

/-- CMD on the selected entry. -/
def jobCmd (s : State) (p : Path) (cmd : Nat) : State × Nat :=
  let e := jobSel s p
  match cmd with
  | 1 => jobSubmit s e
  | 2 => (jobAbort 1 s e, 0)
  | 3 => (jobEnd s e, 0)
  | _ => (jobFree s e, 0)

/-- CLEAR: every DONE and ABORTED entry returns to FREE. -/
def ledgerClear (s : State) : State := applyAll jobFree s ((allFin 64).filter (fun e => jobEnded s.ledger.jobs[e]))

/-! Heads, cutter, images (R118, R147, R150, R187, R193, R241). -/

/-- FLUSH. -/
def flushCmd (s : State) (v : Nat) : State :=
  let s1 := if bit v 0 then rasterFlush s 0 else s
  if bit v 1 then rasterFlush s1 1 else s1

/-- MEAS_CMD 1: the measurement starts with VH at VH_SET; a host capture in progress is preempted, with its raw codes
(R147, R320). -/
def measStart (s : State) (h : Fin 2) (raws : List Nat) : State × Nat :=
  if !measAllowed s h then (s, 0x24)
  else
    let s1 := if capRuns s then capEnd s 4 raws else s
    (measBegin s1 h, 0)

/-- MEAS_CMD. -/
def measCmd (s : State) (h : Fin 2) (v : Nat) (raws : List Nat) : State × Nat :=
  if v = 1 then measStart s h raws else (measAbort s h 1, 0)

/-- CUT_CMD 3: the blade is driven HOME where the engine may drive it, in JAM and FAULT too; EV229 with reason 3 outside RUN and SERVICE,
and with reason 2 while an over-current or a Safety Net cut holds the bridge off (R41, R190, R193; DESIGN CHOICE, assumption log 119); a
cycle under way homes by itself. -/
def cutHomeCmd (s : State) : State :=
  let r := if !inRun s then 3 else if s.cut.tripped || outputCut s then 2 else 0
  if r ≠ 0 then raise s 229 (3 + 256 * r) s.cut.state
  else if s.cut.phase ≠ .idle then s
  else cutHome s

/-- CUT_CMD. -/
def cutCmd (s : State) (v : Nat) : State := if v = 3 then cutHomeCmd s else cutHere s v 0

/-- CUT_CLEAR, refused with RANGE under a Safety Net cut or while the over-current comparator is asserted (R193). -/
def cutClearCmd (s : State) (oc : Bool) : State × Nat := if outputCut s || oc then (s, 0x23) else (cutClear s, 0)

/-- CAL_CMD: 1 and 2 need RUN or SERVICE and no ARMED or ACTIVE job of the port (R241). -/
def calCmd (s : State) (p : Fin 2) (v : Nat) : State × Nat :=
  if v ≤ 2 && !(inRun s && !(jobsOfKind s (p.val + 3)).any (fun e => jobLive s.ledger.jobs[e])) then (s, 0x24)
  else (calStart s p v, 0)

/-! Security and images (R491–R493, R501, R502). -/

/-- A 256-bit number held in four UNSIGNED64 objects, the least significant first (DEDUCED, assumption log 26). -/
def quad (s : State) (idx sub : Nat) : Nat := sumN ((upto 4).map (fun i => objN s idx (sub + i) * 2 ^ (64 * i)))

/-- SLOT_CMD 1: the header of the slot that is not running is erased (R491). -/
def slotCmd (s : State) : State :=
  modBoot s (fun b => { b with slots := updN b.slots (1 - b.running.val) (fun _ => SysSlot.blank) })

/-- The other slot is judged again (R492). -/
def rejudgeOther (s : State) : State :=
  let f := fun (x : SysSlot) => { x with state := stateOfCheck x (slotCheck s x true) }
  modBoot s (fun b => { b with slots := updN b.slots (1 - b.running.val) f })

/-- ROLLBACK_CMD 1 (R492). -/
def rollbackCmd (s : State) : State :=
  let n := s.boot.slots[s.boot.running].rollback
  if n ≤ s.boot.rollback then s
  else raise (rejudgeOther (modBoot s (fun b => { b with rollback := n }))) 508 1 n

/-- SLOT_STATES. -/
def slotStates (s : State) : Nat :=
  s.boot.keys[0].state + 4 * s.boot.keys[1].state + 16 * s.boot.keys[2].state + 64 * s.boot.keys[3].state

/-- KEY_CMD (R493). -/
def keyCmd (s : State) (v : Nat) : State × Nat :=
  if v = 1 then
    let x := quad s 0x2E02 1
    let y := quad s 0x2E02 5
    match (allFin 4).find? (fun k => s.boot.keys[k].state == 0) with
    | none => (s, 0x23)
    | some k =>
      if (allFin 4).any (fun k => s.boot.keys[k].state == 1) || !onCurve x y then (s, 0x23)
      else
        let s1 := modBoot s (fun b => { b with keys := upd b.keys k (fun _ => ⟨1, x, y⟩) })
        (raise s1 508 2 (slotStates s1), 0)
  else
    let k := Fin.ofNat 4 (v - 2)
    let s1 := modBoot s (fun b => { b with keys := upd b.keys k (fun x => { x with state := 2 }) })
    let s2 := appStop s1 5
    let s3 := modBoot s2 (fun b => { b with appNor := [], appStage := [], stageValid := false })
    (raise s3 508 3 (slotStates s3), 0)

/-- The message a debug unlock signs: CHALLENGE and the serial number (R501). -/
def debugMessage (s : State) : List Byte :=
  (upto 4).flatMap (fun i => leBytes 8 (wrap 64 (freeChallenge (4 * s.boot.challenge + i)))) ++ leBytes 4 unitSerial

/-- DEBUG_CMD (R501, R502). -/
def debugCmd (s : State) (v : Nat) : State × Nat :=
  if v = 2 then
    (if s.boot.debugOn then raise (modBoot s (fun b => { b with debugOn := false })) 508 4 0 else s, 0)
  else
    let m := sha256 (debugMessage s)
    let ok := (allFin 4).any (fun k =>
      s.boot.keys[k].state == 1 && ecdsaOk s.boot.keys[k].x s.boot.keys[k].y m (quad s 0x2E03 5) (quad s 0x2E03 9))
    let s1 := modBoot s (fun b => { b with challenge := b.challenge + 1 })
    if ok then (raise (modBoot s1 (fun b => { b with debugOn := true })) 508 4 1, 0)
    else (modBoot s1 (fun b => { b with debugRefused := b.debugRefused + 1 }), 0x23)

/-- APP_CMD: 1 stops, 2 starts (R494, R500). -/
def appCmd (s : State) (v : Nat) : State := if v = 1 then appStop s 1 else appStart s

/-! Events and the Trouble Log (R446, R450). -/

/-- The flag of the event a path has selected is cleared. -/
def clearFlag (s : State) (e : Nat) : State :=
  { s with rm := { s.rm with recs := SMap.put (fun _ => EvRec.reset) s.rm.recs e { evRec s e with flag := false } } }

/-- CLEAR_ALL. -/
def clearAllFlags (s : State) : State := applyAll clearFlag s (flaggedEvents s)

/-- TL_CLEAR: the log, with what the cycle has raised so far, is emptied and EV509 is its first entry (R450). -/
def tlClear (s : State) (p : Path) : State :=
  let s1 := ringFlush (settle s)
  ringFlush (settle (raise { s1 with tl := { s1.tl with ring := [], head := 0, lostNext := false, dropRun := false } } 509 p.ascii s1.tl.wraps))

/-! Command objects. -/

/-- Objects whose write is a command or goes to a window, in 0x2000–0x24FF: the state and its status. -/
def command20 (s : State) (p : Path) (idx sub v : Nat) (seen : List Nat) : Option (State × Nat) :=
  if idx = 0x2000 && sub = 1 then some (modeRequest s p v)
  else if idx = 0x2000 && sub = 4 then some (if v = 1 then lockoutClear s p else (s, 0))
  else if idx = 0x2020 then
    (if sub = 1 then some ({ s with ledger := { s.ledger with sel := upd s.ledger.sel p.idx (fun _ => v) } }, 0)
     else if sub = 10 then some (jobCmd s p v)
     else some (modJob s (jobSel s p) (fun j => jobField j sub v), 0))
  else if idx = 0x2021 then some (ledgerClear s, 0)
  else if idx = 0x2140 then some (wmWindow s p sub v, 0)
  else if idx = 0x2141 then some (if v = 1 then wmDisableAll s else wmArmAll s, 0)
  else if within 0x2220 0x222F idx && sub = 12 then some (tcClearFlags s (Fin.ofNat 32 (idx - 0x2210)) v, 0)
  else if within 0x2240 0x2247 idx && sub = 8 then some (capClearFlags s (Fin.ofNat 8 (idx - 0x2240)) v, 0)
  else if idx = 0x2320 && sub = 8 then some (flushCmd s v, 0)
  else if idx = 0x2403 && sub = 1 then some (measCmd s 0 v seen)
  else if idx = 0x2413 && sub = 1 then some (measCmd s 1 v seen)
  else none

/-- The same in 0x2500–0x29FF. -/
def command25 (s : State) (idx sub v : Nat) (seen : List Nat) : Option (State × Nat) :=
  let held := decide (seen.getD 0 0 ≠ 0)
  if idx = 0x2520 && sub = 5 then some (if v = 1 then govRelease s 0 else s, 0)
  else if idx = 0x2528 && sub = 5 then some (if v = 1 then govRelease s 1 else s, 0)
  else if idx = 0x2541 && sub = 2 then some (cutCmd s v, 0)
  else if idx = 0x2541 && sub = 3 then some (if v = 1 then cutClearCmd s held else (s, 0))
  else if within 0x2608 0x260B idx && sub = 5 then
    some (if v = 0 then (s, 0) else if held then (s, 0x23) else (axClear s (Fin.ofNat 4 (idx - 0x2608)), 0))
  else if idx = 0x2704 && sub = 4 then some (calCmd s 0 v)
  else if idx = 0x2714 && sub = 4 then some (calCmd s 1 v)
  else if idx = 0x2838 then
    some (if sub = 1 then (solCmd s v, 0)
          else if sub = 2 then (solClear s v, 0)
          else if (upto 2).any (fun b => bit v b && bit (seen.getD 0 0) b) then (s, 0x23) else (bankClear s v, 0))
  else if idx = 0x2900 && sub = 6 then some (sliceClear s v, 0)
  else if idx = 0x2900 && sub = 7 then some (if v = 1 then seTrigger s 1 else s, 0)
  else if idx = 0x2930 && sub = 11 then some (if v = 1 then queueFlush s else s, 0)
  else if idx = 0x2940 && sub = 4 then some (if v = 1 then capArm s else capAbort s seen, 0)
  else none

/-- The same from 0x2A00 on. -/
def command2A (s : State) (p : Path) (idx sub v : Nat) : Option (State × Nat) :=
  let sel := atN 0 s.rm.sel p.idx.val
  if idx = 0x2A48 && sub = 8 then some (lrCall s)
  else if idx = 0x2B01 then
    (match sub with
     | 1 => some ({ s with rm := { s.rm with sel := upd s.rm.sel p.idx (fun _ => v) } }, 0)
     | 2 => some (setEvEntry s sel v, 0)
     | 4 => some (if v = 1 then clearFlag s sel else s, 0)
     | _ => some (if v = 1 then clearAllFlags s else s, 0))
  else if idx = 0x2C00 && sub = 1 then some (if v = 1 then tlClear s p else s, 0)
  else if idx = 0x2C11 then some (if v = 1 then snRelease s else (s, 0))
  else if idx = 0x2E00 && sub = 5 then some (slotCmd s, 0)
  else if idx = 0x2E01 && sub = 2 then some (appCmd s v, 0)
  else if idx = 0x2E02 && sub = 9 then some (keyCmd s v)
  else if idx = 0x2E02 && sub = 11 then some (rollbackCmd s, 0)
  else if idx = 0x2E03 && sub = 13 then some (debugCmd s v)
  else none

/-- The command an object's write is, if it is one. `seen` holds what the unit reads as it takes the command: for AX_CLEAR
and CUT_CLEAR whether the over-current comparator is asserted, for BANK_CLEAR the banks with an OFF channel below 0.8 V, for a
command that ends a capture its raw codes. -/
def command (s : State) (p : Path) (k : Nat) (v : Nat) (seen : List Nat) : Option (State × Nat) :=
  let idx := k / 256
  let sub := k % 256
  if idx < 0x2500 then command20 s p idx sub v seen
  else if idx < 0x2A00 then command25 s idx sub v seen
  else command2A s p idx sub v

/-! Settings. -/

/-- LOOP_EN and FREEZE of a VH loop, and VH_SET while the loop is off (R153). A loop that is switched is held at no limit: a step that
finds it there enters the state anew (R152). -/
def vhFollow (before s : State) (h : Fin 2) : State :=
  let s := if vlCfg before h 1 ≠ vlCfg s h 1 || vlCfg before h 2 ≠ vlCfg s h 2 then
      modVl s h (fun v => { v with state := min v.state 1 }) else s
  if vlCfg s h 1 = 0 then modVl s h (fun v => { v with gathered := [], target := vlCfg s h 5 })
  else if vlCfg s h 2 = 1 then modVl s h (fun v => { v with gathered := [] })
  else s

/-- ENABLE, MODE and ORIGIN of a channel (R90). -/
def tcFollow (before s : State) (c : Fin 32) : State :=
  let i := 0x2210 + c.val
  if objN before i 1 ≠ objN s i 1 then (if objN s i 1 = 1 then tcEnable s c else tcDisable s c)
  else if objN s i 1 = 1 && (obj before i 2 != obj s i 2 || obj before i 3 != obj s i 3) then tcRejoin s c
  else s

/-- ENABLE, SRC, FILT_N and FILT_P of a capture (R104). -/
def capFollow (before s : State) (m : Fin 8) (sub : Nat) : State :=
  if obj before (0x2240 + m.val) sub = obj s (0x2240 + m.val) sub then s else capAnew s m

/-- Lanes, generators, encoder index, timers (R49, R50, R60, R76, R90). -/
def effect21 (before s : State) (idx sub : Nat) (v : Int) : State :=
  if within 0x2100 0x2103 idx then
    (if obj before idx sub = v then s
     else if sub = 1 then sourceChanged s (Fin.ofNat 4 (idx - 0x2100))
     else if sub = 2 || sub = 3 || sub = 6 || sub = 7 then laneSourced s (Fin.ofNat 4 (idx - 0x2100))
     else s)
  else if within 0x2104 0x2107 idx then laneReorigin s (Fin.ofNat 4 (idx - 0x2104)) v
  else if within 0x2110 0x211F idx then
    (if (2 ≤ sub && sub ≤ 6) || (sub = 1 && obj before idx 1 = 0 && v = 1) then regridGen s (Fin.ofNat 16 (idx - 0x2110))
     else s)
  else if within 0x2150 0x2153 idx then
    (if sub = 2 && obj before idx 2 = 0 && v ≠ 0 then modEnc s (Fin.ofNat 4 (idx - 0x2150)) (fun x => { x with cRef := none })
     else s)
  else if within 0x2220 0x222F idx then (if 1 ≤ sub && sub ≤ 3 then tcFollow before s (Fin.ofNat 32 (idx - 0x2210)) else s)
  else if within 0x2240 0x2247 idx then
    (if sub = 1 || sub = 2 || sub = 4 || sub = 5 then capFollow before s (Fin.ofNat 8 (idx - 0x2240)) sub else s)
  else s

/-- A head whose ENABLE is 0 drives nothing (R111): its line ends here, one not yet committed is consumed. -/
def headDisabled (s : State) (h : Fin 2) : State :=
  if headCfg s h 1 ≠ 0 then s
  else
    let s1 := cutTrain (cutStrobes s h) h
    let s2 := match s1.heads[h].train with
      | some t => if t.committed then s1 else enterWhite (modHead s1 h (fun x => { x with train := none, reg := none })) h
      | none => s1
    modHead s2 h (fun x => { x with state := 0 })

/-- Heads, media (R111, R153, R158, R173, R174, R180). -/
def effect23 (before s : State) (idx sub : Nat) (v : Int) : State :=
  if idx = 0x2300 then (if sub = 1 then headDisabled s 0 else s)
  else if idx = 0x2310 then (if sub = 1 then headDisabled s 1 else s)
  else if idx = 0x2402 then vhFollow before s 0
  else if idx = 0x2412 then vhFollow before s 1
  else if idx = 0x2420 then (if sub = 6 && v = 1 then rbReset s else s)
  else if idx = 0x2500 then
    (if sub = 1 && obj before idx 1 ≠ v then mediaUnsync (trackReset s)
     else if sub = 2 && obj before idx 2 ≠ v then mediaUnsync s
     else s)
  else if within 0x2508 0x250F idx then
    (if (sub = 3 || sub = 4) && obj before idx sub ≠ v then
      modOpt s (Fin.ofNat 8 (idx - 0x2508)) (fun o => { o with gathered := [], state := min o.state 1 })
     else s)
  else s

/-- The command a MOVE_CMD value names. -/
def moveCmd (v : Int) : AxCmd :=
  if v = 1 then .go else if v = 2 then .goAlt else if v = 3 then .stop else .qstop

/-- Axes (R202, R212, R217, R218): a bridge that is switched off loses its drive and one that is switched on goes to its standstill choice; REG 1
and 2 hold at all times; a new STILL choice acts on an axis that stands in the old one (DESIGN CHOICE, assumption log 120); KIND in REPLAN
acts at once with a at 0. -/
def effect26 (before s : State) (idx sub : Nat) (v : Int) : State :=
  if within 0x2600 0x2603 idx then
    (let n := Fin.ofNat 4 (idx - 0x2600)
     if sub = 1 && v = 0 && obj before idx 1 = 1 then axUnpowered s n
     else if sub = 1 && v = 1 && obj before idx 1 = 0 then axToStill s n
     else if sub = 4 then modAxis s n (fun x => { x with strong := if v = 0 then x.strong else decide (v = 2), regAt := none })
     else if sub = 11 && s.axes[n].stillMode = stillChoice before n && s.md.mode ≠ .lockout then axToStill s n
     else s)
  else if within 0x2604 0x2607 idx then
    (if sub = 1 && obj s idx 2 = 1 then modAxis s (Fin.ofNat 4 (idx - 0x2604)) (fun x => { x with kind := v.toNat, a := 0 })
     else s)
  else if within 0x2608 0x260B idx then
    (if sub = 4 then axDeliver s (Fin.ofNat 4 (idx - 0x2608)) (moveCmd v) false else s)
  else s

/-- Imaging and actuators (R263, R268, R275, R279, R284). -/
def effect27 (s : State) (idx sub : Nat) (v : Int) : State :=
  if within 0x2708 0x270B idx || within 0x2718 0x271B idx then
    (if sub = 6 || sub = 7 then modPort s (Fin.ofNat 2 (idx / 16)) (fun x =>
       { x with slots := updN x.slots ((idx - 8) % 16) (fun k =>
           { k with state := 0, gathered := if v = (if sub = 6 then 0 else 1) then [] else k.gathered }) })
     else s)
  else if within 0x2800 0x2807 idx then (if sub = 1 then solDisabled s (Fin.ofNat 8 idx) else s)
  else if within 0x2810 0x2817 idx then
    (if sub = 1 || (sub = 11 && v = 0) then rLearnReset s (Fin.ofNat 8 idx) else s)
  else if idx = 0x2830 then serveBanks (recharge s)
  else s

/-- Sensing (R302, R308, R310, R326). -/
def effect29 (before s : State) (idx sub : Nat) (v : Int) : State :=
  if idx = 0x2900 then (if sub = 1 then refWrite (setObj s 0x2900 1 (obj before 0x2900 1)) (decide (v = 1)) else s)
  else if idx = 0x2910 || idx = 0x2911 then
    let p := Fin.ofNat 2 idx
    (if sub ≠ 1 || obj before idx 1 = v then s else sqAsk s p (decide (v = 1)))
  else if within 0x2920 0x292F idx then filtReset s (Fin.ofNat 16 idx)
  else s

/-- Communication profile: a consumer entry waits for a first heartbeat again (R418), a valid PDO has sent nothing (R372). -/
def effect10 (before s : State) (idx sub : Nat) : State :=
  if idx = 0x1016 then modNet s (fun n => { n with hb := updN n.hb (sub - 1) (fun _ => none) })
  else if idx = 0x1017 then modNet s (fun n => { n with hbSt := now s })
  else if idx / 4 = 0x600 && sub = 1 && bit (objN before idx 1) 31 then
    { s with pdo := { s.pdo with tpdos := updN s.pdo.tpdos (idx % 4) (fun t =>
      { t with sent := [], sentSt := none, timerSt := now s, syncs := 0, due := false }) } }
  else s

/-- What a unit does in the cycle in which a setting takes its new value; `before` is the state with the old one. -/
def effect (before s : State) (k : Nat) (v : Int) : State :=
  let idx := k / 256
  let sub := k % 256
  if idx < 0x2000 then effect10 before s idx sub
  else if idx < 0x2300 then effect21 before s idx sub v
  else if idx < 0x2600 then effect23 before s idx sub v
  else if idx < 0x2700 then effect26 before s idx sub v
  else if idx < 0x2900 then effect27 s idx sub v
  else if idx < 0x2A00 then effect29 before s idx sub v
  else if idx = 0x2D01 then avsFollow s
  else if idx = 0x2E01 then (if sub = 1 && v = 0 then appStop s 4 else s)
  else s

/-- Does the object keep the value written to it? -/
def keepsValue (k : Nat) : Bool :=
  match objRow k with
  | some r => (match r.rights.ofPath .n with
    | .rw => true
    | _ => decide (r.rights = .aRw) || k / 256 == 0x2E02)
  | none => false

/-- A value is set: what is kept is stored, a COB-ID counts as written (R378). -/
def putValue (s : State) (k : Nat) (v : Int) : State :=
  let s1 := if keepsValue k then setObjK s k v else s
  if isCob (k / 256) (k % 256) && !s1.ctl.cobSet.contains k then
    { s1 with ctl := { s1.ctl with cobSet := s1.ctl.cobSet ++ [k] } }
  else s1

/-- The effect of a new DOMAIN content beyond its storing: the waymark and event tables are tables of their own, a reference
counts its weak entries (R81, R242, R440). -/
def putDom (s : State) (idx : Nat) (bs : List Byte) : State :=
  if idx = 0x5100 then wmImageWrite s bs
  else if idx = 0x5B00 then applyAll (fun t e => setEvEntry t e (rdLE bs (4 * e) 4)) s (upto 512)
  else
    let s1 := setDom s idx bs
    if idx = 0x5701 || idx = 0x5702 then weakUpdate s1 0
    else if idx = 0x5711 || idx = 0x5712 then weakUpdate s1 1
    else s1

end Sys2Proof.Machine
end

