-- ==== Sys2Proof/Machine/Write.lean ====
section
/-!
DEFINITION. Write.lean: how a transaction on the dictionary is judged (R334–R339), the Commit Gate (R340–R345), claims and the
service session (R346–R348), the stored set's commands (R351, R352) and DOMAIN transfers (R366, R385, R490, R491, R497).

A verdict is a number: its low byte is the status of R335; bits [11:8] tell apart what shares a status but not an abort code
on N; `vLate` is no answer yet, `vNone` no answer at all.
-/

namespace Sys2Proof.Machine

open Sys2Proof

/-- The transaction is answered later: COMMIT, STORE_ALL, a claim of the service session. -/
def vLate : Nat := 0x1000
/-- The dictionary is not live: no transaction is answered (R28, R337). -/
def vNone : Nat := 0x2000
/-- The status of a verdict. -/
def vStatus (v : Nat) : Nat := v % 256
/-- Accepted: OK or STAGED. -/
def vAccepted (v : Nat) : Bool := v == 0 || v == 0x26
/-- A refusal. -/
def vRefused (v : Nat) : Bool := !vAccepted v && v < vLate

/-- The abort code of a refusal on N (R335). -/
def abortCode (v : Nat) : Nat :=
  if v = 0x21 then 0x06020000
  else if v = 0x121 then 0x06090011
  else if v = 0x22 then 0x06010000
  else if v = 0x122 then 0x06010002
  else if v = 0x222 then 0x06010001
  else if v = 0x123 then 0x06070010
  else if v = 0x25 then 0x08000021
  else if v = 0x24 then 0x08000020
  else if v = 0x23 then 0x06090030
  else if v = 0x2F then 0x08000022
  else 0

/-! Checks 1–5. -/

/-- Check 1: index and sub-index exist. -/
def checkExists (k : Nat) : Nat :=
  let idx := k / 256
  if !indexExists idx then 0x21
  else if k % 256 = 0 && (highestSub idx).isSome then 0
  else if (objRow k).isNone then 0x121
  else 0

/-- The writes that fail check 2 beside the rights of the object: the window of an enabled waymark (R62), the owner of a timer
channel (R99), a ledger entry in another state (R354, R359), a claim of the session from A (R348), the debug port after eight
refusals (R501). -/
def windowRefuses (s : State) (p : Path) (idx sub v : Nat) : Bool :=
  if idx = 0x2140 then
    (wmAt s (atN 0 s.msu.wmSel p.idx.val)).en && decide (2 ≤ sub) && !(sub == 3 && !bit v 31)
  else if within 0x2220 0x222F idx then (s.app.state == 2) != (p == .a)
  else if idx = 0x2020 then
    let st := s.ledger.jobs[jobSel s p].state
    (if sub = 1 then false else if sub = 10 then 1 ≤ v && v ≤ 4 && !jobCmdFits v st else st != 0)
  else if idx = 0x2002 then sub == 1 && v == 0 && decide (p = .a)
  else if idx = 0x2E03 then sub == 13 && v == 1 && decide (8 ≤ s.boot.debugRefused)
  else false

/-- Check 2 of a write (R335, R336, R338). Every object of the spec gives S the right of N, H and C or none at all, so the letter of a path that
holds the session decides as the S right would (R334). -/
def checkWriteRight (s : State) (p : Path) (k v : Nat) : Nat :=
  match objRow k with
  | none => 0x122
  | some r =>
    match r.rights.ofPath p with
    | .no => 0x22
    | .ro => 0x122
    | .const => 0x122
    | _ =>
      if r.cls = .serviceOnly && s.md.mode = .service && sessionPath s ≠ some p then 0x22
      else if windowRefuses s p (k / 256) (k % 256) v then 0x22
      else 0

/-- Check 2 of a read; POP is open to QUEUE_OWNER alone, and to none while words are moved on (R329). -/
def checkReadRight (s : State) (p : Path) (k : Nat) : Nat :=
  match objRow k with
  | none => 0
  | some r =>
    match r.rights.ofPath p with
    | .no => 0x22
    | .wo => 0x222
    | _ => if k = okey 0x2930 2 && (objN s 0x2930 1 ≠ p.ascii || objN s 0x2930 6 ≠ 0) then 0x22 else 0

/-- Check 3: the length of the type, and 0 or 1 in a BOOLEAN. A DOMAIN is written by a transfer only (R385). -/
def checkLength (k : Nat) (bs : List Byte) : Nat :=
  match objRow k with
  | none => 0
  | some r =>
    if r.ty = .dom || r.ty = .str then 0x123
    else if bs.length ≠ r.ty.bytes then 0x123
    else if r.ty = .bool && 2 ≤ leNat bs then 0x123
    else 0

/-- Check 4: claims; CLAIM and RELEASE name a group themselves (R347). -/
def checkClaim (s : State) (p : Path) (k v : Nat) : Nat :=
  if k = okey 0x2002 1 || k = okey 0x2002 2 then
    (match holder s v with
     | some q => if q = p || v = 255 then 0 else 0x25
     | none => 0)
  else if claimLets s p (k / 256) then 0 else 0x25

/-- Is the class accepted in the present mode (R337)? -/
def modeLets (s : State) (p : Path) (c : Cls) : Bool :=
  match c with
  | .none => false
  | .immediate => dictLive s
  | .staged => dictLive s
  | .standbyOnly => decide (s.md.mode = .standby) || (decide (s.md.mode = .service) && decide (sessionPath s = some p))
  | .serviceOnly => decide (s.md.mode = .service) && decide (sessionPath s = some p)

/-- The class of an object. -/
def clsOf (k : Nat) : Cls := match objRow k with | some r => r.cls | none => .none

/-- Check 5. -/
def checkMode (s : State) (p : Path) (k : Nat) : Nat := if modeLets s p (clsOf k) then 0 else 0x24

/-- The value that data spells for an object. -/
def dataValue (k : Nat) (bs : List Byte) : Int :=
  match objRow k with
  | some r => r.ty.ofData bs
  | none => 0

/-! Check 6. -/

/-- A pin named by another channel, now or in any staging set (R96). -/
def gioFree (s : State) (k : Nat) (v : Int) : Bool :=
  v == 255 || (upto 32).all (fun n =>
    let j := okey (0x2210 + n) 11
    j == k || (objK s j ≠ v && Path.all.all (fun q => decide ((stagingOf s q).vals.lookup j ≠ some v))))

/-- What a write is judged against: the active values, and for a STAGED write its own path's set over them (R343). -/
def writeView (s : State) (p : Path) (k : Nat) : View :=
  if clsOf k = .staged then (activeView s).over (stagingOf s p).vals (stagingOf s p).doms else activeView s

/-- Room in a staging set (R340, R367). -/
def stagingRoom (g : Staging) : Bool :=
  decide (g.vals.length + g.doms.length ≤ 256) && decide (sumN (g.doms.map (fun d => d.2.length)) ≤ 65536)

/-- A staged value entered into a set, in key order (R340). -/
def stagePut (g : Staging) (k : Nat) (v : Int) : Staging :=
  let rest := g.vals.filter (fun x => x.1 != k)
  { g with vals := rest.filter (fun x => x.1 < k) ++ [(k, v)] ++ rest.filter (fun x => k < x.1) }

/-- A staged DOMAIN content entered into a set. -/
def stageDom (g : Staging) (idx : Nat) (bs : List Byte) : Staging :=
  let rest := g.doms.filter (fun x => x.1 != idx)
  { g with doms := rest.filter (fun x => x.1 < idx) ++ [(idx, bs)] ++ rest.filter (fun x => idx < x.1) }

/-- Check 6 of a value. -/
def checkValue (s : State) (p : Path) (k : Nat) (v : Int) : Nat :=
  if !valueOk s p k v then 0x23
  else if within 0x2220 0x222F (k / 256) && k % 256 = 11 && !gioFree s k v then 0x23
  else if !crossOk s ((writeView s p k).over [(k, v)] []) k then 0x23
  else if clsOf k = .staged && !stagingRoom (stagePut (stagingOf s p) k v) then 0x23
  else 0

/-- The first refusal of a list of checks. -/
def firstRefusal : List Nat → Nat
  | [] => 0
  | c :: r => if c = 0 then firstRefusal r else c

/-- Checks 1–6 of a write (R335). -/
def judgeWrite (s : State) (p : Path) (k : Nat) (bs : List Byte) : Nat :=
  let v := leNat bs
  firstRefusal [checkExists k, checkWriteRight s p k v, checkLength k bs, checkClaim s p k v, checkMode s p k,
    checkValue s p k (dataValue k bs)]

/-- Checks 1 and 2 of a read (R335); a DOMAIN is read by a transfer only. -/
def judgeRead (s : State) (p : Path) (k : Nat) : Nat :=
  firstRefusal [checkExists k, checkReadRight s p k,
    (match objRow k with | some r => if r.ty = .dom then 0x23 else 0 | none => 0)]

/-! Ties (R344). -/

/-- The rank of a path: the session first, then C, H, N, A. -/
def rankOf (s : State) (p : Path) : Nat := if sessionPath s = some p then 4 else p.rank

/-- A write or a staged value has lost a tie: counted and reported (R342, R344). -/
def tieLost (k : Nat) (loser winner : Path) (s : State) : State :=
  let s1 := { s with ctl := { s.ctl with tiesLost := inc32 s.ctl.tiesLost, lastTie := k, lastLoser := loser.ascii } }
  raise s1 10 k (loser.ascii + 256 * winner.ascii)

/-- The writes accepted in this cycle. -/
def tickWrites (s : State) : List TickWrite := if s.ctl.tickSt = now s then s.ctl.tick else []

/-- A path of higher rank has written the object in this cycle. -/
def tieWinner (s : State) (p : Path) (k : Nat) : Option Path :=
  ((tickWrites s).find? (fun w => w.key == k && w.path != p && decide (rankOf s p < rankOf s w.path))).map (fun w => w.path)

/-- An earlier write of this cycle is taken back for one of higher rank (DEDUCED, assumption log 32). -/
def takeBack (k : Nat) (p : Path) (s : State) (w : TickWrite) : State :=
  let s1 := if w.staged then modStaging s w.path (fun g =>
      match w.before, w.domBefore with
      | some v, _ => stagePut g k v
      | none, some bs => stageDom g (k / 256) bs
      | none, none => { vals := g.vals.filter (fun x => x.1 != k), doms := g.doms.filter (fun x => okey x.1 0 != k) }) else s
  answer (tieLost k w.path p s1) w.path 0x2F

/-- The accepted write of `p` enters the list of its cycle; lower-ranked ones of other paths lose. -/
def noteWrite (s : State) (p : Path) (k : Nat) (staged : Bool) (before : Option Int) (domBefore : Option (List Byte)) : State :=
  let ws := tickWrites s
  let lose := ws.filter (fun w => w.key == k && w.path != p)
  let s1 := applyAll (takeBack k p) s lose
  { s1 with ctl := { s1.ctl with tickSt := now s,
                                 tick := ws.filter (fun w => !(w.key == k && w.path != p)) ++ [⟨k, p, staged, before, domBefore⟩] } }

/-- The same for a write of a value: what its set held before it where it is staged. -/
def noteTick (s : State) (p : Path) (k : Nat) (staged : Bool) (before : Option Int) : State := noteWrite s p k staged before none

/-- The same for a staged DOMAIN content. -/
def noteTickDom (s : State) (p : Path) (idx : Nat) : State :=
  noteWrite s p (okey idx 0) true none ((stagingOf s p).doms.lookup idx)

/-! Late answers. -/

/-- The mailbox request under way is done with a code (R401). -/
def mbDone (s : State) (code : Nat) : State :=
  modCb s (fun c => { c with mb := { c.mb with busy := false, late := none, done := true, code := code, seq := wrap 16 (c.mb.seq + 1) } })

/-- A posted entry has been refused (R399). -/
def postedRefused (s : State) (k code : Nat) : State :=
  let s1 := modCb s (fun c => { c with refused := inc32 c.refused, lastRefused := k * 256 + vStatus code })
  raise s1 457 s1.cb.lastRefused s1.cb.refused

/-- An RPDO entry has been refused; EV469 at the first of a run of frames (R416). -/
def rpdoRefused (s : State) (k code : Nat) : State :=
  let s1 := modNet s (fun n => { n with rpdoRefused := inc32 n.rpdoRefused, lastRefusal := k * 256 + vStatus code, refRun := true })
  if s.net.refRun then s1 else raise s1 469 s1.net.lastRefusal s1.net.rpdoRefused

/-- A transaction on object `k` that was held back is answered on its path: on C for the mailbox where it carries the request
(MB_REQUEST_DONE reports it), else as a posted write; on N to the client that waits, else as an RPDO entry. -/
def finishLate (k v : Nat) (s : State) (p : Path) : State :=
  let s1 := answer s p (vStatus v)
  match p with
  | .c =>
    if s.cb.mb.busy && okey s.cb.mb.index s.cb.mb.sub == k then modCb s1 (fun c => { c with mb := { c.mb with late := some (vStatus v) } })
    else if vRefused v then postedRefused s1 k v else s1
  | .h => modUsb s1 (fun u => { u with stalled := vRefused v })
  | .a => modApp s1 (fun a => { a with a0 := vStatus v })
  | .n =>
    match s.net.usdoWait.lookup k with
    | some c => modNet s1 (fun n =>
        { n with usdoWait := n.usdoWait.filter (fun w => w.1 != k),
                 reply := some ⟨c, if vRefused v then abortCode v else 0, []⟩ })
    | none => if vRefused v && k != okey 0x1010 1 then rpdoRefused s1 k v else s1

/-! The Commit Gate (R341–R343). -/

/-- The paths a mask of sets names, in the order of the sets. -/
def maskPaths (m : Nat) : List Path := Path.all.filter (fun p => bit m p.idx.val)

/-- The path whose value an epoch uses for an object: the highest-ranked one that has staged it (R342). -/
def bestOf (s : State) (ps : List Path) : Option Path :=
  ps.foldl (fun b p => match b with
    | none => some p
    | some q => if rankOf s q < rankOf s p then some p else some q) none

/-- A key entered into a rising list. -/
def insertKey (k : Nat) : List Nat → List Nat
  | [] => [k]
  | j :: r => if k < j then k :: j :: r else if k = j then j :: r else j :: insertKey k r

/-- The keys staged in some set of a mask, rising; DOMAIN contents under their sub-index 00. -/
def epochKeys (s : State) (ps : List Path) : List Nat :=
  (ps.flatMap (fun p => (stagingOf s p).vals.map (fun x => x.1) ++ (stagingOf s p).doms.map (fun x => okey x.1 0))).foldr
    insertKey []

/-- The paths of a mask that have staged a key. -/
def stagedBy (s : State) (ps : List Path) (k : Nat) : List Path :=
  ps.filter (fun p => ((stagingOf s p).vals.lookup k).isSome || (k % 256 == 0 && ((stagingOf s p).doms.lookup (k / 256)).isSome))

/-- Losers of one object of an epoch (R342). -/
def epochTies (ps : List Path) (s : State) (k : Nat) : State :=
  let qs := stagedBy s ps k
  match bestOf s qs with
  | none => s
  | some w => applyAll (fun t p => tieLost k p w t) s (qs.filter (fun p => p != w))

/-- The values an epoch would set. -/
def epochVals (s : State) (ps : List Path) (ks : List Nat) : List (Nat × Int) :=
  ks.filterMap (fun k => match bestOf s (stagedBy s ps k) with
    | some p => ((stagingOf s p).vals.lookup k).map (fun v => (k, v))
    | none => none)

/-- The DOMAIN contents an epoch would set. -/
def epochDoms (s : State) (ps : List Path) (ks : List Nat) : List (Nat × List Byte) :=
  ks.filterMap (fun k => match bestOf s (stagedBy s ps k) with
    | some p => if k % 256 = 0 then ((stagingOf s p).doms.lookup (k / 256)).map (fun d => (k / 256, d)) else none
    | none => none)

/-- The sets of an epoch are empty. -/
def emptySets (s : State) (ps : List Path) : State := applyAll (fun t p => modStaging t p (fun _ => ⟨[], []⟩)) s ps

/-- Every value takes effect in one cycle: all are set, then the units act in key order (R21, R343). -/
def applyVals (s : State) (vals : List (Nat × Int)) (doms : List (Nat × List Byte)) : State :=
  let s1 := applyAll (fun t (x : Nat × Int) => putValue t x.1 x.2) s vals
  let s2 := applyAll (fun t (x : Nat × List Byte) => putDom t x.1 x.2) s1 doms
  applyAll (fun t (x : Nat × Int) => effect s t x.1 x.2) s2 vals

/-- COMMIT_EPOCH: the checks of R343, then all or nothing. -/
def runEpoch (s : State) : State :=
  match s.ctl.epoch with
  | none => s
  | some e =>
    let ps := maskPaths e.mask
    let ks := epochKeys s ps
    let vals := epochVals s ps ks
    let doms := epochDoms s ps ks
    let w := (activeView s).over vals doms
    let s1 := { s with ctl := { s.ctl with epoch := none } }
    match ks.find? (fun k => !crossOk s w k) with
    | some k =>
      let s2 := emptySets s1 ps
      let s3 := { s2 with ctl := { s2.ctl with rejects := inc32 s2.ctl.rejects, lastReject := k } }
      applyAll (finishLate (okey 0x2001 1) 0x23) (raise s3 8 k e.mask) e.writers
    | none =>
      let s2 := emptySets (applyAll (epochTies ps) s1 ks) ps
      let s3 := applyVals s2 vals doms
      let s4 := { s3 with ctl := { s3.ctl with epochs := inc32 s3.ctl.epochs, lastEpochSt := wrap 64 (now s) } }
      applyAll (finishLate (okey 0x2001 1) 0) s4 e.writers

/-- An epoch accepted in an earlier cycle runs before the next write is judged, so that it takes the sets as its COMMIT found
them (DEDUCED, assumption log 33). -/
def epochFirst (s : State) : State :=
  match s.ctl.epoch with
  | some e => if e.at_ < now s then runEpoch s else s
  | none => s

/-- The sets COMMIT = 1 or 2 of a path takes (R341). -/
def commitMask (s : State) (p : Path) (v : Nat) : Nat :=
  sumN (Path.all.map (fun q => if q = p || (v = 2 && !holdsAny s q) then 2 ^ q.idx.val else 0))

/-- COMMIT: 1 and 2 start an epoch, or join the one of this cycle; 3 discards the writer's own set (R341). -/
def commit (s : State) (p : Path) (v : Nat) : State × Nat :=
  if v = 3 then (modStaging s p (fun _ => ⟨[], []⟩), 0)
  else
    let m := commitMask s p v
    let e : Epoch := match s.ctl.epoch with
      | some e => { e with mask := Nat.lor e.mask m, writers := if e.writers.contains p then e.writers else e.writers ++ [p] }
      | none => ⟨m, now s, [p]⟩
    ({ s with ctl := { s.ctl with epoch := some e } }, vLate)

/-! Claims (R347, R348). -/

/-- A claim of group 0 (R348): the holder renews it; else it is granted in STANDBY alone, and enters SERVICE. -/
def claimSession (s : State) (p : Path) : State × Nat :=
  if sessionPath s = some p then (claimGrant s p 0, 0)
  else if s.md.mode = .standby && s.md.trans.isNone && s.pw.pf.isNone then (startRun (claimGrant s p 0) .service 4, vLate)
  else modeRefuse s p 4

/-- CLAIM. -/
def claimCmd (s : State) (p : Path) (g : Nat) : State × Nat := if g = 0 then claimSession s p else (claimGrant s p g, 0)

/-- The key under which CLAIM and RELEASE tie: the group, not the object (R344). -/
def claimKey (k g : Nat) : Nat := 0x1000000 * (g + 1) + k

/-- A claim of a group that another path has been granted in this very cycle ties with it (R347). -/
def claimTie (s : State) (p : Path) (g : Nat) : Option Path :=
  match (tickWrites s).find? (fun w => w.key == claimKey (okey 0x2002 1) g && w.path != p) with
  | some w => if holder s g = some w.path then some w.path else none
  | none => none

/-! The stored set (R350–R353). -/

/-- Is the object part of the stored set (R350)? -/
def storeable (k : Nat) : Bool :=
  let idx := k / 256
  !(within 0x2000 0x203F idx || idx == 0x2140 || idx == 0x2141 || idx == 0x5100 || within 0x2E00 0x2EFF idx)
  && (match objRow k with
    | some r => (decide (r.rights.ofPath .n = .rw) || decide (r.rights = .aRw))
        && (decide (r.cls = .staged) || decide (r.cls = .standbyOnly) || decide (r.cls = .serviceOnly))
    | none => false)

/-- The current slot (R353). -/
def currentSlot (s : State) : Option (Fin 2) :=
  let a := s.ctl.slots[0]
  let b := s.ctl.slots[1]
  if a.valid && b.valid then (if 0 ≤ ofBits 32 (a.gen + 2 ^ 32 - b.gen) then some 0 else some 1)
  else if a.valid then some 0 else if b.valid then some 1 else none

/-- The slot a store writes: the one that is not current. -/
def storeSlot (s : State) : Fin 2 := match currentSlot s with | some 0 => 1 | _ => 0

/-- The active values as a slot holds them: every object away from its default, and every COB-ID that has been written. -/
def storeVals (s : State) : List (Nat × Int) :=
  s.ctl.dict.filter (fun x => storeable x.1)
    ++ (s.ctl.cobSet.filter (fun k => !SMap.has s.ctl.dict k)).map (fun k => (k, objK s k))

/-- The active DOMAIN contents as a slot holds them, the event table among them. -/
def storeDoms (s : State) : List (Nat × List Byte) :=
  s.ctl.doms.filter (fun x => storeable (okey x.1 0)) ++ (if s.rm.table.isEmpty then [] else [(0x5B00, readDom s 0x5B00)])

/-- STORE_ALL: the store of the active values begins; its CRC is written last (R351). A second store while one runs is
refused with WRONG_MODE (DESIGN CHOICE, assumption log 34). -/
def storeAll (s : State) (p : Path) : State × Nat :=
  if s.ctl.storeState = 1 then (s, 0x24)
  else
    let g := match currentSlot s with | some i => wrap 32 (s.ctl.slots[i].gen + 1) | none => 1
    let x : ParamSlot :=
      { valid := false, layout := s.boot.slots[s.boot.running].layout, gen := g, vals := storeVals s, doms := storeDoms s }
    ({ s with ctl := { s.ctl with
        storeState := 1, storeBy := some p, storeTo := storeSlot s, slots := upd s.ctl.slots (storeSlot s) (fun _ => x) } },
     vLate)

/-- The pre-images that stand after a store: what the store took is stored, and what was written after it took the values
goes back to the stored value at the end of the session (R38). -/
def preimgLeft (s : State) (x : ParamSlot) : List (Nat × Option Int) :=
  s.ctl.preimg.filterMap (fun e =>
    if !storeable e.1 then some e
    else
      let v := (x.vals.lookup e.1).getD (objDefault e.1)
      if objK s e.1 = v then none else some (e.1, some v))

/-- The same of the DOMAIN objects. -/
def preimgDomLeft (s : State) (x : ParamSlot) : List (Nat × List Byte) :=
  s.ctl.preimgDom.filterMap (fun e =>
    if !storeable (okey e.1 0) then some e
    else
      let b := (x.doms.lookup e.1).getD (domDefault e.1)
      if dom s e.1 = b then none else some (e.1, b))

/-- STORE_DONE (R351). -/
def storeDone (s : State) (ok : Bool) : State :=
  match s.ctl.storeBy with
  | none => s
  | some p =>
    let i := s.ctl.storeTo
    if ok then
      let s1 := { s with ctl := { s.ctl with
        storeState := 2, storeBy := none, slots := upd s.ctl.slots i (fun x => { x with valid := true }),
        stores := inc32 s.ctl.stores, preimg := preimgLeft s s.ctl.slots[i],
        preimgDom := preimgDomLeft s s.ctl.slots[i] } }
      finishLate (okey 0x1010 1) 0 (raise s1 24 s1.ctl.stores (i.val + 1)) p
    else
      let s1 := { s with ctl := { s.ctl with storeState := 3, storeBy := none } }
      finishLate (okey 0x1010 1) 0x24 (raise s1 25 (i.val + 1) 0) p

/-- RESTORE_ALL: both slots are erased; the active values stay until the next power-on (R352). -/
def restoreAll (s : State) : State :=
  { s with ctl := { s.ctl with slots := s.ctl.slots.map (fun x => { x with valid := false }) } }

/-! Taking a write. -/

/-- The value a SERVICE-ONLY object held before its first unstored write (R38). -/
def notePre (s : State) (k : Nat) : State :=
  if clsOf k = .serviceOnly && keepsValue k && (s.ctl.preimg.lookup k).isNone then
    { s with ctl := { s.ctl with preimg := s.ctl.preimg ++ [(k, some (objK s k))] } }
  else s

/-- A command or a value takes effect at once; the verdict is what the owning chapter's command answers. -/
def applyWrite (s : State) (p : Path) (k : Nat) (v : Int) (seen : List Nat) : State × Nat :=
  if k = okey 0x2001 1 then commit s p v.toNat
  else if k = okey 0x2002 1 then claimCmd s p v.toNat
  else if k = okey 0x2002 2 then (claimRelease s p v.toNat, 0)
  else if k = okey 0x1010 1 then storeAll s p
  else if k = okey 0x1011 1 then (restoreAll s, 0)
  else match command s p k v.toNat seen with
    | some r => r
    | none => (effect s (putValue (notePre s k) k v) k v, 0)

/-- The key of the tie rule: none for COMMIT, the group for CLAIM and RELEASE (R344). -/
def tieKey (k v : Nat) : Option Nat :=
  if k = okey 0x2001 1 then none
  else if k = okey 0x2002 1 || k = okey 0x2002 2 then some (claimKey k v)
  else some k

/-- A write that passes checks 1–6: check 7, then staged or taken (R335, R344). -/
def acceptWrite (s : State) (p : Path) (k : Nat) (v : Int) (seen : List Nat) : State × Nat :=
  let tk := tieKey k v.toNat
  let won := match tk with | some t => tieWinner s p t | none => none
  match won with
  | some w => (tieLost k p w s, 0x2F)
  | none =>
    if clsOf k = .staged then
      let old := (stagingOf s p).vals.lookup k
      (modStaging (noteTick s p k true old) p (fun g => stagePut g k v), 0x26)
    else
      let r := applyWrite s p k v seen
      if vRefused r.2 then r
      else (match tk with | some t => noteTick r.1 p t false none | none => r.1, r.2)

/-- CLAIM of a group granted to another path in this cycle (R344, R347): the higher rank has it. -/
def claimContest (s : State) (p q : Path) (g : Nat) : State × Nat :=
  if rankOf s p < rankOf s q then (tieLost (okey 0x2002 1) p q s, 0x2F)
  else
    let r := claimCmd (setClaim s g ⟨none, 0⟩) p g
    (noteTick r.1 p (claimKey (okey 0x2002 1) g) false none, r.2)

/-- A write of one object on a path, judged and applied, staged or refused: the state and the verdict (R335). Every
transaction renews the leases of its path (R349). -/
def writeTx (s0 : State) (p : Path) (k : Nat) (bs : List Byte) (seen : List Nat) : State × Nat :=
  if !dictLive s0 then (s0, vNone)
  else
    let s := touch (epochFirst s0) p
    let contest := if k = okey 0x2002 1 then claimTie s p (leNat bs) else none
    match contest with
    | some q => let r := claimContest s p q (leNat bs); (answer r.1 p (vStatus r.2), r.2)
    | none =>
      let c := judgeWrite s p k bs
      let r := if c ≠ 0 then (s, c) else acceptWrite s p k (dataValue k bs) seen
      (answer r.1 p (vStatus r.2), r.2)

/-- The data of a number written to an object: of the length of its type. -/
def numData (k : Nat) (v : Int) : List Byte :=
  match objRow k with
  | some r => r.ty.toData v
  | none => leBytes 1 (toBits 8 v)

/-- A write of a number, as data of the object's length. -/
def writeNum (s : State) (p : Path) (k : Nat) (v : Int) (seen : List Nat) : State × Nat := writeTx s p k (numData k v) seen

/-- The result of a read is kept for its path. -/
def keepResult (s : State) (p : Path) (bs : List Byte) : State :=
  { s with ctl := { s.ctl with result := upd s.ctl.result p.idx (fun _ => bs) } }

/-- ENC_FAULT of a lane's STATUS is cleared by reading (spec/02, lane STATUS field map); a read of REFUSED is noted for
CB_IRQ# (R402). -/
def readClears (s : State) (k : Nat) : State :=
  if k = okey 0x2A12 3 then modCb s (fun c => { c with refusedSeen := c.refused })
  else if within 0x2104 0x2107 (k / 256) && k % 256 = 5 then
    modLane s (Fin.ofNat 4 (k / 256 - 0x2104)) (fun l => { l with encFault := false })
  else s

/-- A read of one object on a path: the state, the verdict and the data (R335, R336). A read of POP takes the word (R329). -/
def readTx (s0 : State) (p : Path) (k : Nat) : State × Nat × List Byte :=
  if !dictLive s0 then (s0, vNone, [])
  else
    let s := touch s0 p
    let c := judgeRead s p k
    if c ≠ 0 then (answer s p (vStatus c), c, [])
    else if k = okey 0x2930 2 then
      let r := queuePop s
      let d := leBytes 8 r.2
      (keepResult (answer r.1 p 0) p d, 0, d)
    else
      let d := readData s p k
      (keepResult (answer (readClears s k) p 0) p d, 0, d)

/-! DOMAIN transfers (R385). -/

/-- Does another path have a transfer of this image object open (R491)? -/
def imageOpen (s : State) (p : Path) (idx : Nat) : Bool :=
  (idx == 0x5E00 || idx == 0x5E01) && Path.all.any (fun q => q != p && (match s.ctl.xfers[q.idx] with
    | some x => x.idx == idx
    | none => false))

/-- Checks 1–5 of an OPEN. -/
def judgeOpen (s : State) (p : Path) (idx sub : Nat) (wr : Bool) (total : Nat) : Nat :=
  let k := okey idx sub
  let dom := match objRow k with | some r => decide (r.ty = .dom) | none => true
  if wr then
    firstRefusal [checkExists k, checkWriteRight s p k 0, if imageOpen s p idx then 0x22 else 0,
      if !dom then 0x23 else if domLenOk idx total then 0 else 0x123, checkClaim s p k 0, checkMode s p k]
  else firstRefusal [checkExists k, checkReadRight s p k, if dom then 0 else 0x23]

/-- The slot that is not running. -/
def otherSlot (s : State) : Nat := 1 - s.boot.running.val

/-- An OPEN of SYSTEM_IMAGE erases the slot it will fill (R490). -/
def imageErase (s : State) : State :=
  let x : SysSlot := { SysSlot.blank with incomplete := true, empty := false, state := 6 }
  modBoot s (fun b => { b with slots := updN b.slots (1 - b.running.val) (fun _ => x), updState := 1, bytesWritten := 0 })

/-- A transfer is opened on a path; one that was open is abandoned (R385). -/
def domOpen (s0 : State) (p : Path) (idx sub : Nat) (wr : Bool) (total : Nat) : State × Nat :=
  if !dictLive s0 then (s0, vNone)
  else
    let s := touch (epochFirst s0) p
    let c := judgeOpen s p idx sub wr total
    if c ≠ 0 then (answer s p (vStatus c), c)
    else
      let s1 := dropXfer s p
      let s2 := if wr && idx = 0x5E00 then imageErase s1 else s1
      let data := if wr then [] else readDom s2 idx
      let x : DomXfer := ⟨idx, wr, if wr then total else data.length, data, 0, now s⟩
      (answer { s2 with ctl := { s2.ctl with xfers := upd s2.ctl.xfers p.idx (fun _ => some x) } } p 0, 0)

/-- A complete SYSTEM_IMAGE is judged by checks 1, 2, 3 and 5 of R484 (R490). -/
def systemImage (s : State) (bs : List Byte) : State × Nat :=
  let x := slotOf bs
  let c := slotCheck s x false
  let put := fun (y : SysSlot) (st r : Nat) =>
    modBoot s (fun b => { b with slots := updN b.slots (1 - b.running.val) (fun _ => y), updState := st, lastResult := r })
  if c = 0 then (put { x with state := 1, fails := 0 } 2 0, 0)
  else (raise (put { x with state := stateOfCheck x c } 3 c) 505 1 c, 0x23)

/-- A complete APP_IMAGE is judged as R494 check 2 judges an image, and disables the debug port (R497, R502). -/
def appImage (s : State) (bs : List Byte) : State × Nat :=
  let s0 := modBoot s (fun b => { b with debugOn := false })
  if appImageOk s0 bs then (modBoot s0 (fun b => { b with appStage := bs, stageValid := true }), 0)
  else (rejectApp (modBoot s0 (fun b => { b with appStage := [], stageValid := false })) bs, 0x23)

/-- The DOMAIN content a SERVICE-ONLY write replaces (R38). -/
def notePreDom (s : State) (idx : Nat) : State :=
  if clsOf (okey idx 0) = .serviceOnly && (s.ctl.preimgDom.lookup idx).isNone then
    { s with ctl := { s.ctl with preimgDom := s.ctl.preimgDom ++ [(idx, dom s idx)] } }
  else s

/-- A complete DOMAIN write is judged by all of R335 and applied, staged or refused. -/
def domWrite (s : State) (p : Path) (idx : Nat) (bs : List Byte) : State × Nat :=
  let k := okey idx 0
  let w := (writeView s p k).over [] [(idx, bs)]
  let c := firstRefusal [checkWriteRight s p k 0, checkClaim s p k 0, checkMode s p k,
    if domValueOk idx bs && crossOk s w k && (clsOf k ≠ .staged || stagingRoom (stageDom (stagingOf s p) idx bs)) then 0 else 0x23]
  if c ≠ 0 then (s, c)
  else if idx = 0x5E00 then systemImage s bs
  else if idx = 0x5E01 then appImage s bs
  else match tieWinner s p k with
    | some q => (tieLost k p q s, 0x2F)
    | none =>
      if clsOf k = .staged then (modStaging (noteTickDom s p idx) p (fun g => stageDom g idx bs), 0x26)
      else (putDom (notePreDom (noteTick s p k false none) idx) idx bs, 0)

/-- The open transfer of a path, set or closed. -/
def setXfer (s : State) (p : Path) (x : Option DomXfer) : State :=
  { s with ctl := { s.ctl with xfers := upd s.ctl.xfers p.idx (fun _ => x) } }

/-- Bytes of SYSTEM_IMAGE are programmed as they arrive (R490). -/
def noteBytes (s : State) (idx n : Nat) : State :=
  if idx = 0x5E00 then modBoot s (fun b => { b with bytesWritten := b.bytesWritten + n }) else s

/-- One second without a segment abandons the transfer of a path (R385). -/
def domTimeout (s : State) (p : Path) : State :=
  match s.ctl.xfers[p.idx] with
  | some x => if x.lastSt + 200000000 ≤ now s then dropXfer s p else s
  | none => s

/-- A segment of a write; the last one judges the write. A segment with no write transfer open, or past the length, is
refused with RANGE. -/
def domPut (s0 : State) (p : Path) (bs : List Byte) : State × Nat :=
  if !dictLive s0 then (s0, vNone)
  else
    let s := domTimeout (touch (epochFirst s0) p) p
    match s.ctl.xfers[p.idx] with
    | none => (answer s p 0x23, 0x23)
    | some x =>
      let data := x.data ++ bs
      if !x.wr || x.total < data.length then (answer s p 0x23, 0x23)
      else if data.length < x.total then
        (answer (noteBytes (setXfer s p (some { x with data := data, off := data.length, lastSt := now s })) x.idx bs.length) p 0, 0)
      else
        let r := domWrite (noteBytes (setXfer s p none) x.idx bs.length) p x.idx data
        (answer r.1 p (vStatus r.2), r.2)

/-- A segment of a read, at most `n` bytes: the state, the verdict and the bytes. -/
def domGet (s0 : State) (p : Path) (n : Nat) : State × Nat × List Byte :=
  if !dictLive s0 then (s0, vNone, [])
  else
    let s := domTimeout (touch s0 p) p
    match s.ctl.xfers[p.idx] with
    | none => (answer s p 0x23, 0x23, [])
    | some x =>
      if x.wr then (answer s p 0x23, 0x23, [])
      else
        let seg := (x.data.drop x.off).take n
        let off := x.off + seg.length
        let y := if x.total ≤ off then none else some { x with off := off, lastSt := now s }
        (keepResult (answer (setXfer s p y) p 0) p seg, 0, seg)

/-- The open transfer of a path is abandoned by its client. -/
def domAbort (s : State) (p : Path) : State × Nat :=
  if !dictLive s then (s, vNone) else (answer (dropXfer (touch s p) p) p 0, 0)

end Sys2Proof.Machine
end

