-- ==== Sys2Proof/Machine/Boot.lean ====
section
/-!
DEFINITION. Boot.lean: from power-on to STANDBY, the load of the stored set, the watchdog of the boot, RECOVERY and its DFU
download (spec/17, R481–R489; R353, R394, R454).
-/

namespace Sys2Proof.Machine

open Sys2Proof

/-! The load of the stored set (R353). -/

/-- A migrated value passes check 6. That a PDO is invalid while its mapping is written binds a write, not a stored value
(R370). -/
def loadOk (s : State) (k : Nat) (v : Int) : Bool :=
  let idx := k / 256
  if within 0x1400 0x1FFF idx && (idx / 4 = 0x580 || idx / 4 = 0x680 || k % 256 = 2) then
    (match objRow k with
     | some r => decide (r.lo ≤ v) && decide (v ≤ r.hi)
     | none => false) && (decide (0x1600 ≤ idx && idx < 0x1800 || 0x1A00 ≤ idx) || pdoTypeOk v.toNat)
  else valueOk s .h k v

/-- The rules that a set of values breaks. -/
def brokenRules (w : View) : List XRule := (allRules (w.n 0x2A40 1)).filter (fun r => !r.ok w)

/-- The load of a slot of the stored set: each value of a set from another layout is migrated on its own, and the
objects of every broken rule take their defaults. -/
def loadSlot (s : State) (i : Fin 2) : State :=
  let x := s.ctl.slots[i]
  let other := decide (x.layout ≠ s.boot.slots[s.boot.running].layout)
  let here := x.vals.filter (fun e => (objRow e.1).isSome)
  let hereD := x.doms.filter (fun e => indexExists e.1)
  let vals := if other then here.filter (fun e => loadOk s e.1 e.2) else here
  let doms := if other then hereD.filter (fun e => domValueOk e.1 e.2) else hereD
  let broken := (brokenRules ((activeView s).over vals doms)).flatMap (fun r => r.keys)
  let vals1 := vals.filter (fun e => !broken.contains e.1)
  let doms1 := doms.filter (fun e => !broken.contains (okey e.1 0))
  let dropped := (x.vals.length - here.length) + (x.doms.length - hereD.length)
  let defaulted := (here.length - vals.length) + (hereD.length - doms.length) + broken.dedup.length
  let s1 := applyVals s vals1 doms1
  let s2 := { s1 with ctl := { s1.ctl with
    source := i.val + 1, loadedLayout := x.layout, dropped := sat 16 dropped, defaulted := sat 16 defaulted } }
  if other || dropped ≠ 0 || defaulted ≠ 0 then
    raise s2 26 x.layout (sat 16 dropped + 65536 * sat 16 defaulted)
  else s2

/-- The KIND of each axis that is in effect is the one that was loaded (R212). -/
def kindsLoaded (s : State) : State := applyAll (fun s n => modAxis s n (fun x => { x with kind := axCfgN s n 1 1 })) s (allFin 4)

/-- The current slot is loaded, or every object stays at its default; EV027. -/
def loadStored (s : State) : State :=
  match currentSlot s with
  | some i => kindsLoaded (loadSlot s i)
  | none => raise s 27 0 0

/-! From power-on to STANDBY (R485–R487, R454). -/

/-- RECOVERY is entered: the Ringmaster is off, and USB presents the DFU interface (R381, R488). -/
def recoveryEntry (s : State) : State :=
  let s1 := modMd (recordSlots s) (fun d => { d with mode := .recovery })
  usbAttach (modRm s1 (fun m => { m with raised := [], held := [] }))

/-- The straps are read: RECOVERY where REC# is low or no slot qualifies. -/
def bootStraps (s : State) : State :=
  if s.boot.recLow || (chosenSlot s).isNone then recoveryEntry s else s

/-- What the boot sees of the pins and the input as it begins. -/
def bootStart (s : State) (kind volts hz : Nat) (recLow ioLevel : Bool) : State :=
  let s0 := modPw s (fun w => { w with on := true, present := true, kind := kind, volts := volts, hz := hz })
  let s1 := modPw s0 (fun w => { w with onMask := onMaskNow s0 })
  let s2 := modBoot (modCb s1 (fun c => { c with ioLevel := ioLevel })) (fun b => { b with start := now s1, recLow := recLow })
  bootStraps s2

/-- The input is applied (R485, R489). Where the supply has not gone, it counts as present again; a sequence that waits for
SB3V3 to fail ends in BOOT (R477; DEDUCED, assumption log 55). -/
def powerOn (s : State) (kind volts hz : Nat) (recLow ioLevel : Bool) : State :=
  let back := modPw s (fun w => { w with present := true, kind := kind, volts := volts, hz := hz })
  if !s.pw.on || s.md.mode = .boot then bootStart s kind volts hz recLow ioLevel
  else if s.md.mode = .recovery then bootStart (coldReset s) kind volts hz recLow ioLevel
  else if s.pw.pf.isSome && !s.pw.present then (if pfStep s = 6 then bootStraps (warmReset back) else back)
  else s

/-- SAVE_RESULT of the NOR copy, and what its trailer says of the last power-down (R454). -/
def tlSaveRead (s : State) : State :=
  let c := s.tl.copy
  let r := if !c.marker then 0 else match c.trailer with | none => 3 | some t => if t.incomplete then 2 else 1
  let n := if r = 1 || r = 2 then c.entries.length else 0
  let s1 := { s with tl := { s.tl with saveResult := r } }
  let s2 := match c.trailer with
    | some t => if r = 0 then s1 else modPw s1 (fun w => { w with lastCause := t.cause, lastSkipped := t.skipped })
    | none => s1
  modRm s2 (fun m => { m with raised := ⟨510, r, n⟩ :: m.raised })

/-- The slots that have failed a check, as the mask of EV504; an empty slot has not been checked. -/
def failedSlots (s : State) : Nat :=
  sumN ((allFin 2).map (fun i =>
    if !s.boot.slots[i].empty && romCheck s i ≠ 0 then 2 ^ i.val else 0))

/-- EV504 where the slot started is not the one of the higher version, or a slot has failed (R487). -/
def imageFallback (s : State) (i : Fin 2) : State :=
  let m := failedSlots s
  if m ≠ 0 || decide (s.boot.slots[i].version < s.boot.slots[1 - i].version) then
    raise s 504 (i.val + 1 + 256 * m) (s.boot.slots[0].state + 256 * s.boot.slots[1].state)
  else s

/-- The image of slot `i` has started: the self-test with the failing input `bad`, the stored set, the copy of the log and
the application (step 6). -/
def bootStep6 (s : State) (i : Fin 2) (bad : Option Nat) : State :=
  let s1 := modBoot (recordSlots s) (fun b => { b with running := i, slots := upd b.slots i (fun x => { x with fails := 0 }) })
  let s2 := loadStored (selfTest (imageFallback s1 i) bad)
  appStart (avsStart s2)

/-- STANDBY is reported; `ta` is the reading of board temperature sensor 2 (R282). -/
def bootStandby (s : State) (ta : Int) : State :=
  let t := now s - s.boot.start
  let s1 := modBoot (modeTo s .standby 5) (fun b => { b with bootTime := wrap 32 t })
  let s2 := modNet (lateCheck s1 s1.boot.start 240000000 1) (fun n => { n with
    nodeAct := objN s1 0x2A40 1, nomAct := objN s1 0x2A40 2, dataAct := objN s1 0x2A40 3 })
  usbAttach (canUp (axesStill (seStartUp (solSeed s2 ta))))

/-- BOOT_COMPLETE, which a power-down sequence abandons (R42). The raises so far are held, EV510 first, and released with STANDBY (R446, R454). -/
def bootComplete (s : State) (bad : Option Nat) (ta : Int) : State :=
  if s.md.mode ≠ .boot || !s.pw.on || s.pw.pf.isSome then s
  else if s.boot.recLow then recoveryEntry s
  else match chosenSlot s with
    | none => recoveryEntry s
    | some i =>
      let s1 := bootStep6 (modRm s (fun m => { m with held := [] })) i bad
      let s2 := holdAll s1
      let s3 := holdAll (tlSaveRead s2)
      let first := s3.rm.held.drop s2.rm.held.length
      bootStandby (modRm s3 (fun m => { m with held := first ++ s.rm.held ++ s2.rm.held })) ta

/-- BOOT_WATCHDOG: 1.2 s after step 1 without STANDBY the engine is reset into BOOT (R486). -/
def bootWatchdog (s : State) : State :=
  if s.md.mode ≠ .boot || !s.pw.on || s.pw.pf.isSome || now s - s.boot.start < 240000000 then s
  else bootStraps (warmReset s)

/-! RECOVERY (R394, R488, R489). -/

/-- The slot a download goes to: the one that does not qualify; of two that do, the lower version, B where they are equal.
Where neither qualifies the spec names none: A (DESIGN CHOICE, assumption log 56). -/
def dfuSlot (s : State) : Fin 2 :=
  let q := fun (i : Fin 2) => decide (slotCheck s s.boot.slots[i] true = 0)
  if q 0 && q 1 then (if s.boot.slots[0].version < s.boot.slots[1].version then 0 else 1)
  else if q 0 then 1 else 0

/-- The DFU interface answers: RECOVERY, and the device is configured. -/
def dfuLive (s : State) : Bool := s.md.mode = .recovery && s.pw.on && decide (s.usb.state = 4)

/-- DFU changed. -/
def modDfu (s : State) (f : DfuSt → DfuSt) : State := modBoot s (fun b => { b with dfu := f b.dfu })

/-- A request the DFU interface does not take in its state: a stall, dfuERROR with errSTALLEDPKT (DFU 1.1). -/
def dfuStall (s : State) : State :=
  modUsb (modDfu s (fun d => { d with state := 10, status := 15 })) (fun u => { u with stalled := true })

/-- A request stalled with no effect. -/
def dfuReject (s : State) : State := if dfuLive s then modUsb s (fun u => { u with stalled := true }) else s

/-- DFU_DNLOAD: a block of the image; the first one erases the slot, an empty one ends the download. -/
def dfuDnload (s : State) (bs : List Byte) : State :=
  if !dfuLive s then s
  else
    let ok := modUsb s (fun u => { u with stalled := false })
    if s.boot.dfu.state = 2 && !bs.isEmpty then
      let x : SysSlot := { SysSlot.blank with incomplete := true, empty := false, state := 6 }
      modDfu (modBoot ok (fun b => { b with slots := upd b.slots (dfuSlot s) (fun _ => x) }))
        (fun d => { d with state := 3, status := 0, data := bs, manifested := false })
    else if s.boot.dfu.state = 5 then
      (if bs.isEmpty then modDfu ok (fun d => { d with state := 6 })
       else modDfu ok (fun d => { d with state := 3, data := d.data ++ bs }))
    else dfuStall s

/-- The slot a download is filling: the one whose transfer is not complete. -/
def dfuFilling (s : State) : Option (Fin 2) := (allFin 2).find? (fun i => s.boot.slots[i].incomplete)

/-- DFU_MANIFEST: the downloaded slot is checked; `norOk` says whether the NOR programs succeeded (R488). -/
def dfuManifest (s : State) (norOk : Bool) : State :=
  match dfuFilling s with
  | none => s
  | some i =>
    if !dfuLive s || s.boot.dfu.state ≠ 7 then s
    else
      let x := { slotOf s.boot.dfu.data with fails := 0 }
      let c := slotCheck s x false
      let put := fun (y : SysSlot) => modBoot s (fun b => { b with slots := upd b.slots i (fun _ => y) })
      if !norOk then modDfu s (fun d => { d with state := 10, status := 3, data := [] })
      else if c ≠ 0 then
        modDfu (put { x with state := stateOfCheck x c }) (fun d => { d with state := 10, status := 7, data := [] })
      else modDfu (put { x with state := 1 }) (fun d => { d with state := 2, status := 0, data := [], manifested := true })

/-- DFU_GETSTATUS: the state moves on as DFU 1.1 has it; state and status are what the request reports. -/
def dfuGetStatus (s : State) : State :=
  if !dfuLive s then s
  else modDfu (modUsb s (fun u => { u with stalled := false })) (fun d =>
    { d with state := (if d.state = 3 then 5 else if d.state = 6 then 7 else d.state) })

/-- A USB reset in RECOVERY: after a manifestation the engine leaves for BOOT (R489); before it the download is given up. -/
def dfuUsbReset (s : State) : State :=
  if s.boot.dfu.manifested && s.pw.pf.isNone then bootStraps (warmReset s)
  else modDfu s (fun d => { d with state := 2, status := 0, data := [] })

/-- WAKE# has been low for 5 s in RECOVERY. -/
def recoveryWake (s : State) : State := if s.md.mode = .recovery && s.pw.on && s.pw.pf.isNone then bootStraps (warmReset s) else s

end Sys2Proof.Machine
end

