-- ==== Sys2Proof/Machine/Finish.lean ====
section
/-!
DEFINITION. Finish.lean: what follows every command: the raised events act, the Last Ride watches the state, a claim of the
service session is answered, and the domains follow.
-/

namespace Sys2Proof.Machine

open Sys2Proof

/-- What a meaning answers. -/
abbrev Out := Host.Outcome State Fault Refusal

/-- The path whose claim of the service session waits for SERVICE (R348). -/
def lateClaim (s : State) : Option Path :=
  match s.md.trans with
  | some t => if t.target = .service then sessionPath s else none
  | none => none

/-- The claim that waited in `before` is answered once its entry has ended (R348): OK in SERVICE, else WRONG_MODE. -/
def answerClaim (before s : State) : State :=
  match lateClaim before with
  | some p =>
    if (lateClaim s).isSome || !dictLive s then s
    else finishLate (okey 0x2002 1) (if s.md.mode = .service then 0 else 0x24) s p
  | none => s

/-- In DOZE the host queues, the EMCY queue and the application's queue stay empty (R391, R417). -/
def dozeQueues (s : State) : State := if dozeEntering s || dozeOff s then emptyQueues s else s

/-- A power-down sequence that has ended with the input present resets the engine into BOOT (R477). -/
def brownoutReset (s : State) : State := if pfStep s = 6 && s.pw.present then bootStraps (warmReset s) else s

/-- A halt of the application core ends with the debug port or with the application (R502; DEDUCED, assumption log 58). -/
def debugFollow (s : State) : State :=
  if s.tu.halted && !(s.boot.debugOn && s.app.state == 2) then { s with tu := { s.tu with halted := false } } else s

/-- The raises of this cycle must be routed before it ends: the Ringmaster goes off, the copy of the log begins, or a reset follows. -/
def flushNow (before s : State) : Bool :=
  (rmLive before && !rmLive s) || decide (pfStep before ≠ pfStep s)

/-- What follows a command that has turned `before` into `s`: its events are recorded and latch LOCKOUT, the Last Ride watches, a claim that
waited is answered, and the queues and logs take what is due. -/
def follow (before s : State) : State :=
  let s1 := settle (answerClaim before (lrWatch (settle (debugFollow s))))
  brownoutReset (seRecord (copyTaken (if flushNow before s1 then ringFlush s1 else s1)))

/-- All that follows a command; the queues of DOZE and the domains come last. The commands that wait are nothing a command
acts on. -/
def finish (before s : State) : State := { domainsFollow (dozeQueues (follow before s)) with pending := before.pending }

/-- A command has done its work. -/
def done (before s : State) : Out := .next (finish before s)

/-- A write of one number on a path, as a command. -/
def doWrite (p : Path) (k : Nat) (v : Int) (seen : List Nat) (s : State) : Out := done s (writeNum s p k v seen).1

/-- A command that has its effect where a condition of this cycle holds, and none where it does not. -/
def doWhen (c : Bool) (f : State → State) (s : State) : Out := done s (if c then f s else s)

/-- A command of the control plane where a condition of this cycle holds (R28). -/
def doLive (c : Bool) (f : State → State) (s : State) : Out := doWhen (controlLive s && c) f s

end Sys2Proof.Machine
end

