-- ==== Sys2Proof/Machine/Cb.lean ====
section
/-!
DEFINITION. Cb.lean: the companion bus of path C: posted writes, the mailbox, the stream and event ports (spec/13, R395–R403).
-/

namespace Sys2Proof.Machine

open Sys2Proof

/-- An access of the carrier host that is not a Mirror read; it finds CB_RST# high. -/
def cbTouch (s : State) : State := modCb (cbAccess s) (fun c => { c with rstLow := false })

/-- MIRROR_READ of the word at byte address `a` (R397). -/
def cbMirrorRead (s : State) (a : Nat) : State := mirrorRead (modCb s (fun c => { c with rstLow := false })) a

/-- A posted entry enters the FIFO of 32; EV456 at the first drop of a run (R399). -/
def fifoPut (s : State) (k : Nat) (bs : List Byte) : State :=
  if s.cb.fifo.length < 32 then modCb s (fun c => { c with fifo := c.fifo ++ [(k, bs)], dropRun := false })
  else
    let s1 := modCb s (fun c => { c with dropped := inc32 c.dropped, dropRun := true })
    if s.cb.dropRun then s1 else raise s1 456 s1.cb.dropped 0

/-- A doorbell write: the low byte for a BOOLEAN or UNSIGNED8 object, else the word; a DB_MAP of 0 discards it (R399). -/
def doorbell (s : State) (n : Fin 16) (word : Nat) : State :=
  let m := objN s 0x2A10 (4 + n.val)
  let k := m / 256
  if m = 0 then s
  else match objRow k with
    | some r => fifoPut s k (leBytes (min 2 r.ty.bytes) word)
    | none => fifoPut s k (leBytes 2 word)

/-- PW_GO: the composed write enters the FIFO (R399). -/
def pwGo (s : State) (idx sub len v : Nat) : State :=
  fifoPut (modCb s (fun c => { c with pwIndex := idx, pwSub := sub, pwLen := len, pwVal := v })) (okey idx sub) (leBytes len v)

/-- The first posted entry leaves the FIFO and is judged as a write of C (R399). -/
def postedDrain (s : State) : State :=
  match s.cb.fifo with
  | [] => s
  | (k, bs) :: r =>
    if !dictLive s then s
    else
      let w := writeTx (modCb s (fun c => { c with fifo := r, processed := inc32 c.processed })) .c k bs []
      if vRefused w.2 then postedRefused w.1 k w.2 else w.1

/-! The mailbox (R400, R401). -/

/-- The mailbox takes a request where none is being carried out; MB_CMD while BUSY only sets IGNORED. -/
def mbRequest (s : State) (f : State → State × Nat) : State :=
  if s.cb.mb.busy then modCb s (fun c => { c with mb := { c.mb with ignored := true } })
  else
    let r := f (modCb s (fun c => { c with mb := { c.mb with busy := true, done := false, ignored := false, late := none } }))
    if r.2 = vLate then r.1 else mbDone r.1 (vStatus r.2)

/-- MB_INDEX and MB_SUB. -/
def mbName (s : State) (idx sub : Nat) : State := modCb s (fun c => { c with mb := { c.mb with index := idx, sub := sub } })

/-- Data stand in MB_DATA, with MB_LEN holding their length. -/
def mbData (s : State) (bs : List Byte) : State := modCb s (fun c => { c with mb := { c.mb with data := bs, len := bs.length } })

/-- MB_CMD 1, READ. -/
def mbRead (s : State) (idx sub : Nat) : State :=
  mbRequest s (fun s =>
    let r := readTx (mbName s idx sub) .c (okey idx sub)
    (if r.2.1 = 0 then mbData r.1 r.2.2 else r.1, r.2.1))

/-- MB_CMD 2, WRITE of MB_DATA. -/
def mbWrite (s : State) (idx sub : Nat) (bs : List Byte) : State :=
  mbRequest s (fun s => writeTx (mbData (mbName s idx sub) bs) .c (okey idx sub) bs [])

/-- MB_CMD 3 and 4, OPEN_READ and OPEN_WRITE with T in MB_OFFSET. -/
def mbOpen (s : State) (idx sub : Nat) (wr : Bool) (total : Nat) : State :=
  mbRequest s (fun s =>
    domOpen (modCb (mbName s idx sub) (fun c => { c with mb := { c.mb with offset := if wr then total else c.mb.offset } }))
      .c idx sub wr total)

/-- A segment of C at the offset it names, which must be the next one (R385); bytes of a write, or MB_LEN of a read. -/
def segmentAt (s : State) (p : Path) (off len : Nat) (bs : List Byte) : State × Nat × List Byte :=
  if !dictLive s then (s, vNone, [])
  else match (domTimeout s p).ctl.xfers[p.idx] with
  | none => (answer (touch s p) p 0x23, 0x23, [])
  | some x =>
    if x.off ≠ off then (answer (touch s p) p 0x23, 0x23, [])
    else if x.wr then let r := domPut s p bs; (r.1, r.2, [])
    else domGet s p len

/-- The open transfer of a path is in this direction. -/
def xferDir (s : State) (p : Path) (wr : Bool) : Bool :=
  match s.ctl.xfers[p.idx] with
  | some x => x.wr == wr
  | none => false

/-- MB_CMD 5, SEGMENT. -/
def mbSegment (s : State) (off len : Nat) (bs : List Byte) : State :=
  mbRequest s (fun s =>
    let rd := xferDir s .c false
    let s1 := modCb s (fun c => { c with mb := { c.mb with offset := off, len := len, data := if rd then c.mb.data else bs } })
    let r := segmentAt s1 .c off len bs
    (if rd && r.2.1 = 0 then mbData r.1 r.2.2 else r.1, r.2.1))

/-- MB_CMD 6, ABORT. -/
def mbAbort (s : State) : State := mbRequest s (fun s => domAbort s .c)

/-- MB_CMD 7, STREAM_RESET: the IN port takes data again, at a record start (R389). -/
def mbStreamReset (s : State) : State :=
  mbRequest s (fun s => (modStream s .c (fun i => { i with buf := [], halted := false, odd := false, named := none }), 0))

/-- A long request that has been answered is reported: DONE and MB_SEQ (R401). -/
def mbFinish (s : State) : State :=
  match s.cb.mb.late with
  | some code => if s.cb.mb.busy then mbDone s code else s
  | none => s

/-! The ports (R402). -/

/-- A word is written to the stream IN port; with IN_SPACE 0 it is discarded, a record error of reason 4. -/
def cbIn (s : State) (word : Nat) : State :=
  if s.cb.inp.halted then s
  else if inSpace s = 0 then recordError s .c 4
  else streamReceive s .c (leBytes 2 word)

/-- A word is read from the stream OUT port; a record is taken at its last word (R390, R402). -/
def cbOut (s : State) : State :=
  match nextRec s .c with
  | none => modCb s (fun c => { c with word := 0, underruns := inc32 c.underruns })
  | some r =>
    let w := rdLE r.bytes (2 * s.cb.outOff) 2
    let off := s.cb.outOff + 1
    if paddedLen r ≤ 2 * off then modCb (takeRec s r) (fun c => { c with word := w, outOff := 0 })
    else modCb (beginRec s r .c) (fun c => { c with word := w, outOff := off })

/-- A word is read from the event port; a record is taken at its eighth word (R402). -/
def cbEvent (s : State) : State :=
  match s.cb.q.recs with
  | [] => modCb s (fun c => { c with word := 0 })
  | r :: rest =>
    let w := rdLE (evBytes r) (2 * s.cb.evOff) 2
    if s.cb.evOff = 7 then modCb s (fun c => { c with word := w, evOff := 0, q := { c.q with recs := rest } })
    else modCb s (fun c => { c with word := w, evOff := c.evOff + 1 })

/-- CB_RST# has been low for 1 µs: C is lost (R403). -/
def cbReset (s : State) : State := loseC (modCb s (fun c => { c with rstLow := true }))

end Sys2Proof.Machine
end

