-- ==== Sys2Proof/Machine/Uart.lean ====
section
/-!
DEFINITION. Uart.lean: the serial ports UA0 and UA1 (spec/14, R430–R435).
-/

namespace Sys2Proof.Machine

open Sys2Proof

/-- A setting of port `n`. -/
def uartCfg (s : State) (n : Fin 2) (sub : Nat) : Nat := objN s (0x2A60 + n.val) sub

/-- What the receiver makes of a frame (R431, R432). -/
structure UartFrame where
  data : Nat
  parity : Bool
  framing : Bool
  brk : Bool
  noise : Bool
  deriving DecidableEq, Repr

/-- The majority of the three samples of a bit; `k` is how many of them read high (R431). -/
def sampleHigh (k : Nat) : Bool := decide (2 ≤ k)

/-- The parity bit that a character of `ones` ones should carry (R430). -/
def parityWants (mode ones : Nat) : Bool :=
  if mode = 1 then ones % 2 == 1 else if mode = 2 then ones % 2 == 0 else mode == 3

/-- A frame from the samples of its bits: start bit, data bits, parity bit where there is one, stop bits (R430, R431). -/
def uartFrame (s : State) (n : Fin 2) (samples : List Nat) : UartFrame :=
  let d := uartCfg s n 3
  let p := b2n (uartCfg s n 4 ≠ 0)
  let high := samples.map sampleHigh
  let dataBits := (high.drop 1).take d
  let parBit := (high.drop (1 + d)).take p
  let stops := (high.drop (1 + d + p)).take (uartCfg s n 5)
  let brk := high.all (fun b => !b)
  { data := if brk then 0 else sumN ((upto dataBits.length).map (fun k => b2n (dataBits.getD k false) * 2 ^ k))
    parity := p == 1 && parBit != [parityWants (uartCfg s n 4) (dataBits.filter (fun b => b)).length]
    framing := stops.any (fun b => !b)
    brk := brk
    noise := samples.any (fun k => k == 1 || k == 2) }

/-- The flag bits [12:9] of a received word. -/
def UartFrame.flags (f : UartFrame) : Nat := 512 * b2n f.parity + 1024 * b2n f.framing + 2048 * b2n f.brk + 4096 * b2n f.noise

/-- A frame is counted: its flags, and the character where it is stored. -/
def uartCount (u : UartSt) (f : UartFrame) (stored : Bool) : UartSt :=
  { u with
    rxChars := if stored then inc32 u.rxChars else u.rxChars
    overruns := if stored then u.overruns else inc32 u.overruns
    framing := if f.framing then inc32 u.framing else u.framing
    parity := if f.parity then inc32 u.parity else u.parity
    breaks := if f.brk then inc32 u.breaks else u.breaks
    noise := if f.noise then inc32 u.noise else u.noise
    breakWait := u.breakWait || f.brk }

/-- A character has completed: stored with its flags, or lost while the holding register is full (R432); EV476 at the first
flagged or lost one of a run. -/
def uartStore (s : State) (n : Fin 2) (f : UartFrame) : State :=
  let u := s.uarts[n]
  let stored := u.rxHold.isNone
  let flags := f.flags + (if stored then 0 else 8192)
  let hold := match u.rxHold with
    | none => some (f.data + f.flags)
    | some w => some (setBit w 13)
  let s1 := modUart s n (fun u => { uartCount u f stored with rxHold := hold, errRun := flags != 0 })
  if flags ≠ 0 && !u.errRun then raise s1 476 (2147483648 * n.val + flags) s1.uarts[n].overruns else s1

/-- A start edge outside DOZE is a wake source for the Last Ride where WAKE_EN is 1 (R422, R435). -/
def uartEdge (s : State) (n : Fin 2) : State :=
  if uartCfg s n 7 = 1 then modLr s (fun l => { l with localWake := true }) else s

/-- A frame ends on RXD (R431, R434): without an application image, disabled, or after a BREAK it is not received. -/
def uartReceive (s : State) (n : Fin 2) (samples : List Nat) : State :=
  if !dictLive s || s.uarts[n].breakWait then s
  else
    let s1 := modUart (uartEdge s n) n (fun u => { u with rxBusy := false })
    if !uartActive s n || sampleHigh (samples.headD 3) then s1 else uartStore s1 n (uartFrame s n samples)

/-- The transmitter starts the held character; with flow control only while CTS# reads low (R433). -/
def uartTxStart (s : State) (n : Fin 2) (ctsLow : Bool) : State :=
  let s1 := modUart s n (fun u => { u with ctsLow := ctsLow })
  let u := s.uarts[n]
  if uartActive s n && u.txHold.isSome && u.txShift.isNone && (uartCfg s n 6 = 0 || ctsLow) then
    modUart s1 n (fun u => { u with txShift := u.txHold, txHold := none })
  else s1

/-- A transmitted character has completed its stop bits; one whose port has gone inactive, where TXD is held high, was cut and counts for nothing
(R434; DESIGN CHOICE, assumption log 130). -/
def uartTxDone (s : State) (n : Fin 2) : State :=
  if s.uarts[n].txShift.isSome then
    modUart s n (fun u => { u with txShift := none, txChars := if uartActive s n then inc32 u.txChars else u.txChars })
  else s

/-- A start edge on RXD: in DOZE it is a wake source with WAKE_EN = 1 (R435); else an active receiver begins a frame (R431, R433). -/
def uartStartEdge (s : State) (n : Fin 2) : State :=
  if s.md.mode = .doze then
    (if uartCfg s n 7 ≠ 1 then s
     else modUart (modMd s (fun d => { d with wakeSrc := setBit d.wakeSrc (2 + n.val) })) n
       (fun u => { u with rtsWake := true, wakePend := true }))
  else if dictLive s then
    modUart (uartEdge s n) n (fun u => { u with rxBusy := u.rxBusy || (uartActive s n && !u.breakWait) })
  else s

/-- A character of the application enters the transmit holding register, or is dropped: the state and what the call returns. -/
def uartPut (s : State) (n : Fin 2) (ch : Nat) : State × Nat :=
  if s.uarts[n].txHold.isSome then (modUart s n (fun u => { u with txDrops := inc32 u.txDrops }), 0)
  else (modUart s n (fun u => { u with txHold := some (wrap 9 ch) }), 1)

/-- The application takes the received word; RTS# held since a wake is free again (R435). -/
def uartGet (s : State) (n : Fin 2) : State × Nat :=
  (modUart s n (fun u => { u with rxHold := none, rtsWake := false }), s.uarts[n].rxHold.getD 0xFFFFFFFF)

end Sys2Proof.Machine
end

