-- ==== Sys2Proof/Machine/Api.lean ====
section
/-!
DEFINITION. Api.lean: the calls of the application (spec/17, R499), its watchdog and its traps (R498, R500).
-/

namespace Sys2Proof.Machine

open Sys2Proof

/-- The application runs, is not halted by the debugger and does not block in WAIT: it can call. -/
def apiLive (s : State) : Bool := s.app.state == 2 && !s.tu.halted && s.app.waiting.isNone && dictLive s

/-- A call returns: a0 and a1. -/
def apiReturn (s : State) (a0 a1 : Nat) : State := modApp s (fun a => { a with a0 := a0, a1 := a1 })

/-- A dictionary call returns its status; one that is answered later leaves a0 to that answer (R348, R351). -/
def apiStatus (s : State) (v a1 : Nat) : State := if v = vLate then modApp s (fun a => { a with a1 := a1 }) else apiReturn s (vStatus v) a1

/-- A call whose buffer does not lie in the B7 mailbox region: RANGE (DESIGN CHOICE, assumption log 62). -/
def apiRange (s : State) : State := apiReturn (answer s .a 0x23) 0x23 0

/-- Bytes of the application's memory. -/
def bufBytes (s : State) (a n : Nat) : List Byte := (upto n).map (fun k => memRead s.app.mem (a + k))

/-- Bytes put into the application's memory. -/
def bufPut (s : State) (a : Nat) (bs : List Byte) : State := modApp s (fun x => { x with mem := memWrite x.mem a bs })

/-- DICT_READ. -/
def apiRead (s : State) (idx sub buf size : Nat) : State :=
  let k := okey idx sub
  let n := (readData s .a k).length
  if judgeRead s .a k = 0 && (decide (size < n) || !inMailbox buf n) then apiRange s
  else
    let r := readTx s .a k
    if r.2.1 = 0 then apiReturn (bufPut r.1 buf r.2.2) 0 r.2.2.length else apiStatus r.1 r.2.1 0

/-- DICT_WRITE. -/
def apiWrite (s : State) (idx sub buf len : Nat) : State :=
  if !inMailbox buf len then apiRange s
  else
    let r := writeTx s .a (okey idx sub) (bufBytes s buf len) []
    apiStatus r.1 r.2 0

/-- DOMAIN_OPEN: direction 0 read, 1 write. -/
def apiOpen (s : State) (idx dir total : Nat) : State :=
  if 1 < dir then apiRange s
  else
    let r := domOpen s .a idx 0 (dir == 1) total
    apiStatus r.1 r.2 0

/-- DOMAIN_SEGMENT: one segment at the offset named, which must be the next one. -/
def apiSegment (s : State) (buf len off : Nat) : State :=
  if !inMailbox buf len then apiRange s
  else
    let wr := xferDir s .a true
    let r := segmentAt s .a off len (bufBytes s buf len)
    let moved := if vRefused r.2.1 then 0 else if wr then len else r.2.2.length
    apiStatus (if wr then r.1 else bufPut r.1 buf r.2.2) r.2.1 moved

/-- DOMAIN_ABORT. -/
def apiAbort (s : State) : State := let r := domAbort s .a; apiStatus r.1 r.2 0

/-- EVENT_GET: up to `most` records, 16 bytes each, are copied and leave the queue. -/
def apiEventGet (s : State) (buf most : Nat) : State :=
  let rs := s.rm.app.recs.take most
  if !inMailbox buf (16 * rs.length) then apiRange s
  else
    let s1 := bufPut s buf (rs.flatMap evBytes)
    apiReturn (modRm s1 (fun m => { m with app := { m.app with recs := m.app.recs.drop most } })) 0 rs.length

/-- What ends a WAIT in this cycle: 1 an event pending, 2 the deadline reached (R499). -/
def waitEnds (s : State) (deadline : Nat) : Option Nat :=
  if !s.rm.app.recs.isEmpty then some 1 else if deadline ≤ now s then some 2 else none

/-- WAIT until an event or the ST deadline. -/
def apiWait (s : State) (lo hi : Nat) : State :=
  let d := wrap 32 lo + 4294967296 * wrap 32 hi
  match waitEnds s d with
  | some r => apiReturn s 0 r
  | none => modApp s (fun a => { a with waiting := some d })

/-- A WAIT under way ends. -/
def apiWake (s : State) : State :=
  match s.app.waiting with
  | none => s
  | some d =>
    match waitEnds s d with
    | some r => if s.tu.halted then s else apiReturn (modApp s (fun a => { a with waiting := none })) 0 r
    | none => s

/-- UART_PUT. -/
def apiUartPut (s : State) (port ch : Nat) : State :=
  if 1 < port then apiRange s else let r := uartPut s (Fin.ofNat 2 port) ch; apiReturn r.1 0 r.2

/-- UART_GET. -/
def apiUartGet (s : State) (port : Nat) : State :=
  if 1 < port then apiRange s else let r := uartGet s (Fin.ofNat 2 port); apiReturn r.1 0 r.2

/-- The call codes of R499. -/
def apiCodes : List Nat := [0x01, 0x02, 0x03, 0x04, 0x05, 0x08, 0x09, 0x0A, 0x10, 0x11, 0x1F]

/-- A call code that is not listed: NO_SUCH_OBJECT. -/
def apiUnknown (s : State) (code : Nat) : State := if apiCodes.contains code then s else modApp s (fun a => { a with a0 := 0x21 })

/-- No WDOG_KICK within APP_WDOG ms, the debugger's halts not counted (R500). -/
def wdogExpire (s : State) : State :=
  let ms := objN s 0x2E01 3
  if s.app.state ≠ 2 || ms = 0 || s.tu.halted || decide (now s < s.app.kickSt + s.app.haltTicks + ms * 200000) then s
  else appStop s 2

/-- WDOG_KICK; one that comes after APP_WDOG has passed finds the application stopped (R500). -/
def apiKick (s : State) : State :=
  if (wdogExpire s).app.state = 2 then apiReturn (modApp s (fun a => { a with kickSt := now s, haltTicks := 0, haltSt := now s })) 0 0
  else wdogExpire s

/-- An access outside the three regions raises the access-fault exception on the application core alone (R26, R498): it
reaches no memory, and the application's own handler answers it; where that cannot, APP_TRAP follows (assumption log 125). -/
def accessFault (s : State) (addr : Nat) : State :=
  if s.app.state ≠ 2 || s.tu.halted then s else modApp s (fun a => { a with accFault := some addr })

/-- A trap that the application cannot take: its pc and cause are kept and the application stops (R500). -/
def appTrap (s : State) (pc cause : Nat) : State :=
  if s.app.state ≠ 2 then s
  else appStop (modApp s (fun a => { a with faultPc := wrap 32 pc, faultCause := wrap 32 cause })) 3

end Sys2Proof.Machine
end

