-- ==== Sys2Proof/Machine/Wayfire.lean ====
section
/-!
DEFINITION. Wayfire.lean: what an encoder edge, a committed direction, a line event and a firing waymark do to the units
they reach (spec/02).
-/

namespace Sys2Proof.Machine

open Sys2Proof

/-! Encoders (R46, R53, R76–R78). -/

/-- Does a lane follow encoder channel `c`? -/
def laneOnEnc (s : State) (c i : Fin 4) : Bool :=
  (laneSource s i == 1 || laneSource s i == 3) && decide (laneEnc s i = c)

/-- The lane of an encoder channel, where one follows it: the lowest. -/
def encLane (s : State) (c : Fin 4) : Option (Fin 4) := (allFin 4).find? (laneOnEnc s c)

/-- Does a lane name encoder channel `c`, whatever its SOURCE: a stall test may use its encoder position (R220)? -/
def laneNamesEnc (s : State) (c i : Fin 4) : Bool := decide (laneEnc s i = c)

/-- Are the directions of a channel swapped: ENC_INVERT of its lane, else of the lowest lane that names it (DESIGN CHOICE, assumption log
57)? -/
def encInverted (s : State) (c : Fin 4) : Bool :=
  match (encLane s c).or ((allFin 4).find? (laneNamesEnc s c)) with
  | some i => decide (laneCfg s i 8 = 1)
  | none => false

/-- The edge history of a channel after an edge of direction `d` (R53). -/
def encStep (t : ST) (d : Int) (e : Enc) : Enc :=
  let c := e.c + d
  { e with c := c, k := (if d = 1 then c else c + 1), d := d, held := false, n := min ((if e.d = d then e.n else 0) + 1) 3,
           te2 := e.te1, te1 := e.te0, te0 := t }

/-- An edge places the encoder term of the lanes that name its channel on the boundary it crosses. -/
def edgeLane (c : Fin 4) (s : State) (i : Fin 4) : State :=
  if !laneNamesEnc s c i then s
  else
    let s1 := modLane s i (fun l => { l with ep := encBoundary s i s.msu.encs[c].k })
    if laneSource s i = 1 then placeLane s1 i else s1

/-- A and B of its channel have changed together: the encoder term of this cycle is the one before it, and ENC_FAULT is set where the lane
follows the channel (R53). -/
def faultLane (c : Fin 4) (s : State) (i : Fin 4) : State :=
  if !laneNamesEnc s c i then s
  else
    let s1 := modLane s i (fun l => { l with ep := l.epPrev, encFault := l.encFault || laneOnEnc s c i })
    if laneSource s i = 1 then placeLane s1 i else s1

/-- A transition of a channel's inputs (R53). -/
def encEdge (s : State) (c : Fin 4) (e : EncEdge) : State :=
  if !controlLive s then s
  else
    let move := fun (d : Int) =>
      let d1 := if encInverted s c then 0 - d else d
      applyAll (edgeLane c) (modEnc s c (encStep (now s) d1)) (allFin 4)
    match e with
    | .fwd => move 1
    | .rev => move (-1)
    | .both =>
      raise (applyAll (faultLane c) (modEnc s c (fun e => { e with held := true })) (allFin 4)) 68 c.val (w32 s.msu.encs[c].c)

/-- EDGE_TIMEOUT of a lane has passed since the newest edge: the position is held (R53). The edges are counted per channel, so the timeout
of either lane on it ends the run for both (DESIGN CHOICE, assumption log 101). -/
def edgeTimeout (s : State) (i : Fin 4) : State :=
  let c := laneEnc s i
  if controlLive s && decide (laneCfg s i 12 ≤ (now s : Int) - s.msu.encs[c].te0) then
    modEnc s c (fun e => { e with n := 0 })
  else s

/-- A re-home that was asked for takes place at an index pulse (R78). -/
def encRehome (s : State) (c i : Fin 4) : State :=
  let idx := 0x2150 + c.val
  if objN s idx 2 = 2 && objB s idx 7 then
    raise (laneReorigin (setObj s idx 7 0) i (obj s idx 6)) 82 c.val i.val
  else s

/-- A rising edge of a channel's index input (R76–R78). EV080 gives position 0 where no lane follows the channel (DESIGN CHOICE, assumption
log 102). -/
def encIndex (s : State) (c : Fin 4) : State :=
  let idx := 0x2150 + c.val
  if !controlLive s || objN s idx 2 = 0 then s
  else
    let e := s.msu.encs[c]
    let s1 := modEnc s c (fun e => { e with cRef := some e.c })
    let s2 := match e.cRef with
      | none => s1
      | some r =>
        let dev := e.c - (r + roundDiv (e.c - r) (obj s idx 1) * obj s idx 1)
        let s2 := modEnc s1 c (fun e => { e with lastDev := dev })
        if -2 ≤ dev && dev ≤ 2 then modEnc s2 c (fun e => { e with slip := inc16 e.slip })
        else
          let pos := match encLane s c with | some i => s.msu.lanes[i].pos | none => 0
          raise (modEnc s2 c (fun e => { e with mismatch := inc16 e.mismatch })) 80
            (c.val + 65536 * toBits 16 (clampI (-32768) 32767 dev)) (w32 pos)
    match encLane s2 c with
    | some i => encRehome s2 c i
    | none => s2

/-! The committed direction (R49). -/

/-- The direction a lane commits in this cycle, if it does. With DIR_HYST 0 and no direction both conditions hold, and it is FWD (DESIGN
CHOICE, assumption log 103). -/
def dirCommit (s : State) (i : Fin 4) : Option Dir :=
  let l := s.msu.lanes[i]
  let h := laneCfg s i 11
  if laneSource s i = 0 then none
  else if l.dir ≠ .fwd && decide (l.ext + h ≤ l.pos) then some .fwd
  else if l.dir ≠ .rev && decide (l.pos ≤ l.ext - h) then some .rev
  else none

/-- A lane commits a direction: its generators re-index from the extreme, the heads on it see the change (R49, R57, R140). -/
def laneDirCommit (s : State) (i : Fin 4) : State :=
  match (if controlLive s then dirCommit s i else none) with
  | none => s
  | some d =>
    let e := s.msu.lanes[i].ext
    let s1 := raise (modLane s i (fun l => { l with dir := d, ext := l.pos, extPrev := l.pos })) 67 i.val d.code
    let s2 := applyAll (commitGen d e) s1 (laneGens i)
    applyAll (fun t h => if genLane (headGen t h) = i then histDirChange t h else t) s2 (allFin 2)

/-! Line events (R57–R59, R125, R181, R236). -/

/-- The previous line event of a generator in a direction, as ticks before this cycle (R151). -/
def linePeriod (s : State) (g : Fin 16) (d : Dir) : Option Nat :=
  match (if d = Dir.rev then s.msu.gens[g].revSt else s.msu.gens[g].fwdSt) with
  | some t => some (now s - t)
  | none => none

/-- An emitted line reaches a head, which binds it to a job as the cycle ends (R127). -/
def lineToHead (g : Fin 16) (n : Int) (d : Dir) (p : Option Nat) (vh : Fin 2 → Nat) (s : State) (h : Fin 2) : State :=
  if headGen s h ≠ g then s else modHead s h (fun x => { x with event := some ⟨n, d, vh h, p⟩ })

/-- The line event of a head is bound; while its governor is halted none is, but for the one that aborts its job (R127, R181). -/
def headEvent (s : State) (h : Fin 2) : State :=
  match s.heads[h].event with
  | none => s
  | some ev =>
    let s1 := modHead s h (fun x => { x with event := none })
    haltedLine (if haltShuts s1 h then s1 else headLine s1 h ev) h

/-- A head's cycle ends: its line event is bound (R127), a first strobe or a last one that no command has carried out is, released lines
leave the store (R118), and the rehearsal is looked through (R159). -/
def headEnd (s : State) (h : Fin 2) : State :=
  let s1 := sliceTrainEnd (lineCommit (headEvent s h) h) h
  if s1.heads[h].refresh then
    rehearse (modHead s1 h (fun x => { x with refresh := false, store := x.store.filter (fun l => !l.leaving) })) h
  else s1

/-- Has a head something that the end of a cycle may carry out? -/
def headBusy (s : State) (h : Fin 2) : Bool := s.heads[h].event.isSome || s.heads[h].train.isSome || s.heads[h].refresh

/-- An emitted line reaches an image port. -/
def lineToPort (g : Fin 16) (n : Int) (d : Dir) (df : Fin 2 → Nat) (s : State) (p : Fin 2) : State :=
  if imgCfg s p 4 = g.val then imgLine s p n d (df p) else s

/-- A generator takes the line due in this cycle; indices are integers without an end (DESIGN CHOICE, assumption log 104). `va`, `vb` are the VH rails in mV, `df0`, `df1` the codes of the ports'
double-feed channels. -/
def lineEvent (s : State) (g : Fin 16) (va vb df0 df1 : Nat) : State :=
  match (if controlLive s then lineDue s g else none) with
  | none => s
  | some (n, d) =>
    let s1 := modGen s g (fun x => { x with lastSt := some (now s), nf := (if d = .fwd then n + 1 else x.nf),
                                            nr := (if d = .rev then n - 1 else x.nr) })
    let s2 := if moreDue s1 g && !s.msu.gens[g].crowded then
        raise (modGen s1 g (fun x => { x with crowded := true })) 72 g.val (w32 n)
      else s1
    if gateAtLine s g && dirsAllow s g d then
      let s3 := modGen s2 g (fun x =>
        { x with index := n, emitted := inc32 x.emitted, fwdSt := (if d = .fwd then some (now s) else x.fwdSt),
                 revSt := (if d = Dir.rev then some (now s) else x.revSt) })
      let s4 := applyAll (lineToHead g n d (linePeriod s g d) (fun h => if h = 0 then va else vb)) s3 (allFin 2)
      applyAll (lineToPort g n d (fun p => if p = 0 then df0 else df1)) s4 (allFin 2)
    else s2

/-! Waymarks (R64–R75). -/

/-- ON reaches a level input; a hold of a pair's output there is over. -/
def levelOn (s0 : State) (t i : Nat) : State :=
  let s := holdOver s0 t i
  if t = 0x01 then modGen s (Fin.ofNat 16 i) (fun x => { x with gateOpen := true })
  else if t = 0x10 || t = 0x11 then modHead s (Fin.ofNat 2 t) (fun x => { x with printGate := true })
  else if t = 0x20 || t = 0x21 then
    (if i = 0 then modPort s (Fin.ofNat 2 t) (fun x => { x with scanGate := true }) else snapStart s (Fin.ofNat 2 t))
  else solAsk s (Fin.ofNat 8 i) .on

/-- OFF reaches a level input; `pair`: the OFF of a pair. -/
def levelOff (s : State) (t i : Nat) (pair : Bool) : State :=
  if t = 0x01 then modGen s (Fin.ofNat 16 i) (fun x => { x with gateOpen := false })
  else if t = 0x10 || t = 0x11 then modHead s (Fin.ofNat 2 t) (fun x => { x with printGate := false })
  else if t = 0x20 || t = 0x21 then
    (if i = 0 then modPort s (Fin.ofNat 2 t) (fun x => { x with scanGate := false }) else snapEnd s (Fin.ofNat 2 t))
  else solAsk s (Fin.ofNat 8 i) (.off pair)

/-- An OFF has acted on an input in this cycle (R70). -/
def noteOff (s : State) (t i : Nat) : State :=
  { s with msu := { s.msu with offSt := now s, offs := (if s.msu.offSt = now s then s.msu.offs else []) ++ [(t, i)] } }

/-- A trigger line of the waymarks: one trigger in a cycle, with the events routed to it (R306, R444). -/
def wmTriggerLine (s : State) (i : Nat) : State :=
  if s.rm.fabric.contains (now s, i) then s
  else { seWaymark s i with rm := { (seWaymark s i).rm with fabric := s.rm.fabric ++ [(now s, i)] } }

/-- A pulse reaches an input. -/
def wmPulse (s : State) (e t i : Nat) : State :=
  if t = 0x02 then (if i < 0x20 then tcRestart s (Fin.ofNat 32 i) else capture s (Fin.ofNat 8 i) true)
  else if t = 0x20 || t = 0x21 then jamDoc s (Fin.ofNat 2 t)
  else if t = 0x30 then
    axDeliver s (Fin.ofNat 4 i) (if i < 4 then .go else if i < 8 then .goAlt else if i < 12 then .stop else .qstop) true
  else if t = 0x40 then
    (if i < 16 then solAskOn s (Fin.ofNat 8 i) true else cutHere s (i - 0x1F) (obj s 0x2540 4))
  else if t = 0x50 then
    (if i < 8 then wmTriggerLine s i else seWaymark s i)
  else if t = 0x60 then jobPulse s (Fin.ofNat 64 i) e
  else s

/-- Detail word 1 of the pair events: start entry and stop entry. -/
def pairWord (start stop : Nat) : Nat := 65536 * start + stop

/-- Start and stop of a pair have fired in one cycle (R73, R74): no edge, or an ON of the output's minimum. Its OFF is one of this cycle's
(R70); an input that was on already stays on, as R73 gives no edge (DESIGN CHOICE, assumption log 105). -/
def wmCollapsed (s : State) (start stop : Nat) (w : Waymark) : State :=
  let m := pairMinimum w
  let s1 := raise s 33 (pairWord start stop) m
  if m = 0 || offActs s1 w.tgt w.inp then noteOff s1 w.tgt w.inp
  else
    let s2 := noteOff (levelOn s1 w.tgt w.inp) w.tgt w.inp
    { s2 with msu := { s2.msu with holds := s2.msu.holds ++ [⟨start, w.tgt, w.inp, now s + m⟩] } }

/-- The stop of a pair fires alone (R75): sooner than the output's minimum, the output is held on. -/
def wmPairStop (s : State) (start stop : Nat) (w : Waymark) : State :=
  let m := pairMinimum w
  let x := wmAt s start
  let run := now s - x.lastSt
  if stopEarly s w then
    let s1 := noteOff (raise s 34 (pairWord start stop) (m - run)) w.tgt w.inp
    { s1 with msu := { s1.msu with holds := s1.msu.holds ++ [⟨start, w.tgt, w.inp, x.lastSt + m⟩] } }
  else noteOff (levelOff s w.tgt w.inp true) w.tgt w.inp

/-- The action of entry `e`, which has just fired. -/
def wmOperate (s : State) (e : Nat) (w : Waymark) : State :=
  if w.op = 0 then s
  else if w.op = 1 then wmPulse s e w.tgt w.inp
  else
    let y := wmAt s w.partner
    let start := if w.role then w.partner else e
    let stop := if w.role then e else w.partner
    if w.pair && firesNow s y ≠ 0 then s
    else if pairBoth s w then wmCollapsed s start stop w
    else if w.op = 2 then (if offActs s w.tgt w.inp then s else levelOn s w.tgt w.inp)
    else if w.pair then wmPairStop s start stop w
    else noteOff (levelOff s w.tgt w.inp false) w.tgt w.inp

/-- Entry `e` fires in direction `d` (R65, R67). -/
def wmFire (s : State) (e d : Nat) : State :=
  let w := wmAt s e
  let s1 := setWm s e { w with armed := false, fires := min 65535 (w.fires + 1), lastDir := d, lastSt := now s }
  let s2 := wmOperate s1 e w
  let at_ : Int := if w.key < 4 then s.msu.lanes[wmLane w].pos else (now s : Int)
  let s3 := if w.evt then raise s2 (48 + w.evsel) (e + 1073741824 * d) (w32 at_) else s2
  if w.key = 4 && w.target < w.since then raise s3 36 e (min (now s - w.target) 0xFFFFFFFF) else s3

/-- A lane-keyed entry fires, where it does in this cycle. -/
def wmLaneFire (s : State) (e : Nat) : State :=
  let d := firesNow s (wmAt s e)
  if d = 1 || d = 2 then wmFire s e d else s

/-- An ST-keyed entry fires, where it does in this cycle. -/
def wmStFire (s : State) (e : Nat) : State := if firesNow s (wmAt s e) = 3 then wmFire s e 3 else s

/-! The order of one cycle (R69): lanes commit, generators emit in their order, entries act in theirs. A command whose turn has not come
waits for it within its cycle. -/

/-- A RESTART of a channel is still to come in this cycle (R101). -/
def restartDue (s : State) (c : Fin 32) : Bool := s.tu.tcs[c].run && decide (16 ≤ c.val) && someFires s 0x02 c.val 1

/-- Place of a command in the order of R69; the compares of a channel come after its RESTART (R101). -/
def turnRank : Instr → Nat
  | .lineEvent g _ _ _ _ => g.val
  | .waymarkFire e => 16 + e.val
  | .waymarkStFire e => 16 + e.val
  | .tcWrap _ => 1000
  | .tcMatchA _ => 1001
  | .tcMatchB _ => 1002
  | _ => 2000

/-- Does something of this cycle come before place `r`: a direction to commit, a line due, an entry that fires? -/
def turnAhead (s : State) (r : Nat) : Bool :=
  controlLive s && ((allFin 4).any (fun i => (dirCommit s i).isSome)
    || (allFin 16).any (fun g => decide (g.val < r) && (lineDue s g).isSome)
    || s.msu.wm.any (fun x => decide (16 + x.1 < r) && firesNow s x.2 != 0))

/-- Has the turn of a command not come yet: something before it in R69's order, or a RESTART of its channel? -/
def turnWaits (s : State) : Instr → Bool
  | .tcWrap c => restartDue s c
  | .tcMatchA c => restartDue s c
  | .tcMatchB c => restartDue s c
  | .tcOneshotPark c => restartDue s c
  | c => turnAhead s (turnRank c)

/-- Is the command one that this cycle has a use for, now or after a RESTART? -/
def turnDue (s : State) : Instr → Bool
  | .lineEvent g _ _ _ _ => controlLive s && (lineDue s g).isSome
  | .waymarkFire e => firesNow s (wmAt s e.val) == 1 || firesNow s (wmAt s e.val) == 2
  | .waymarkStFire e => firesNow s (wmAt s e.val) == 3
  | .tcWrap _ => true
  | .tcMatchA _ => true
  | .tcMatchB _ => true
  | .tcOneshotPark _ => true
  | _ => false

/-- The wrap of this cycle, where it is due (R91). -/
def tcWrapTurn (s : State) (c : Fin 32) : State := if tcWrapDue s c then tcDoWrap s c else s

/-- Compare A of this cycle, where it is due (R92). -/
def tcMatchATurn (s : State) (c : Fin 32) : State :=
  if tcHitA s c && decide (s.tu.tcs[c].aSt ≠ some (now s)) then tcDoA s c else s

/-- Compare B of this cycle, where it is due (R92). -/
def tcMatchBTurn (s : State) (c : Fin 32) : State :=
  if tcHitB s c && decide (s.tu.tcs[c].bSt ≠ some (now s)) then tcDoB s c else s

/-- The parking cycle, where this is one (R94). -/
def tcParkTurn (s : State) (c : Fin 32) : State := if s.tu.tcs[c].parkDue then tcPark s c else s

/-- A command of R69's order is carried out. -/
def runTurn (s : State) (c : Instr) : State :=
  match c with
  | .lineEvent g va vb df0 df1 => lineEvent s g va vb df0 df1
  | .waymarkFire e => wmLaneFire s e.val
  | .waymarkStFire e => wmStFire s e.val
  | .tcWrap c => tcWrapTurn s c
  | .tcMatchA c => tcMatchATurn s c
  | .tcMatchB c => tcMatchBTurn s c
  | .tcOneshotPark c => tcParkTurn s c
  | _ => s

/-- A waiting command in its place. -/
def turnInsert (c : Instr) : List Instr → List Instr
  | [] => [c]
  | x :: r => if turnRank c < turnRank x then c :: x :: r else x :: turnInsert c r

/-- The waiting commands whose turn has come, at most `n` of them. -/
def turnsTaken : Nat → State → State
  | 0, s => s
  | n + 1, s =>
    match s.turns with
    | [] => s
    | c :: r => if turnWaits s c then s else turnsTaken n (runTurn { s with turns := r } c)

/-- What has come to be in turn is carried out. -/
def takeTurns (s : State) : State := turnsTaken s.turns.length s

/-- A line event, a waymark or a channel's compare in its turn, or put among the waiting ones (R69, R101). -/
def inTurn (s : State) (c : Instr) : State :=
  if turnDue s c && turnWaits s c then { s with turns := turnInsert c s.turns }
  else takeTurns (runTurn s c)

/-- The cycle ends: what still waits is carried out in the order of R69. -/
def endTurns (s : State) : State := applyAll runTurn { s with turns := [] } s.turns

/-- A hold of a pair's output has lasted the minimum: the output goes off (R75). -/
def pairMinEnd (s : State) (start : Nat) : State :=
  match s.msu.holds.find? (fun x => x.start == start && decide (x.due ≤ now s)) with
  | none => s
  | some x =>
    levelOff { s with msu := { s.msu with holds := s.msu.holds.erase x } } x.tgt x.inp true

end Sys2Proof.Machine
end

