-- ==== Sys2Proof/Machine/CmdMsu.lean ====
section
/-!
DEFINITION. CmdMsu.lean: the commands of lanes, generators, waymarks and encoders (spec/02).
-/

namespace Sys2Proof.Machine

open Sys2Proof

/-- ENC_EDGE (R53): an edge of encoder channel `c`, or both inputs changed together. -/
def execEncEdge (c : Fin 4) (e : EncEdge) (s : State) : Out := done s (encEdge s c e)

/-- EDGE_TIMEOUT (R53) of lane `i`. -/
def execEdgeTimeout (i : Fin 4) (s : State) : Out := done s (edgeTimeout s i)

/-- LANE_DIR_COMMIT (R49). -/
def execLaneDirCommit (i : Fin 4) (s : State) : Out := done s (takeTurns (laneDirCommit s i))

/-- LINE_EVENT (R57): generator `g`, with the readings its units take, in its turn (R69). -/
def execLineEvent (g : Fin 16) (va vb df0 df1 : Nat) (s : State) : Out :=
  done s (inTurn s (.lineEvent g va vb df0 df1))

/-- WAYMARK_FIRE (R65): a lane-keyed entry, in its turn (R69). -/
def execWaymarkFire (e : Fin 1024) (s : State) : Out := done s (inTurn s (.waymarkFire e))

/-- WAYMARK_REARM (R66). -/
def execWaymarkRearm (e : Fin 1024) (s : State) : Out :=
  if rearmsNow s (wmAt s e.val) then done s (wmArm s e.val) else done s s

/-- WAYMARK_ST_FIRE (R67): an ST-keyed entry, in its turn (R69). -/
def execWaymarkStFire (e : Fin 1024) (s : State) : Out := done s (inTurn s (.waymarkStFire e))

/-- WAYMARK_WRITE (R62): TARGET, CTRL or ACT of the entry the path has selected. -/
def execWaymarkWrite (p : Path) (field : WmField) (v : Nat) (s : State) : Out :=
  doWrite p (okey 0x2140 (match field with | .target => 2 | .ctrl => 3 | .act => 4)) v [] s

/-- WAYMARK_ENABLE (R63): CTRL with EN = 1. -/
def execWaymarkEnable (p : Path) (ctrl : Nat) (s : State) : Out := doWrite p (okey 0x2140 3) (setBit ctrl 31) [] s

/-- PAIR_MINIMUM_END (R75): the hold of the pair with this start entry. -/
def execPairMinimumEnd (start : Fin 1024) (s : State) : Out := done s (pairMinEnd s start.val)

/-- WAYMARK_DISABLE_ALL (R82): COMMAND = 1. -/
def execWaymarkDisableAll (p : Path) (s : State) : Out := doWrite p (okey 0x2141 3) 1 [] s

/-- WAYMARK_ARM_ALL (R82): COMMAND = 2. -/
def execWaymarkArmAll (p : Path) (s : State) : Out := doWrite p (okey 0x2141 3) 2 [] s

/-- A whole DOMAIN content written on a path: the transfer is opened and its one segment judged (R385). -/
def domWriteWhole (s : State) (p : Path) (idx : Nat) (bs : List Byte) : State :=
  let r := domOpen s p idx 0 true bs.length
  if vAccepted r.2 then (domPut r.1 p bs).1 else r.1

/-- WAYMARK_IMAGE_WRITE (R81). -/
def execWaymarkImageWrite (p : Path) (bs : List Byte) (s : State) : Out := done s (domWriteWhole s p 0x5100 bs)

/-- ENC_INDEX (R76). -/
def execEncIndex (c : Fin 4) (s : State) : Out := done s (encIndex s c)

/-- REHOME_REQ = 1 (R78). -/
def execRehomeReq (p : Path) (c : Fin 4) (s : State) : Out := doWrite p (okey (0x2150 + c.val) 7) 1 [] s

end Sys2Proof.Machine
end

