-- ==== Sys2Proof/Machine/CmdApp.lean ====
section
/-!
DEFINITION. CmdApp.lean: the commands of start-up, images, keys, debug access and the application (spec/17).
-/

namespace Sys2Proof.Machine

open Sys2Proof

/-- A call of the application: it is made where the application runs and does not block (R499). -/
def doApi (f : State → State) (s : State) : Out := doWhen (apiLive s) f s

/-- RECOVERY_WAKE_EXIT (R489). -/
def execRecoveryWakeExit (s : State) : Out := doWhen true recoveryWake s

/-- SYSTEM_IMAGE_WRITE (R490): a whole transfer of 0x5E00 on a path. -/
def execSystemImageWrite (p : Path) (bs : List Byte) (s : State) : Out := doWhen true (fun s => domWriteWhole s p 0x5E00 bs) s

/-- APP_IMAGE_WRITE (R497): a whole transfer of 0x5E01 on a path. -/
def execAppImageWrite (p : Path) (bs : List Byte) (s : State) : Out := doWhen true (fun s => domWriteWhole s p 0x5E01 bs) s

/-- SLOT_CMD_INVALIDATE (R491). -/
def execSlotCmdInvalidate (p : Path) (s : State) : Out := doWrite p (okey 0x2E00 5) 1 [] s

/-- ROLLBACK_COMMIT (R492). -/
def execRollbackCommit (p : Path) (s : State) : Out := doWrite p (okey 0x2E02 11) 1 [] s

/-- KEY_ADD (R493). -/
def execKeyAdd (p : Path) (s : State) : Out := doWrite p (okey 0x2E02 9) 1 [] s

/-- KEY_REVOKE of slot `k` (R493). -/
def execKeyRevoke (p : Path) (k : Fin 4) (s : State) : Out := doWrite p (okey 0x2E02 9) (2 + k.val : Nat) [] s

/-- APP_START (R494): APP_CMD 2. -/
def execAppStart (p : Path) (s : State) : Out := doWrite p (okey 0x2E01 2) 2 [] s

/-- APP_STOP (R500): APP_CMD 1. -/
def execAppStop (p : Path) (s : State) : Out := doWrite p (okey 0x2E01 2) 1 [] s

/-- APP_ENABLE_WRITE (R500). -/
def execAppEnableWrite (p : Path) (v : Nat) (s : State) : Out := doWrite p (okey 0x2E01 1) v [] s

/-- APP_WDOG_EXPIRE (R500). -/
def execAppWdogExpire (s : State) : Out := doWhen true wdogExpire s

/-- APP_TRAP (R500), with the pc and the cause. -/
def execAppTrap (pc cause : Nat) (s : State) : Out := doWhen true (fun s => appTrap s pc cause) s

/-- APP_ACCESS_FAULT (R26, R498): the access reaches no system memory, and the application core's exception is raised. -/
def execAppAccessFault (addr : Nat) (s : State) : Out := doWhen (!appRegion addr) (fun s => accessFault s addr) s

/-- API_DICT_READ (R499). -/
def execApiDictRead (idx sub buf size : Nat) (s : State) : Out := doApi (fun s => apiRead s idx sub buf size) s

/-- API_DICT_WRITE (R499). -/
def execApiDictWrite (idx sub buf len : Nat) (s : State) : Out := doApi (fun s => apiWrite s idx sub buf len) s

/-- API_DOMAIN_OPEN (R499). -/
def execApiDomainOpen (idx dir total : Nat) (s : State) : Out := doApi (fun s => apiOpen s idx dir total) s

/-- API_DOMAIN_SEGMENT (R499). -/
def execApiDomainSegment (buf len off : Nat) (s : State) : Out := doApi (fun s => apiSegment s buf len off) s

/-- API_DOMAIN_ABORT (R499). -/
def execApiDomainAbort (s : State) : Out := doApi apiAbort s

/-- API_EVENT_GET (R499). -/
def execApiEventGet (buf most : Nat) (s : State) : Out := doApi (fun s => apiEventGet s buf most) s

/-- API_WAIT (R499). -/
def execApiWait (lo hi : Nat) (s : State) : Out := doApi (fun s => apiWait s lo hi) s

/-- API_WAIT_WAKE (R499). -/
def execApiWaitWake (s : State) : Out := doWhen true apiWake s

/-- API_WDOG_KICK (R499). -/
def execApiWdogKick (s : State) : Out := doApi apiKick s

/-- API_UART_PUT (R499). -/
def execApiUartPut (port ch : Nat) (s : State) : Out := doApi (fun s => apiUartPut s port ch) s

/-- API_UART_GET (R499). -/
def execApiUartGet (port : Nat) (s : State) : Out := doApi (fun s => apiUartGet s port) s

/-- API_EXIT (R499): the application stops with cause 1. -/
def execApiExit (s : State) : Out := doApi (fun s => appStop s 1) s

/-- API_UNKNOWN (R499). -/
def execApiUnknown (code : Nat) (s : State) : Out := doApi (fun s => apiUnknown s code) s

/-- DEBUG_UNLOCK (R501): DEBUG_CMD 1. -/
def execDebugUnlock (p : Path) (s : State) : Out := doWrite p (okey 0x2E03 13) 1 [] s

/-- DEBUG_LOCK (R502): DEBUG_CMD 2. -/
def execDebugLock (p : Path) (s : State) : Out := doWrite p (okey 0x2E03 13) 2 [] s

end Sys2Proof.Machine
end

