-- ==== Sys2Proof/Machine/Servo.lean ====
section
/-!
DEFINITION. Servo.lean: the servo boundary, and what becomes due on an axis between boundaries (spec/07, spec/16).
-/

namespace Sys2Proof.Machine

open Sys2Proof

/-- One axis at a servo boundary; a stall that is reported jams the documents on its lane (R199, R221, R255). -/
def axisTurn (s : State) (n : Fin 4) : State :=
  let s1 := axBoundary s n
  if s1.axes[n].stallCount ≠ s.axes[n].stallCount then jamAxis s1 n else s1

/-- What the servo boundary reads of the rails: the means of the period that has ended, the floors, and the VH that slices latched before the
next reading meet (R122, R447, R460; DESIGN CHOICE, assumption log 114). -/
def railsRead (s : State) (rails : List Nat) (i p : Nat) : State :=
  let s1 := boostRead (railMeans s rails i p) (rails.getD 3 0)
  let s2 := applyAll (fun s (h : Fin 2) => modVl s h (fun v => { v with sensed := rails.getD (1 + h.val) 0 })) s1 (allFin 2)
  modSn s2 (fun n => { n with vhLow := #v[decide (rails.getD 1 0 < 14000), decide (rails.getD 2 0 < 14000)] })

/-- SERVO_BOUNDARY: the Tollgate, the governors, the four axes, the HYBRID lanes (R48, R184, R199, R465). -/
def servoBoundary (s : State) (rails : List Nat) (i p : Nat) : State :=
  let s1 := tollgate (railsRead s rails i p) p
  let s2 := govUpdate (govUpdate s1 0) 1
  let s3 := applyAll axisTurn s2 (allFin 4)
  recharge (applyAll hybridCorrect s3 (allFin 4))

/-- The microstep an axis has been driven to, between the set-points of its servo period (R199). -/
def axisMicrostep (s : State) (n : Fin 4) : Int :=
  let x := s.axes[n]
  x.sp0 + tdiv ((x.sp - x.sp0) * ((now s % 5000 : Nat) : Int)) 5000

/-- The interpolated position reaches the first multiple of 128 after the boundary that found the changeover due (R217). -/
def regChangeover (s : State) (n : Fin 4) : State :=
  match s.axes[n].regAt with
  | none => s
  | some met =>
    if met || reach128 s.axes[n].sp0 (axisMicrostep s n) then
      modAxis s n (fun x => { x with strong := !x.strong, regAt := none })
    else s

/-- IDLE_DELAY has passed at v = 0 and a = 0: the STILL choice (R218). -/
def axStandstill (s : State) (n : Fin 4) : State :=
  match s.axes[n].restSt with
  | none => s
  | some t =>
    if axEnergised s n && decide (t + axCfgN s n 0 12 ≤ now s) then modAxis s n (enterStill s n) else s

/-- A bridge over-current of an axis with switches on (R222); the documents on its lane jam (R255). -/
def axShort (s : State) (n : Fin 4) (phase kind : Nat) : State :=
  if axConducts s n then jamAxis (axTrip s n phase kind) n else s

/-- A coil has stayed below half its target, which exceeds a quarter of I_pk: OPEN_LOAD, once per move (R224). -/
def axOpenLoad (s : State) (n : Fin 4) (phase : Nat) : State :=
  if axEnergised s n && s.axes[n].strong && !s.axes[n].openLoad
      && decide (axPeak s n < 4 * (coilTarget s n (Fin.ofNat 2 phase)).natAbs) then
    raise (modAxis s n (fun x => { x with openLoad := true })) 250 (n.val + 256 * phase) (axPeak s n)
  else s

/-- The bridge temperature of one axis acts (R225); a trip jams the documents on its lane. -/
def axTempRead (s : State) (n : Fin 4) : State :=
  let s1 := axTemp s n (atN 0 s.se.temps (4 + n.val))
  if s1.axes[n].state = 5 && s.axes[n].state ≠ 5 then jamAxis s1 n else s1

/-- The system temperatures are published, and the bridges act on theirs (R225, R317). -/
def sysTempRead (s : State) (values : List Nat) : State :=
  if sysReads s then applyAll axTempRead (sysTemps s values) (allFin 4) else s

end Sys2Proof.Machine
end

