-- ==== Sys2Proof/Machine/CmdAxis.lean ====
section
/-!
DEFINITION. CmdAxis.lean: the commands of the motion axes (spec/07). GO, GO_ALT, STOP and QSTOP stand for the delivery of a
command, as an epoch or a waymark makes it; the next servo boundary applies it (R202; DEDUCED, assumption log 59).
-/

namespace Sys2Proof.Machine

open Sys2Proof

/-- SERVO_BOUNDARY (R199), with the rail means by rail code in mV, I_MAIN24 in mA and P_MAIN24 in mW of the period that has
ended (R460). -/
def execServoBoundary (rails : List Nat) (i p : Nat) (s : State) : Out :=
  doLive (decide (now s % 5000 = 0) && dueAfter s.pw.servoSt 5000 (now s))
    (fun s => servoBoundary (modPw s (fun w => { w with servoSt := some (now s) })) rails i p) s

/-- AX_GO (R203). -/
def execAxGo (n : Fin 4) (s : State) : Out := doLive true (fun s => axDeliver s n .go false) s

/-- AX_GO_ALT (R203). -/
def execAxGoAlt (n : Fin 4) (s : State) : Out := doLive true (fun s => axDeliver s n .goAlt false) s

/-- AX_STOP (R207). -/
def execAxStop (n : Fin 4) (s : State) : Out := doLive true (fun s => axDeliver s n .stop false) s

/-- AX_QSTOP (R207). -/
def execAxQstop (n : Fin 4) (s : State) : Out := doLive true (fun s => axDeliver s n .qstop false) s

/-- REG_CHANGEOVER (R217). -/
def execRegChangeover (n : Fin 4) (s : State) : Out := doLive true (fun s => regChangeover s n) s

/-- AX_STANDSTILL (R218). -/
def execAxStandstill (n : Fin 4) (s : State) : Out := doLive true (fun s => axStandstill s n) s

/-- AX_SHORT (R222): phase 0 A, 1 B; kind 1 low side, 2 high side, 3 both. -/
def execAxShort (n : Fin 4) (phase kind : Nat) (s : State) : Out := doLive true (fun s => axShort s n phase kind) s

/-- AX_CLEAR = 1 (R223); `asserted`: is a comparator still asserted? -/
def execAxClear (p : Path) (n : Fin 4) (asserted : Bool) (s : State) : Out :=
  doWrite p (okey (0x2608 + n.val) 5) 1 (if asserted then [1] else []) s

/-- AX_OPEN_LOAD (R224), with the phase. -/
def execAxOpenLoad (n : Fin 4) (phase : Nat) (s : State) : Out := doLive true (fun s => axOpenLoad s n phase) s

/-- SYS_TEMP_READ (R317), with the VALUE codes of DIE_T, TS0–TS2 and AXT0–AXT3. -/
def execSysTempRead (values : List Nat) (s : State) : Out := doLive true (fun s => sysTempRead s values) s

end Sys2Proof.Machine
end

