-- ==== Sys2Proof/Machine/CmdCb.lean ====
section
/-!
DEFINITION. CmdCb.lean: the commands of the companion bus (spec/13).
-/

namespace Sys2Proof.Machine

open Sys2Proof

/-- A command of the companion bus: it meets the bus powered (R395), and after it the next Mirror read is a new snapshot. Where the planes do not
run, in BOOT and in RECOVERY among others, the bus answers the Mirror alone (R27, R488). -/
def doCb (f : State → State) (s : State) : Out :=
  doWhen (cbPowered s) (fun s => if controlLive s then f (cbTouch s) else cbTouch s) s

/-- A mailbox request; it is taken where the dictionary is live (R337). -/
def doMb (f : State → State) (s : State) : Out := doWhen (cbPowered s && dictLive s) (fun s => f (cbTouch s)) s

/-- MIRROR_READ (R397) at byte address `a`. -/
def execMirrorRead (a : Nat) (s : State) : Out := doWhen (cbPowered s) (fun s => cbMirrorRead s a) s

/-- DOORBELL_WRITE (R399). -/
def execDoorbellWrite (n : Fin 16) (word : Nat) (s : State) : Out := doCb (fun s => doorbell s n word) s

/-- PW_GO (R399) with what the staging registers hold. -/
def execPwGo (idx sub len v : Nat) (s : State) : Out := doCb (fun s => pwGo s idx sub len v) s

/-- POSTED_DRAIN (R399). -/
def execPostedDrain (s : State) : Out := doWhen (cbPowered s) postedDrain s

/-- MB_READ (R400). -/
def execMbRead (idx sub : Nat) (s : State) : Out := doMb (fun s => mbRead s idx sub) s

/-- MB_WRITE (R400). -/
def execMbWrite (idx sub : Nat) (bs : List Byte) (s : State) : Out := doMb (fun s => mbWrite s idx sub bs) s

/-- MB_OPEN_READ (R400). -/
def execMbOpenRead (idx sub : Nat) (s : State) : Out := doMb (fun s => mbOpen s idx sub false 0) s

/-- MB_OPEN_WRITE (R400). -/
def execMbOpenWrite (idx sub total : Nat) (s : State) : Out := doMb (fun s => mbOpen s idx sub true total) s

/-- MB_SEGMENT (R400) at an offset: MB_LEN for a read, the bytes of MB_DATA for a write. -/
def execMbSegment (off len : Nat) (bs : List Byte) (s : State) : Out := doMb (fun s => mbSegment s off len bs) s

/-- MB_ABORT (R400). -/
def execMbAbort (s : State) : Out := doMb mbAbort s

/-- MB_STREAM_RESET (R389). -/
def execMbStreamReset (s : State) : Out := doMb mbStreamReset s

/-- MB_REQUEST_DONE (R401). -/
def execMbRequestDone (s : State) : Out := doWhen (cbPowered s) mbFinish s

/-- CB_IN_WRITE (R402). -/
def execCbInWrite (word : Nat) (s : State) : Out := doCb (fun s => cbIn s word) s

/-- CB_OUT_READ (R402). -/
def execCbOutRead (s : State) : Out := doCb cbOut s

/-- CB_EVENT_READ (R402). -/
def execCbEventRead (s : State) : Out := doCb cbEvent s

/-- CB_RESET (R403). -/
def execCbReset (s : State) : Out := doWhen (cbPowered s) cbReset s

end Sys2Proof.Machine
end

