-- ==== Sys2Proof/Machine/CmdCtl.lean ====
section
/-!
DEFINITION. CmdCtl.lean: the commands of the dictionary, the Commit Gate, the claims, the stored set and the Job Ledger
(spec/11).
-/

namespace Sys2Proof.Machine

open Sys2Proof

/-- OBJECT_WRITE (R335): index, sub-index and data. -/
def execObjectWrite (p : Path) (idx sub : Nat) (data : List Byte) (s : State) : Out :=
  done s (writeTx s p (okey idx sub) data []).1

/-- COMMIT = 1 (R341). -/
def execCommitOwn (p : Path) (s : State) : Out := doWrite p (okey 0x2001 1) 1 [] s

/-- COMMIT = 2 (R341). -/
def execCommitAll (p : Path) (s : State) : Out := doWrite p (okey 0x2001 1) 2 [] s

/-- COMMIT = 3 (R341). -/
def execCommitDiscard (p : Path) (s : State) : Out := doWrite p (okey 0x2001 1) 3 [] s

/-- COMMIT_EPOCH (R343). -/
def execCommitEpoch (s : State) : Out := doLive s.ctl.epoch.isSome runEpoch s

/-- CLAIM = g (R347). -/
def execClaim (p : Path) (g : Nat) (s : State) : Out := doWrite p (okey 0x2002 1) g [] s

/-- RELEASE = g (R347). -/
def execClaimRelease (p : Path) (g : Nat) (s : State) : Out := doWrite p (okey 0x2002 2) g [] s

/-- CLAIM_LEASE_EXPIRE (R349) of group `g`. -/
def execClaimLeaseExpire (g : Fin 24) (s : State) : Out := doLive (leaseOver s g.val) (fun s => claimLapse 2 s g.val) s

/-- The save signature is written to 0x1010:01 (R351). -/
def execStoreAll (p : Path) (s : State) : Out := doWrite p (okey 0x1010 1) 0x65766173 [] s

/-- STORE_DONE (R351): did the NOR write succeed? -/
def execStoreDone (ok : Bool) (s : State) : Out := doLive (s.ctl.storeState == 1) (fun s => storeDone s ok) s

/-- The load signature is written to 0x1011:01 (R352). -/
def execRestoreAll (p : Path) (s : State) : Out := doWrite p (okey 0x1011 1) 0x64616F6C [] s

/-- CMD = 1 on the entry the path has selected (R355). -/
def execJobSubmit (p : Path) (s : State) : Out := doWrite p (okey 0x2020 10) 1 [] s

/-- CMD = 2 (R359). -/
def execJobAbort (p : Path) (s : State) : Out := doWrite p (okey 0x2020 10) 2 [] s

/-- CMD = 3 (R359). -/
def execJobEnd (p : Path) (s : State) : Out := doWrite p (okey 0x2020 10) 3 [] s

/-- CMD = 4 (R359). -/
def execJobRelease (p : Path) (s : State) : Out := doWrite p (okey 0x2020 10) 4 [] s

/-- CLEAR = 1 (R359). -/
def execLedgerClear (p : Path) (s : State) : Out := doWrite p (okey 0x2021 5) 1 [] s

/-- JOB_ARM (R356): QUEUED entries whose conditions hold are armed. -/
def execJobArm (s : State) : Out := doLive true jobsArm s

end Sys2Proof.Machine
end

