-- ==== Sys2Proof/Machine/CmdHead.lean ====
section
/-!
DEFINITION. CmdHead.lean: the commands of head ports, dot delivery, dot energy and the raster store (spec/04, spec/05).
-/

namespace Sys2Proof.Machine

open Sys2Proof

/-- HEAD_ID_CHECK (R112), with the measured resistance in Ω. -/
def execHeadIdCheck (h : Fin 2) (r : Nat) (s : State) : Out := doLive true (fun s => headIdCheck s h r) s

/-- LINE_COMMIT (R120): the first strobe of the running line falls. -/
def execLineCommit (h : Fin 2) (s : State) : Out := doLive true (fun s => lineCommit s h) s

/-- SLICE_TRAIN_END (R121). -/
def execSliceTrainEnd (h : Fin 2) (s : State) : Out := doLive true (fun s => sliceTrainEnd s h) s

/-- RASTER_FLUSH (R118): FLUSH, [0] HEAD-A, [1] HEAD-B. -/
def execRasterFlush (p : Path) (mask : Nat) (s : State) : Out := doWrite p (okey 0x2320 8) mask [] s

/-- RECOMPUTE_LATCH (R161): the Speed Governor is told (R185). -/
def execRecomputeLatch (h : Fin 2) (s : State) : Out :=
  doLive (recomputeDue s h) (fun s => govRecompute (recomputeLatch s h) h) s

/-- THERM_READ (R142), with the 12-bit code. -/
def execThermRead (h : Fin 2) (code : Nat) (s : State) : Out := doLive (sysReads s) (fun s => thermRead s h code) s

/-- MODEL_UPDATE (R143): 1 ms after the last update, with no train. -/
def execModelUpdate (h : Fin 2) (s : State) : Out :=
  doLive (s.heads[h].train.isNone && decide (s.en[h].stLast + 200000 ≤ now s)) (fun s => modelUpdate s h 0 0) s

/-- MEAS_START (R147): MEAS_CMD = 1, with the raw codes of a host capture it ends. -/
def execMeasStart (p : Path) (h : Fin 2) (raws : List Nat) (s : State) : Out :=
  doWrite p (okey (0x2403 + 16 * h.val) 1) 1 raws s

/-- MEAS_ABORT (R150): MEAS_CMD = 2. -/
def execMeasAbort (p : Path) (h : Fin 2) (s : State) : Out := doWrite p (okey (0x2403 + 16 * h.val) 1) 2 [] s

/-- MEAS_DONE (R148, R149), with the drops of the pulses in µV, dot by dot. -/
def execMeasDone (h : Fin 2) (dvs : List Nat) (s : State) : Out := doLive true (fun s => measDone s h dvs) s

end Sys2Proof.Machine
end

