-- ==== Sys2Proof/Machine/CmdImage.lean ====
section
/-!
DEFINITION. CmdImage.lean: the commands of document imaging (spec/08).
-/

namespace Sys2Proof.Machine

open Sys2Proof

/-- IMG_TRAIN_END (R235), with the raw pixels of the line's planes. -/
def execImgTrainEnd (p : Fin 2) (raw : List (List Nat)) (s : State) : Out := doLive true (fun s => imgTrainEnd s p raw) s

/-- IMG_WITHDRAWN (R255). -/
def execImgWithdrawn (p : Fin 2) (s : State) : Out := doLive true (fun s => withdrawn s p) s

/-- LINE_FINAL (R253). -/
def execLineFinal (p : Fin 2) (s : State) : Out := doLive true (fun s => lineFinal s p) s

/-- DOC_END (R250). -/
def execDocEnd (p : Fin 2) (s : State) : Out := doLive true (fun s => docEnd s p) s

/-- CAL_CMD = 1 of port `i` (R241). -/
def execCalBlack (p : Path) (i : Fin 2) (s : State) : Out := doWrite p (okey (0x2704 + 16 * i.val) 4) 1 [] s

/-- CAL_CMD = 2 (R241). -/
def execCalWhite (p : Path) (i : Fin 2) (s : State) : Out := doWrite p (okey (0x2704 + 16 * i.val) 4) 2 [] s

/-- CAL_CMD = 3 (R244). -/
def execCalAlign (p : Path) (i : Fin 2) (s : State) : Out := doWrite p (okey (0x2704 + 16 * i.val) 4) 3 [] s

/-- CAL_CMD = 4 (R244). -/
def execCalBarEdges (p : Path) (i : Fin 2) (s : State) : Out := doWrite p (okey (0x2704 + 16 * i.val) 4) 4 [] s

/-- CAL_LINE_TRIGGER (R241), with the raw pixels of the line's planes. -/
def execCalLineTrigger (i : Fin 2) (raw : List (List Nat)) (s : State) : Out := doLive true (fun s => calLine s i raw) s

end Sys2Proof.Machine
end

