-- ==== Sys2Proof/Machine/CmdMedia.lean ====
section
/-!
DEFINITION. CmdMedia.lean: the commands of the media index, the paper supply, the governors and the cutter (spec/06).
-/

namespace Sys2Proof.Machine

open Sys2Proof

/-- MEDIA_SAMPLE (R169), with the codes of OPT0–OPT7. -/
def execMediaSample (codes : List Nat) (s : State) : Out := doLive true (fun s => mediaSample s codes) s

/-- LABEL_MISSING (R179). -/
def execLabelMissing (s : State) : Out := doLive (labelPassed s) labelMissing s

/-- SUPPLY_SAMPLE (R170), with the codes of OPT0–OPT7. -/
def execSupplySample (codes : List Nat) (s : State) : Out := doLive true (fun s => supplySampleStopped s codes) s

/-- OUT_RESERVE_REACHED (R182). -/
def execOutReserveReached (s : State) : Out := doLive true reserveCheck s

/-- GOV_RELEASE = 1 of a governor (R181). -/
def execGovRelease (p : Path) (g : Fin 2) (s : State) : Out := doWrite p (okey (0x2520 + 8 * g.val) 5) 1 [] s

/-- CUT_CMD = 1 (R187). -/
def execCutCmdFull (p : Path) (s : State) : Out := doWrite p (okey 0x2541 2) 1 [] s

/-- CUT_CMD = 2 (R187). -/
def execCutCmdPartial (p : Path) (s : State) : Out := doWrite p (okey 0x2541 2) 2 [] s

/-- CUT_CMD = 3 (R193). -/
def execCutCmdHome (p : Path) (s : State) : Out := doWrite p (okey 0x2541 2) 3 [] s

/-- CUT_DRIVE_START (R188). -/
def execCutDriveStart (s : State) : Out := doLive true cutDrive s

/-- CUT_END_REACHED (R189). -/
def execCutEndReached (s : State) : Out := doLive true cutEndReached s

/-- CUT_END_TIMEOUT (R189). -/
def execCutEndTimeout (s : State) : Out := doLive true cutEndTimeout s

/-- CUT_PARTIAL_END (R187). -/
def execCutPartialEnd (s : State) : Out := doLive true cutPartialEnd s

/-- CUT_HOME_REACHED (R188). -/
def execCutHomeReached (s : State) : Out := doLive true cutHomeReached s

/-- CUT_HOME_TIMEOUT (R189). -/
def execCutHomeTimeout (s : State) : Out := doLive true cutHomeTimeout s

/-- CUT_DONE (R188). -/
def execCutDone (s : State) : Out := doLive true cutDone s

/-- CUT_SHORT (R190). -/
def execCutShort (s : State) : Out := doLive true cutShort s

/-- CUT_CLEAR = 1 (R193); `oc`: is the over-current comparator still asserted? -/
def execCutClear (p : Path) (oc : Bool) (s : State) : Out := doWrite p (okey 0x2541 3) 1 (if oc then [1] else []) s

/-- CUT_REVERSE_DRIVE (R188). -/
def execCutReverseDrive (s : State) : Out := doLive true cutReverse s

end Sys2Proof.Machine
end

