-- ==== Sys2Proof/Machine/CmdMode.lean ====
section
/-!
DEFINITION. CmdMode.lean: the commands of start-up, of the modes and of their transitions (spec/01, spec/16, spec/17).
-/

namespace Sys2Proof.Machine

open Sys2Proof

/-- POWER_ON (R485): the input of kind 1 AC or 2 DC, its volts and hundredths of a hertz, REC# and CB_VSEL. -/
def execPowerOn (kind volts hz : Nat) (recLow ioLevel : Bool) (s : State) : Out :=
  done s (powerOn s kind volts hz recLow ioLevel)

/-- BOOT_COMPLETE (R485): the failing input of the monitor self-test, and board temperature sensor 2 in 1/16 °C. -/
def execBootComplete (bad : Option Nat) (ta : Int) (s : State) : Out := done s (bootComplete s bad ta)

/-- BOOT_WATCHDOG (R486). -/
def execBootWatchdog (s : State) : Out := done s (bootWatchdog s)

/-- MODE_REQ = 1 (R32). -/
def execModeReqStandby (p : Path) (s : State) : Out := doWrite p (okey 0x2000 1) 1 [] s

/-- MODE_REQ = 2 (R29). -/
def execModeReqRun (p : Path) (s : State) : Out := doWrite p (okey 0x2000 1) 2 [] s

/-- MODE_REQ = 3 (R35). -/
def execModeReqDoze (p : Path) (s : State) : Out := doWrite p (okey 0x2000 1) 3 [] s

/-- MODE_REQ = 4 (R29). -/
def execModeReqService (p : Path) (s : State) : Out := doWrite p (okey 0x2000 1) 4 [] s

/-- RUN_REACHED (R469): the head-ID resistances in Ω, VH-A, VH-B and BOOST in mV, the HOME switch, and the failing input
of the monitor self-test. -/
def execRunReached (ra rb va vb boost : Nat) (home : Bool) (bad : Option Nat) (s : State) : Out :=
  done s (runReached s ra rb va vb boost home bad)

/-- RUN_ENTRY_TIMEOUT (R469), with the readings of RUN_REACHED. -/
def execRunEntryTimeout (ra rb va vb boost : Nat) (s : State) : Out := done s (runTimeout s ra rb va vb boost)

/-- STANDBY_REACHED (R30), with VH-A, VH-B and BOOST in mV. -/
def execStandbyReached (va vb boost : Nat) (s : State) : Out := done s (standbyReached s va vb boost)

/-- LOCKOUT_CLEAR = 1 (R40). -/
def execLockoutClear (p : Path) (s : State) : Out := doWrite p (okey 0x2000 4) 1 [] s

/-- CLAIM = 0 (R348). -/
def execServiceClaim (p : Path) (s : State) : Out := doWrite p (okey 0x2002 1) 0 [] s

/-- DOZE_HANDOVER (R87). -/
def execDozeHandover (s : State) : Out := done s (dozeHandover s)

/-- DOZE_ABORT (R471): has WAKE# been low for tMS57? -/
def execDozeAbort (pin : Bool) (s : State) : Out := done s (dozeAbort s pin)

/-- KEEPER_TICK (R86). -/
def execKeeperTick (s : State) : Out := done s (keeperTick s)

/-- WAKE_RECOGNISED (R472). Outside DOZE the pin is a local wake source of a Last Ride round (R422). -/
def execWakeRecognised (pin : Bool) (s : State) : Out :=
  if s.md.mode ≠ .doze && pin && s.net.lr.state ≠ 0 then done s (modLr s (fun l => { l with localWake := true }))
  else done s (wakeRecognised s pin)

/-- WAKE_COMPLETE (R473): has the keeper stopped, and board temperature sensor 2 (R88, R282). -/
def execWakeComplete (stopped : Bool) (ta : Int) (s : State) : Out :=
  done s (wakeComplete (if dozeOff s && s.md.trans.isSome then solSeed s ta else s) stopped)

/-- LOCKOUT_FLOORS_REACHED (R470), with VH-A, VH-B and BOOST in mV. -/
def execLockoutFloorsReached (va vb boost : Nat) (s : State) : Out := done s (lockoutFloors s va vb boost)

end Sys2Proof.Machine
end

