-- ==== Sys2Proof/Machine/Net.lean ====
section
/-!
DEFINITION. Net.lean: the CANopen FD services of path N (spec/12, R368–R374; spec/14, R412–R419): PDOs, USDO sessions, the
NMT slave, heartbeat and EMCY.
-/

namespace Sys2Proof.Machine

open Sys2Proof

/-! PDOs. `n` counts RPDO1–RPDO4 and TPDO1–TPDO4 from 0. -/

/-- PDOs are sent and taken only in NMT OPERATIONAL with the dictionary live (R374). -/
def pdoLive (s : State) : Bool := canLive s && s.net.nmt == 5

/-- The CAN identifier that a COB-ID object gives (R378). -/
def canId (s : State) (idx sub : Nat) : Nat := (cobId s idx sub).toNat % 2048

/-- The CAN FD data length that holds `n` bytes (R371). -/
def canLength (n : Nat) : Nat :=
  if n ≤ 8 then n else (([12, 16, 20, 24, 32, 48, 64] : List Nat).find? (fun k => decide (n ≤ k))).getD n

/-- The object of a mapping entry (R368). -/
def entryKey (e : Nat) : Nat := e / 256

/-- The bytes of a mapping entry. -/
def entryBytes (e : Nat) : Nat := e % 256 / 8

/-- The mapping in force of an RPDO. -/
def rpdoEntries (s : State) (n : Fin 4) : List Nat := mapEntries (activeView s) n.val

/-- The mapping in force of a TPDO. -/
def tpdoEntries (s : State) (n : Fin 4) : List Nat := mapEntries (activeView s) (4 + n.val)

/-- TPDOn is valid. -/
def tpdoValid (s : State) (n : Fin 4) : Bool := !pdoInvalid s (0x1800 + n.val)

/-- RPDOn is valid. -/
def rpdoValid (s : State) (n : Fin 4) : Bool := !pdoInvalid s (0x1400 + n.val)

/-- The transmission type of TPDOn. -/
def tpdoType (s : State) (n : Fin 4) : Nat := objN s (0x1800 + n.val) 2

/-- The payload of TPDOn as a snapshot of this cycle (R371). -/
def tpdoPayload (s : State) (n : Fin 4) : List Byte :=
  let d := (tpdoEntries s n).flatMap (fun e => readData s .n (entryKey e))
  d ++ List.replicate (canLength d.length - d.length) 0

/-- What the engine holds of one TPDO changed. -/
def modTpdo (s : State) (n : Fin 4) (f : Tpdo → Tpdo) : State :=
  { s with pdo := { s.pdo with tpdos := upd s.pdo.tpdos n f } }

/-- TPDOn is sent with a new snapshot. -/
def tpdoSend (s : State) (n : Fin 4) : State :=
  let p := tpdoPayload s n
  modTpdo (sendCan s (canId s (0x1800 + n.val) 1) p) n (fun t =>
    { t with sent := p, sentSt := some (now s), timerSt := now s, due := false })

/-- The inhibit time of TPDOn has passed since its previous send (R372). -/
def tpdoFree (s : State) (n : Fin 4) : Bool :=
  match s.pdo.tpdos[n].sentSt with
  | none => true
  | some t => decide (t + objN s (0x1800 + n.val) 3 * 20000 ≤ now s)

/-- A send falls due: it is made at once, or held back by the inhibit time (R372). -/
def tpdoDue (s : State) (n : Fin 4) : State :=
  if tpdoFree s n then tpdoSend s n else modTpdo s n (fun t => { t with due := true })

/-- An event-driven TPDO: valid, of type 0xFE or 0xFF. -/
def tpdoEvent (s : State) (n : Fin 4) : Bool := tpdoValid s n && decide (254 ≤ tpdoType s n)

/-- tCN40 has passed since the last change test of TPDOn (R372, R376). -/
def tpdoTests (s : State) (n : Fin 4) : Bool :=
  match s.pdo.tpdos[n].testSt with
  | none => true
  | some t => decide (t + 20000 ≤ now s)

/-- The change test of TPDOn (R372). -/
def tpdoChange (s : State) (n : Fin 4) : State :=
  if pdoLive s && tpdoEvent s n && tpdoTests s n then
    let s1 := modTpdo s n (fun t => { t with testSt := some (now s) })
    if tpdoPayload s n != s.pdo.tpdos[n].sent then tpdoDue s1 n else s1
  else s

/-- The event timer of TPDOn has expired (R372); what is due outside OPERATIONAL is discarded (R374). -/
def tpdoTimer (s : State) (n : Fin 4) : State :=
  let ms := objN s (0x1800 + n.val) 5
  if ms = 0 || !tpdoEvent s n || decide (now s < s.pdo.tpdos[n].timerSt + ms * 200000) then s
  else
    let s1 := modTpdo s n (fun t => { t with timerSt := now s })
    if pdoLive s then tpdoDue s1 n else s1

/-- The inhibit time of a held send has ended (R372, R374). -/
def tpdoInhibitEnd (s : State) (n : Fin 4) : State :=
  if !s.pdo.tpdos[n].due || !tpdoFree s n then s
  else if pdoLive s && tpdoEvent s n then tpdoSend s n
  else modTpdo s n (fun t => { t with due := false })

/-- A SYNC for TPDOn of a synchronous type (R372). -/
def tpdoSync (s : State) (n : Fin 4) : State :=
  let ty := tpdoType s n
  if !tpdoValid s n || decide (240 < ty) then s
  else if ty = 0 then (if tpdoPayload s n != s.pdo.tpdos[n].sent then tpdoSend s n else s)
  else
    let k := s.pdo.tpdos[n].syncs + 1
    if ty ≤ k then modTpdo (tpdoSend s n) n (fun t => { t with syncs := 0 })
    else modTpdo s n (fun t => { t with syncs := k })

/-- An entry of the value 0 that maps a wo BOOLEAN or UNSIGNED8 is not written (R373). -/
def rpdoSkips (key : Nat) (bs : List Byte) : Bool :=
  match objRow key with
  | some r => decide (r.rights.ofPath .n = .wo) && (decide (r.ty = .bool) || decide (r.ty = .u8)) && leNat bs == 0
  | none => false

/-- The entries of an RPDO are written in mapping order, each a write of N on its own (R373). -/
def rpdoEntriesApply : State → List Nat → List Byte → State
  | s, [], _ => s
  | s, e :: r, bs =>
    let d := bs.take (entryBytes e)
    let s1 := if rpdoSkips (entryKey e) d then s
      else
        let w := writeTx s .n (entryKey e) d []
        if vRefused w.2 then rpdoRefused w.1 (entryKey e) w.2 else w.1
    rpdoEntriesApply s1 r (bs.drop (entryBytes e))

/-- An RPDO is applied; a frame without a refusal ends the run of refused frames (R416). -/
def rpdoApply (s : State) (n : Fin 4) (bs : List Byte) : State :=
  let s1 := rpdoEntriesApply s (rpdoEntries s n) bs
  if s1.net.rpdoRefused = s.net.rpdoRefused then modNet s1 (fun x => { x with refRun := false }) else s1

/-- A frame of RPDOn is received: a short one is counted, a synchronous one waits for the next SYNC (R372, R373, R416). -/
def rpdoReceive (s : State) (n : Fin 4) (bs : List Byte) : State :=
  if !pdoLive s || !rpdoValid s n then s
  else if bs.length < sumN ((rpdoEntries s n).map entryBytes) then
    raise (modNet s (fun x => { x with rpdoShort := inc32 x.rpdoShort })) 470 (n.val + 1) bs.length
  else if objN s (0x1400 + n.val) 2 ≤ 240 then
    { s with pdo := { s.pdo with waits := upd s.pdo.waits n (fun _ => some bs) } }
  else rpdoApply s n bs

/-- The RPDO that waits for the SYNC is applied. -/
def rpdoSync (s : State) (n : Fin 4) : State :=
  match s.pdo.waits[n] with
  | none => s
  | some bs => if rpdoValid s n then rpdoApply s n bs else s

/-- The payloads that wait for a SYNC are gone. -/
def dropWaits (s : State) : State := { s with pdo := { s.pdo with waits := Vector.replicate 4 none } }

/-- The cycle asks something of the TPDOs: the snapshots are taken as it ends, after every epoch of it (R371). -/
def pdoAsk (x : PdoAsk) (s : State) : State := { s with pdo := { s.pdo with asks := s.pdo.asks ++ [x] } }

/-- What a cycle has asked is done. -/
def pdoTurn (s : State) (x : PdoAsk) : State :=
  match x with
  | .change n => tpdoChange s n
  | .timer n => tpdoTimer s n
  | .inhibitEnd n => tpdoInhibitEnd s n
  | .sync => if pdoLive s then applyAll tpdoSync s (allFin 4) else s

/-- The TPDOs of a cycle (R371, R372). -/
def pdoEnd (s : State) : State := applyAll pdoTurn { s with pdo := { s.pdo with asks := [] } } s.pdo.asks

/-- A SYNC is received: the waiting RPDOs are written, and the snapshots are taken as the cycle ends (R371, R372; DESIGN CHOICE, assumption
log 61); outside OPERATIONAL what waited is discarded (R374). -/
def syncReceive (s : State) : State :=
  if !canLive s then s
  else if !pdoLive s then dropWaits s
  else pdoAsk .sync (dropWaits (applyAll rpdoSync s (allFin 4)))

/-! Bit timing (R408, R409). -/

/-- The timing of a bit: prescaler, quanta, segments and jump width. -/
structure BitTiming where
  brp : Nat
  quanta : Nat
  tseg1 : Nat
  tseg2 : Nat
  sjw : Nat
  deriving DecidableEq, Repr

/-- The nominal phase at a NOMINAL_RATE of the table; none for another rate (R408). -/
def nominalTiming : Nat → Option BitTiming
  | 125 => some ⟨2, 320, 255, 64, 64⟩
  | 250 => some ⟨2, 160, 127, 32, 32⟩
  | 500 => some ⟨1, 160, 127, 32, 32⟩
  | 800 => some ⟨1, 100, 79, 20, 20⟩
  | 1000 => some ⟨1, 80, 63, 16, 16⟩
  | _ => none

/-- The data phase at a DATA_RATE of the table, with the prescaler of the nominal rate (R408). -/
def dataTiming (brp : Nat) : Nat → Option BitTiming
  | 1000 => some (if brp = 1 then ⟨1, 80, 59, 20, 20⟩ else ⟨2, 40, 29, 10, 10⟩)
  | 2000 => some (if brp = 1 then ⟨1, 40, 29, 10, 10⟩ else ⟨2, 20, 14, 5, 5⟩)
  | 4000 => some (if brp = 1 then ⟨1, 20, 14, 5, 5⟩ else ⟨2, 10, 6, 3, 3⟩)
  | 5000 => some (if brp = 1 then ⟨1, 16, 11, 4, 4⟩ else ⟨2, 8, 5, 2, 2⟩)
  | _ => none

/-- The bit timing in force, nominal and data phase (R408, R410). -/
def canTiming (s : State) : Option (BitTiming × BitTiming) :=
  match nominalTiming s.net.nomAct with
  | none => none
  | some a => (dataTiming a.brp s.net.dataAct).map (fun d => (a, d))

/-- The secondary sample point in periods of the CAN clock after a transmitted edge: the measured loop delay and 1 + TSEG1 data quanta; none
below 2000 kbit/s, where the compensation is off (R409). -/
def ssp (s : State) : Option Nat :=
  if s.net.dataAct < 2000 then none
  else (canTiming s).map (fun t => wrap 8 loopDelay + (1 + t.2.tseg1) * t.2.brp)

/-! USDO (R415). -/

/-- The USDO server answers (R413). -/
def usdoLive (s : State) : Bool := canLive s && (s.net.nmt == 0x7F || s.net.nmt == 5)

/-- The session of a client. -/
def usdoFind (s : State) (c : Nat) : Option UsdoSess := s.net.usdo.find? (fun x => x.client == c)

/-- Is the object a DOMAIN? -/
def keyIsDom (k : Nat) : Bool := match objRow k with | some r => decide (r.ty = .dom) | none => false

/-- The answer to a client: its abort code, 0 for none, and the data returned. -/
def usdoAnswer (s : State) (c abort : Nat) (data : List Byte) : State :=
  modNet s (fun n => { n with reply := some ⟨c, abort, data⟩ })

/-- A session is taken off the list. -/
def usdoForget (s : State) (c : Nat) : State := modNet s (fun n => { n with usdo := n.usdo.filter (fun x => x.client != c) })

/-- A session is abandoned, with its DOMAIN transfer. -/
def usdoClose (s : State) (c : Nat) : State :=
  match usdoFind s c with
  | none => s
  | some x => usdoForget (if keyIsDom x.key then dropXfer s .n else s) c

/-- A session is aborted with a code. -/
def usdoAbort (s : State) (c code : Nat) : State := usdoAnswer (usdoClose s c) c code []

/-- A session is opened, or goes on. -/
def usdoKeep (s : State) (x : UsdoSess) : State :=
  modNet s (fun n => { n with usdo := n.usdo.filter (fun y => y.client != x.client) ++ [x] })

/-- A DOMAIN session is opened; the one transfer of the path was abandoned with the session that had it (R385). -/
def usdoOpenDom (s : State) (x : UsdoSess) : State :=
  usdoKeep (modNet s (fun n => { n with usdo := n.usdo.filter (fun y => !keyIsDom y.key) })) x

/-- Is there room for a client: its own session, or one of four (R415)? -/
def usdoRoom (s : State) (c : Nat) : Bool := (usdoFind s c).isSome || decide (s.net.usdo.length < 4)

/-- The abort of a segment without a session: that of a fifth client, or of a command the engine does not know (R415). -/
def usdoStray (s : State) (c : Nat) : Nat := if usdoRoom s c then 0x05040001 else 0x05040005

/-- A complete download is judged as a write of N (R335, R415). -/
def usdoWrite (s : State) (c key : Nat) (data : List Byte) : State :=
  let r := writeTx s .n key data []
  if r.2 = vLate then modNet r.1 (fun n => { n with usdoWait := n.usdoWait ++ [(key, c)] })
  else usdoAnswer r.1 c (abortCode r.2) []

/-- A segment of a DOMAIN download. -/
def usdoPutDom (s : State) (x : UsdoSess) (bs : List Byte) : State :=
  let r := domPut s .n bs
  if (r.1.ctl.xfers[Path.n.idx]).isNone then usdoAnswer (usdoForget r.1 x.client) x.client (abortCode r.2) []
  else if vRefused r.2 then usdoAbort r.1 x.client (abortCode r.2)
  else usdoAnswer (usdoKeep r.1 { x with off := x.off + bs.length, lastSt := now s }) x.client 0 []

/-- A segment of a download; the last one judges the write. -/
def usdoPut (s : State) (c : Nat) (bs : List Byte) : State :=
  match usdoFind s c with
  | none => usdoAnswer s c (usdoStray s c) []
  | some x =>
    let data := x.data ++ bs
    if !x.wr then usdoAbort s c 0x05040001
    else if keyIsDom x.key then usdoPutDom s x bs
    else if x.total ≤ data.length then usdoWrite (usdoForget s c) c x.key data
    else usdoAnswer (usdoKeep s { x with data := data, off := data.length, lastSt := now s }) c 0 []

/-- A download initiate: it may carry the first bytes, and where it carries all, it is expedited. -/
def usdoDownload (s : State) (c idx sub total : Nat) (data : List Byte) : State :=
  let key := okey idx sub
  if !usdoRoom s c then usdoAnswer s c 0x05040005 []
  else
    let s0 := usdoClose s c
    if keyIsDom key then
      let r := domOpen s0 .n idx sub true total
      if r.2 ≠ 0 then usdoAnswer r.1 c (abortCode r.2) []
      else
        let s1 := usdoOpenDom r.1 ⟨c, key, true, total, [], 0, now s⟩
        if data.isEmpty then usdoAnswer s1 c 0 [] else usdoPut s1 c data
    else if total ≤ data.length then usdoWrite s0 c key data
    else usdoAnswer (usdoKeep s0 ⟨c, key, true, total, data, data.length, now s⟩) c 0 []

/-- A segment of a DOMAIN upload, at most `n` bytes. -/
def usdoGetDom (s : State) (x : UsdoSess) (n : Nat) : State :=
  let r := domGet s .n n
  if vRefused r.2.1 then usdoAbort r.1 x.client (abortCode r.2.1)
  else
    let s1 := if (r.1.ctl.xfers[Path.n.idx]).isNone then usdoForget r.1 x.client
      else usdoKeep r.1 { x with off := x.off + r.2.2.length, lastSt := now s }
    usdoAnswer s1 x.client 0 r.2.2

/-- A segment of an upload. -/
def usdoGet (s : State) (c n : Nat) : State :=
  match usdoFind s c with
  | none => usdoAnswer s c (usdoStray s c) []
  | some x =>
    if x.wr then usdoAbort s c 0x05040001
    else if keyIsDom x.key then usdoGetDom s x n
    else
      let seg := (x.data.drop x.off).take n
      let off := x.off + seg.length
      let s1 := if x.total ≤ off then usdoForget s c else usdoKeep s { x with off := off, lastSt := now s }
      usdoAnswer (keepResult s1 .n seg) c 0 seg

/-- An upload initiate takes the value of this cycle (R336, R366); a value of at most `room` bytes is answered at once, and a
longer one opens a session. -/
def usdoUpload (s : State) (c idx sub room : Nat) : State :=
  let key := okey idx sub
  if !usdoRoom s c then usdoAnswer s c 0x05040005 []
  else
    let s0 := usdoClose s c
    if keyIsDom key then
      let r := domOpen s0 .n idx sub false 0
      if r.2 ≠ 0 then usdoAnswer r.1 c (abortCode r.2) []
      else
        let s1 := usdoOpenDom r.1 ⟨c, key, false, (readDom s0 idx).length, [], 0, now s⟩
        if (readDom s0 idx).length ≤ room then usdoGet s1 c room else usdoAnswer s1 c 0 []
    else
      let r := readTx s0 .n key
      if vRefused r.2.1 then usdoAnswer r.1 c (abortCode r.2.1) []
      else if r.2.2.length ≤ room then usdoAnswer r.1 c 0 r.2.2
      else usdoAnswer (usdoKeep r.1 ⟨c, key, false, r.2.2.length, r.2.2, 0, now s⟩) c 0 []

/-- No segment for tCN4, 1 s: the session is aborted (R415). -/
def usdoTimeout (s : State) (c : Nat) : State :=
  match usdoFind s c with
  | none => s
  | some x => if x.lastSt + 200000000 ≤ now s then usdoAbort s c 0x05040000 else s

/-- Sessions that have run out by now are gone before a request is served (R415). -/
def usdoExpire (s : State) : State := applyAll usdoTimeout s (s.net.usdo.map (·.client))

/-! NMT (R413, R414). -/

/-- An NMT command reaches the engine: node-ID 0 addresses every node. -/
def nmtMine (s : State) (node : Nat) : Bool := canLive s && (node == 0 || node == s.net.nodeAct)

/-- NMT commands 0x01, 0x02 and 0x80; INITIALISING is left by the boot-up alone (CiA 1301). -/
def nmtCommand (s : State) (node st cmd : Nat) : State :=
  if nmtMine s node && s.net.nmt != 0 then lrLeave (nmtTo s st cmd) false else s

/-- Is the object in 0x1000–0x1FFF? -/
def commKey (k : Nat) : Bool := within 0x1000 0x1FFF (k / 256)

/-- The values the stored set holds for the communication profile, as the load of R353 would take them: without the objects of
a rule they would break. -/
def commStored (s : State) : List (Nat × Int) :=
  match currentSlot s with
  | none => []
  | some i =>
    let st := s.ctl.slots[i].vals.filter (fun e => commKey e.1 && (objRow e.1).isSome && loadOk s e.1 e.2)
    let zero := (s.ctl.dict.filter (fun e => commKey e.1)).map (fun e => (e.1, objDefault e.1))
    let w := (activeView s).over (st ++ zero) []
    let broken := (brokenRules { w with wr := fun k => (st.lookup k).isSome }).flatMap (fun r => r.keys)
    st.filter (fun e => !broken.contains e.1)

/-- Step 1 of Reset Communication: an epoch of its own returns 0x1000–0x1FFF to the stored values or the defaults. -/
def commReset (s : State) : State :=
  let st := commStored s
  let zero := (s.ctl.dict.filter (fun e => commKey e.1 && (st.lookup e.1).isNone)).map (fun e => (e.1, objDefault e.1))
  let s1 := applyVals s ((st ++ zero).filter (fun e => decide (objK s e.1 ≠ e.2))) []
  { s1 with ctl := { s1.ctl with cobSet := (st.filter (fun e => isCob (e.1 / 256) (e.1 % 256))).map (fun e => e.1),
                                 epochs := inc32 s1.ctl.epochs, lastEpochSt := wrap 64 (now s) } }

/-- Step 2: NODE_ID and the rates are latched (R410). -/
def commLatch (s : State) : State :=
  modNet s (fun n => { n with nodeAct := objN s 0x2A40 1, nomAct := objN s 0x2A40 2, dataAct := objN s 0x2A40 3 })

/-- Reset Communication, and Reset Node with its own command code (R414). -/
def nmtReset (s : State) (node cmd : Nat) : State :=
  if nmtMine s node then
    let s1 := loseN (commLatch (commReset (lrLeave s false))) 1
    let s2 := dropWaits (applyAll (fun t n => modTpdo t n (fun x => { x with due := false })) s1 (allFin 4))
    nmtTo s2 0 cmd
  else s

/-- The boot-up is sent and INITIALISING gives way to PRE-OPERATIONAL (R413). -/
def nmtBootup (s : State) : State :=
  if canLive s && s.net.nmt == 0 then
    nmtTo (modNet (sendCan s (0x700 + s.net.nodeAct) [0]) (fun n => { n with hbSt := now s })) 0x7F 0
  else s

/-! Bus errors, heartbeat, EMCY. -/

/-- Bus-off, with the counters as the controller then shows them (R412). -/
def busOff (s : State) (tec rec_ : Nat) : State :=
  if !canLive s then s
  else
    let s1 := modNet s (fun n =>
      { n with busState := 2, busoffs := inc16 n.busoffs, tec := wrap 8 tec, rec_ := wrap 8 rec_ })
    loseN (errBehaviour (lrLeave (raise s1 464 s1.net.busoffs s.net.nmt) true)) 2

/-- Recovery from bus-off has ended (R412): the counters are 0 (ISO 11898-1). -/
def busRecovered (s : State) : State :=
  if s.net.busState ≠ 2 then s
  else lrBack (raise (modNet s (fun n => { n with busState := 0, tec := 0, rec_ := 0 })) 465 0 0)

/-- TEC and REC change; from 128 on in either the node is error passive (R412, ISO 11898-1). -/
def busErrors (s : State) (tec rec_ : Nat) : State :=
  if canLive s then modNet s (fun n =>
      { n with tec := wrap 8 tec, rec_ := wrap 8 rec_, busState := b2n (decide (128 ≤ wrap 8 tec) || decide (128 ≤ wrap 8 rec_)) })
  else s

/-- The heartbeat is due (R418): PRODUCER_HB ms after the previous one, and in no INITIALISING. -/
def heartbeatSend (s : State) : State :=
  let ms := objN s 0x1017 0
  if !canLive s || s.net.nmt = 0 || ms = 0 || decide (now s < s.net.hbSt + ms * 200000) then s
  else modNet (sendCan s (0x700 + s.net.nodeAct) (leBytes 1 s.net.nmt)) (fun n => { n with hbSt := now s })

/-- The node an entry of CONSUMER_HB watches. -/
def hbNode (s : State) (i : Fin 4) : Nat := bits (objN s 0x1016 (1 + i.val)) 23 16

/-- Its time in ticks. -/
def hbTime (s : State) (i : Fin 4) : Nat := bits (objN s 0x1016 (1 + i.val)) 15 0 * 200000

/-- A consumer entry has heard no heartbeat for its time (R418). -/
def hbTimeout (s : State) (i : Fin 4) : State :=
  match s.net.hb[i] with
  | none => s
  | some t =>
    if !canLive s || hbTime s i = 0 || decide (now s < t + hbTime s i) then s
    else
      let s1 := modNet s (fun n => { n with hb := upd n.hb i (fun _ => none), hbTimeouts := inc16 n.hbTimeouts })
      errBehaviour (raise s1 468 (hbNode s i) s1.net.hbTimeouts)

/-- A heartbeat of `node` arms the entries that watch it; one that comes after the time of an entry finds it timed out (R418). -/
def heartbeatReceive (s : State) (node : Nat) : State :=
  if !canLive s || s.net.nmt = 0 then s
  else applyAll (fun t i =>
    if hbTime t i ≠ 0 && hbNode t i = node then
      modNet (hbTimeout t i) (fun n => { n with hb := upd n.hb i (fun _ => some (now s)) })
    else t) s (allFin 4)

/-- The inhibit time of EMCY has passed (R417). -/
def emcyFree (s : State) : Bool :=
  match s.net.emcySt with
  | none => true
  | some t => decide (t + objN s 0x1015 0 * 20000 ≤ now s)

/-- The next EMCY frame is sent (R417). -/
def emcySend (s : State) : State :=
  match s.net.emcyQ with
  | [] => s
  | f :: r =>
    if usdoLive s && emcyFree s then
      modNet (sendCan s (canId s 0x1014 0) f) (fun n => { n with emcyQ := r, emcySent := inc32 n.emcySent, emcySt := some (now s) })
    else s

/-- What wakes the transceiver and with which cause: 1 WUF, 2 WUP, 3 frame errors (R427, R429); at 800 kbit/s it has no selective wake. -/
def wakeCauseOf (s : State) (f : WakeFrame) : Option Nat :=
  let wf := fun (sub : Nat) => objN s 0x2A4A sub
  match f with
  | .errors => some 3
  | .pattern => if wf 1 = 0 then some 2 else none
  | .frame id dlc payload =>
    if wf 1 = 1 && s.net.nomAct != 800 && Nat.land (Nat.xor id (wf 2)) (wf 3) == 0
        && (wf 5 = 0 || (dlc = wf 4 && Nat.land (leNat payload) (wf 6) ≠ 0)) then some 1 else none

end Sys2Proof.Machine
end

