-- ==== Sys2Proof/Machine/CmdNet.lean ====
section
/-!
DEFINITION. CmdNet.lean: the commands of the field network (spec/12, spec/14): PDOs, USDO, NMT, CAN and the Last Ride.
-/

namespace Sys2Proof.Machine

open Sys2Proof

/-- RPDO_RECEIVE (R373): a frame of RPDO `n` + 1. -/
def execRpdoReceive (n : Fin 4) (bs : List Byte) (s : State) : Out := doWhen true (fun s => rpdoReceive s n bs) s

/-- SYNC_RECEIVE (R372). -/
def execSyncReceive (s : State) : Out := doWhen true syncReceive s

/-- TPDO_CHANGE_TEST (R372) of TPDO `n` + 1. -/
def execTpdoChangeTest (n : Fin 4) (s : State) : Out := doWhen true (pdoAsk (.change n)) s

/-- TPDO_EVENT_TIMER (R372). -/
def execTpdoEventTimer (n : Fin 4) (s : State) : Out := doWhen true (pdoAsk (.timer n)) s

/-- TPDO_INHIBIT_END (R372). -/
def execTpdoInhibitEnd (n : Fin 4) (s : State) : Out := doWhen true (pdoAsk (.inhibitEnd n)) s

/-- PDO_COB_ID_WRITE (R370): RPDO `n` + 1, or TPDO `n` + 1 with `tx`. -/
def execPdoCobIdWrite (p : Path) (tx : Bool) (n : Fin 4) (v : Nat) (s : State) : Out :=
  doWrite p (okey (0x1400 + 0x400 * b2n tx + n.val) 1) v [] s

/-- PDO_MAP_WRITE (R370): a mapping entry, or the transmission type where `sub` is 0. -/
def execPdoMapWrite (p : Path) (tx : Bool) (n : Fin 4) (sub v : Nat) (s : State) : Out :=
  doWrite p (if sub = 0 then okey (0x1400 + 0x400 * b2n tx + n.val) 2 else okey (0x1600 + 0x400 * b2n tx + n.val) sub) v [] s

/-- NMT_START (R413) to a node-ID, 0 for every node. -/
def execNmtStart (node : Nat) (s : State) : Out := doWhen true (fun s => nmtCommand s node 5 0x01) s

/-- NMT_STOP (R413). -/
def execNmtStop (node : Nat) (s : State) : Out := doWhen true (fun s => nmtCommand s node 4 0x02) s

/-- NMT_ENTER_PREOP (R413). -/
def execNmtEnterPreop (node : Nat) (s : State) : Out := doWhen true (fun s => nmtCommand s node 0x7F 0x80) s

/-- NMT_RESET_NODE (R414). -/
def execNmtResetNode (node : Nat) (s : State) : Out := doWhen true (fun s => nmtReset s node 0x81) s

/-- NMT_RESET_COMM (R414). -/
def execNmtResetComm (node : Nat) (s : State) : Out := doWhen true (fun s => nmtReset s node 0x82) s

/-- NMT_BOOTUP (R413). -/
def execNmtBootup (s : State) : Out := doWhen true nmtBootup s

/-- USDO_DOWNLOAD_INIT (R415): client, object, announced length and the first bytes. -/
def execUsdoDownloadInit (client idx sub total : Nat) (bs : List Byte) (s : State) : Out :=
  doWhen (usdoLive s) (fun s => usdoDownload (usdoExpire s) client idx sub total bs) s

/-- USDO_DOWNLOAD_SEGMENT (R415). -/
def execUsdoDownloadSegment (client : Nat) (bs : List Byte) (s : State) : Out :=
  doWhen (usdoLive s) (fun s => usdoPut (usdoExpire s) client bs) s

/-- USDO_UPLOAD_INIT (R415): `room` is how many bytes the first response can carry. -/
def execUsdoUploadInit (client idx sub room : Nat) (s : State) : Out :=
  doWhen (usdoLive s) (fun s => usdoUpload (usdoExpire s) client idx sub room) s

/-- USDO_UPLOAD_SEGMENT (R415). -/
def execUsdoUploadSegment (client room : Nat) (s : State) : Out :=
  doWhen (usdoLive s) (fun s => usdoGet (usdoExpire s) client room) s

/-- USDO_CLIENT_ABORT (R415). -/
def execUsdoClientAbort (client : Nat) (s : State) : Out := doWhen (usdoLive s) (fun s => usdoClose s client) s

/-- USDO_TIMEOUT (R415). -/
def execUsdoTimeout (client : Nat) (s : State) : Out := doWhen true (fun s => usdoTimeout s client) s

/-- CAN_BUS_OFF (R412), with TEC and REC as the controller then shows them. -/
def execCanBusOff (tec rec_ : Nat) (s : State) : Out := doWhen true (fun s => busOff s tec rec_) s

/-- CAN_RECOVERED (R412). -/
def execCanRecovered (s : State) : Out := doWhen true busRecovered s

/-- ERROR_PASSIVE (R412): TEC and REC as they now stand. -/
def execErrorPassive (tec rec_ : Nat) (s : State) : Out := doWhen true (fun s => busErrors s tec rec_) s

/-- HEARTBEAT_SEND (R418). -/
def execHeartbeatSend (s : State) : Out := doWhen true heartbeatSend s

/-- HEARTBEAT_RECEIVE (R418). -/
def execHeartbeatReceive (node : Nat) (s : State) : Out := doWhen true (fun s => heartbeatReceive s node) s

/-- HB_TIMEOUT (R418) of consumer entry `i` + 1. -/
def execHbTimeout (i : Fin 4) (s : State) : Out := doWhen true (fun s => hbTimeout s i) s

/-- EMCY_SEND (R417). -/
def execEmcySend (s : State) : Out := doWhen true emcySend s

/-- LR_CALL (R423): a write of 0x2A48:08. -/
def execLrCall (p : Path) (v : Nat) (s : State) : Out := doWrite p (okey 0x2A48 8) v [] s

/-- LR_CALL_RECEIVE (R424). -/
def execLrCallReceive (node round : Nat) (s : State) : Out := doWhen true (fun s => lrCallReceive s node round) s

/-- LR_ANSWER_RECEIVE (R423); `reason` 0 is READY, else BUSY. -/
def execLrAnswerReceive (node round reason : Nat) (s : State) : Out := doWhen true (fun s => lrAnswer s node round reason) s

/-- LR_ANSWER_WINDOW_END (R423). -/
def execLrAnswerWindowEnd (s : State) : Out := doWhen true lrWindowEnd s

/-- LR_VETO_RECEIVE (R425). -/
def execLrVetoReceive (node round : Nat) (s : State) : Out := doWhen true (fun s => lrVeto s node round) s

/-- LR_COMMIT_RECEIVE (R425). -/
def execLrCommitReceive (node round : Nat) (s : State) : Out := doWhen true (fun s => lrCommit s node round) s

/-- LR_ABORT_RECEIVE (R424). -/
def execLrAbortReceive (node round reason : Nat) (s : State) : Out := doWhen true (fun s => lrAbort s node round reason) s

/-- LR_WAIT_TIMEOUT (R424). -/
def execLrWaitTimeout (s : State) : Out := doWhen true lrWaitTimeout s

/-- LR_WAKE_RECEIVE (R425). -/
def execLrWakeReceive (node : Nat) (s : State) : Out := doWhen true (fun s => lrWake s node) s

/-- LR_CURTAIN_END (R426). -/
def execLrCurtainEnd (s : State) : Out := doWhen true lrCurtainEnd s

/-- CAN_WAKE (R427). -/
def execCanWake (f : WakeFrame) (s : State) : Out :=
  doWhen true (fun s => match wakeCauseOf s f with
    | some c => canWake s c
    | none => s) s

end Sys2Proof.Machine
end

