-- ==== Sys2Proof/Machine/CmdSafety.lean ====
section
/-!
DEFINITION. CmdSafety.lean: the commands of the Ringmaster, the Safety Net and the Trouble Log (spec/15), and of the Power
Manager (spec/16).
-/

namespace Sys2Proof.Machine

open Sys2Proof

/-- EVENT_CLEAR_FLAG (R446): CLEAR_FLAG = 1 for the event the path has selected. -/
def execEventClearFlag (p : Path) (s : State) : Out := doWrite p (okey 0x2B01 4) 1 [] s

/-- EVENT_CLEAR_ALL (R446). -/
def execEventClearAll (p : Path) (s : State) : Out := doWrite p (okey 0x2B01 9) 1 [] s

/-- COVER_ASSERT (R447). -/
def execCoverAssert (s : State) : Out := doWhen true coverAssert s

/-- COVER_DEASSERT (R447). -/
def execCoverDeassert (s : State) : Out := doWhen true coverDeassert s

/-- COVER_RELEASE (R447). -/
def execCoverRelease (s : State) : Out := doWhen true coverRelease s

/-- HALT_ASSERT (R447): HALT# low; with `low` false it returns high, and the latch stays. -/
def execHaltAssert (low : Bool) (s : State) : Out := doWhen true (fun s => haltPin s low) s

/-- HEAD_OT_ASSERT (R447). -/
def execHeadOtAssert (h : Fin 2) (s : State) : Out := doWhen true (fun s => otAssert s h) s

/-- HEAD_OT_DEASSERT (R447). -/
def execHeadOtDeassert (h : Fin 2) (s : State) : Out := doWhen true (fun s => otDeassert s h) s

/-- VH_OV_ASSERT (R447) at `mV`. -/
def execVhOvAssert (h : Fin 2) (mV : Nat) (s : State) : Out := doWhen true (fun s => ovAssert s h mV) s

/-- VH_OV_DEASSERT (R447). -/
def execVhOvDeassert (h : Fin 2) (s : State) : Out := doWhen true (fun s => ovDeassert s h) s

/-- SN_RELEASE (R448): a write of 1. -/
def execSnRelease (p : Path) (s : State) : Out := doWrite p (okey 0x2C11 1) 1 [] s

/-- TL_CLEAR (R450). -/
def execTlClear (p : Path) (s : State) : Out := doWrite p (okey 0x2C00 1) 1 [] s

/-- RAIL_UV (R459): a rail by its code has been at `mV`, below its threshold, for 10 µs. -/
def execRailUv (rail mV : Nat) (s : State) : Out := doWhen true (fun s => railFail s rail mV) s

/-- RAIL_OV (R459): a rail reads `mV`. -/
def execRailOv (rail mV : Nat) (s : State) : Out := doWhen true (fun s => railOver s rail mV) s

/-- AVS_UPDATE (R463) with the counts of the eight ring oscillators, every millisecond. -/
def execAvsUpdate (counts : List Nat) (s : State) : Out := 
  doWhen (controlLive s && dueAfter s.pw.avsSt 200000 (now s)) (fun s => avsUpdate (modPw s (fun w => { w with avsSt := some (now s) })) counts) s

/-- POWER_FAIL (R474) with its cause; `present`: the input is still present. -/
def execPowerFail (cause : Nat) (present : Bool) (s : State) : Out := doWhen true (fun s => pfBegin s cause present) s

/-- INPUT_DIP (R474): a gap of so many µs has ended. -/
def execInputDip (us : Nat) (s : State) : Out := doWhen true (fun s => inputDip s us) s

/-- POWER_LOST (R477): SB3V3 fails. -/
def execPowerLost (s : State) : Out := doWhen true coldReset s

end Sys2Proof.Machine
end

