-- ==== Sys2Proof/Machine/Dma.lean ====
section
/-!
DEFINITION. Dma.lean: result words on their way into the application's ring (R329).
-/

namespace Sys2Proof.Machine

open Sys2Proof

/-- Where the data window begins (R498). -/
def dataWindow : Nat := 0x80000000

/-- The oldest word of the queue goes into the ring; one word of it is kept free, so that DMA_WR = DMA_RD reads as empty
(DESIGN CHOICE, assumption log 60). None where the queue is empty or the ring full. -/
def dmaWord (s : State) : Option State :=
  let size := objN s 0x2930 8
  let wr := s.se.dmaWr
  let next := if size = 0 then 0 else (wr + 8) % size
  match s.se.queue with
  | [] => none
  | w :: r =>
    if size = 0 || decide (next = objN s 0x2930 10) then none
    else
      let s1 := modSe s (fun e => { e with queue := r, dmaWr := next })
      some (modApp s1 (fun a => { a with mem := memWrite a.mem (dataWindow + objN s 0x2930 7 + wr) (leBytes 8 w) }))

/-- Words move as long as one is there and the ring has room; `n` bounds them. -/
def dmaRun : Nat → State → State
  | 0, s => s
  | n + 1, s => match dmaWord s with
    | none => s
    | some t => dmaRun n t

/-- DMA_MODE 1: words move into the ring; EV406 at the first stall of a run. DMA_MODE 2: they leave as SE_WORDS records. -/
def dmaMove (s : State) : State :=
  let m := objN s 0x2930 6
  if m = 1 then
    let s1 := wmRearm (dmaRun s.se.queue.length s)
    let stall := !s1.se.queue.isEmpty
    let s2 := modSe s1 (fun e => { e with dmaStall := stall })
    if stall && !(s.se.dmaStall && decide (s1.se.dmaWr = s.se.dmaWr)) then raise s2 406 s1.se.dmaWr (objN s 0x2930 10) else s2
  else if m = 2 then seRecord s
  else s

end Sys2Proof.Machine
end

