-- ==== Sys2Proof/Machine/CmdSense.lean ====
section
/-!
DEFINITION. CmdSense.lean: the commands of the Sense Engine (spec/10).
-/

namespace Sys2Proof.Machine

open Sys2Proof

/-- SE_ROTATION_DUE (R297). -/
def execSeRotationDue (s : State) : Out := doLive true rotationDue s

/-- ROLE_HANDOVER (R297). -/
def execRoleHandover (s : State) : Out := doLive true roleHandover s

/-- SLICE_CAL_DONE (R298), with the sums of the two calibration points. -/
def execSliceCalDone (i : Fin 4) (sumLo sumHi : Nat) (s : State) : Out := doLive true (fun s => calDone s i sumLo sumHi) s

/-- SLICE_CLEAR (R300). -/
def execSliceClear (p : Path) (mask : Nat) (s : State) : Out := doWrite p (okey 0x2900 6) mask [] s

/-- REF_EN is written (R302). -/
def execRefEnWrite (p : Path) (v : Bool) (s : State) : Out := doWrite p (okey 0x2900 1) (b2n v) [] s

/-- REF_SETTLED (R303). -/
def execRefSettled (s : State) : Out := doLive true refSettled s

/-- TRIG_SW = 1 (R305). -/
def execTrigSw (p : Path) (s : State) : Out := doWrite p (okey 0x2900 7) 1 [] s

/-- TRIG_PIN_EDGE (R305): an edge of pin TRIGn. -/
def execTrigPinEdge (n : Fin 4) (rising : Bool) (s : State) : Out := doLive true (fun s => pinEdge s n rising) s

/-- SQ_START (R308): RUN becomes 1, as the cycle ends (R306). -/
def execSqStart (p : Fin 2) (s : State) : Out :=
  doLive (objN s (0x2910 + p.val) 1 == 0) (fun s => sqAsk s p true) s

/-- SQ_STOP (R310): RUN becomes 0, as the cycle ends (R306). -/
def execSqStop (p : Fin 2) (s : State) : Out :=
  doLive (objN s (0x2910 + p.val) 1 == 1) (fun s => sqAsk s p false) s

/-- SQ_DELAY_END (R308). -/
def execSqDelayEnd (p : Fin 2) (s : State) : Out := doLive true (fun s => delayEnd s p) s

/-- CONVERSION_DONE (R295). -/
def execConversionDone (c : Conversion) (s : State) : Out :=
  match c with
  | .seq p raw => doLive true (fun s => seqDone s p raw) s
  | .urgent p raw => doLive true (fun s => urgDone s p raw) s
  | .opt => doLive (sysReads s) optDone s

/-- URGENT_START (R312) on the slice of P0 or P1. -/
def execUrgentStart (p : Fin 2) (s : State) : Out := doLive true (fun s => urgStart s p) s

/-- CAP_CMD = 1 (R318). -/
def execCapArm (p : Path) (s : State) : Out := doWrite p (okey 0x2940 4) 1 [] s

/-- CAP_CMD = 2 (R320), with the raw codes taken so far. -/
def execCapAbort (p : Path) (raws : List Nat) (s : State) : Out := doWrite p (okey 0x2940 4) 2 raws s

/-- CAPTURE_START (R318). -/
def execCaptureStart (s : State) : Out := doLive true capStart s

/-- CAPTURE_DONE (R318), with the raw codes. -/
def execCaptureDone (raws : List Nat) (s : State) : Out := doLive true (fun s => capDone s raws) s

/-- FILTER_PACE (R324). -/
def execFilterPace (k : Fin 16) (s : State) : Out := doLive true (fun s => filtPoint s k) s

/-- QUEUE_POP (R329): a read of POP. -/
def execQueuePop (p : Path) (s : State) : Out := done s (readTx s p (okey 0x2930 2)).1

/-- QUEUE_FLUSH = 1 (R328). -/
def execQueueFlush (p : Path) (s : State) : Out := doWrite p (okey 0x2930 11) 1 [] s

/-- DMA_MOVE (R329). -/
def execDmaMove (s : State) : Out := doLive true dmaMove s

end Sys2Proof.Machine
end

