-- ==== Sys2Proof/Machine/CmdSolenoid.lean ====
section
/-!
DEFINITION. CmdSolenoid.lean: the commands of the solenoid and actuator drive (spec/09).
-/

namespace Sys2Proof.Machine

open Sys2Proof

/-- SOL_ON (R272): SOL_CMD with code 1 and a mask of channels. -/
def execSolOn (p : Path) (mask : Nat) (s : State) : Out := doWrite p (okey 0x2838 1) (0x100 + mask : Nat) [] s

/-- SOL_OFF (R274): SOL_CMD with code 2. -/
def execSolOff (p : Path) (mask : Nat) (s : State) : Out := doWrite p (okey 0x2838 1) (0x200 + mask : Nat) [] s

/-- SOL_PULSE (R276): SOL_CMD with code 3. -/
def execSolPulse (p : Path) (mask : Nat) (s : State) : Out := doWrite p (okey 0x2838 1) (0x300 + mask : Nat) [] s

/-- PEAK_START (R275): bank `b` is served with BOOST read as `v` mV. -/
def execPeakStart (b : Fin 2) (v : Nat) (s : State) : Out := doLive true (fun s => peakStartOp s b v) s

/-- PEAK_CURRENT_REACHED (R272). -/
def execPeakCurrentReached (c : Fin 8) (s : State) : Out := doLive true (fun s => peakReached s c) s

/-- PEAK_DWELL_END (R272). -/
def execPeakDwellEnd (c : Fin 8) (s : State) : Out := doLive true (fun s => peakDwell s c) s

/-- TTP_MAX_EXPIRE (R273), with the current in mA. -/
def execTtpMaxExpire (c : Fin 8) (i : Nat) (s : State) : Out := doLive true (fun s => ttpMax s c i) s

/-- HOLD_MAX_EXPIRE (R274). -/
def execHoldMaxExpire (c : Fin 8) (s : State) : Out := doLive true (fun s => holdMax s c) s

/-- PULSE_END (R276). -/
def execPulseEnd (c : Fin 8) (s : State) : Out := doLive true (fun s => pulseEnd s c) s

/-- MIN_ON_END (R271). -/
def execMinOnEnd (c : Fin 8) (s : State) : Out := doLive true (fun s => minOnEnd s c) s

/-- DECAY_END (R274), with the current in mA, and BOOST before and after the decay in mV (R279). -/
def execDecayEnd (c : Fin 8) (i va vb : Nat) (s : State) : Out := doLive true (fun s => decayEnd s c i va vb) s

/-- PEAK_QUEUE_TIMEOUT (R275). -/
def execPeakQueueTimeout (c : Fin 8) (s : State) : Out := doLive true (fun s => peakTimeout s c) s

/-- PROP_UPDATE (R277) every 1000 ticks, with the coil currents in mA. -/
def execPropUpdate (is : List Nat) (s : State) : Out :=
  doLive (dueAfter s.boost.propSt 1000 (now s)) (fun s => propUpdate { s with boost := { s.boost with propSt := some (now s) } } is) s

/-- BOOST_CLAMP (R280), with BOOST in mV. -/
def execBoostClamp (v : Nat) (s : State) : Out := doLive true (fun s => boostClamp s v) s

/-- BOOST_LOW (R280), with BOOST in mV. -/
def execBoostLow (v : Nat) (s : State) : Out := doLive true (fun s => boostLowOp s v) s

/-- SOL_MODEL_UPDATE (R282) every millisecond, with the mean squares of the coil currents in mA². -/
def execSolModelUpdate (i2s : List Nat) (s : State) : Out :=
  doLive (dueAfter s.boost.modelSt 200000 (now s))
    (fun s => solModel { s with boost := { s.boost with modelSt := some (now s) } } i2s (atN 0 s.se.temps 3)) s

/-- RES_WINDOW_START (R283). -/
def execResWindowStart (c : Fin 8) (s : State) : Out := doLive true (fun s => resStart s c) s

/-- RES_WINDOW_END (R283), with the mean voltage in mV and current in mA. -/
def execResWindowEnd (c : Fin 8) (v i : Nat) (s : State) : Out := doLive true (fun s => resEnd s c v i) s

/-- SOL_OC_TRIP (R286). -/
def execSolOcTrip (c : Fin 8) (s : State) : Out := doLive true (fun s => ocTrip s c) s

/-- SOL_OC_RETRY_DUE (R286). -/
def execSolOcRetryDue (c : Fin 8) (s : State) : Out := doLive true (fun s => ocRetry s c) s

/-- SOL_SHORT_GND (R287). -/
def execSolShortGnd (c : Fin 8) (s : State) : Out := doLive true (fun s => shortGndOp s c) s

/-- SOL_HS_SHORT (R287). -/
def execSolHsShort (b : Fin 2) (s : State) : Out := doLive true (fun s => hsShortOp s b) s

/-- SOL_COUPLED (R288): channel `y` has fallen low after `x` turned on. -/
def execSolCoupled (x y : Fin 8) (s : State) : Out := doLive true (fun s => coupledOp s x y) s

/-- SOL_CLEAR (R289). -/
def execSolClear (p : Path) (mask : Nat) (s : State) : Out := doWrite p (okey 0x2838 2) mask [] s

/-- BANK_CLEAR (R289); `low` is the mask of banks with an output still low. -/
def execBankClear (p : Path) (mask low : Nat) (s : State) : Out := doWrite p (okey 0x2838 3) mask [low] s

/-- R_COLD_NOM is written (R284). -/
def execRColdNomWrite (p : Path) (c : Fin 8) (v : Nat) (s : State) : Out := doWrite p (okey (0x2810 + c.val) 1) v [] s

end Sys2Proof.Machine
end

