-- ==== Sys2Proof/Machine/Tick.lean ====
section
/-!
DEFINITION. Tick.lean: one tick of ST (R6, R84), which passes when no command waits (DESIGN CHOICE, assumption log 4): the lanes
move on, the channels count, what is due in the new cycle is delivered. What the table gives a command of its own (a match, a
wrap, a line event, a waymark) is left to it.
-/

namespace Sys2Proof.Machine

open Sys2Proof

/-- A FABRIC code delivered: 0–7 trigger lines of the SE, 8–15 soft captures (R444). -/
def fabricDeliver (s : State) (code : Nat) : State :=
  if code < 8 then seTrigger s (0x40 + code) else capture s (Fin.ofNat 8 (code - 8)) true

/-- The FABRIC codes due in this cycle; those of earlier cycles are gone. -/
def fabricDue (s : State) : State :=
  let due := s.rm.fabric.filter (fun x => x.1 == now s)
  applyAll (fun t x => fabricDeliver t x.2) (modRm s (fun m => { m with fabric := m.fabric.filter (fun x => decide (now s ≤ x.1)) })) due

/-- A trigger of the channel's delay line arrives in this cycle: exactly TRIG_DELAY after its condition (R98, R107). -/
def trigDue (s : State) (c : Fin 32) : Bool := s.tu.tcs[c].delay.contains (now s)

/-- A due trigger leaves its delay line and reaches the Sense Engine (R98). -/
def trigDeliver (s : State) (c : Fin 32) : State :=
  seTrigger (modTc s c (fun x => { x with delay := x.delay.erase (now s) })) (0x10 + c.val)

/-- The triggers of a channel that are due and were not delivered by a command. -/
def trigsDue (s : State) (c : Fin 32) : State :=
  applyAll (fun t _ => trigDeliver t c) s (s.tu.tcs[c].delay.filter (fun x => x == now s))

/-- What a new cycle brings to the control plane. -/
def controlTick (s : State) : State :=
  let s1 := applyAll capTick (applyAll tcTick (slipTick (applyAll advanceLane s (allFin 4))) (allFin 32)) (allFin 8)
  applyAll chopTick (applyAll headTick (readbackLate (eventCutsDue (fabricDue (pinDeliver s1)))) (allFin 2)) (allFin 4)

/-- What a tick does beyond the follow-up of every command: ST advances, and what the new cycle brings is done. -/
def tickWork (s : State) : State :=
  let s0 := gioNote s
  let s1 := { s0 with tu := { s0.tu with st := s0.tu.st + 1 } }
  pfTick (if controlLive s1 then controlTick s1 else s1)

/-- Has the cycle something left for its end? -/
def cycleOpen (s : State) : Bool :=
  !s.turns.isEmpty || !s.pdo.asks.isEmpty || acceptDue s || (controlLive s && ((allFin 32).any (trigDue s) || (allFin 2).any (headBusy s) || (allFin 2).any (portBusy s)
    || solBusy s || seBusy s))

/-- The cycle ends with what still waits for its turn (R69), the triggers that are due in it (R98), the Sense Engine's part (R305–R328), the
commands of the solenoids (R269, R275), the raster records that fit (R388), the heads' line events (R127), and the retractions, DOC_END and confirmations of the ports (R253,
R256), and the TPDOs (R371). -/
def cycleWork (s : State) : State :=
  if cycleOpen s then
    let s1 := acceptAll (solTurns (seEnd (applyAll trigsDue (endTurns s) (allFin 32))))
    finish s (pdoEnd (applyAll portEnd (applyAll headEnd s1 (allFin 2)) (allFin 2)))
  else s

/-- The cycle ends; last of all its raises are routed (R443). -/
def endCycle (s : State) : State :=
  let s1 := cycleWork s
  if ringDue s1 then finish s1 (ringEnd s1) else s1

/-- One tick. -/
def tick (s : State) : State :=
  let s1 := endCycle s
  if clockRuns s1 then finish s1 (tickWork (mirrorNote s1)) else s1

end Sys2Proof.Machine
end

