-- ==== Sys2Proof/Machine/CmdTu.lean ====
section
/-!
DEFINITION. CmdTu.lean: the commands of the Timer Unit (spec/03).
-/

namespace Sys2Proof.Machine

open Sys2Proof

/-- TC_WRAP (R91), after a RESTART of the same cycle (R101). -/
def execTcWrap (c : Fin 32) (s : State) : Out := doLive true (fun s => inTurn s (.tcWrap c)) s

/-- TC_MATCH_A (R92), after a RESTART of the same cycle (R101). -/
def execTcMatchA (c : Fin 32) (s : State) : Out := doLive true (fun s => inTurn s (.tcMatchA c)) s

/-- TC_MATCH_B (R92), after a RESTART of the same cycle (R101). -/
def execTcMatchB (c : Fin 32) (s : State) : Out := doLive true (fun s => inTurn s (.tcMatchB c)) s

/-- TC_ONESHOT_PARK (R94), after a RESTART of the same cycle (R101). -/
def execTcOneshotPark (c : Fin 32) (s : State) : Out := doLive true (fun s => inTurn s (.tcOneshotPark c)) s

/-- TRIG_DELIVER (R98). -/
def execTrigDeliver (c : Fin 32) (s : State) : Out := doLive (trigDue s c) (fun s => trigDeliver s c) s

/-- The pin's driver lets it go: the pin shows the level that opposed it, OUT_GIO reads 0xFF; EV139 (R97). -/
def gioContention (s : State) (pin : Fin 16) : State :=
  match gioDriver s pin.val with
  | none => s
  | some c =>
    let lvl := gioDriven s c
    let s1 := setObj s (0x2210 + c.val) 11 0xFF
    raise { s1 with tu := { s1.tu with gioIn := (if lvl then clrBit s.tu.gioIn pin.val else setBit s.tu.gioIn pin.val) } }
      139 pin.val (b2n lvl + 256 * c.val)

/-- Has the driven level of a pin stood long enough: 4 unchecked cycles after its last change and 16 that differ (R97)? -/
def gioChecked (s : State) (pin : Fin 16) : Bool :=
  match gioDriver s pin.val with
  | none => false
  | some c => decide (gioChange s pin.val (gioDriven s c) + 20 ≤ now s)

/-- GIO_CONTENTION (R97): the read-back of a driven pin has differed for 16 cycles, the last of them this one. -/
def execGioContention (pin : Fin 16) (s : State) : Out := doLive (gioChecked s pin) (fun s => gioContention s pin) s

/-- CAPTURE_ACCEPT (R105): the filter of a capture accepts a new level at a sample cycle. The pin shows it. -/
def execCaptureAccept (m : Fin 8) (lvl : Bool) (s : State) : Out :=
  doLive (capCfg s m 1 == 1 && capMay s m && (s.tu.caps[m].level != lvl)) (fun s =>
    let pin := capCfg s m 2
    capAccept { s with tu := { s.tu with gioIn := (if lvl then setBit s.tu.gioIn pin else clrBit s.tu.gioIn pin) } } m lvl) s

/-- DEBUG_HALT (R102): the debug port is open and an application runs. -/
def execDebugHalt (s : State) : Out :=
  doLive (s.boot.debugOn && s.app.state == 2 && !s.tu.halted)
    (fun s => modApp { s with tu := { s.tu with halted := true } } (fun a => { a with haltSt := now s })) s

/-- DEBUG_RESUME (R102). The watchdog did not count meanwhile (R500). -/
def execDebugResume (s : State) : Out :=
  doLive (s.boot.debugOn && s.tu.halted)
    (fun s => modApp { s with tu := { s.tu with halted := false } }
      (fun a => { a with haltTicks := a.haltTicks + (now s - a.haltSt) })) s

/-- FLAGS_W1C_WRITE (R10): ones written to the FLAGS of a compare channel or a capture. -/
def execFlagsW1cWrite (p : Path) (u : FlagUnit) (v : Nat) (s : State) : Out :=
  match u with
  | .tc c => doWrite p (okey (0x2210 + c.val) 12) v [] s
  | .cap m => doWrite p (okey (0x2240 + m.val) 8) v [] s

end Sys2Proof.Machine
end

