-- ==== Sys2Proof/Machine/CmdUart.lean ====
section
/-!
DEFINITION. CmdUart.lean: the commands of the serial ports (spec/14).
-/

namespace Sys2Proof.Machine

open Sys2Proof

/-- UART_RX_CHAR (R432): a frame ends on RXD; `samples` counts the high samples of each bit, the start bit first. -/
def execUartRxChar (n : Fin 2) (samples : List Nat) (s : State) : Out := doWhen true (fun s => uartReceive s n samples) s

/-- UART_TX_START (R433); `ctsLow`: CTS# reads low. -/
def execUartTxStart (n : Fin 2) (ctsLow : Bool) (s : State) : Out := doWhen true (fun s => uartTxStart s n ctsLow) s

/-- UART_TX_DONE (R433). -/
def execUartTxDone (n : Fin 2) (s : State) : Out := doWhen true (fun s => uartTxDone s n) s

/-- UART_START_EDGE_WAKE (R435). -/
def execUartStartEdgeWake (n : Fin 2) (s : State) : Out := doWhen true (fun s => uartStartEdge s n) s

/-- UART_BREAK_END (R431). -/
def execUartBreakEnd (n : Fin 2) (s : State) : Out := doWhen true (fun s => modUart s n (fun u => { u with breakWait := false })) s

end Sys2Proof.Machine
end

