-- ==== Sys2Proof/Machine/Usb.lean ====
section
/-!
DEFINITION. Usb.lean: the USB device of path H: its states, the vendor requests, suspend and remote wake, the endpoints
(spec/13, R381–R393, R403). Times are the least the timing table gives (DESIGN CHOICE, assumption log 30).
-/

namespace Sys2Proof.Machine

open Sys2Proof

/-- Outside RECOVERY and configured: the interfaces of R382 answer. -/
def usbLive (s : State) : Bool := s.usb.state == 4 && s.md.mode != .recovery

/-- VBUS becomes valid: the pull-up where the mode allows it; a wake source where VBUS_WAKE_EN is 1 (R381, R472, R422). -/
def vbusValid (s : State) : State :=
  if s.usb.vbus then s
  else
    let s1 := modUsb s (fun u => { u with vbus := true })
    let s2 := if objN s 0x2D08 2 = 0 then s1
      else if s.md.mode = .doze then modMd s1 (fun d => { d with wakeSrc := setBit d.wakeSrc 6 })
      else modLr s1 (fun l => { l with localWake := true })
    usbAttach s2

/-- VBUS becomes invalid: the pull-up is removed and H is lost (R381, R403). -/
def vbusInvalid (s : State) : State := usbDetach (modUsb s (fun u => { u with vbus := false })) 2

/-- A USB reset: H is lost, remote wake is disabled, the speed follows the chirp; a suspend ends with the cause HOST (R381, R392,
R393, R403). In RECOVERY the DFU download sees it too. -/
def usbReset (s : State) (chirp : Bool) : State :=
  if s.usb.state = 0 then s
  else
    let was := s.usb.state
    let s1 := usbTo (loseH s 1) 2
    let s2 := modUsb s1 (fun u => { u with speed := 1 + b2n chirp, remoteEn := false,
                                           wakeCause := (if was = 5 then 1 else u.wakeCause) })
    if s.md.mode = .recovery then dfuUsbReset s2 else s2

/-- The device address is assigned. -/
def usbAddress (s : State) : State := if s.usb.state = 2 then modUsb s (fun u => { u with state := 3 }) else s

/-- SET_CONFIGURATION: 1 configures, 0 loses H; another value is stalled (R382, R403). -/
def usbConfigure (s : State) (v : Nat) : State :=
  if s.usb.state ≠ 3 && s.usb.state ≠ 4 then s
  else if v = 1 then raise (modUsb s (fun u => { u with state := 4, stalled := false })) 448 s.usb.speed 0
  else if v = 0 then (if s.usb.state = 4 then usbTo (loseH s 3) 3 else s)
  else modUsb s (fun u => { u with stalled := true })

/-- SET_FEATURE and CLEAR_FEATURE of DEVICE_REMOTE_WAKEUP (R392). -/
def usbRemoteEn (s : State) (on : Bool) : State :=
  if (s.usb.state = 3 || s.usb.state = 4) && s.md.mode ≠ .recovery then modUsb s (fun u => { u with remoteEn := on }) else s

/-! Vendor requests (R383–R385). -/

/-- A request is counted and its stall noted. -/
def usbRequest (s : State) (stalled : Bool) : State :=
  modUsb s (fun u => { u with reqCount := inc16 u.reqCount, stalled := stalled })

/-- An unknown or malformed request: stalled, NO_SUCH_OBJECT (R384). -/
def usbBad (s : State) : State := usbRequest (answer s .h 0x21) true

/-- READ_OBJECT with its wLength; one too short for the value is malformed (R383). -/
def usbRead (s : State) (idx sub wLength : Nat) : State :=
  let k := okey idx sub
  if judgeRead s .h k = 0 && decide (wLength < (readData s .h k).length) then usbBad s
  else
    let r := readTx s .h k
    usbRequest r.1 (vRefused r.2.1)

/-- WRITE_OBJECT; a write that is answered later holds its status stage (R384). -/
def usbWrite (s : State) (idx sub : Nat) (bs : List Byte) : State :=
  let r := writeTx s .h (okey idx sub) bs []
  usbRequest r.1 (vRefused r.2)

/-- GET_RESULT: the status of the last request and the request count (R383). -/
def usbResult (s : State) : State :=
  modUsb (keepResult s .h (leBytes 1 s.ctl.status[Path.h.idx] ++ leBytes 1 0 ++ leBytes 2 s.usb.reqCount))
    (fun u => { u with stalled := false })

/-- DOMAIN_OPEN. -/
def usbOpen (s : State) (idx sub : Nat) (wr : Bool) (total : Nat) : State :=
  let r := domOpen s .h idx sub wr total
  usbRequest r.1 (vRefused r.2)

/-- DOMAIN_PUT of 1–4096 bytes. -/
def usbPut (s : State) (bs : List Byte) : State :=
  if bs.isEmpty || decide (4096 < bs.length) then usbBad s
  else
    let r := domPut s .h bs
    usbRequest r.1 (vRefused r.2)

/-- DOMAIN_GET with wLength, at most 4096. -/
def usbGet (s : State) (n : Nat) : State :=
  if 4096 < n then usbBad s
  else
    let r := domGet s .h n
    usbRequest r.1 (vRefused r.2.1)

/-- DOMAIN_ABORT. -/
def usbAbort (s : State) : State := usbRequest (domAbort s .h).1 false

/-! Suspend and remote wake (R392, R393). -/

/-- 3 ms of bus idle: the link suspends (R392). -/
def usbSuspend (s : State) : State :=
  if s.usb.state = 0 || s.usb.state = 5 then s
  else
    raise (modUsb s (fun u => { u with state := 5, prev := u.state, idleSt := now s, rw := .idle, attempts := 0,
                                       hostK := false, cause := 0 }))
      450 0 (b2n s.usb.remoteEn)

/-- A remote wake is due (R392). -/
def remoteWakeDue (s : State) : Bool :=
  s.usb.state == 5 && s.usb.remoteEn && s.usb.q.recs.any (fun r => decide (objN s 0x2A00 1 ≤ r.prio))

/-- K is driven once the bus has been idle in suspend for tUS4, and no K of the host has been seen (R393). -/
def rwDrive (s : State) : State :=
  if remoteWakeDue s && s.usb.rw = .idle && !s.usb.hostK && decide (s.usb.idleSt + 1000000 ≤ now s) then
    modUsb s (fun u => { u with rw := .driving (now s), attempts := u.attempts + 1 })
  else s

/-- After tUS5 the K is released. -/
def rwRelease (s : State) : State :=
  match s.usb.rw with
  | .driving t => if s.usb.state = 5 && decide (t + 380000 ≤ now s) then modUsb s (fun u => { u with rw := .released (now s) }) else s
  | _ => s

/-- tUS6 after the release the bus is sampled: K is COLLIDED, J waits for the host's K as DEVICE. -/
def rwSample (s : State) (k : Bool) : State :=
  match s.usb.rw with
  | .released t =>
    if s.usb.state ≠ 5 || decide (now s < t + 1800) then s
    else if k then modUsb s (fun u => { u with rw := .idle, hostK := true, cause := 3 })
    else modUsb s (fun u => { u with rw := .awaitK t, cause := 2 })
  | _ => s

/-- No K by tUS8 after the release: the wake starts again, or its retries are spent; EV452. -/
def rwRetry (s : State) : State :=
  match s.usb.rw with
  | .awaitK t =>
    if s.usb.state ≠ 5 || decide (now s < t + 2000000) then s
    else if s.usb.attempts ≤ objN s 0x2A00 3 then modUsb s (fun u => { u with rw := .idle, idleSt := t, cause := 0 })
    else raise (modUsb s (fun u => { u with rw := .spent, cause := 0 })) 452 s.usb.attempts 0
  | _ => s

/-- The host drives resume K (R393): HOST where no wake is under way or one still waits, DEVICE where it answers one. While the
engine drives or has just released its own K, the sample of tUS6 decides. -/
def hostResume (s : State) : State :=
  if s.usb.state ≠ 5 || s.usb.hostK then s
  else match s.usb.rw with
  | .idle => modUsb s (fun u => { u with hostK := true, cause := 1 })
  | .spent => modUsb s (fun u => { u with hostK := true, cause := 1 })
  | .awaitK _ => modUsb s (fun u => { u with hostK := true, rw := .idle })
  | _ => s

/-- The host ends the resume (R393). -/
def resumeEnd (s : State) : State :=
  let u := s.usb
  if u.state ≠ 5 || !u.hostK then s
  else
    raise (modUsb s (fun u => { u with state := u.prev, prev := 0, wakeCause := u.cause, resumes := inc32 u.resumes, rw := .idle,
                                       attempts := 0, hostK := false, cause := 0 }))
      451 u.cause u.attempts

/-! Endpoints. -/

/-- An interrupt IN token takes up to EVT_BATCH records, oldest first (R391). -/
def eventIn (s : State) : State :=
  if !usbLive s then s
  else
    let n := objN s 0x2A00 2
    modUsb s (fun u => { u with packet := u.q.recs.take n, q := { u.q with recs := u.q.recs.drop n } })

/-- A bulk OUT packet: NAKed while stream staging cannot take it, discarded while EP 0x01 is halted (R388, R389). -/
def bulkOut (s : State) (bs : List Byte) : State :=
  if !usbLive s then s
  else if !s.usb.inp.halted && decide (inSpace s < bs.length) then modUsb s (fun u => { u with nakked := true })
  else streamReceive (modUsb s (fun u => { u with nakked := false })) .h bs

/-- The records ready on H in the order they are sent; the one begun comes first (R387). -/
def bulkRecs (s : State) : List CarRec :=
  s.img.recs.filter (fun r => decide (r.on = some .h)) ++ (recsFor s .h).filter (fun r => decide (r.on ≠ some .h))

/-- The largest bulk packet: 512 bytes, 64 at full speed (R382). -/
def bulkMax (s : State) : Nat := if s.usb.speed = 1 then 64 else 512

/-- The bulk IN packet the engine sends next: the next bytes of the ready records (R390). -/
def bulkPacket (s : State) : List Byte := (((bulkRecs s).flatMap (·.bytes)).drop s.usb.inOff).take (bulkMax s)

/-- The packet that is sent next holds the last byte of a record. -/
def bulkLast (s : State) : Bool :=
  match bulkRecs s with
  | [] => false
  | r :: _ => decide (r.bytes.length ≤ s.usb.inOff + (bulkPacket s).length)

/-- `k` bytes of the ready records `rs` have been acknowledged: each whole record is taken, and of the next one the sending has begun (R390). -/
def bulkTake : State → Nat → List CarRec → State
  | s, _, [] => modUsb s (fun u => { u with inOff := 0 })
  | s, k, r :: rs =>
    if r.bytes.length ≤ k then bulkTake (takeRec s r) (k - r.bytes.length) rs
    else modUsb (if k = 0 then s else beginRec s r .h) (fun u => { u with inOff := k })

/-- A bulk IN packet is acknowledged: it carried the next bytes of the ready records, each of which is taken with its last byte. A full packet
after which no record is ready is followed by one of zero length. With nothing to send there is no packet (R390). -/
def bulkInAck (s : State) : State :=
  let pk := bulkPacket s
  if !usbLive s || (pk.isEmpty && !s.usb.inFull) then s
  else
    let s1 := bulkTake s (s.usb.inOff + pk.length) (bulkRecs s)
    modUsb s1 (fun u => { u with bulk := pk, inFull := decide (pk.length = bulkMax s) })

/-- CLEAR_FEATURE(ENDPOINT_HALT) of EP 0x01: the next byte starts a record (R389). -/
def clearHalt (s : State) : State :=
  if usbLive s then modStream s .h (fun i => { i with buf := [], halted := false, named := none }) else s

end Sys2Proof.Machine
end

