-- ==== Sys2Proof/Machine/CmdUsb.lean ====
section
/-!
DEFINITION. CmdUsb.lean: the commands of USB (spec/13) and of DFU in RECOVERY (R394, R488).
-/

namespace Sys2Proof.Machine

open Sys2Proof

/-- VBUS_VALID (R381). -/
def execVbusValid (s : State) : Out := doWhen s.pw.on vbusValid s

/-- VBUS_INVALID (R403). -/
def execVbusInvalid (s : State) : Out := doWhen true vbusInvalid s

/-- USB_RESET (R403); `chirp`: the high-speed chirp succeeds. -/
def execUsbReset (chirp : Bool) (s : State) : Out := doWhen true (fun s => usbReset s chirp) s

/-- USB_SET_ADDRESS (R405). -/
def execUsbSetAddress (s : State) : Out := doWhen true usbAddress s

/-- USB_SET_CONFIGURATION (R382). -/
def execUsbSetConfiguration (v : Nat) (s : State) : Out := doWhen true (fun s => usbConfigure s v) s

/-- USB_SET_REMOTE_WAKE (R392). -/
def execUsbSetRemoteWake (s : State) : Out := doWhen true (fun s => usbRemoteEn s true) s

/-- USB_CLEAR_REMOTE_WAKE (R392). -/
def execUsbClearRemoteWake (s : State) : Out := doWhen true (fun s => usbRemoteEn s false) s

/-- USB_READ_OBJECT (R384). -/
def execUsbReadObject (idx sub wLength : Nat) (s : State) : Out := doWhen (usbLive s) (fun s => usbRead s idx sub wLength) s

/-- USB_WRITE_OBJECT (R384). -/
def execUsbWriteObject (idx sub : Nat) (bs : List Byte) (s : State) : Out := doWhen (usbLive s) (fun s => usbWrite s idx sub bs) s

/-- USB_GET_RESULT (R383). -/
def execUsbGetResult (s : State) : Out := doWhen (usbLive s) usbResult s

/-- USB_DOMAIN_OPEN (R385). -/
def execUsbDomainOpen (idx sub : Nat) (wr : Bool) (total : Nat) (s : State) : Out :=
  doWhen (usbLive s) (fun s => usbOpen s idx sub wr total) s

/-- USB_DOMAIN_PUT (R385). -/
def execUsbDomainPut (bs : List Byte) (s : State) : Out := doWhen (usbLive s) (fun s => usbPut s bs) s

/-- USB_DOMAIN_GET (R385). -/
def execUsbDomainGet (wLength : Nat) (s : State) : Out := doWhen (usbLive s) (fun s => usbGet s wLength) s

/-- USB_DOMAIN_ABORT (R385). -/
def execUsbDomainAbort (s : State) : Out := doWhen (usbLive s) usbAbort s

/-- USB_BAD_REQUEST (R384). -/
def execUsbBadRequest (s : State) : Out := doWhen (usbLive s) usbBad s

/-- DOMAIN_TIMEOUT (R385) of the transfer of a path. -/
def execDomainTimeout (p : Path) (s : State) : Out := doWhen true (fun s => domTimeout s p) s

/-- USB_SUSPEND (R392). -/
def execUsbSuspend (s : State) : Out := doWhen true usbSuspend s

/-- REMOTE_WAKE_DRIVE_K (R393). -/
def execRemoteWakeDriveK (s : State) : Out := doWhen true rwDrive s

/-- REMOTE_WAKE_RELEASE (R393). -/
def execRemoteWakeRelease (s : State) : Out := doWhen true rwRelease s

/-- REMOTE_WAKE_SAMPLE (R393); `k`: the bus shows K. -/
def execRemoteWakeSample (k : Bool) (s : State) : Out := doWhen true (fun s => rwSample s k) s

/-- REMOTE_WAKE_RETRY (R393). -/
def execRemoteWakeRetry (s : State) : Out := doWhen true rwRetry s

/-- USB_HOST_RESUME (R393). -/
def execUsbHostResume (s : State) : Out := doWhen true hostResume s

/-- USB_RESUME_END (R393). -/
def execUsbResumeEnd (s : State) : Out := doWhen true resumeEnd s

/-- EVENT_IN_TOKEN (R391). -/
def execEventInToken (s : State) : Out := doWhen true eventIn s

/-- BULK_OUT_PACKET (R388). -/
def execBulkOutPacket (bs : List Byte) (s : State) : Out := doWhen true (fun s => bulkOut s bs) s

/-- RASTER_ACCEPT (R388) on H, or on C with `onC`. -/
def execRasterAccept (onC : Bool) (s : State) : Out := doWhen true (fun s => rasterAccept s (if onC then .c else .h)) s

/-- BULK_IN_ACK (R390); `last`: the packet held a record's last byte. -/
def execBulkInAck (last : Bool) (s : State) : Out := doWhen (last == bulkLast s) bulkInAck s

/-- USB_CLEAR_HALT (R389). -/
def execUsbClearHalt (s : State) : Out := doWhen true clearHalt s

/-- DFU_DNLOAD (R394). -/
def execDfuDnload (bs : List Byte) (s : State) : Out := doWhen true (fun s => dfuDnload s bs) s

/-- DFU_MANIFEST (R488); `norOk`: the NOR programs succeed. -/
def execDfuManifest (norOk : Bool) (s : State) : Out := doWhen true (fun s => dfuManifest s norOk) s

/-- DFU_GETSTATUS (R394). -/
def execDfuGetstatus (s : State) : Out := doWhen true dfuGetStatus s

/-- DFU_UPLOAD (R394). -/
def execDfuUpload (s : State) : Out := doWhen true dfuReject s

/-- DFU_DETACH (R394). -/
def execDfuDetach (s : State) : Out := doWhen true dfuReject s

end Sys2Proof.Machine
end

