-- ==== Sys2Proof/Machine/Dispatch.lean ====
section
/-!
DEFINITION. Dispatch.lean: one arm per command.
-/

namespace Sys2Proof.Machine

open Sys2Proof

/-- The meaning of each command: its effect on everything but the queue. -/
def exec (i : Instr) (s : State) : Host.Outcome State Fault Refusal :=
  match i with
  | .powerOn kind volts hz recLow ioLevel => Sys2Proof.Machine.execPowerOn kind volts hz recLow ioLevel s
  | .bootComplete bad ta => Sys2Proof.Machine.execBootComplete bad ta s
  | .bootWatchdog => Sys2Proof.Machine.execBootWatchdog s
  | .modeReqStandby p => Sys2Proof.Machine.execModeReqStandby p s
  | .modeReqRun p => Sys2Proof.Machine.execModeReqRun p s
  | .modeReqDoze p => Sys2Proof.Machine.execModeReqDoze p s
  | .modeReqService p => Sys2Proof.Machine.execModeReqService p s
  | .runReached ra rb va vb boost home bad => Sys2Proof.Machine.execRunReached ra rb va vb boost home bad s
  | .runEntryTimeout ra rb va vb boost => Sys2Proof.Machine.execRunEntryTimeout ra rb va vb boost s
  | .standbyReached va vb boost => Sys2Proof.Machine.execStandbyReached va vb boost s
  | .lockoutClear p => Sys2Proof.Machine.execLockoutClear p s
  | .serviceClaim p => Sys2Proof.Machine.execServiceClaim p s
  | .dozeHandover => Sys2Proof.Machine.execDozeHandover s
  | .dozeAbort pin => Sys2Proof.Machine.execDozeAbort pin s
  | .keeperTick => Sys2Proof.Machine.execKeeperTick s
  | .wakeRecognised pin => Sys2Proof.Machine.execWakeRecognised pin s
  | .wakeComplete stopped ta => Sys2Proof.Machine.execWakeComplete stopped ta s
  | .servoBoundary rails iv p => Sys2Proof.Machine.execServoBoundary rails iv p s
  | .encEdge c e => Sys2Proof.Machine.execEncEdge c e s
  | .edgeTimeout iv => Sys2Proof.Machine.execEdgeTimeout iv s
  | .laneDirCommit iv => Sys2Proof.Machine.execLaneDirCommit iv s
  | .lineEvent g va vb df0 df1 => Sys2Proof.Machine.execLineEvent g va vb df0 df1 s
  | .waymarkFire e => Sys2Proof.Machine.execWaymarkFire e s
  | .waymarkRearm e => Sys2Proof.Machine.execWaymarkRearm e s
  | .waymarkStFire e => Sys2Proof.Machine.execWaymarkStFire e s
  | .waymarkWrite p field v => Sys2Proof.Machine.execWaymarkWrite p field v s
  | .waymarkEnable p ctrl => Sys2Proof.Machine.execWaymarkEnable p ctrl s
  | .pairMinimumEnd start => Sys2Proof.Machine.execPairMinimumEnd start s
  | .waymarkDisableAll p => Sys2Proof.Machine.execWaymarkDisableAll p s
  | .waymarkArmAll p => Sys2Proof.Machine.execWaymarkArmAll p s
  | .waymarkImageWrite p bs => Sys2Proof.Machine.execWaymarkImageWrite p bs s
  | .encIndex c => Sys2Proof.Machine.execEncIndex c s
  | .rehomeReq p c => Sys2Proof.Machine.execRehomeReq p c s
  | .tcWrap c => Sys2Proof.Machine.execTcWrap c s
  | .tcMatchA c => Sys2Proof.Machine.execTcMatchA c s
  | .tcMatchB c => Sys2Proof.Machine.execTcMatchB c s
  | .tcOneshotPark c => Sys2Proof.Machine.execTcOneshotPark c s
  | .trigDeliver c => Sys2Proof.Machine.execTrigDeliver c s
  | .gioContention pin => Sys2Proof.Machine.execGioContention pin s
  | .captureAccept m lvl => Sys2Proof.Machine.execCaptureAccept m lvl s
  | .debugHalt => Sys2Proof.Machine.execDebugHalt s
  | .debugResume => Sys2Proof.Machine.execDebugResume s
  | .flagsW1cWrite p u v => Sys2Proof.Machine.execFlagsW1cWrite p u v s
  | .headIdCheck h r => Sys2Proof.Machine.execHeadIdCheck h r s
  | .lineCommit h => Sys2Proof.Machine.execLineCommit h s
  | .sliceTrainEnd h => Sys2Proof.Machine.execSliceTrainEnd h s
  | .rasterFlush p mask => Sys2Proof.Machine.execRasterFlush p mask s
  | .recomputeLatch h => Sys2Proof.Machine.execRecomputeLatch h s
  | .thermRead h code => Sys2Proof.Machine.execThermRead h code s
  | .modelUpdate h => Sys2Proof.Machine.execModelUpdate h s
  | .measStart p h raws => Sys2Proof.Machine.execMeasStart p h raws s
  | .measAbort p h => Sys2Proof.Machine.execMeasAbort p h s
  | .measDone h dvs => Sys2Proof.Machine.execMeasDone h dvs s
  | .mediaSample codes => Sys2Proof.Machine.execMediaSample codes s
  | .labelMissing => Sys2Proof.Machine.execLabelMissing s
  | .supplySample codes => Sys2Proof.Machine.execSupplySample codes s
  | .outReserveReached => Sys2Proof.Machine.execOutReserveReached s
  | .govRelease p g => Sys2Proof.Machine.execGovRelease p g s
  | .cutCmdFull p => Sys2Proof.Machine.execCutCmdFull p s
  | .cutCmdPartial p => Sys2Proof.Machine.execCutCmdPartial p s
  | .cutCmdHome p => Sys2Proof.Machine.execCutCmdHome p s
  | .cutDriveStart => Sys2Proof.Machine.execCutDriveStart s
  | .cutEndReached => Sys2Proof.Machine.execCutEndReached s
  | .cutEndTimeout => Sys2Proof.Machine.execCutEndTimeout s
  | .cutPartialEnd => Sys2Proof.Machine.execCutPartialEnd s
  | .cutHomeReached => Sys2Proof.Machine.execCutHomeReached s
  | .cutHomeTimeout => Sys2Proof.Machine.execCutHomeTimeout s
  | .cutDone => Sys2Proof.Machine.execCutDone s
  | .cutShort => Sys2Proof.Machine.execCutShort s
  | .cutClear p oc => Sys2Proof.Machine.execCutClear p oc s
  | .axGo n => Sys2Proof.Machine.execAxGo n s
  | .axGoAlt n => Sys2Proof.Machine.execAxGoAlt n s
  | .axStop n => Sys2Proof.Machine.execAxStop n s
  | .axQstop n => Sys2Proof.Machine.execAxQstop n s
  | .regChangeover n => Sys2Proof.Machine.execRegChangeover n s
  | .axStandstill n => Sys2Proof.Machine.execAxStandstill n s
  | .axShort n phase kind => Sys2Proof.Machine.execAxShort n phase kind s
  | .axClear p n asserted => Sys2Proof.Machine.execAxClear p n asserted s
  | .axOpenLoad n phase => Sys2Proof.Machine.execAxOpenLoad n phase s
  | .sysTempRead values => Sys2Proof.Machine.execSysTempRead values s
  | .imgTrainEnd p raw => Sys2Proof.Machine.execImgTrainEnd p raw s
  | .imgWithdrawn p => Sys2Proof.Machine.execImgWithdrawn p s
  | .lineFinal p => Sys2Proof.Machine.execLineFinal p s
  | .docEnd p => Sys2Proof.Machine.execDocEnd p s
  | .calBlack p iv => Sys2Proof.Machine.execCalBlack p iv s
  | .calWhite p iv => Sys2Proof.Machine.execCalWhite p iv s
  | .calAlign p iv => Sys2Proof.Machine.execCalAlign p iv s
  | .calBarEdges p iv => Sys2Proof.Machine.execCalBarEdges p iv s
  | .calLineTrigger iv raw => Sys2Proof.Machine.execCalLineTrigger iv raw s
  | .solOn p mask => Sys2Proof.Machine.execSolOn p mask s
  | .solOff p mask => Sys2Proof.Machine.execSolOff p mask s
  | .solPulse p mask => Sys2Proof.Machine.execSolPulse p mask s
  | .peakStart b v => Sys2Proof.Machine.execPeakStart b v s
  | .peakCurrentReached c => Sys2Proof.Machine.execPeakCurrentReached c s
  | .peakDwellEnd c => Sys2Proof.Machine.execPeakDwellEnd c s
  | .ttpMaxExpire c iv => Sys2Proof.Machine.execTtpMaxExpire c iv s
  | .holdMaxExpire c => Sys2Proof.Machine.execHoldMaxExpire c s
  | .pulseEnd c => Sys2Proof.Machine.execPulseEnd c s
  | .minOnEnd c => Sys2Proof.Machine.execMinOnEnd c s
  | .decayEnd c iv va vb => Sys2Proof.Machine.execDecayEnd c iv va vb s
  | .peakQueueTimeout c => Sys2Proof.Machine.execPeakQueueTimeout c s
  | .propUpdate is => Sys2Proof.Machine.execPropUpdate is s
  | .boostClamp v => Sys2Proof.Machine.execBoostClamp v s
  | .boostLow v => Sys2Proof.Machine.execBoostLow v s
  | .solModelUpdate i2s => Sys2Proof.Machine.execSolModelUpdate i2s s
  | .resWindowStart c => Sys2Proof.Machine.execResWindowStart c s
  | .resWindowEnd c v iv => Sys2Proof.Machine.execResWindowEnd c v iv s
  | .solOcTrip c => Sys2Proof.Machine.execSolOcTrip c s
  | .solOcRetryDue c => Sys2Proof.Machine.execSolOcRetryDue c s
  | .solShortGnd c => Sys2Proof.Machine.execSolShortGnd c s
  | .solHsShort b => Sys2Proof.Machine.execSolHsShort b s
  | .solCoupled x y => Sys2Proof.Machine.execSolCoupled x y s
  | .solClear p mask => Sys2Proof.Machine.execSolClear p mask s
  | .bankClear p mask low => Sys2Proof.Machine.execBankClear p mask low s
  | .rColdNomWrite p c v => Sys2Proof.Machine.execRColdNomWrite p c v s
  | .seRotationDue => Sys2Proof.Machine.execSeRotationDue s
  | .roleHandover => Sys2Proof.Machine.execRoleHandover s
  | .sliceCalDone iv sumLo sumHi => Sys2Proof.Machine.execSliceCalDone iv sumLo sumHi s
  | .sliceClear p mask => Sys2Proof.Machine.execSliceClear p mask s
  | .refEnWrite p v => Sys2Proof.Machine.execRefEnWrite p v s
  | .refSettled => Sys2Proof.Machine.execRefSettled s
  | .trigSw p => Sys2Proof.Machine.execTrigSw p s
  | .trigPinEdge n rising => Sys2Proof.Machine.execTrigPinEdge n rising s
  | .sqStart p => Sys2Proof.Machine.execSqStart p s
  | .sqStop p => Sys2Proof.Machine.execSqStop p s
  | .sqDelayEnd p => Sys2Proof.Machine.execSqDelayEnd p s
  | .conversionDone c => Sys2Proof.Machine.execConversionDone c s
  | .urgentStart p => Sys2Proof.Machine.execUrgentStart p s
  | .capArm p => Sys2Proof.Machine.execCapArm p s
  | .capAbort p raws => Sys2Proof.Machine.execCapAbort p raws s
  | .captureStart => Sys2Proof.Machine.execCaptureStart s
  | .captureDone raws => Sys2Proof.Machine.execCaptureDone raws s
  | .filterPace k => Sys2Proof.Machine.execFilterPace k s
  | .queuePop p => Sys2Proof.Machine.execQueuePop p s
  | .queueFlush p => Sys2Proof.Machine.execQueueFlush p s
  | .dmaMove => Sys2Proof.Machine.execDmaMove s
  | .objectWrite p idx sub data => Sys2Proof.Machine.execObjectWrite p idx sub data s
  | .commitOwn p => Sys2Proof.Machine.execCommitOwn p s
  | .commitAll p => Sys2Proof.Machine.execCommitAll p s
  | .commitDiscard p => Sys2Proof.Machine.execCommitDiscard p s
  | .commitEpoch => Sys2Proof.Machine.execCommitEpoch s
  | .claim p g => Sys2Proof.Machine.execClaim p g s
  | .claimRelease p g => Sys2Proof.Machine.execClaimRelease p g s
  | .claimLeaseExpire g => Sys2Proof.Machine.execClaimLeaseExpire g s
  | .storeAll p => Sys2Proof.Machine.execStoreAll p s
  | .storeDone ok => Sys2Proof.Machine.execStoreDone ok s
  | .restoreAll p => Sys2Proof.Machine.execRestoreAll p s
  | .jobSubmit p => Sys2Proof.Machine.execJobSubmit p s
  | .jobAbort p => Sys2Proof.Machine.execJobAbort p s
  | .jobEnd p => Sys2Proof.Machine.execJobEnd p s
  | .jobRelease p => Sys2Proof.Machine.execJobRelease p s
  | .ledgerClear p => Sys2Proof.Machine.execLedgerClear p s
  | .jobArm => Sys2Proof.Machine.execJobArm s
  | .rpdoReceive n bs => Sys2Proof.Machine.execRpdoReceive n bs s
  | .syncReceive => Sys2Proof.Machine.execSyncReceive s
  | .tpdoChangeTest n => Sys2Proof.Machine.execTpdoChangeTest n s
  | .tpdoEventTimer n => Sys2Proof.Machine.execTpdoEventTimer n s
  | .tpdoInhibitEnd n => Sys2Proof.Machine.execTpdoInhibitEnd n s
  | .pdoCobIdWrite p tx n v => Sys2Proof.Machine.execPdoCobIdWrite p tx n v s
  | .pdoMapWrite p tx n sub v => Sys2Proof.Machine.execPdoMapWrite p tx n sub v s
  | .vbusValid => Sys2Proof.Machine.execVbusValid s
  | .vbusInvalid => Sys2Proof.Machine.execVbusInvalid s
  | .usbReset chirp => Sys2Proof.Machine.execUsbReset chirp s
  | .usbSetConfiguration v => Sys2Proof.Machine.execUsbSetConfiguration v s
  | .usbSetRemoteWake => Sys2Proof.Machine.execUsbSetRemoteWake s
  | .usbClearRemoteWake => Sys2Proof.Machine.execUsbClearRemoteWake s
  | .usbReadObject idx sub wLength => Sys2Proof.Machine.execUsbReadObject idx sub wLength s
  | .usbWriteObject idx sub bs => Sys2Proof.Machine.execUsbWriteObject idx sub bs s
  | .usbGetResult => Sys2Proof.Machine.execUsbGetResult s
  | .usbDomainOpen idx sub wr total => Sys2Proof.Machine.execUsbDomainOpen idx sub wr total s
  | .usbDomainPut bs => Sys2Proof.Machine.execUsbDomainPut bs s
  | .usbDomainGet wLength => Sys2Proof.Machine.execUsbDomainGet wLength s
  | .usbDomainAbort => Sys2Proof.Machine.execUsbDomainAbort s
  | .usbBadRequest => Sys2Proof.Machine.execUsbBadRequest s
  | .domainTimeout p => Sys2Proof.Machine.execDomainTimeout p s
  | .usbSuspend => Sys2Proof.Machine.execUsbSuspend s
  | .remoteWakeDriveK => Sys2Proof.Machine.execRemoteWakeDriveK s
  | .remoteWakeRelease => Sys2Proof.Machine.execRemoteWakeRelease s
  | .remoteWakeSample k => Sys2Proof.Machine.execRemoteWakeSample k s
  | .remoteWakeRetry => Sys2Proof.Machine.execRemoteWakeRetry s
  | .usbHostResume => Sys2Proof.Machine.execUsbHostResume s
  | .usbResumeEnd => Sys2Proof.Machine.execUsbResumeEnd s
  | .eventInToken => Sys2Proof.Machine.execEventInToken s
  | .bulkOutPacket bs => Sys2Proof.Machine.execBulkOutPacket bs s
  | .rasterAccept onC => Sys2Proof.Machine.execRasterAccept onC s
  | .bulkInAck last => Sys2Proof.Machine.execBulkInAck last s
  | .usbClearHalt => Sys2Proof.Machine.execUsbClearHalt s
  | .dfuDnload bs => Sys2Proof.Machine.execDfuDnload bs s
  | .dfuManifest norOk => Sys2Proof.Machine.execDfuManifest norOk s
  | .dfuGetstatus => Sys2Proof.Machine.execDfuGetstatus s
  | .dfuUpload => Sys2Proof.Machine.execDfuUpload s
  | .dfuDetach => Sys2Proof.Machine.execDfuDetach s
  | .mirrorRead a => Sys2Proof.Machine.execMirrorRead a s
  | .doorbellWrite n word => Sys2Proof.Machine.execDoorbellWrite n word s
  | .pwGo idx sub len v => Sys2Proof.Machine.execPwGo idx sub len v s
  | .postedDrain => Sys2Proof.Machine.execPostedDrain s
  | .mbRead idx sub => Sys2Proof.Machine.execMbRead idx sub s
  | .mbWrite idx sub bs => Sys2Proof.Machine.execMbWrite idx sub bs s
  | .mbOpenRead idx sub => Sys2Proof.Machine.execMbOpenRead idx sub s
  | .mbOpenWrite idx sub total => Sys2Proof.Machine.execMbOpenWrite idx sub total s
  | .mbSegment off len bs => Sys2Proof.Machine.execMbSegment off len bs s
  | .mbAbort => Sys2Proof.Machine.execMbAbort s
  | .mbStreamReset => Sys2Proof.Machine.execMbStreamReset s
  | .mbRequestDone => Sys2Proof.Machine.execMbRequestDone s
  | .cbInWrite word => Sys2Proof.Machine.execCbInWrite word s
  | .cbOutRead => Sys2Proof.Machine.execCbOutRead s
  | .cbEventRead => Sys2Proof.Machine.execCbEventRead s
  | .cbReset => Sys2Proof.Machine.execCbReset s
  | .nmtStart node => Sys2Proof.Machine.execNmtStart node s
  | .nmtStop node => Sys2Proof.Machine.execNmtStop node s
  | .nmtEnterPreop node => Sys2Proof.Machine.execNmtEnterPreop node s
  | .nmtResetNode node => Sys2Proof.Machine.execNmtResetNode node s
  | .nmtResetComm node => Sys2Proof.Machine.execNmtResetComm node s
  | .nmtBootup => Sys2Proof.Machine.execNmtBootup s
  | .usdoDownloadInit client idx sub total bs => Sys2Proof.Machine.execUsdoDownloadInit client idx sub total bs s
  | .usdoDownloadSegment client bs => Sys2Proof.Machine.execUsdoDownloadSegment client bs s
  | .usdoUploadInit client idx sub room => Sys2Proof.Machine.execUsdoUploadInit client idx sub room s
  | .usdoUploadSegment client room => Sys2Proof.Machine.execUsdoUploadSegment client room s
  | .usdoClientAbort client => Sys2Proof.Machine.execUsdoClientAbort client s
  | .usdoTimeout client => Sys2Proof.Machine.execUsdoTimeout client s
  | .canBusOff tec rec_ => Sys2Proof.Machine.execCanBusOff tec rec_ s
  | .canRecovered => Sys2Proof.Machine.execCanRecovered s
  | .heartbeatSend => Sys2Proof.Machine.execHeartbeatSend s
  | .heartbeatReceive node => Sys2Proof.Machine.execHeartbeatReceive node s
  | .hbTimeout iv => Sys2Proof.Machine.execHbTimeout iv s
  | .emcySend => Sys2Proof.Machine.execEmcySend s
  | .lrCall p v => Sys2Proof.Machine.execLrCall p v s
  | .lrCallReceive node round => Sys2Proof.Machine.execLrCallReceive node round s
  | .lrAnswerReceive node round reason => Sys2Proof.Machine.execLrAnswerReceive node round reason s
  | .lrAnswerWindowEnd => Sys2Proof.Machine.execLrAnswerWindowEnd s
  | .lrVetoReceive node round => Sys2Proof.Machine.execLrVetoReceive node round s
  | .lrCommitReceive node round => Sys2Proof.Machine.execLrCommitReceive node round s
  | .lrAbortReceive node round reason => Sys2Proof.Machine.execLrAbortReceive node round reason s
  | .lrWaitTimeout => Sys2Proof.Machine.execLrWaitTimeout s
  | .lrWakeReceive node => Sys2Proof.Machine.execLrWakeReceive node s
  | .lrCurtainEnd => Sys2Proof.Machine.execLrCurtainEnd s
  | .canWake f => Sys2Proof.Machine.execCanWake f s
  | .uartRxChar n samples => Sys2Proof.Machine.execUartRxChar n samples s
  | .uartTxStart n ctsLow => Sys2Proof.Machine.execUartTxStart n ctsLow s
  | .uartTxDone n => Sys2Proof.Machine.execUartTxDone n s
  | .uartStartEdgeWake n => Sys2Proof.Machine.execUartStartEdgeWake n s
  | .eventClearFlag p => Sys2Proof.Machine.execEventClearFlag p s
  | .eventClearAll p => Sys2Proof.Machine.execEventClearAll p s
  | .coverAssert => Sys2Proof.Machine.execCoverAssert s
  | .coverDeassert => Sys2Proof.Machine.execCoverDeassert s
  | .coverRelease => Sys2Proof.Machine.execCoverRelease s
  | .haltAssert low => Sys2Proof.Machine.execHaltAssert low s
  | .headOtAssert h => Sys2Proof.Machine.execHeadOtAssert h s
  | .headOtDeassert h => Sys2Proof.Machine.execHeadOtDeassert h s
  | .vhOvAssert h mV => Sys2Proof.Machine.execVhOvAssert h mV s
  | .vhOvDeassert h => Sys2Proof.Machine.execVhOvDeassert h s
  | .snRelease p => Sys2Proof.Machine.execSnRelease p s
  | .tlClear p => Sys2Proof.Machine.execTlClear p s
  | .railUv rail mV => Sys2Proof.Machine.execRailUv rail mV s
  | .railOv rail mV => Sys2Proof.Machine.execRailOv rail mV s
  | .avsUpdate counts => Sys2Proof.Machine.execAvsUpdate counts s
  | .powerFail cause present => Sys2Proof.Machine.execPowerFail cause present s
  | .inputDip us => Sys2Proof.Machine.execInputDip us s
  | .powerLost => Sys2Proof.Machine.execPowerLost s
  | .recoveryWakeExit => Sys2Proof.Machine.execRecoveryWakeExit s
  | .systemImageWrite p bs => Sys2Proof.Machine.execSystemImageWrite p bs s
  | .appImageWrite p bs => Sys2Proof.Machine.execAppImageWrite p bs s
  | .slotCmdInvalidate p => Sys2Proof.Machine.execSlotCmdInvalidate p s
  | .rollbackCommit p => Sys2Proof.Machine.execRollbackCommit p s
  | .keyAdd p => Sys2Proof.Machine.execKeyAdd p s
  | .keyRevoke p k => Sys2Proof.Machine.execKeyRevoke p k s
  | .appStart p => Sys2Proof.Machine.execAppStart p s
  | .appStop p => Sys2Proof.Machine.execAppStop p s
  | .appEnableWrite p v => Sys2Proof.Machine.execAppEnableWrite p v s
  | .appWdogExpire => Sys2Proof.Machine.execAppWdogExpire s
  | .appTrap pc cause => Sys2Proof.Machine.execAppTrap pc cause s
  | .appAccessFault addr => Sys2Proof.Machine.execAppAccessFault addr s
  | .apiDictRead idx sub buf size => Sys2Proof.Machine.execApiDictRead idx sub buf size s
  | .apiDictWrite idx sub buf len => Sys2Proof.Machine.execApiDictWrite idx sub buf len s
  | .apiDomainOpen idx dir total => Sys2Proof.Machine.execApiDomainOpen idx dir total s
  | .apiDomainSegment buf len off => Sys2Proof.Machine.execApiDomainSegment buf len off s
  | .apiDomainAbort => Sys2Proof.Machine.execApiDomainAbort s
  | .apiEventGet buf most => Sys2Proof.Machine.execApiEventGet buf most s
  | .apiWait lo hi => Sys2Proof.Machine.execApiWait lo hi s
  | .apiWaitWake => Sys2Proof.Machine.execApiWaitWake s
  | .apiWdogKick => Sys2Proof.Machine.execApiWdogKick s
  | .apiUartPut port ch => Sys2Proof.Machine.execApiUartPut port ch s
  | .apiUartGet port => Sys2Proof.Machine.execApiUartGet port s
  | .apiExit => Sys2Proof.Machine.execApiExit s
  | .apiUnknown code => Sys2Proof.Machine.execApiUnknown code s
  | .debugUnlock p => Sys2Proof.Machine.execDebugUnlock p s
  | .debugLock p => Sys2Proof.Machine.execDebugLock p s
  | .cutReverseDrive => Sys2Proof.Machine.execCutReverseDrive s
  | .lockoutFloorsReached va vb boost => Sys2Proof.Machine.execLockoutFloorsReached va vb boost s
  | .usbSetAddress => Sys2Proof.Machine.execUsbSetAddress s
  | .errorPassive tec rec_ => Sys2Proof.Machine.execErrorPassive tec rec_ s
  | .uartBreakEnd n => Sys2Proof.Machine.execUartBreakEnd n s

end Sys2Proof.Machine
end

