-- ==== Sys2Proof/Safety.lean ====
section
/-!
DEFINITION. Safety.lean: what counts as a safe run, and the words the claims use: what a taken write leaves, what the
follow-up of a command leaves alone.
-/

namespace Sys2Proof.Machine

open Sys2Proof

/-- ON_MASK shows the domains that are on (R462). -/
def DomainsShown (s : State) : Prop := s.pw.onMask = onMaskNow s

/-- In DOZE no host queue, no EMCY queue and no application queue holds anything (R391, R417). -/
def DozeQueuesEmpty (s : State) : Prop :=
  (dozeEntering s || dozeOff s) = true →
    s.usb.q.recs = [] ∧ s.cb.q.recs = [] ∧ s.net.emcyQ = [] ∧ s.rm.app.recs = []

/-- What every step keeps. -/
def Inv (s : State) : Prop := DomainsShown s ∧ DozeQueuesEmpty s

/-- What no event's route and no other part of the follow-up of a command may change: the units, the settings, the ledger, the
Safety Net's inputs, the queue of commands. -/
def UnitsSame (s t : State) : Prop :=
  (t.md, t.msu, t.heads, t.en, t.vl, t.rb, t.media, t.opts, t.supply, t.govs, t.cut, t.axes, t.sols, t.banks, t.boost, t.tg,
    t.uarts, t.boot, t.ledger, t.pdo, t.sn, t.ctl.dict, t.ctl.doms, t.free)
  = (s.md, s.msu, s.heads, s.en, s.vl, s.rb, s.media, s.opts, s.supply, s.govs, s.cut, s.axes, s.sols, s.banks, s.boost, s.tg,
    s.uarts, s.boot, s.ledger, s.pdo, s.sn, s.ctl.dict, s.ctl.doms, s.free)

/-- A write of `v` to object `k` on path `p` meets what R335 asks before its command judges it: the dictionary is live, no
epoch waits, checks 1–6 pass, and no path of higher rank has written the object in this cycle. -/
abbrev Passes (s : State) (p : Path) (k : Nat) (v : Int) : Prop :=
  dictLive s = true ∧ s.ctl.epoch = none ∧ judgeWrite (touch s p) p k (numData k v) = 0 ∧ tieWinner (touch s p) p k = none

/-- CLAIM, RELEASE and COMMIT tie by other rules (R344). -/
abbrev plainKey (k : Nat) : Prop := k ≠ okey 0x2002 1 ∧ k ≠ okey 0x2002 2 ∧ k ≠ okey 0x2001 1

/-- What a write taken at once leaves beside its effect: it counts for the ties of its cycle and is answered OK. -/
def taken (u : State) (p : Path) (k : Nat) : State := answer (noteTick u p k false none) p 0

/-- What a write that its command turns away leaves: the status alone. -/
def turnedAway (s : State) (p : Path) (st : Nat) : State := answer (touch s p) p st

end Sys2Proof.Machine
end

