-- ==== Sys2Proof/Certificates/Slice0/Obligations.lean ====
section
/-!
DEFINITION. Obligations.lean: the statements for the provers, `Obligations.<Name>`; the clauses they are made of stand before
them under `Claims`, each beside the rules of spec/ it formalises. A command's statement has as its conclusion what `exec`
answers: `finish s t` is the state `t` that the command's own effect makes of `s`, with the follow-up of every command.
-/

open Sys2Proof Sys2Proof.Machine

/-! The machine as a whole: the queue of commands, the invariant, the follow-up of every command. -/

/-- A step carries out the command at the front of the queue on the state with the queue's rest; with no command waiting one tick passes
(the block's interface; the tick on an empty queue is the model's choice, assumption log 4). -/
def Claims.StepTakesFront : Prop :=
  (∀ (s : State) (c : Instr) (r : List Instr), s.pending = c :: r → step s = exec c { s with pending := r }) ∧
  (∀ s : State, s.pending = [] → step s = .next (tick s))

/-- The invariant at reset: ON_MASK shows the domains, and the queues of DOZE are empty (R462, R391, R417). -/
def Claims.ResetInv : Prop := Inv State.reset

/-- Every step keeps the invariant: after it ON_MASK shows exactly the domains that are on (R462), and in DOZE no host queue, EMCY queue or
application queue holds anything (R391, R417). -/
def Claims.StepKeepsInv : Prop := ∀ (s t : State), Inv s → step s = .next t → Inv t

/-- Every command completes: it answers a next state, which is its own effect with the follow-up of every command (the events it raised take
their routes, R442–R446; the Last Ride watches, R422; the domains follow, R462); it never touches the queue of commands. -/
def Claims.EveryCommandCompletes : Prop :=
  ∀ (c : Instr) (s : State), ∃ u, exec c s = .next (finish s u) ∧ (finish s u).pending = s.pending

/-- The follow-up of a command leaves the units, their settings, the ledger, the dictionary and the Safety Net as the command left them, where
neither an event latched LOCKOUT (R445) nor a power-down sequence ended in a reset (R477). -/
def Claims.FollowLeavesUnits : Prop :=
  ∀ (b u : State), (finish b u).md.mode = u.md.mode → ¬ (pfStep u = 6 ∧ u.pw.present = true) → UnitsSame u (finish b u)

/-- The queue drains: a run of as many steps as commands wait ends in a next state with exactly the later commands left, and, where at least
one was carried out, the invariant holds there. -/
def Claims.QueueDrains : Prop :=
  ∀ (cs r : List Instr) (s : State), s.pending = cs ++ r →
    ∃ t, Host.Core.run Sys2Proof.core cs.length s = .next t ∧ t.pending = r ∧ (cs ≠ [] → Inv t)

/-- What reset leaves: every object at its default and every DOMAIN at its default contents, no claim, nothing staged, every ledger entry
FREE, the Trouble Log and every queue empty, ST at 0, no command waiting. -/
def Claims.ResetLeaves : Prop :=
  (∀ k, objK State.reset k = objDefault k) ∧ State.reset.ctl.doms = [] ∧
  (∀ g, holder State.reset g = none) ∧ (∀ p, stagingOf State.reset p = ⟨[], []⟩) ∧
  (∀ e : Fin 64, State.reset.ledger.jobs[e] = Job.reset) ∧ Job.reset.state = 0 ∧ State.reset.tl.ring = [] ∧
  State.reset.usb.q.recs = [] ∧ State.reset.cb.q.recs = [] ∧ State.reset.net.emcyQ = [] ∧ State.reset.se.queue = [] ∧
  now State.reset = 0 ∧ State.reset.md.mode = .boot ∧ State.reset.pending = []

/-- With the control plane not live (R28) a command of the control plane has no effect of its own. -/
def Claims.NotLiveNoEffect : Prop :=
  ∀ (s : State), controlLive s = false →
    (∀ c f, doLive c f s = .next (finish s s)) ∧ (∀ p, exec (.urgentStart p) s = .next (finish s s)) ∧
    exec .commitEpoch s = .next (finish s s) ∧ (∀ ok, exec (.storeDone ok) s = .next (finish s s)) ∧
    exec .jobArm s = .next (finish s s) ∧ (∀ g, exec (.claimLeaseExpire g) s = .next (finish s s))

/-- The keeper (R86): in DOZE each keeper period advances ST by 6103 and the carry of the fraction, which counts 33/64 a period and stays
below 64; 200 000 000 ÷ 32 768 is exactly 6103 + 33/64, so 64 periods and 390 625 ticks agree; outside DOZE the period has no
effect. -/
def Claims.KeeperPeriod : Prop :=
  (∀ s : State, dozeOff s = true →
    exec .keeperTick s = .next (finish s { s with tu := { s.tu with
      st := s.tu.st + (6103 + (s.tu.keeperFrac + 33) / 64), keeperFrac := (s.tu.keeperFrac + 33) % 64,
      keeperAhead := s.tu.keeperAhead + (6103 + (s.tu.keeperFrac + 33) / 64) } }) ∧
    (keeperTick s).tu.keeperFrac < 64 ∧
    64 * (keeperTick s).tu.st + (keeperTick s).tu.keeperFrac = 64 * s.tu.st + s.tu.keeperFrac + (64 * 6103 + 33)) ∧
  (∀ s : State, dozeOff s = false → exec .keeperTick s = .next (finish s s)) ∧
  200000000 * 64 = 32768 * (64 * 6103 + 33)

/-- Urgent requests for P0 or P1 wait while a capture runs (R321): a start has no effect, so the request stays pending. -/
def Claims.UrgentWaitsForCapture : Prop :=
  ∀ (s : State) (p : Fin 2), s.se.capState = 2 → exec (.urgentStart p) s = .next (finish s s)

/-- A SERVICE-ONLY write in SERVICE from a path other than the session path fails check 2 with ACCESS (R338), whatever it would write: nothing
but its path's status changes. -/
def Claims.ServiceOnlyFromOtherPath : Prop :=
  ∀ (s : State) (p : Path) (idx sub : Nat) (data : List Byte), s.md.mode = .service → sessionPath s ≠ some p → dictLive s = true →
    s.ctl.epoch = none → checkExists (okey idx sub) = 0 → clsOf (okey idx sub) = .serviceOnly →
    exec (.objectWrite p idx sub data) s = .next (finish s (turnedAway s p 0x22))

/-- RUN8 (R115): a control byte of 0x7F or below copies the next c + 1 bytes, 0x80 fills with zero up to BPL and stops, 0x81 and above repeat
the next byte 257 − c times; the decoding ends with the bytes. A decoding from `out` is the decoding from nothing behind `out`. -/
def Claims.Run8Decodes : Prop :=
  ∀ (bpl : Nat) (out : List Byte),
    (∀ n, run8 bpl n [] out = out) ∧
    (∀ n (c : Byte) (xs rest : List Byte), c.toNat ≤ 0x7F → xs.length = c.toNat + 1 →
      run8 bpl (n + 1) (c :: (xs ++ rest)) out = run8 bpl n rest (out ++ xs)) ∧
    (∀ n (rest : List Byte), out.length ≤ bpl →
      run8 bpl (n + 1) (0x80 :: rest) out = out ++ List.replicate (bpl - out.length) 0) ∧
    (∀ n (c b : Byte) (rest : List Byte), 0x81 ≤ c.toNat →
      run8 bpl (n + 1) (c :: b :: rest) out = run8 bpl n rest (out ++ List.replicate (257 - c.toNat) b)) ∧
    (∀ n m (bs : List Byte), bs.length ≤ n → bs.length ≤ m → run8 bpl n bs out = run8 bpl m bs out)

/-- The dots of a line (R117): bit 7 of byte b is dot 8b and bit 0 of byte b is dot 8b + 7; a dot is black exactly where its bit is 1 and its
number is below DOTS. -/
def Claims.DotBits : Prop :=
  ∀ (dots : Nat) (bs : List Byte) (d : Nat),
    bit (dotSet dots bs) d = (decide (d < dots) && bit (bs.getD (d / 8) 0).toNat (7 - d % 8))

/-! Start-up, RECOVERY and DFU. -/

/-- POWER_ON with the supply gone, or in BOOT, starts the boot: the supply counts as present with what the input shows, the
boot's start is the present ST, and REC# and CB_VSEL are read; with REC# low or no slot that qualifies the engine is in
RECOVERY, with nothing raised (R485). -/
def Claims.PowerOnStartsBoot : Prop :=
  ∀ (s : State) (kind volts hz : Nat) (recLow io : Bool), s.pw.on = false ∨ s.md.mode = .boot →
    ∃ u, exec (.powerOn kind volts hz recLow io) s = .next (finish s u) ∧
      u.pw.on = true ∧ u.pw.present = true ∧ u.pw.kind = kind ∧ u.pw.volts = volts ∧ u.pw.hz = hz ∧
      u.boot.start = now s ∧ u.boot.recLow = recLow ∧ u.cb.ioLevel = io ∧ u.tu = s.tu ∧ u.ctl = s.ctl ∧ u.tl = s.tl ∧
      (recLow = true ∨ chosenSlot s = none → u.md.mode = .recovery ∧ u.rm.raised = [] ∧ u.rm.held = []) ∧
      (recLow = false → chosenSlot s ≠ none → u.md = s.md ∧ u.rm = s.rm ∧ u.boot.slots = s.boot.slots)

/-- BOOT_COMPLETE goes to RECOVERY where REC# is low or no slot qualifies, and else, after step 6 of the boot, reports STANDBY:
BOOT_TIME is what has passed since step 1, and the field network takes the node-ID and the rates set (R485, R414). A power-down
sequence holds the boot where it is (R42). -/
def Claims.BootCompletes : Prop :=
  ∀ (s : State) (bad : Option Nat) (ta : Int), s.md.mode = .boot → s.pw.on = true →
    (s.pw.pf ≠ none → exec (.bootComplete bad ta) s = .next (finish s s)) ∧
    (s.pw.pf = none →
    (s.boot.recLow = true ∨ chosenSlot s = none →
      exec (.bootComplete bad ta) s = .next (finish s (recoveryEntry s)) ∧ (recoveryEntry s).md.mode = .recovery) ∧
    (∀ i, s.boot.recLow = false → chosenSlot s = some i →
      ∃ v, exec (.bootComplete bad ta) s = .next (finish s (bootStandby v ta)) ∧ (bootStandby v ta).md.mode = .standby ∧
        (bootStandby v ta).boot.bootTime = wrap 32 (now v - v.boot.start) ∧
        (bootStandby v ta).net.nodeAct = objN v 0x2A40 1 ∧ (bootStandby v ta).net.nomAct = objN v 0x2A40 2 ∧
        (bootStandby v ta).net.dataAct = objN v 0x2A40 3))

/-- The watchdog of the boot resets the engine into BOOT after 240 000 000 ticks, and the start-fail count of the slot that
was to start stays raised; WAKE# held low leaves RECOVERY in the same way. Such a reset keeps the supply, the Safety Net's
inputs, the Trouble Log and what the NOR holds, and sets the units to their state after reset (R486, R489, R477). That a reset in
BOOT leaves the count raised whatever its cause is the model's choice (assumption log 131). -/
def Claims.BootWatchdogAndWakeExit : Prop :=
  (∀ (s : State), s.md.mode = .boot → s.pw.on = true → s.pw.pf = none → 240000000 ≤ now s - s.boot.start →
    exec .bootWatchdog s = .next (finish s (bootStraps (warmReset s))) ∧
    (∀ i, chosenSlot s = some i → (warmReset s).boot.slots[i].fails = s.boot.slots[i].fails + 1 ∧
      ∀ j, j ≠ i → (warmReset s).boot.slots[j] = s.boot.slots[j])) ∧
  (∀ (s : State), s.md.mode = .recovery → s.pw.on = true → s.pw.pf = none →
    exec .recoveryWakeExit s = .next (finish s (bootStraps (warmReset s)))) ∧
  (∀ (s : State),
    (warmReset s).md = State.reset.md ∧ (warmReset s).tl.ring = s.tl.ring ∧ (warmReset s).tl.copy = s.tl.copy ∧
    (s.md.mode ≠ .boot → (warmReset s).boot.slots = s.boot.slots) ∧ (warmReset s).boot.keys = s.boot.keys ∧
    (warmReset s).boot.rollback = s.boot.rollback ∧ (warmReset s).ctl.slots = s.ctl.slots ∧
    (warmReset s).boot.appNor = s.boot.appNor ∧ (warmReset s).pw.present = s.pw.present ∧
    (warmReset s).sn.haltLow = s.sn.haltLow ∧ (warmReset s).sn.haltLatch = s.sn.haltLatch ∧
    (warmReset s).msu = State.reset.msu ∧ (warmReset s).heads = State.reset.heads ∧ (warmReset s).axes = State.reset.axes ∧
    (warmReset s).sols = State.reset.sols ∧ (warmReset s).ledger = State.reset.ledger ∧ (warmReset s).rm = State.reset.rm)

/-- The DFU interface of RECOVERY (R394, R488): the first block of a download erases the target slot and a later one adds to
it, an empty block ends it, DFU_GETSTATUS moves the state on, DFU_UPLOAD and DFU_DETACH stall with no other effect, and
manifestation with a NOR that programs leaves the slot VALID, or, where a check fails, in the state that check gives it, with errVERIFY; a
NOR failure gives errWRITE. The states and codes are those of DFU 1.1. -/
def Claims.DfuRequests : Prop :=
  ∀ (s : State), dfuLive s = true →
    (∀ bs : List Byte, s.boot.dfu.state = 2 → bs ≠ [] →
      exec (.dfuDnload bs) s = .next (finish s (modBoot (modUsb s (fun u => { u with stalled := false })) (fun b =>
        { b with slots := upd b.slots (dfuSlot s) (fun _ => { SysSlot.blank with incomplete := true, empty := false, state := 6 }),
                 dfu := ⟨3, 0, bs, false⟩ })))) ∧
    (∀ bs : List Byte, s.boot.dfu.state = 5 → bs ≠ [] →
      exec (.dfuDnload bs) s = .next (finish s (modBoot (modUsb s (fun u => { u with stalled := false })) (fun b =>
        { b with dfu := { b.dfu with state := 3, data := b.dfu.data ++ bs } })))) ∧
    (s.boot.dfu.state = 5 →
      exec (.dfuDnload []) s = .next (finish s (modBoot (modUsb s (fun u => { u with stalled := false })) (fun b =>
        { b with dfu := { b.dfu with state := 6 } })))) ∧
    (exec .dfuGetstatus s = .next (finish s (modBoot (modUsb s (fun u => { u with stalled := false })) (fun b =>
        { b with dfu := { b.dfu with state := (if b.dfu.state = 3 then 5 else if b.dfu.state = 6 then 7 else b.dfu.state) } })))) ∧
    exec .dfuUpload s = .next (finish s (modUsb s (fun u => { u with stalled := true }))) ∧
    exec .dfuDetach s = .next (finish s (modUsb s (fun u => { u with stalled := true }))) ∧
    (∀ i, s.boot.dfu.state = 7 → dfuFilling s = some i →
      exec (.dfuManifest false) s = .next (finish s (modBoot s (fun b =>
        { b with dfu := { b.dfu with state := 10, status := 3, data := [] } }))) ∧
      (∀ c, slotCheck s { slotOf s.boot.dfu.data with fails := 0 } false = c →
        exec (.dfuManifest true) s = .next (finish s (modBoot s (fun b =>
          { b with slots := upd b.slots i (fun _ => { slotOf s.boot.dfu.data with
                     fails := 0, state := (if c = 0 then 1 else stateOfCheck { slotOf s.boot.dfu.data with fails := 0 } c) }),
                   dfu := (if c = 0 then ⟨2, 0, [], true⟩ else { b.dfu with state := 10, status := 7, data := [] }) })))))

/-! Modes (R29–R40, R345–R349, R469–R473). -/

/-- MODE_REQ that passes (R29, R32, R35). 1 in RUN starts the way to STANDBY, and while another transition runs it is held; 2
in STANDBY starts the way to RUN, with the stages on; 3 in STANDBY with an idle ledger starts DOZE entry, and in RUN the
way to STANDBY with DOZE after it; each is answered OK. 3 with a job in the ledger, 2 outside STANDBY and 4 anywhere are
answered WRONG_MODE with EV001, which names the present mode, the one asked for and the path. -/
def Claims.ModeRequests : Prop :=
  ∀ (s : State) (p : Path), s.pw.pf = none →
    (Passes s p (okey 0x2000 1) 1 → s.md.trans = none → s.md.mode = .run →
      exec (.modeReqStandby p) s = .next (finish s (taken (leaveRun (touch s p) 0 none) p (okey 0x2000 1)))) ∧
    (∀ t, Passes s p (okey 0x2000 1) 1 → s.md.trans = some t → t.target ≠ .standby →
      exec (.modeReqStandby p) s =
        .next (finish s (taken (modMd (touch s p) (fun d => { d with held := true })) p (okey 0x2000 1)))) ∧
    (Passes s p (okey 0x2000 1) 2 → s.md.trans = none → s.md.mode = .standby →
      exec (.modeReqRun p) s = .next (finish s (taken (startRun (touch s p) .run 0) p (okey 0x2000 1)))) ∧
    (Passes s p (okey 0x2000 1) 2 → s.md.mode ≠ .standby →
      exec (.modeReqRun p) s = .next (finish s (answer (raise (touch s p) 1 (s.md.mode.code * 256 + 2) p.ascii) p 0x24))) ∧
    (Passes s p (okey 0x2000 1) 3 → s.md.trans = none → ledgerIdle s = true → s.md.mode = .standby →
      exec (.modeReqDoze p) s = .next (finish s (taken (startDoze (touch s p) 0) p (okey 0x2000 1)))) ∧
    (Passes s p (okey 0x2000 1) 3 → s.md.trans = none → ledgerIdle s = true → s.md.mode = .run →
      exec (.modeReqDoze p) s = .next (finish s (taken (leaveRun (touch s p) 0 (some p)) p (okey 0x2000 1)))) ∧
    (Passes s p (okey 0x2000 1) 3 → ledgerIdle s = false →
      exec (.modeReqDoze p) s = .next (finish s (answer (raise (touch s p) 1 (s.md.mode.code * 256 + 3) p.ascii) p 0x24))) ∧
    (Passes s p (okey 0x2000 1) 4 →
      exec (.modeReqService p) s = .next (finish s (answer (raise (touch s p) 1 (s.md.mode.code * 256 + 4) p.ascii) p 0x24)))

/-- What the start of a transition leaves in the mode machine: the mode left, the mode aimed at, its start and its cause; MODE
itself changes only for DOZE (R30, R35, R469). The way to RUN or SERVICE turns the stages on. -/
def Claims.TransitionsBegin : Prop :=
  ∀ (s : State) (m : Mode) (cause : Nat),
    (startRun s m cause).md = { s.md with trans := some ⟨s.md.mode, m, now s, cause, none⟩ } ∧
    (startRun s m cause).pw.stagesOn = true ∧
    (startDoze s cause).md.mode = .doze ∧
    (startDoze s cause).md.trans = some ⟨.standby, .doze, (now (startDoze s cause)), cause, none⟩ ∧
    (startDoze s cause).ctl.epoch = none

/-- RUN or SERVICE is reported once every rail that is on is within its limits and the self-test passes (R469): MODE takes the
transition's target, the transition ends, and EV000 is raised with both modes and the cause; the ledger is then served and a
held request for STANDBY taken up. Rails that are still short at 200 ms end the attempt: EV484 names the rail and its reading,
and the stages go off. -/
def Claims.RunReached : Prop :=
  ∀ (s : State) (t : Transition) (ra rb va vb boost : Nat) (home : Bool), s.md.trans = some t →
    t.target = .run ∨ t.target = .service → dozeOff s = false →
    (shortRail (headsEntry (modMd s (fun d => { d with mode := t.target })) ra rb) va vb boost = none →
      ∃ v, exec (.runReached ra rb va vb boost home none) s = .next (finish s (applyHeld (jobsArm v))) ∧
        v.md.mode = t.target ∧ v.md.trans = none ∧
        ⟨0, wrap 32 (s.md.mode.code * 256 + t.target.code), wrap 32 t.cause⟩ ∈ v.rm.raised) ∧
    (∀ r, t.start + 40000000 ≤ now s →
      shortRail (headIdCheck (headIdCheck (modMd s (fun d => { d with mode := t.target })) 0 ra) 1 rb) va vb boost = some r →
      exec (.runEntryTimeout ra rb va vb boost) s = .next (finish s (raise (runGivenUp s t) 484 r.1 r.2)) ∧
      (runGivenUp s t).pw.stagesOn = false)

/-- STANDBY is reported when the axes are at rest and VH and BOOST read below their floors (R30): the stages go off, MODE and
EV000 say so, and the transition ends; with DOZE asked for and the ledger idle DOZE entry follows (R35), and with a job there since
EV001 names the path that asked. In LOCKOUT the same conditions end its step 2 (R470). -/
def Claims.FloorsReached : Prop :=
  ∀ (s : State) (va vb boost : Nat), floorsMet s va vb boost = true →
    (∀ t, s.md.trans = some t → t.target = .standby → t.thenDoze = none → inRun s = true →
      exec (.standbyReached va vb boost) s = .next (finish s (modeTo
        (stagesOff (modMd (floorsRead s va vb boost) (fun d => { d with trans := none }))) .standby t.cause))) ∧
    (∀ t p, s.md.trans = some t → t.target = .standby → t.thenDoze = some p → inRun s = true → ledgerIdle s = true →
      exec (.standbyReached va vb boost) s = .next (finish s (startDoze (modeTo
        (stagesOff (modMd (floorsRead s va vb boost) (fun d => { d with trans := none }))) .standby t.cause) t.cause))) ∧
    (∀ t p, s.md.trans = some t → t.target = .standby → t.thenDoze = some p → inRun s = true → ledgerIdle s = false →
      exec (.standbyReached va vb boost) s = .next (finish s (raise (modeTo
        (stagesOff (modMd (floorsRead s va vb boost) (fun d => { d with trans := none }))) .standby t.cause) 1 0x0103 p.ascii))) ∧
    (s.md.mode = .lockout → s.md.floorsReached = false →
      exec (.lockoutFloorsReached va vb boost) s = .next (finish s
        (stagesOff (modMd (floorsRead s va vb boost) (fun d => { d with floorsReached := true }))))) ∧
    (stagesOff s).pw.stagesOn = false

/-- DOZE (R86, R87, R471, R472): the handover ends the transition, stops the application with cause 6, ends debug access and
counts DOZE_COUNT; each keeper period then adds 6103 to ST and 33/64 to its carry; a wake source before the handover
abandons entry with EV491, and after it starts the way to WAKE_TARGET with WAKE_CAUSE the lowest code asserted. -/
def Claims.DozeCommands : Prop :=
  ∀ (s : State),
    (dozeEntering s = true → s.pw.pf = none →
      ∃ v, exec .dozeHandover s = .next (finish s v) ∧ v.md.trans = none ∧ v.boot.debugOn = false ∧
        v.tu.keeperAhead = 0 ∧ v.tu.keeperFrac = 0 ∧ (s.app.state = 2 → v.app.state = 3 ∧ v.app.stopCause = 6) ∧
        (s.app.state ≠ 2 → v.app = s.app)) ∧
    (dozeOff s = true →
      exec .keeperTick s = .next (finish s { s with tu := { s.tu with
        st := s.tu.st + (6103 + (s.tu.keeperFrac + 33) / 64),
        keeperAhead := s.tu.keeperAhead + (6103 + (s.tu.keeperFrac + 33) / 64),
        keeperFrac := (s.tu.keeperFrac + 33) % 64 } })) ∧
    (∀ pin k, dozing s = true → lowestWake (wakeMask s pin) = some k →
      exec (.wakeRecognised pin) s = .next (finish s (modPw (modMd s (fun d => { d with
        wakeCode := k, wakeAt := now s, trans := some ⟨.doze, wakeTarget s, now s, 1, none⟩ }))
        (fun w => { w with wakeCause := k })))) ∧
    (∀ pin k, dozeEntering s = true → lowestWake (wakeMask s pin) = some k →
      ∃ v, exec (.dozeAbort pin) s = .next (finish s (raise v 491 k 0)) ∧ v.md.trans = none ∧ v.md.mode = .standby)

/-- WAKE_COMPLETE (R36, R87, R88, R472, R473): where the keeper ran, ST is within 200 ticks of it and above every earlier value,
and where it had stopped ST goes on by one with EV137 and EV138; every unit is restored, and STANDBY is reported with EV492,
or the way to RUN begins with no STANDBY between. -/
def Claims.WakeCompletes : Prop :=
  ∀ (s : State) (t : Transition) (ta : Int), s.md.trans = some t → dozeOff s = true →
    (∀ stopped, t.target = .standby →
      ∃ v, exec (.wakeComplete stopped ta) s = .next (finish s (wokenEvent v)) ∧ v.md.mode = .standby) ∧
    (∀ stopped, t.target = .run →
      ∃ v, exec (.wakeComplete stopped ta) s = .next (finish s (wakeRestore (tgStart v))) ∧
        v.pw.stagesOn = true ∧ v.md.mode = s.md.mode ∧ v.md.restored = true) ∧
    ((stBack s true).tu.st = now s + 1) ∧
    ((stBack s false).tu.st ≤ now s + 200 ∧ now s ≤ (stBack s false).tu.st + 200 ∧
      (s.tu.keeperAhead ≤ now s → now s - s.tu.keeperAhead < (stBack s false).tu.st))

/-- LOCKOUT_CLEAR that passes (R29, R40, R448): in LOCKOUT with a cause still asserted it is refused with RANGE and with none it
takes the engine to STANDBY with EV003 and releases the Safety Net's latches, unless an input is still asserted; in any
other mode it is answered WRONG_MODE with EV001. -/
def Claims.LockoutClears : Prop :=
  ∀ (s : State) (p : Path), Passes s p (okey 0x2000 4) 1 →
    (s.md.mode = .lockout → lockCauses (touch s p) = [] →
      ∃ v, exec (.lockoutClear p) s =
          .next (finish s (taken (if latchHeld v then v else snReleaseAll v) p (okey 0x2000 4))) ∧
        v.md.mode = .standby ∧ v.md.floorsReached = false ∧ v.pw.stagesOn = false ∧ ⟨3, wrap 32 p.ascii, 0⟩ ∈ v.rm.raised) ∧
    (s.md.mode = .lockout → lockCauses (touch s p) ≠ [] →
      exec (.lockoutClear p) s = .next (finish s (turnedAway s p 0x23))) ∧
    (s.md.mode ≠ .lockout →
      exec (.lockoutClear p) s = .next (finish s (answer (raise (touch s p) 1 (s.md.mode.code * 256 + 1) p.ascii) p 0x24)))

/-! Lanes, encoders and line generators (R46–R60, R76–R78). -/

/-- ENC_EDGE (R53): an edge steps the channel's count and its edge history, te0 becoming the present ST, and every lane that
follows the channel takes the boundary it crossed; a channel whose directions are swapped steps the other way; both inputs
at once count nothing, hold the position up to the next edge that is counted (log 96), set ENC_FAULT of the lanes and raise EV068.
EDGE_TIMEOUT with the time run out empties the edge history. -/
def Claims.EncoderEdges : Prop :=
  ∀ (s : State) (c : Fin 4), controlLive s = true →
    (∀ t (e : Enc),
      encStep t 1 e = { e with c := e.c + 1, k := e.c + 1, d := 1, held := false, n := min ((if e.d = 1 then e.n else 0) + 1) 3,
                               te2 := e.te1, te1 := e.te0, te0 := t } ∧
      encStep t (-1) e = { e with c := e.c - 1, k := e.c, d := -1, held := false, n := min ((if e.d = -1 then e.n else 0) + 1) 3,
                                  te2 := e.te1, te1 := e.te0, te0 := t }) ∧
    (encInverted s c = false →
      exec (.encEdge c .fwd) s = .next (finish s (applyAll (edgeLane c) (modEnc s c (encStep (now s) 1)) (allFin 4))) ∧
      exec (.encEdge c .rev) s = .next (finish s (applyAll (edgeLane c) (modEnc s c (encStep (now s) (-1))) (allFin 4)))) ∧
    (encInverted s c = true →
      exec (.encEdge c .fwd) s = .next (finish s (applyAll (edgeLane c) (modEnc s c (encStep (now s) (-1))) (allFin 4))) ∧
      exec (.encEdge c .rev) s = .next (finish s (applyAll (edgeLane c) (modEnc s c (encStep (now s) 1)) (allFin 4)))) ∧
    exec (.encEdge c .both) s = .next (finish s (raise (applyAll (faultLane c) (modEnc s c (fun e => { e with held := true }))
      (allFin 4)) 68 c.val (w32 s.msu.encs[c].c))) ∧
    (∀ i, laneEnc s i = c → (faultLane c s i).msu.lanes[i].ep = s.msu.lanes[i].epPrev ∧
      (laneSource s i = 1 → (faultLane c s i).msu.lanes[i].encFault = true ∧
        (faultLane c s i).msu.lanes[i].pos = satPos s.msu.lanes[i].epPrev)) ∧
    (∀ i, s.msu.encs[laneEnc s i].held = true → encTerm s i = s.msu.lanes[i].ep) ∧
    (∀ i, laneSource s i = 1 → laneEnc s i = c →
      (edgeLane c s i).msu.lanes[i].pos = satPos (encBoundary s i s.msu.encs[c].k) ∧
      (laneCfg s i 12 ≤ (now s : Int) - s.msu.encs[c].te0 →
        exec (.edgeTimeout i) s = .next (finish s (modEnc s c (fun e => { e with n := 0 })))))

/-- ENC_INDEX (R76, R77, R78): with INDEX_MODE not 0 the first index of a channel sets the reference; a later one whose count
lies more than 2 from a whole number of turns raises EV080 with the deviation and counts a mismatch, and one within 2 counts a
slip; with INDEX_MODE 2 and REHOME_REQ set, the lane of the channel takes REHOME_POS with EV082, and REHOME_REQ reads 0
again. A write of 1 to REHOME_REQ that passes sets it. -/
def Claims.EncoderIndex : Prop :=
  ∀ (s : State) (c : Fin 4), controlLive s = true → objN s (0x2150 + c.val) 2 ≠ 0 →
    (s.msu.encs[c].cRef = none → (objN s (0x2150 + c.val) 2 = 1 ∨ encLane s c = none) →
      exec (.encIndex c) s = .next (finish s (modEnc s c (fun e => { e with cRef := some e.c })))) ∧
    (∀ i, s.msu.encs[c].cRef = none → objN s (0x2150 + c.val) 2 = 2 → objB s (0x2150 + c.val) 7 = true → encLane s c = some i →
      exec (.encIndex c) s = .next (finish s (raise (laneReorigin (setObj (modEnc s c (fun e => { e with cRef := some e.c }))
        (0x2150 + c.val) 7 0) i (obj s (0x2150 + c.val) 6)) 82 c.val i.val))) ∧
    (∀ r dev, s.msu.encs[c].cRef = some r → encLane s c = none →
      dev = s.msu.encs[c].c - (r + roundDiv (s.msu.encs[c].c - r) (obj s (0x2150 + c.val) 1) * obj s (0x2150 + c.val) 1) →
      (-2 ≤ dev → dev ≤ 2 →
        exec (.encIndex c) s = .next (finish s (modEnc s c (fun e =>
          { e with cRef := some e.c, lastDev := dev, slip := inc16 e.slip })))) ∧
      (dev < -2 ∨ 2 < dev →
        exec (.encIndex c) s = .next (finish s (raise (modEnc s c (fun e =>
          { e with cRef := some e.c, lastDev := dev, mismatch := inc16 e.mismatch }))
          80 (c.val + 65536 * toBits 16 (clampI (-32768) 32767 dev)) 0)))) ∧
    (∀ p, Passes s p (okey (0x2150 + c.val) 7) 1 →
      exec (.rehomeReq p c) s = .next (finish s (taken (setObj (touch s p) (0x2150 + c.val) 7 1) p (okey (0x2150 + c.val) 7))))

/-- LANE_DIR_COMMIT (R49, R57): a lane at DIR_HYST or more past its extreme, in a direction it has not committed, commits it:
EV067 with the direction, the extreme moves to the position, the generators of the lane re-index from the old extreme and the
heads on the lane see the change; what waits in the order of R69 for the commit then has its turn. -/
def Claims.DirectionCommits : Prop :=
  ∀ (s : State) (i : Fin 4), controlLive s = true → laneSource s i ≠ 0 →
    (s.msu.lanes[i].dir ≠ .fwd → s.msu.lanes[i].ext + laneCfg s i 11 ≤ s.msu.lanes[i].pos →
      exec (.laneDirCommit i) s = .next (finish s (takeTurns (applyAll (fun t h =>
          if genLane (headGen t h) = i then histDirChange t h else t)
        (applyAll (commitGen .fwd s.msu.lanes[i].ext)
          (raise (modLane s i (fun l => { l with dir := .fwd, ext := l.pos, extPrev := l.pos })) 67 i.val 1) (laneGens i))
        (allFin 2))))) ∧
    (s.msu.lanes[i].dir ≠ .rev → s.msu.lanes[i].pos ≤ s.msu.lanes[i].ext - laneCfg s i 11 → 0 < laneCfg s i 11 →
      exec (.laneDirCommit i) s = .next (finish s (takeTurns (applyAll (fun t h =>
          if genLane (headGen t h) = i then histDirChange t h else t)
        (applyAll (commitGen .rev s.msu.lanes[i].ext)
          (raise (modLane s i (fun l => { l with dir := .rev, ext := l.pos, extPrev := l.pos })) 67 i.val 2) (laneGens i))
        (allFin 2)))))

/-- LINE_EVENT (R57, R58, R59): a line that is due advances the generator's index in the committed direction by one, and the
generator takes no second line in the cycle. With the gate shut, or DIRS against the direction, nothing more happens; with the
gate open the line's index, its cycle and the count of lines are recorded and the line reaches the heads and image ports that name
the generator. So it is where the event is in its turn (R69): every direction committed, no line of an earlier generator due; out of
its turn it waits for it, at the latest to the end of the cycle. -/
def Claims.LineEvents : Prop :=
  (∀ (s : State) (c : Instr), turnDue s c = true → turnWaits s c = true → inTurn s c = { s with turns := turnInsert c s.turns }) ∧
  (∀ (s : State) (g : Fin 16) (va vb df0 df1 : Nat), controlLive s = true → (lineDue s g).isSome = true →
    turnWaits s (.lineEvent g va vb df0 df1) = true →
    exec (.lineEvent g va vb df0 df1) s =
      .next (finish s { s with turns := turnInsert (.lineEvent g va vb df0 df1) s.turns })) ∧
  (∀ s : State, s.turns = [] → takeTurns s = s) ∧
  ∀ (s : State) (g : Fin 16) (va vb df0 df1 : Nat) (n : Int), controlLive s = true →
    turnWaits s (.lineEvent g va vb df0 df1) = false →
    (lineDue s g = some (n, .fwd) → gateAtLine s g = false ∨ dirsAllow s g .fwd = false →
      dueFwd s g (n + 1) > s.msu.lanes[genLane g].pos →
      exec (.lineEvent g va vb df0 df1) s =
        .next (finish s (takeTurns (modGen s g (fun x => { x with lastSt := some (now s), nf := n + 1 }))))) ∧
    (lineDue s g = some (n, .rev) → gateAtLine s g = false ∨ dirsAllow s g .rev = false →
      s.msu.lanes[genLane g].pos > dueRev s g (n - 1) →
      exec (.lineEvent g va vb df0 df1) s =
        .next (finish s (takeTurns (modGen s g (fun x => { x with lastSt := some (now s), nr := n - 1 }))))) ∧
    (lineDue s g = some (n, .fwd) → gateAtLine s g = true → dirsAllow s g .fwd = true →
      dueFwd s g (n + 1) > s.msu.lanes[genLane g].pos →
      exec (.lineEvent g va vb df0 df1) s = .next (finish s (takeTurns
        (applyAll (lineToPort g n .fwd (fun p => if p = 0 then df0 else df1))
          (applyAll (lineToHead g n .fwd (linePeriod s g .fwd) (fun h => if h = 0 then va else vb))
            (modGen s g (fun x => { x with
              lastSt := some (now s), nf := n + 1, index := n, emitted := inc32 x.emitted, fwdSt := some (now s) }))
            (allFin 2)) (allFin 2))))) ∧
    (lineDue s g = some (n, .rev) → gateAtLine s g = true → dirsAllow s g .rev = true →
      s.msu.lanes[genLane g].pos > dueRev s g (n - 1) →
      exec (.lineEvent g va vb df0 df1) s = .next (finish s (takeTurns
        (applyAll (lineToPort g n .rev (fun p => if p = 0 then df0 else df1))
          (applyAll (lineToHead g n .rev (linePeriod s g .rev) (fun h => if h = 0 then va else vb))
            (modGen s g (fun x => { x with
              lastSt := some (now s), nr := n - 1, index := n, emitted := inc32 x.emitted, revSt := some (now s) }))
            (allFin 2)) (allFin 2))))) ∧
    (lineDue s g = some (n, .fwd) → dueFwd s g n ≤ s.msu.lanes[genLane g].pos ∧ n = s.msu.gens[g].nf)

/-- The least forward index of R57 is the least whose due position lies past the extreme, and the greatest reverse index the
greatest whose due position lies before it, for every pitch that is positive. -/
def Claims.FirstLineIsLeast : Prop :=
  ∀ (s : State) (g : Fin 16) (e n : Int), 0 < genCfg s g 2 → 0 < genCfg s g 3 →
    (e < dueFwd s g (firstFwd s g e)) ∧ (e < dueFwd s g n → firstFwd s g e ≤ n) ∧
    (dueRev s g (firstRev s g e) < e) ∧ (dueRev s g n < e → n ≤ firstRev s g e)

/-! The Waymark Table (R62–R75, R81, R82). -/

/-- WAYMARK_FIRE and WAYMARK_ST_FIRE (R65, R67): an entry that fires is disarmed, counts FIRES, and records its direction; with EVT
it raises EV048 + EVSEL with the position or ST, and an ST-keyed entry that is late raises EV036 with its lateness. Here for
entries that deliver no action and are in their turn, every line due and every lower entry that fires having had theirs (R69); what
waits behind them then has its turn. WAYMARK_REARM arms the entry again in the present cycle (R66). -/
def Claims.WaymarksFire : Prop :=
  ∀ (s : State) (e : Fin 1024),
    (∀ d, firesNow s (wmAt s e.val) = d → d = 1 ∨ d = 2 → (wmAt s e.val).op = 0 → (wmAt s e.val).key < 4 →
      (wmAt s e.val).evt = true → turnWaits s (.waymarkFire e) = false →
      exec (.waymarkFire e) s = .next (finish s (takeTurns (raise (setWm s e.val { wmAt s e.val with
          armed := false, fires := min 65535 ((wmAt s e.val).fires + 1), lastDir := d, lastSt := now s })
        (48 + (wmAt s e.val).evsel) (e.val + 1073741824 * d) (w32 s.msu.lanes[wmLane (wmAt s e.val)].pos))))) ∧
    (firesNow s (wmAt s e.val) = 3 → (wmAt s e.val).op = 0 → (wmAt s e.val).key = 4 → (wmAt s e.val).evt = false →
      (wmAt s e.val).target < (wmAt s e.val).since → turnWaits s (.waymarkStFire e) = false →
      exec (.waymarkStFire e) s = .next (finish s (takeTurns (raise (setWm s e.val { wmAt s e.val with
          armed := false, fires := min 65535 ((wmAt s e.val).fires + 1), lastDir := 3, lastSt := now s })
        36 e.val (min (now s - (wmAt s e.val).target) 0xFFFFFFFF))))) ∧
    (firesNow s (wmAt s e.val) = 3 → (wmAt s e.val).op = 0 → (wmAt s e.val).key = 4 → (wmAt s e.val).evt = false →
      (wmAt s e.val).since ≤ (wmAt s e.val).target → turnWaits s (.waymarkStFire e) = false →
      exec (.waymarkStFire e) s = .next (finish s (takeTurns (setWm s e.val { wmAt s e.val with
          armed := false, fires := min 65535 ((wmAt s e.val).fires + 1), lastDir := 3, lastSt := now s })))) ∧
    (rearmsNow s (wmAt s e.val) = true →
      exec (.waymarkRearm e) s = .next (finish s (setWm s e.val { wmAt s e.val with en := true, armed := true, since := now s })))

/-- Which entries fire and which re-arm (R55, R65, R66, R67): an armed entry on a lane with a position source fires exactly on a
crossing of its target in a direction DIR allows, from the cycle after it was armed on; ST-keyed, when ST has reached its
target; and a disarmed one re-arms at REARM away from the target, on the side its DIR asks for. -/
def Claims.WaymarkConditions : Prop :=
  ∀ (s : State) (w : Waymark), controlLive s = true →
    (w.key < 4 → (firesNow s w = 1 ↔ w.en = true ∧ w.armed = true ∧ w.since < now s ∧ laneSource s (wmLane w) ≠ 0 ∧
      s.msu.lanes[wmLane w].prev < wmTarget w ∧ wmTarget w ≤ s.msu.lanes[wmLane w].pos ∧ bit w.dir 0 = true)) ∧
    (w.key < 4 → (firesNow s w = 2 ↔ w.en = true ∧ w.armed = true ∧ w.since < now s ∧ laneSource s (wmLane w) ≠ 0 ∧
      wmTarget w < s.msu.lanes[wmLane w].prev ∧ s.msu.lanes[wmLane w].pos ≤ wmTarget w ∧ bit w.dir 1 = true)) ∧
    (4 ≤ w.key → (firesNow s w = 3 ↔ w.en = true ∧ w.armed = true ∧ w.since < now s ∧ w.target ≤ now s)) ∧
    (w.pair = false → w.dir = 1 → (rearmsNow s w = true ↔ w.en = true ∧ w.armed = false ∧ 0 < w.rearm ∧ w.key < 4 ∧
      w.lastSt ≠ now s ∧ s.msu.lanes[wmLane w].pos ≤ wmTarget w - w.rearm)) ∧
    (w.pair = false → w.dir = 2 → (rearmsNow s w = true ↔ w.en = true ∧ w.armed = false ∧ 0 < w.rearm ∧ w.key < 4 ∧
      w.lastSt ≠ now s ∧ wmTarget w + w.rearm ≤ s.msu.lanes[wmLane w].pos))

/-- Writes to the selected waymark entry that pass (R62, R63, R71): TARGET and ACT take the value; CTRL with EN = 0 takes its
fields, and with EN = 1 a single entry that validates is armed in that cycle with its counts at 0, and one that does not
is left disabled with EV035 and the reason. -/
def Claims.WaymarkWrites : Prop :=
  ∀ (s : State) (p : Path) (e : Nat) (w : Waymark), atN 0 s.msu.wmSel p.idx.val = e → wmAt s e = w →
    (∀ v : Nat, v < 2 ^ 64 → Passes s p (okey 0x2140 2) v →
      exec (.waymarkWrite p .target v) s =
        .next (finish s (taken (setWm (touch s p) e { w with target := v }) p (okey 0x2140 2)))) ∧
    (∀ v : Nat, v < 2 ^ 32 → Passes s p (okey 0x2140 4) v →
      exec (.waymarkWrite p .act v) s = .next (finish s (taken (setWm (touch s p) e (wmSetAct w v)) p (okey 0x2140 4)))) ∧
    (∀ v : Nat, v < 2 ^ 31 → Passes s p (okey 0x2140 3) v →
      exec (.waymarkWrite p .ctrl v) s = .next (finish s (taken (setWm (touch s p) e
        { wmSetCtrl w v with en := false, armed := false }) p (okey 0x2140 3)))) ∧
    (∀ v : Nat, v < 2 ^ 32 → bit v 31 = true → Passes s p (okey 0x2140 3) v →
      exec (.waymarkEnable p v) s = .next (finish s (taken (wmEnable (setWm (touch s p) e
        { wmSetCtrl w v with en := false, armed := false }) e) p (okey 0x2140 3))))

/-- EN set on an entry that is in no pair (R63): validation passes exactly where DIR, KEY, TGT, INPUT and OP are as the rule
asks, the entry then being armed in this cycle with FIRES and LAST_DIR at 0, and else EN reads 0 with EV035 and the reason. -/
def Claims.WaymarkEnables : Prop :=
  ∀ (s : State) (e : Nat), (wmAt s e).pair = false →
    (entryReason { wmAt s e with en := true, armed := false, fires := 0, lastDir := 0 } = 0 →
      wmAt (wmEnable s e) e = { wmAt s e with en := true, armed := true, fires := 0, lastDir := 0, since := now s }) ∧
    (∀ r, entryReason { wmAt s e with en := true, armed := false, fires := 0, lastDir := 0 } = r → r ≠ 0 →
      wmEnable s e = raise (setWm s e { wmAt s e with en := false, armed := false }) 35 e r)

/-- Commands of the whole table (R75, R81, R82): COMMAND 1 disables every entry, COMMAND 2 arms every enabled entry whose
condition does not already hold, and the table as one DOMAIN is written and its entries with EN = 1 validated; the hold of a
pair's output that has lasted its minimum ends, and the output goes off. -/
def Claims.WaymarkTable : Prop :=
  ∀ (s : State) (p : Path),
    (Passes s p (okey 0x2141 3) 1 →
      exec (.waymarkDisableAll p) s = .next (finish s (taken (wmDisableAll (touch s p)) p (okey 0x2141 3)))) ∧
    (Passes s p (okey 0x2141 3) 2 →
      exec (.waymarkArmAll p) s = .next (finish s (taken (wmArmAll (touch s p)) p (okey 0x2141 3)))) ∧
    (∀ bs : List Byte, dictLive s = true → s.ctl.epoch = none → judgeOpen (touch s p) p 0x5100 0 true bs.length = 0 →
      exec (.waymarkImageWrite p bs) s = .next (finish s (domPut (answer (setXfer (dropXfer (touch s p) p) p
        (some ⟨0x5100, true, bs.length, [], 0, now s⟩)) p 0) p bs).1)) ∧
    (∀ (start : Fin 1024) h, s.msu.holds.find? (fun x => x.start == start.val && decide (x.due ≤ now s)) = some h →
      exec (.pairMinimumEnd start) s = .next (finish s
        (levelOff { s with msu := { s.msu with holds := s.msu.holds.erase h } } h.tgt h.inp true)))

/-! The Timer Unit (R10, R90–R105). -/

/-- Compare channels (R91, R92, R93, R94): compare A sets MA and OUT, which stays low where compare B falls in the same cycle; compare
B sets MB and clears OUT; a wrap copies the preloads, sets WR and counts FRAMES from the second wrap on; a one-shot channel
parks with OUT low; a flag that was set already sets OVR. Each then raises the channel's event and starts its trigger as
EV_MASK and TRIG_SRC select. A wrap takes the preloads as they stood when its cycle began (R91). So it is where no RESTART of the
channel is still to come in the cycle; each waits for that (R101). -/
def Claims.TimerCompares : Prop :=
  (∀ (s : State) (c : Fin 32), controlLive s = true → restartDue s c = true →
    exec (.tcMatchA c) s = .next (finish s { s with turns := turnInsert (.tcMatchA c) s.turns }) ∧
    exec (.tcMatchB c) s = .next (finish s { s with turns := turnInsert (.tcMatchB c) s.turns }) ∧
    exec (.tcWrap c) s = .next (finish s { s with turns := turnInsert (.tcWrap c) s.turns }) ∧
    exec (.tcOneshotPark c) s = .next (finish s { s with turns := turnInsert (.tcOneshotPark c) s.turns })) ∧
  ∀ (s : State) (c : Fin 32), controlLive s = true → restartDue s c = false →
    (tcHitA s c = true → s.tu.tcs[c].aSt ≠ some (now s) →
      exec (.tcMatchA c) s = .next (finish s (takeTurns (tcTrigger (tcEvent (tcConds s c) (modTc s c (fun x =>
        { x with ma := true, ovr := x.ovr || x.ma, out := (if tcHitB s c then false else true), aSt := some (now s) })) c) c 1)))) ∧
    (tcHitB s c = true → s.tu.tcs[c].bSt ≠ some (now s) →
      exec (.tcMatchB c) s = .next (finish s (takeTurns (tcTrigger (tcEvent (tcConds s c) (modTc s c (fun x =>
        { x with mb := true, ovr := x.ovr || x.mb, out := false, bSt := some (now s) })) c) c 2)))) ∧
    (tcWrapDue s c = true →
      exec (.tcWrap c) s = .next (finish s (takeTurns (tcTrigger (tcEvent (tcConds s c) (modTc s c (fun x =>
        { x with frame := x.preF, cmpA := x.preA, cmpB := x.preB, wr := true, ovr := x.ovr || x.wr,
                 frames := (if x.opened then inc32 x.frames else x.frames), opened := true, wrapSt := some (now s) })) c) c 3)))) ∧
    (s.tu.tcs[c].parkDue = true →
      exec (.tcOneshotPark c) s = .next (finish s (takeTurns (tcTrigger (tcEvent 4 (modTc s c (fun x =>
        { x with parked := true, parkDue := false, wr := true, ovr := x.ovr || x.wr, frames := inc32 x.frames, out := false }))
        c) c 3))))

/-- A channel's event and trigger (R95, R98, R109): the event is raised once in a cycle, with the selected conditions and with OVR and
FRAMES as the cycle leaves them, and not where EV_MASK selects none; a trigger of the selected condition enters the delay line to be delivered TRIG_DELAY ticks
later, and where the line holds 4 it is dropped with EV136. -/
def Claims.TimerEventsAndTriggers : Prop :=
  ∀ (s : State) (c : Fin 32) (conds cond : Nat),
    (conds &&& (tcCfgN s c 7 % 8) = 0 → tcEvent conds s c = s) ∧
    (conds &&& (tcCfgN s c 7 % 8) ≠ 0 → s.tu.tcs[c].evSt ≠ some (now s) →
      tcEvent conds s c = raise (modTc s c (fun x => { x with evSt := some (now s) })) (96 + c.val)
        ((conds &&& (tcCfgN s c 7 % 8)) + 8 * b2n (tcOvrAfter s c)) (tcFramesAfter s c)) ∧
    (tcCfgN s c 8 ≠ cond → tcTrigger s c cond = s) ∧
    (tcCfgN s c 8 = cond → s.tu.tcs[c].delay.length < 4 →
      tcTrigger s c cond = modTc s c (fun x => { x with delay := x.delay ++ [now s + tcCfgN s c 9] })) ∧
    (tcCfgN s c 8 = cond → 4 ≤ s.tu.tcs[c].delay.length →
      (tcTrigger s c cond).rm.raised = s.rm.raised ++ [⟨136, wrap 32 c.val, wrap 32 (s.tu.tcs[c].drops + 1)⟩])

/-- TRIG_DELIVER, GIO_CONTENTION and the flags (R10, R97, R98): a trigger leaves the delay line exactly in its cycle and reaches the
Sense Engine as trigger source 0x10 + channel; a pin in contention, its driven level having stood for 20 cycles, becomes an input, its channel's OUT_GIO 0xFF, with EV139; ones
written to FLAGS clear the flags they name and nothing else. -/
def Claims.TimerDeliveries : Prop :=
  ∀ (s : State),
    (∀ (c : Fin 32), controlLive s = true → now s ∈ s.tu.tcs[c].delay →
      exec (.trigDeliver c) s = .next (finish s
        (seTrigger (modTc s c (fun x => { x with delay := x.delay.erase (now s) })) (0x10 + c.val)))) ∧
    (∀ (c : Fin 32), now s ∉ s.tu.tcs[c].delay → exec (.trigDeliver c) s = .next (finish s s)) ∧
    (∀ (pin : Fin 16) (c : Fin 32), controlLive s = true → gioDriver s pin.val = some c →
      gioChange s pin.val (gioDriven s c) + 20 ≤ now s →
      ∃ v, exec (.gioContention pin) s = .next (finish s (raise v 139 pin.val (b2n (gioDriven s c) + 256 * c.val))) ∧
        v = { setObj s (0x2210 + c.val) 11 0xFF with tu := { s.tu with
          gioIn := (if gioDriven s c then clrBit s.tu.gioIn pin.val else setBit s.tu.gioIn pin.val) } }) ∧
    (∀ (p : Path) (c : Fin 32) (v : Nat), v < 256 → 16 ≤ c.val → Passes s p (okey (0x2210 + c.val) 12) v →
      exec (.flagsW1cWrite p (.tc c) v) s = .next (finish s (taken (modTc (touch s p) c (fun x =>
        { x with ma := x.ma && !bit v 0, mb := x.mb && !bit v 1, wr := x.wr && !bit v 2, ovr := x.ovr && !bit v 3 }))
        p (okey (0x2210 + c.val) 12)))) ∧
    (∀ (p : Path) (m : Fin 8) (v : Nat), v < 256 → Passes s p (okey (0x2240 + m.val) 8) v →
      exec (.flagsW1cWrite p (.cap m) v) s = .next (finish s (taken (modCap (touch s p) m (fun x =>
        { x with new := x.new && !bit v 0, ovr := x.ovr && !bit v 1 })) p (okey (0x2240 + m.val) 8))))

/-- CAPTURE_ACCEPT (R104, R105): at a sample cycle of an enabled capture, FILT_N samples having shown it, a new level is taken; a transition of a polarity that is
not selected does no more, one before the PRESC-th advances the prescaler, and the PRESC-th captures ST, sets NEW (and OVR where
NEW was set) and counts CAP_COUNT. The debugger's halt and resume of the application core (R102): FRZ channels stand while
it is halted, and the ticks of the halt do not count for the watchdog (R500). -/
def Claims.CapturesAndHalt : Prop :=
  ∀ (s : State), controlLive s = true →
    (∀ (m : Fin 8) (lvl : Bool) (u : State), capCfg s m 1 = 1 → capMay s m = true → s.tu.caps[m].level ≠ lvl →
      u = takeFree (modCap { s with tu := { s.tu with gioIn :=
        (if lvl then setBit s.tu.gioIn (capCfg s m 2) else clrBit s.tu.gioIn (capCfg s m 2)) } } m (fun x =>
          { x with level := lvl, firstSt := now s + 1, run := 0, pinSt := capPinSt s m lvl })) →
      (capCfg s m 3 = 1 → lvl = false → exec (.captureAccept m lvl) s = .next (finish s u)) ∧
      (capCfg s m 3 = 2 → lvl = true → exec (.captureAccept m lvl) s = .next (finish s u)) ∧
      (capCfg s m 3 = 3 → s.tu.caps[m].presc + 1 < capCfg s m 6 →
        exec (.captureAccept m lvl) s = .next (finish s (modCap u m (fun x => { x with presc := x.presc + 1 })))) ∧
      (capCfg s m 3 = 3 → capCfg s m 6 ≤ s.tu.caps[m].presc + 1 → capCfg s m 10 = 0 → s.tu.caps[m].tookSt ≠ some (now s) →
        exec (.captureAccept m lvl) s = .next (finish s (modCap u m (fun x =>
          { x with presc := 0, capSt := now s, ovr := x.ovr || x.new, new := true, count := inc32 x.count,
                   tookSt := some (now s) }))))) ∧
    (s.boot.debugOn = true → s.app.state = 2 → s.tu.halted = false →
      exec .debugHalt s = .next (finish s (modApp { s with tu := { s.tu with halted := true } } (fun a => { a with haltSt := now s })))) ∧
    (s.boot.debugOn = true → s.tu.halted = true →
      exec .debugResume s = .next (finish s (modApp { s with tu := { s.tu with halted := false } }
        (fun a => { a with haltTicks := a.haltTicks + (now s - a.haltSt) })))) ∧
    (∀ (m : Fin 8), (gioDriver s (capCfg s m 2)).isSome = true →
      (capMay s m = true ↔ now s % capCfg s m 5 = 0 ∧ s.tu.caps[m].run = capCfg s m 4)) ∧
    (∀ c : Fin 32, s.tu.halted = true → tcCfg s c 10 ≠ 0 →
      (tcTick s c).tu.tcs[c].slip = wrap 64 (s.tu.tcs[c].slip + 1) ∧ (tcTick s c).tu.tcs[c].k = s.tu.tcs[c].k ∧
      (tcTick s c).tu.tcs[c].out = s.tu.tcs[c].out ∧ (tcTick s c).tu.tcs[c].parked = s.tu.tcs[c].parked)

/-! Heads, dot energy and the resistance measurement (R111–R122, R132, R142–R150, R161). -/

/-- HEAD_ID_CHECK (R112): R_ID takes the measured resistance; with the port enabled, one inside ID_MIN and
ID_MAX makes the port READY, above 24 000 Ω ABSENT and outside the limits ID_MISMATCH, each with its event on a change into it,
and a port that is not READY stops its line; a result that the Sense Engine discards changes nothing (R302, R303). -/
def Claims.HeadIdentification : Prop :=
  ∀ (s : State) (h : Fin 2) (r : Nat), controlLive s = true →
    (sysReads s = false → exec (.headIdCheck h r) s = .next (finish s s)) ∧
    (sysReads s = true → headCfg s h 1 = 0 →
      exec (.headIdCheck h r) s = .next (finish s (modHead s h (fun x => { x with rId := wrap 32 r })))) ∧
    (sysReads s = true → headCfg s h 1 ≠ 0 → r ≤ 24000 → headCfg s h 15 ≤ r → r ≤ headCfg s h 16 →
      exec (.headIdCheck h r) s = .next (finish s (modHead s h (fun x => { x with rId := wrap 32 r, state := 1 })))) ∧
    (sysReads s = true → headCfg s h 1 ≠ 0 → 24000 < r → s.heads[h].state ≠ 3 →
      exec (.headIdCheck h r) s = .next (finish s (raise (cutTrain (modHead s h (fun x =>
        { x with rId := wrap 32 r, state := 3 })) h) 144 (headBit h) r))) ∧
    (sysReads s = true → headCfg s h 1 ≠ 0 → r ≤ 24000 → r < headCfg s h 15 ∨ headCfg s h 16 < r → s.heads[h].state ≠ 4 →
      exec (.headIdCheck h r) s = .next (finish s (raise (cutTrain (modHead s h (fun x =>
        { x with rId := wrap 32 r, state := 4 })) h) 145 (headBit h) r)))

/-- A line's train (R120, R121, R132, R138a, R146): the first strobe of a latched line commits it and the next lines are rehearsed; where
the head's strobes are held off, or its thermistor has failed, the line is suppressed and counted instead, white in the history; after
the last strobe of the last slice the train ends, its length is recorded, the line's dots enter the history and the thermal model is
updated. -/
def Claims.LineTrains : Prop :=
  ∀ (s : State) (h : Fin 2) (t : Train), controlLive s = true → s.heads[h].train = some t →
    (t.committed = false → t.issues ≠ [] → t.firstStb ≤ now s → s.en[h].thermFault = false → strobesHeld s h = false →
      exec (.lineCommit h) s = .next (finish s (rehearse (commitLine (modHead s h (fun x => { x with
        train := some { t with committed := true, splits := 0, splitEv := decide (0 < t.splits), cutBy := none } })) h t) h))) ∧
    (t.committed = false → t.issues ≠ [] → t.firstStb ≤ now s → s.en[h].thermFault = false → strobesHeld s h = true →
      exec (.lineCommit h) s = .next (finish s (suppressTrain s h t true))) ∧
    (t.committed = false → t.issues ≠ [] → t.firstStb ≤ now s → s.en[h].thermFault = true →
      exec (.lineCommit h) s = .next (finish s (suppressTrain s h t false))) ∧
    (t.committed = true → t.todo = [] → t.issues ≠ [] → issuesEnd t.issues (now s) ≤ now s →
      exec (.sliceTrainEnd h) s = .next (finish s (endTrain s h t (issuesEnd t.issues (now s))))) ∧
    (∀ ev, t.entered = false →
      (suppressTrain s h t ev).heads[h].train = none ∧ (suppressTrain s h t ev).heads[h].suppressed = inc32 s.heads[h].suppressed ∧
      (suppressTrain s h t ev).en[h].hist = histPush s.en[h].hist 0) ∧
    (∀ fin, t.entered = false → s.en[h].thermFault = true → t.period = none →
      (endTrain s h t fin).heads[h].train = none ∧ (endTrain s h t fin).en[h].hist = histPush s.en[h].hist t.lc.dots ∧
      (endTrain s h t fin).en[h].stLast = now s)

/-- RASTER_FLUSH that passes (R118): each head in the mask keeps only the lines that one of its ARMED or ACTIVE jobs binds, and
its RSN series starts again at 0; the other head keeps its store. -/
def Claims.RasterFlushes : Prop :=
  ∀ (s : State) (p : Path),
    (Passes s p (okey 0x2320 8) 1 →
      exec (.rasterFlush p 1) s = .next (finish s (taken (rasterFlush (touch s p) 0) p (okey 0x2320 8)))) ∧
    (Passes s p (okey 0x2320 8) 2 →
      exec (.rasterFlush p 2) s = .next (finish s (taken (rasterFlush (touch s p) 1) p (okey 0x2320 8)))) ∧
    (Passes s p (okey 0x2320 8) 3 →
      exec (.rasterFlush p 3) s = .next (finish s (taken (rasterFlush (rasterFlush (touch s p) 0) 1) p (okey 0x2320 8)))) ∧
    (∀ (h : Fin 2) (l : RasterLine), l ∈ (rasterFlush s h).heads[h].store ↔ l ∈ s.heads[h].store ∧
      ∃ e : Fin 64, e ∈ jobsOfKind s (h.val + 1) ∧ jobLive s.ledger.jobs[e] = true ∧ jobBinds s.ledger.jobs[e] l.rsn = true) ∧
    (∀ h : Fin 2, (rasterFlush s h).heads[h].nextRsn = 0 ∧ (rasterFlush s h).heads[1 - h].store = s.heads[1 - h].store)

/-- RECOMPUTE_LATCH, THERM_READ and MODEL_UPDATE (R142, R143, R145, R146, R161, R185): a recomputed line is latched once the register is
reloaded and the strobes before it have ended, the lines after it are rehearsed again, and the Speed Governor is told; a thermistor
code outside 16 to 4080 is a fault with EV165 that cuts the head's strobes, and one inside becomes T_THERM; the thermal model takes a step of what has passed since the
last, and T_HEAD follows it. -/
def Claims.HeadTemperature : Prop :=
  ∀ (s : State) (h : Fin 2), controlLive s = true →
    (∀ r, s.heads[h].recomp = some r → recomputeFrom s h r ≤ now s → now s ≤ r.startSt + 8000 → s.heads[h].train = none →
      lcSlots r.lc ≠ [] → ∃ (t : Train) (v : State),
      exec (.recomputeLatch h) s = .next (finish s (govRecompute (rehearseAgain v h r.vh) h)) ∧
      v.heads[h].train = some t ∧ v.heads[h].recomp = none ∧ t.rsn = r.rsn ∧ t.index = r.index ∧ t.vh = s.vl[h].sensed ∧
      t.recomputed = some (r.failed, now s - r.startSt) ∧ t.committed = false) ∧
    (∀ r, s.heads[h].recomp = some r → now s < recomputeFrom s h r → exec (.recomputeLatch h) s = .next (finish s s)) ∧
    (∀ code, sysReads s = true → (code < 16 ∨ 4080 < code) → s.en[h].thermFault = false →
      exec (.thermRead h code) s = .next (finish s (raise (cutStrobes (modEn s h (fun e =>
        { e with thermFault := true, thermGood := 0 })) h) 165 (headBit h) code))) ∧
    (∀ code, sysReads s = true → 16 ≤ code → code ≤ 4080 → s.en[h].thermFault = false →
      exec (.thermRead h code) s = .next (finish s (modEn s h (fun e =>
        { e with tTherm := thermConvert s h code, thermGood := 0, thermFault := false })))) ∧
    (s.heads[h].train = none → s.en[h].stLast + 200000 ≤ now s → s.en[h].thermFault = true →
      exec (.modelUpdate h) s = .next (finish s (modEn s h (fun e => { e with stLast := now s })))) ∧
    (∀ t1, s.heads[h].train = none → s.en[h].stLast + 200000 ≤ now s → s.en[h].thermFault = false →
      t1 = modelStep s h s.en[h].tInt (firedEnergy s h 0 0) ((now s : Int) - s.en[h].stLast) →
      headTemp t1 - s.en[h].tTherm ≤ enCfg s h 10 → s.en[h].tTherm - headTemp t1 ≤ enCfg s h 10 →
      headTemp t1 < enCfg s h 11 →
      exec (.modelUpdate h) s = .next (finish s (modEn s h (fun e =>
        { e with tInt := t1, tHead := headTemp t1, stLast := now s,
                 hot := (if headTemp t1 ≤ enCfg s h 11 - 80 then false else e.hot) }))))

/-- The in-situ resistance measurement (R147, R149, R150). MEAS_CMD 1 that passes starts it in SERVICE with the port READY and no
job of the head ARMED or ACTIVE, and is else refused with WRONG_MODE; MEAS_CMD 2 aborts it with EV172, cause 1 and the dot being
measured; when all dots are measured MEAS_STATE reads 2, one free value a dot having been taken for its trim, and the heads and the dot energy units are left alone. -/
def Claims.ResistanceMeasurement : Prop :=
  ∀ (s : State) (h : Fin 2),
    (∀ (p : Path) (raws : List Nat), Passes s p (okey (0x2403 + 16 * h.val) 1) 1 → measAllowed s h = true → capRuns s = false →
      exec (.measStart p h raws) s = .next (finish s (taken (modVl (touch s p) h (fun v =>
        { v with measState := 1, measDot := 0, measSt := now s, measW := objN s (0x2403 + 16 * h.val) 2,
                 measRep := objN s (0x2403 + 16 * h.val) 3, dvMean := 0, openCount := 0, highCount := 0, target := vlCfg s h 5,
                 gathered := [] })) p (okey (0x2403 + 16 * h.val) 1)))) ∧
    (∀ (p : Path) (raws : List Nat), Passes s p (okey (0x2403 + 16 * h.val) 1) 1 → measAllowed s h = false →
      exec (.measStart p h raws) s = .next (finish s (turnedAway s p 0x24))) ∧
    (measAllowed s h = true ↔ s.md.mode = .service ∧ s.heads[h].state = 1 ∧ s.heads[h].train = none ∧
      ∀ e ∈ jobsOfKind s (h.val + 1), jobLive s.ledger.jobs[e] = false) ∧
    (∀ p : Path, Passes s p (okey (0x2403 + 16 * h.val) 1) 2 → s.vl[h].measState = 1 →
      exec (.measAbort p h) s = .next (finish s (taken (raise (modVl (touch s p) h (fun v =>
        { v with measState := 3, measDot := measDotNow s h })) 172 (headBit h + 1) (measDotNow s h)) p (okey (0x2403 + 16 * h.val) 1)))) ∧
    (∀ dvs : List Nat, controlLive s = true → measOver s h = false → exec (.measDone h dvs) s = .next (finish s s)) ∧
    (∀ dvs : List Nat, controlLive s = true → s.vl[h].measState = 1 →
      s.vl[h].measSt + headDots s h * (max 1 s.vl[h].measRep * measPulse s h) ≤ now s →
      ∃ u, exec (.measDone h dvs) s = .next (finish s u) ∧ u.vl[h].measState = 2 ∧ u.vl[h].measDot = headDots s h - 1 ∧
        u.free = s.free + headDots s h ∧ u.heads = s.heads ∧ u.en = s.en)

/-! Media index, paper supply and media halts (R169–R182). -/

/-- MEDIA_SAMPLE and SUPPLY_SAMPLE (R169, R170): every grid position that the media lane crosses in a cycle is sampled once, in the order
of the travel, and each OPT channel with a role takes its code; a cycle without a crossing takes none; with the lane stopped the supply
channels are sampled, 1 ms after the last time at the soonest. -/
def Claims.MediaSampling : Prop :=
  ∀ (s : State) (codes : List Nat), controlLive s = true → ledsOn s = true → sysReads s = true →
    (gridCrossed s ≠ [] → s.media.sampleSt ≠ some (now s) →
      exec (.mediaSample codes) s = .next (finish s (applyAll (gridSample codes)
        (modMedia s (fun m => { m with sampleSt := some (now s) })) ((upto (gridCrossed s).length).zip (gridCrossed s))))) ∧
    (gridCrossed s = [] → exec (.mediaSample codes) s = .next (finish s s)) ∧
    (s.media.sampleSt = some (now s) → exec (.mediaSample codes) s = .next (finish s s)) ∧
    (laneStopped s (mediaLane s) = true → (∀ t, s.supply.stoppedSt = some t → t + 200000 ≤ now s) →
      exec (.supplySample codes) s = .next (finish s (applyAll (stoppedChannel codes)
        { s with supply := { s.supply with stoppedSt := some (now s) } } (allFin 8)))) ∧
    (∀ t, s.supply.stoppedSt = some t → now s < t + 200000 → exec (.supplySample codes) s = .next (finish s s)) ∧
    (∀ q (n : Fin 8), optCfg s n.val 1 = 1 → classifies s n.val = false → supplies s n.val = true → optCfg s n.val 3 = 0 →
      gridChannel q codes s n = supplySample (modOpt (optAsk s n.val) n (fun o => { o with lastCode := codes.getD n.val 0 })) n.val
        (codes.getD n.val 0)) ∧
    (∀ q (n : Fin 8), classifies s n.val = false → supplies s n.val = false → gridChannel q codes s n = s)

/-- The grid positions of a cycle are exactly the multiples of SAMPLE_PITCH between the media lane's previous and present positions, the
present one included, however many the lane has spanned, and each is taken once (R55, R169). -/
def Claims.GridCrossing : Prop :=
  ∀ (s : State), 0 < mediaCfg s 5 → laneSource s (mediaLane s) ≠ 0 →
    (∀ q, q ∈ gridCrossed s ↔ mediaCfg s 5 ∣ q ∧
      ((s.msu.lanes[mediaLane s].prev < q ∧ q ≤ s.msu.lanes[mediaLane s].pos) ∨
       (q < s.msu.lanes[mediaLane s].prev ∧ s.msu.lanes[mediaLane s].pos ≤ q))) ∧
    (gridCrossed s).Nodup

/-- A confirmed index in SYNC with no candidate left behind (R177, R178): inside the window it raises EV208 with the slip, which
begins to be spread after the frame correction has taken in the last one, and resets the run of missing labels; before the
window it is, with SHORT_ACTION 0, a short label with EV209 and nothing more. Outside SYNC an index gives SYNC. -/
def Claims.IndexJudged : Prop :=
  ∀ (s : State) (x p : Int), s.media.cand = none →
    (s.media.indexState = 1 →
      indexConfirm s x p = cutAuto (modMedia s (fun m => { m with xLast := x, indexState := 2 }))) ∧
    (s.media.indexState = 2 → mediaExpected s - mediaCfg s 7 ≤ x → x ≤ mediaExpected s + mediaCfg s 7 →
      indexConfirm s x p = cutAuto (raise (modMedia s (fun m =>
        { m with lastSlip := x - mediaExpected s, slipCount := inc32 m.slipCount, frameCorr := m.frameCorr + m.slip,
                 slip := x - mediaExpected s, slipMax := 0, slipFrom := p + mediaCfg s 18, xLast := x, missingRun := 0 }))
        208 (w32 x) (w32 (x - mediaExpected s)))) ∧
    (s.media.indexState = 2 → x < mediaExpected s - mediaCfg s 7 → 0 ≤ mediaCfg s 7 → mediaCfg s 15 = 0 →
      indexConfirm s x p = cutAuto (raise (modMedia s (fun m =>
        { m with shortCount := inc16 m.shortCount, xLast := x, missingRun := 0 })) 209 (w32 x) (w32 (mediaExpected s - x))))

/-- LABEL_MISSING, OUT_RESERVE_REACHED and GOV_RELEASE (R179, R181, R182): a label missed within the allowed run is counted, dead
reckoned and reported by EV210, and one more than that leaves SYNC with EV211 and a media halt; the reserve travelled after
paper-out halts the media; GOV_RELEASE ends the governor's media halt. -/
def Claims.MediaHaltsAndReleases : Prop :=
  ∀ (s : State),
    (controlLive s = true → labelPassed s = true → ((inc8 s.media.missingRun : Nat) : Int) ≤ mediaCfg s 16 →
      exec .labelMissing s = .next (finish s (cutAuto (raise (modMedia s (fun m =>
        { m with missingRun := inc8 m.missingRun, missingCount := inc16 m.missingCount, xLast := mediaExpected s }))
        210 (w32 (mediaExpected s)) (inc8 s.media.missingRun))))) ∧
    (controlLive s = true → labelPassed s = true → mediaCfg s 16 < ((inc8 s.media.missingRun : Nat) : Int) →
      exec .labelMissing s = .next (finish s (mediaHalt (raise (modMedia s (fun m =>
        { m with missingRun := inc8 m.missingRun, missingCount := inc16 m.missingCount, indexState := 1 }))
        211 (w32 (mediaExpected s)) (inc8 s.media.missingRun)) 2))) ∧
    (∀ q, controlLive s = true → s.supply.reserveFrom = some q →
      q + obj s 0x2510 7 ≤ s.msu.lanes[mediaLane s].pos ∨ laneStopped s (mediaLane s) = true →
      exec .outReserveReached s = .next (finish s (mediaHalt { s with supply := { s.supply with reserveFrom := none } } 3))) ∧
    (∀ (p : Path) (g : Fin 2), Passes s p (okey (0x2520 + 8 * g.val) 5) 1 →
      exec (.govRelease p g) s = .next (finish s (taken (govRelease (touch s p) g) p (okey (0x2520 + 8 * g.val) 5))) ∧
      (govRelease s g).govs[g].halted = 0)

/-! The motion axes (R199–R207, R217–R224, R317, R465). -/

/-- GO, GO_ALT, STOP and QSTOP are delivered to the next servo boundary (R202): with none waiting the command waits with its cycle
and its source; one of lower rank that waits is replaced, and one of higher rank stays. -/
def Claims.AxisCommandsWait : Prop :=
  ∀ (s : State) (n : Fin 4),
    (controlLive s = true → s.axes[n].pend = none →
      exec (.axGo n) s = .next (finish s (modAxis s n (fun x => { x with pend := some .go, pendSt := now s, pendWm := false }))) ∧
      exec (.axGoAlt n) s = .next (finish s (modAxis s n (fun x => { x with pend := some .goAlt, pendSt := now s, pendWm := false }))) ∧
      exec (.axStop n) s = .next (finish s (modAxis s n (fun x => { x with pend := some .stop, pendSt := now s, pendWm := false }))) ∧
      exec (.axQstop n) s = .next (finish s (modAxis s n (fun x => { x with pend := some .qstop, pendSt := now s, pendWm := false })))) ∧
    (∀ q c, s.axes[n].pend = some q → axRank c < axRank q → axDeliver s n c false = s) ∧
    (∀ q c, s.axes[n].pend = some q → axRank q < axRank c →
      axDeliver s n c false = modAxis s n (fun x => { x with pend := some c, pendSt := now s, pendWm := false })) ∧
    (axRank .go = axRank .goAlt ∧ axRank .go < axRank .stop ∧ axRank .stop < axRank .qstop)

/-- SERVO_BOUNDARY at a multiple of 5000 ticks (R199): the rails are read and the Tollgate takes the power of the period, then the two
governors, then the four axes, then the HYBRID corrections; at no other cycle is there a boundary, and in one cycle there is one. -/
def Claims.ServoBoundaries : Prop :=
  ∀ (s : State) (rails : List Nat) (i p : Nat),
    (controlLive s = true → now s % 5000 = 0 → (∀ t, s.pw.servoSt = some t → t + 5000 ≤ now s) →
      exec (.servoBoundary rails i p) s = .next (finish s (recharge (applyAll hybridCorrect (applyAll axisTurn
        (govUpdate (govUpdate (tollgate (railsRead (modPw s (fun w => { w with servoSt := some (now s) })) rails i p) p) 0) 1)
        (allFin 4)) (allFin 4))))) ∧
    (s.pw.servoSt = some (now s) → exec (.servoBoundary rails i p) s = .next (finish s s)) ∧
    (now s % 5000 ≠ 0 → exec (.servoBoundary rails i p) s = .next (finish s s))

/-- The Tollgate's bucket stays between empty and (P_PEAK − P_CONT) × 1000, and with a bucket of some size the allowance stays
between P_CONT and P_PEAK, whatever power is read (R465). -/
def Claims.TollgateBounds : Prop :=
  ∀ (s : State) (p : Nat),
    (objN s 0x2D02 2 ≤ objN s 0x2D02 3 →
      (tollgate s p).tg.bucket ≤ (objN s 0x2D02 3 - objN s 0x2D02 2) * 1000) ∧
    (objN s 0x2D02 2 < objN s 0x2D02 3 →
      objN s 0x2D02 2 ≤ (tollgate s p).tg.allow ∧ (tollgate s p).tg.allow ≤ objN s 0x2D02 3)

/-- What an axis takes at a boundary (R203, R205, R207): an accepted GO or GO_ALT fixes the microstep target of its value and begins a
move, of the KIND that now takes effect (R212), a velocity move keeping its direction (R206); a refused one raises EV241 with its reason
and STATE as it reads, and moves nothing (R230); STOP and QSTOP of an axis that moves are noted, QSTOP staying
in force over a later STOP. -/
def Claims.AxisMovesBegin : Prop :=
  ∀ (s : State) (n : Fin 4),
    (∀ alt, goReason s n = 0 → axCfg s n 2 3 ≠ 1 →
      (axGo s n alt).axes[n].sT = axTarget s n (axCfg s n 2 (if alt then 2 else 1)) ∧ (axGo s n alt).axes[n].moving = true ∧
      (axGo s n alt).axes[n].state = 2 ∧ (axGo s n alt).axes[n].stop = none ∧ (axGo s n alt).axes[n].x = s.axes[n].x ∧
      (axGo s n alt).axes[n].v = s.axes[n].v ∧ (axGo s n alt).axes[n].atTarget = false ∧
      (axGo s n alt).axes[n].velMove = false ∧ (axGo s n alt).axes[n].kind = axCfgN s n 1 1) ∧
    (∀ alt, goReason s n = 0 → axCfg s n 2 3 = 1 →
      (axGo s n alt).axes[n].velMove = true ∧ (axGo s n alt).axes[n].velDir = sgn (axCfg s n 2 (if alt then 2 else 1)) ∧
      (axGo s n alt).axes[n].moving = true ∧ (axGo s n alt).axes[n].sT = s.axes[n].sT) ∧
    (∀ alt r, goReason s n = r → r ≠ 0 → axGo s n alt = raise s 241 (n.val + 256 * r) (axState s n)) ∧
    (s.axes[n].moving = true → s.axes[n].stop = none → s.axes[n].state = 2 →
      axStop s n .stop = modAxis s n (fun x => { x with stop := some .stop, state := 3 })) ∧
    (s.axes[n].stop = some .qstop → axStop s n .stop = s) ∧
    (s.axes[n].moving = false → s.axes[n].v = 0 → s.axes[n].a = 0 → axStop s n .qstop = s)

/-- What happens to an axis between boundaries (R217, R218, R222, R223, R224, R317): a pending changeover of regulation takes place when
a multiple of 128 is reached; at rest for IDLE_DELAY the axis enters its STILL choice; a short of an axis with switches on stops and
freezes it in FAULT, every switch off, with EV249 and its documents jam; AX_CLEAR that passes clears STALL and SHORT and re-energises it,
and is refused with RANGE while a comparator is asserted; an open load whose target exceeds a quarter of I_pk is reported once; the
system temperatures are published. -/
def Claims.AxisEvents : Prop :=
  ∀ (s : State) (n : Fin 4),
    (∀ met, controlLive s = true → s.axes[n].regAt = some met → met = true ∨ reach128 s.axes[n].sp0 (axisMicrostep s n) = true →
      exec (.regChangeover n) s = .next (finish s (modAxis s n (fun x => { x with strong := !x.strong, regAt := none })))) ∧
    (controlLive s = true → s.axes[n].regAt = some false → reach128 s.axes[n].sp0 (axisMicrostep s n) = false →
      exec (.regChangeover n) s = .next (finish s s)) ∧
    (∀ a b : Int, reach128 a b = true ↔ (∃ m, 128 ∣ m ∧ a < m ∧ m ≤ b) ∨ (∃ m, 128 ∣ m ∧ b ≤ m ∧ m < a)) ∧
    (∀ t, controlLive s = true → s.axes[n].restSt = some t → axEnergised s n = true → t + axCfgN s n 0 12 ≤ now s →
      exec (.axStandstill n) s = .next (finish s (modAxis s n (enterStill s n))) ∧
      (enterStill s n s.axes[n]).stillMode = axCfgN s n 0 11 + 1) ∧
    (∀ phase kind, axConducts s n = true →
      exec (.axShort n phase kind) s = .next (finish s (jamAxis (raise (modAxis s n (fun x =>
        { axFreeze x with short := true, state := 5, stillMode := 2 })) 249 (n.val + 256 * phase + 4096 * kind)
        (w32 s.axes[n].sp)) n))) ∧
    (∀ p, Passes s p (okey (0x2608 + n.val) 5) 1 →
      exec (.axClear p n false) s = .next (finish s (taken (modAxis (stallRetake (touch s p) n) n (fun x =>
        { (if x.state = 5 then axReenergise (touch s p) n x else x) with
          stall := false, short := false, stallHeld := false, stalling := false,
          state := (if x.state = 4 || x.state = 5 then 1 else x.state) }))
        p (okey (0x2608 + n.val) 5))) ∧
      exec (.axClear p n true) s = .next (finish s (turnedAway s p 0x23))) ∧
    (∀ phase, controlLive s = true → axEnergised s n = true → s.axes[n].strong = true → s.axes[n].openLoad = false →
      axPeak s n < 4 * (coilTarget s n (Fin.ofNat 2 phase)).natAbs →
      exec (.axOpenLoad n phase) s = .next (finish s (raise (modAxis s n (fun x => { x with openLoad := true })) 250
        (n.val + 256 * phase) (axPeak s n)))) ∧
    (∀ values, sysReads s = true →
      exec (.sysTempRead values) s = .next (finish s (applyAll axTempRead (sysTemps s values) (allFin 4))))

/-! Document imaging (R235–R255). -/

/-- IMG_TRAIN_END and IMG_WITHDRAWN (R235, R254–R256): when the first train has ended, the line whose train ran and the copies that wait
for it are processed in order, and LAST_TRAIN takes its own length; a lane that has turned and come back past line 0 withdraws the
document: that is a trigger of reason 2, and at the end of the cycle the first trigger in R256's order retracts the document. -/
def Claims.ImageLines : Prop :=
  ∀ (s : State) (p : Fin 2), controlLive s = true →
    (∀ raw t r f, s.img.ports[p].trains = t :: r → t.fin = some f → f ≤ now s →
      exec (.imgTrainEnd p raw) s = .next (finish s (applyAll (processLine raw p)
        (modPort s p (fun o => { o with trains := r, lastTrain := f - t.start })) t.lines))) ∧
    (∀ raw t r f, s.img.ports[p].trains = t :: r → t.fin = some f → now s < f →
      exec (.imgTrainEnd p raw) s = .next (finish s s)) ∧
    (∀ d q, s.img.ports[p].cur = some d → d.p0 = some q → d.ending = false →
      s.msu.lanes[Fin.ofNat 4 (imgCfg s p 4 / 4)].dir ≠ .none → s.msu.lanes[Fin.ofNat 4 (imgCfg s p 4 / 4)].dir ≠ d.dir →
      docSign d * (s.msu.lanes[Fin.ofNat 4 (imgCfg s p 4 / 4)].pos - q) < 0 →
      exec (.imgWithdrawn p) s = .next (finish s (modPort s p (fun x => { x with trig := firstReason 2 x.trig })))) ∧
    (∀ d r, s.img.ports[p].cur = some d → d.ending = false → s.img.ports[p].trig = some r → s.img.ports[p].late = none →
      portEnd s p = retract (modPort s p (fun x =>
        { x with trig := none, late := none, endReq := false, finalReq := false })) p r) ∧
    (∀ a b, firstReason a (some b) = some (min a b))

/-- LINE_FINAL and DOC_END with STREAM_MODE 0 (R250, R253, R254, R256): both are decided as the cycle ends, after any retraction of it.
There FINAL_MARK rises to the last line before which every line is CONFIRM_DIST behind the lane, a CONFIRM is made where it has risen
by CONFIRM_EVERY, and once the job has left ACTIVE and its last train has ended every line is final and the document closes with
DOC_END. -/
def Claims.ImageDocuments : Prop :=
  ∀ (s : State) (p : Fin 2) (d : ImgDoc), s.img.ports[p].cur = some d →
    (controlLive s = true → exec (.lineFinal p) s = .next (finish s (modPort s p (fun x => { x with finalReq := true })))) ∧
    (controlLive s = true → d.ending = true → s.img.ports[p].trains = [] →
      exec (.docEnd p) s = .next (finish s (modPort s p (fun x => { x with endReq := true })))) ∧
    (controlLive s = true → d.ending = false → exec (.docEnd p) s = .next (finish s s)) ∧
    (d.ending = false → s.img.ports[p].trig = none → s.img.ports[p].endReq = false → s.img.ports[p].finalReq = true →
      portEnd s p = lineFinalNow (modPort s p (fun x =>
        { x with trig := none, late := none, endReq := false, finalReq := false })) p) ∧
    (∀ v, d.mode = 0 → (imgCfg s p 10 : Int) ≤ finalNow s p d - d.confirmAt → d.confirmAt < finalNow s p d →
      makeRoom (modPort s p (fun x => { x with finalMark := finalNow s p d })) p d.key 16 = some v →
      lineFinalNow s p = pushRec (modPort v p (fun x => { x with cur := some { d with confirmAt := finalNow s p d } })) d.key
        (recHeader 3 p.val s.img.ports[p].doc 0 (finalNow s p d).toNat 0) false) ∧
    (d.mode = 0 → finalNow s p d - d.confirmAt < imgCfg s p 10 →
      lineFinalNow s p = modPort s p (fun x => { x with finalMark := finalNow s p d })) ∧
    (d.mode = 0 → ∃ d2 : ImgDoc, d2.flags = d.flags ∧ d2.kept = d.kept ∧
      docEndNow s p d = docClose (modPort (if p = 1 then readbackEnd s else s) p (fun x =>
        { x with finalMark := max x.finalMark d.maxLsn })) p d2 d2.flags d2.kept) ∧
    (s.img.ports[p].finalMark ≤ finalNow s p d)

/-- CAL_CMD that passes (R241, R244): 1 and 2 start a black or white capture of CAL_LINES lines in RUN or SERVICE with no job of the
port ARMED or ACTIVE, and are else refused with WRONG_MODE; 3 and 4 are kept for the port's next document. Each internal
trigger, 40 000 ticks after the one before, adds a line to the sums, in RUN and SERVICE only (R236). -/
def Claims.Calibration : Prop :=
  ∀ (s : State) (i : Fin 2),
    (∀ p : Path, (inRun s && !(jobsOfKind s (i.val + 3)).any (fun e => jobLive s.ledger.jobs[e])) = true →
      (Passes s p (okey (0x2704 + 16 * i.val) 4) 1 →
        exec (.calBlack p i) s = .next (finish s (taken (modPort (touch s p) i (fun x =>
          { x with calCmd := 1, calState := 1, calLeft := shCfg s i 5, calN := shCfg s i 5, calAt := now s,
                   calSlots := slotList s i, calSum := [] })) p (okey (0x2704 + 16 * i.val) 4)))) ∧
      (Passes s p (okey (0x2704 + 16 * i.val) 4) 2 →
        exec (.calWhite p i) s = .next (finish s (taken (modPort (touch s p) i (fun x =>
          { x with calCmd := 2, calState := 1, calLeft := shCfg s i 5, calN := shCfg s i 5, calAt := now s,
                   calSlots := slotList s i, calSum := [] })) p (okey (0x2704 + 16 * i.val) 4))))) ∧
    (∀ p : Path, (inRun s && !(jobsOfKind s (i.val + 3)).any (fun e => jobLive s.ledger.jobs[e])) = false →
      (Passes s p (okey (0x2704 + 16 * i.val) 4) 1 → exec (.calBlack p i) s = .next (finish s (turnedAway s p 0x24))) ∧
      (Passes s p (okey (0x2704 + 16 * i.val) 4) 2 → exec (.calWhite p i) s = .next (finish s (turnedAway s p 0x24)))) ∧
    (∀ p : Path, Passes s p (okey (0x2704 + 16 * i.val) 4) 3 →
      exec (.calAlign p i) s = .next (finish s (taken (modPort (touch s p) i (fun x =>
        { x with calCmd := 3, calState := 1, calDoc := false })) p (okey (0x2704 + 16 * i.val) 4)))) ∧
    (∀ p : Path, Passes s p (okey (0x2704 + 16 * i.val) 4) 4 →
      exec (.calBarEdges p i) s = .next (finish s (taken (modPort (touch s p) i (fun x =>
        { x with calCmd := 4, calState := 1, calDoc := false })) p (okey (0x2704 + 16 * i.val) 4)))) ∧
    (∀ raw, controlLive s = true → s.img.ports[i].calState = 1 → s.img.ports[i].calCmd = 1 ∨ s.img.ports[i].calCmd = 2 →
      inRun s = true → s.img.ports[i].calAt ≤ now s → now s < s.img.ports[i].calAt + 40000 →
      1 < s.img.ports[i].calLeft → s.img.ports[i].calSum = [] →
      exec (.calLineTrigger i raw) s = .next (finish s (modPort s i (fun o =>
        { o with calLeft := o.calLeft - 1, calSum := raw.map (nativeRow s i), calAt := o.calAt + 40000,
                 lit := litFrom s i s.img.ports[i].calSlots (slotTimes s i) })))) ∧
    (∀ raw, controlLive s = true → inRun s = false ∨ now s < s.img.ports[i].calAt →
      exec (.calLineTrigger i raw) s = .next (finish s s))

/-! The cutter (R187–R194). -/

/-- The cutter's drive commands complete, each with its whole effect (R187, R188): the forward drive starts at the stop point,
with EV228 and the overrun where the lane stopped past it; END and PARTIAL_T brake it; the reverse drive follows BRAKE; HOME ends
the return; BRAKE at HOME, with no cut queued, ends the cycle with EV224, CUT_COUNT and LAST_CYCLE. Nothing but the cutter and
the events raised changes. -/
def Claims.CutterDrives : Prop :=
  ∀ (s : State) (c : CutReq), controlLive s = true → s.cut.active = some c →
    (s.cut.phase = .waiting → cutAtStop s c = true → s.msu.lanes[mediaLane s].pos ≤ c.stop →
      exec .cutDriveStart s = .next (finish s (modCut s (fun x =>
        { x with state := 2, phase := .forward, phaseSt := now s, cycleSt := now s, homeSw := false })))) ∧
    (s.cut.phase = .waiting → cutAtStop s c = true → c.stop < s.msu.lanes[mediaLane s].pos →
      exec .cutDriveStart s = .next (finish s (raise (modCut s (fun x =>
        { x with state := 2, phase := .forward, phaseSt := now s, cycleSt := now s, homeSw := false }))
        228 (w32 c.stop) (wrap 32 (s.msu.lanes[mediaLane s].pos - c.stop).toNat)))) ∧
    (s.cut.phase = .forward →
      exec .cutEndReached s = .next (finish s (modCut s (fun x =>
        { x with phase := .braking, phaseSt := now s, forwardOk := true, state := 3 })))) ∧
    (s.cut.phase = .forward → c.kind = 2 → objN s 0x2540 7 ≤ now s - s.cut.phaseSt →
      exec .cutPartialEnd s = .next (finish s (modCut s (fun x =>
        { x with phase := .braking, phaseSt := now s, forwardOk := true, state := 3 })))) ∧
    (s.cut.phase = .braking → objN s 0x2540 8 ≤ now s - s.cut.phaseSt →
      exec .cutReverseDrive s = .next (finish s (modCut s (fun x => { x with phase := .returning, phaseSt := now s })))) ∧
    (s.cut.phase = .returning → s.cut.forwardOk = true →
      exec .cutHomeReached s = .next (finish s (modCut s (fun x =>
        { x with state := 0, stopSet := false, phase := .finalBrake, phaseSt := now s, homeSw := true })))) ∧
    (s.cut.phase = .finalBrake → objN s 0x2540 8 ≤ now s - s.cut.phaseSt → s.cut.queued = none →
      exec .cutDone s = .next (finish s (raise (modCut s (fun x =>
        { x with count := inc32 x.count, lastCycle := wrap 32 (now s - s.cut.cycleSt), active := none, phase := .idle }))
        224 c.kind (wrap 32 (now s - s.cut.cycleSt)))))

/-- What goes wrong with the cutter (R189, R190): END not reached in T_END brings the blade back for a retry, or ends in JAM with
EV225, JAM_COUNT and a media halt; a retry that has come home drives forward again with EV230; HOME not reached in T_HOME and an
over-current end in FAULT with EV226 or EV227 and a media halt. -/
def Claims.CutterFaults : Prop :=
  ∀ (s : State), controlLive s = true →
    (s.cut.phase = .forward → objN s 0x2540 5 ≤ now s - s.cut.phaseSt → s.cut.attempt < objN s 0x2540 9 →
      exec .cutEndTimeout s = .next (finish s (modCut s (fun x =>
        { x with phase := .braking, phaseSt := now s, forwardOk := false, state := 3 })))) ∧
    (s.cut.phase = .forward → objN s 0x2540 5 ≤ now s - s.cut.phaseSt → objN s 0x2540 9 ≤ s.cut.attempt →
      exec .cutEndTimeout s = .next (finish s (mediaHalt (raise (modCut s (fun x =>
        { x with state := 4, jams := inc16 x.jams, active := none, stopSet := false, phase := .braking, phaseSt := now s,
                 forwardOk := false })) 225 (s.cut.attempt + 1) s.cut.state) 4))) ∧
    (s.cut.phase = .returning → s.cut.active.isSome = true → s.cut.forwardOk = false →
      exec .cutHomeReached s = .next (finish s (raise (modCut s (fun x =>
        { x with state := 2, attempt := s.cut.attempt + 1, phase := .forward, phaseSt := now s })) 230 (s.cut.attempt + 1) 0))) ∧
    (s.cut.phase = .returning ∨ s.cut.phase = .homing → objN s 0x2540 6 ≤ now s - s.cut.phaseSt →
      exec .cutHomeTimeout s = .next (finish s (mediaHalt (raise (modCut s (fun x =>
        { x with state := 5, active := none, stopSet := false, phase := .idle }))
        226 (s.cut.attempt + 1) (objN s 0x2540 6)) 5))) ∧
    (cutDriven s.cut = true →
      exec .cutShort s = .next (finish s (mediaHalt (raise (modCut s (fun x =>
        { x with state := 5, active := none, stopSet := false, phase := .idle, tripped := true })) 227 s.cut.state 0) 5)))

/-- CUT_CMD and CUT_CLEAR that pass and are accepted (R187, R191, R193): with the blade at HOME, no cycle under way and the lane
not in reverse, CUT_CMD 1 and 2 start a cycle with the present position as stop point; with a cycle under way and no cut queued the
cut is queued with its own stop point; CUT_CMD 3 and CUT_CLEAR drive the blade home. CUT_CLEAR under a Safety Net cut or with the
over-current still there is refused with RANGE. -/
def Claims.CutterRequests : Prop :=
  ∀ (s : State) (p : Path), inRun s = true → s.msu.lanes[mediaLane s].dir ≠ .rev →
    (Passes s p (okey 0x2541 2) 1 → s.cut.state = 0 → s.cut.phase = .idle →
      exec (.cutCmdFull p) s = .next (finish s (taken (modCut (touch s p) (fun c =>
        { c with active := some ⟨1, s.msu.lanes[mediaLane s].pos⟩, stopSet := true, phase := .waiting, attempt := 0,
                 forwardOk := false, state := 1 })) p (okey 0x2541 2)))) ∧
    (Passes s p (okey 0x2541 2) 2 → s.cut.state = 0 → s.cut.phase = .idle →
      exec (.cutCmdPartial p) s = .next (finish s (taken (modCut (touch s p) (fun c =>
        { c with active := some ⟨2, s.msu.lanes[mediaLane s].pos⟩, stopSet := true, phase := .waiting, attempt := 0,
                 forwardOk := false, state := 1 })) p (okey 0x2541 2)))) ∧
    (Passes s p (okey 0x2541 2) 1 → s.cut.state = 2 → s.cut.phase ≠ .idle → s.cut.queued = none →
      exec (.cutCmdFull p) s = .next (finish s (taken (modCut (touch s p) (fun c =>
        { c with queued := some ⟨1, s.msu.lanes[mediaLane s].pos⟩ })) p (okey 0x2541 2)))) ∧
    (Passes s p (okey 0x2541 2) 3 → outputCut s = false → s.cut.tripped = false → s.cut.phase = .idle → s.cut.homeSw = false →
      exec (.cutCmdHome p) s = .next (finish s (taken (modCut (touch s p) (fun c =>
        { c with state := 6, phase := .homing, phaseSt := now s, active := none, stopSet := false, attempt := 0 }))
        p (okey 0x2541 2)))) ∧
    (Passes s p (okey 0x2541 3) 1 → outputCut s = false → s.cut.homeSw = false →
      exec (.cutClear p false) s = .next (finish s (taken (modCut (touch s p) (fun c =>
        { c with tripped := false, state := 6, phase := .homing, phaseSt := now s, active := none, stopSet := false, attempt := 0 }))
        p (okey 0x2541 3)))) ∧
    (∀ oc : Bool, Passes s p (okey 0x2541 3) 1 → outputCut s = true ∨ oc = true →
      exec (.cutClear p oc) s = .next (finish s (turnedAway s p 0x23)))

/-! Solenoids (R268–R291). -/

/-- SOL_CMD, SOL_CLEAR, BANK_CLEAR and R_COLD_NOM that pass (R269, R276, R284, R289): the command reaches every channel of its mask and acts
there as the cycle ends; the latches of the channels or banks of a mask are cleared, and BANK_CLEAR is refused with RANGE where a bank of its mask still reads
low; R_LEARN takes a new R_COLD_NOM. -/
def Claims.SolenoidWrites : Prop :=
  ∀ (s : State) (p : Path),
    (∀ mask : Nat, mask < 256 → Passes s p (okey 0x2838 1) ((0x100 + mask : Nat) : Int) →
      exec (.solOn p mask) s = .next (finish s (taken (solCmd (touch s p) (0x100 + mask)) p (okey 0x2838 1)))) ∧
    (∀ mask : Nat, mask < 256 → Passes s p (okey 0x2838 1) ((0x200 + mask : Nat) : Int) →
      exec (.solOff p mask) s = .next (finish s (taken (solCmd (touch s p) (0x200 + mask)) p (okey 0x2838 1)))) ∧
    (∀ mask : Nat, mask < 256 → Passes s p (okey 0x2838 1) ((0x300 + mask : Nat) : Int) →
      exec (.solPulse p mask) s = .next (finish s (taken (solCmd (touch s p) (0x300 + mask)) p (okey 0x2838 1)))) ∧
    (∀ mask : Nat, mask < 256 → Passes s p (okey 0x2838 2) mask →
      exec (.solClear p mask) s = .next (finish s (taken (solClear (touch s p) mask) p (okey 0x2838 2)))) ∧
    (∀ mask low : Nat, mask < 4 → Passes s p (okey 0x2838 3) mask → (∀ b : Fin 2, (bit mask b.val && bit low b.val) = false) →
      exec (.bankClear p mask low) s = .next (finish s (taken (bankClear (touch s p) mask) p (okey 0x2838 3)))) ∧
    (∀ (mask low : Nat) (b : Fin 2), mask < 4 → Passes s p (okey 0x2838 3) mask → (bit mask b.val && bit low b.val) = true →
      exec (.bankClear p mask low) s = .next (finish s (turnedAway s p 0x23))) ∧
    (∀ (c : Fin 8) (v : Nat), v < 2 ^ 32 → Passes s p (okey (0x2810 + c.val) 1) v →
      ∃ u, exec (.rColdNomWrite p c v) s = .next (finish s (taken u p (okey (0x2810 + c.val) 1))) ∧
        u.sols[c].rLearn = v ∧ u.sols[c].trkLimit = 0 ∧ objN u (0x2810 + c.val) 1 = v) ∧
    (∀ (c : Fin 8) (mask : Nat), mask < 256 → bit mask c.val = true →
      (solCmd s (0x100 + mask)).sols[c].asks = s.sols[c].asks ++ [.on] ∧
      (solCmd s (0x200 + mask)).sols[c].asks = s.sols[c].asks ++ [.off false] ∧
      (solCmd s (0x300 + mask)).sols[c].asks = s.sols[c].asks ++ [.pulse])

/-- What an ON, an OFF and a PULSE do to one channel (R270, R271, R272, R274, R276): refused with EV370 and its reason; an ON while the
coil is driven extends the profile; on an idle channel it begins one, and a PULSE sets its OFF at PULSE_T from now; an OFF
within 200 µs of the ON waits for the minimum, and later the drive ends with a fast decay. The commands of one cycle act at its end,
and of an ON and an OFF of one cycle the OFF wins (R269). -/
def Claims.SolenoidChannel : Prop :=
  ∀ (s : State) (c : Fin 8),
    (∀ pulse r, solRefuse s c = r → r ≠ 0 → solOnOp s c pulse = raise s 370 (c.val + 256 * r) (solState s c)) ∧
    (solRefuse s c = 0 → s.sols[c].state = 3 →
      solOnOp s c false = modSol s c (fun y =>
        { y with cmd := true, extensions := inc32 y.extensions, holdFrom := now s })) ∧
    (∀ pulse, solRefuse s c = 0 → s.sols[c].state = 0 →
      solOnOp s c pulse = boostWatch (startProfile (modSol s c (fun y =>
        { y with cmd := true, pulseOff := (if pulse then some (now s + solCfg s c 6) else none), minOff := none })) c)) ∧
    (s.sols[c].state = 2 ∨ s.sols[c].state = 3 ∨ s.sols[c].state = 4 → now s < s.sols[c].onSt + 40000 →
      solOffOp s c true = modSol s c (fun y => { y with cmd := false, pulseOff := none, minOff := some (y.onSt + 40000) })) ∧
    (s.sols[c].state = 2 ∨ s.sols[c].state = 3 ∨ s.sols[c].state = 4 → s.sols[c].onSt + 40000 ≤ now s →
      ∀ pair, solOffOp s c pair = boostWatch (solDecay s c)) ∧
    (s.sols[c].asks = [.on] → solTurn s c = solOnOp (modSol s c (fun x => { x with asks := [] })) c false) ∧
    (s.sols[c].asks = [.pulse] → solTurn s c = solOnOp (modSol s c (fun x => { x with asks := [] })) c true) ∧
    (∀ pair, .off pair ∈ s.sols[c].asks → ∃ q, solTurn s c = solOffOp (modSol s c (fun x => { x with asks := [] })) c q)

/-- The PEAK of a channel (R272, R273, R275): a bank's queue is served where BOOST has reached BOOST_OK; the current at I_PEAK gives
LAST_TTP, and PEAK_DWELL after it HOLD begins; without it HOLD begins at TTP_MAX with TTP_SLOW; a request that has waited
PEAK_QMAX is dropped with EV352. -/
def Claims.SolenoidPeaks : Prop :=
  ∀ (s : State), controlLive s = true →
    (∀ (b : Fin 2) v, exec (.peakStart b v) s = .next (finish s (boostWatch (serveBank (setBoost s v) b)))) ∧
    (∀ c : Fin 8, s.sols[c].state = 2 → s.sols[c].reached = none → now s - s.sols[c].peakSt ≤ solCfg s c 8 →
      solCfg s c 7 ≤ now s - s.sols[c].peakSt →
      exec (.peakCurrentReached c) s = .next (finish s (modSol s c (fun y =>
        { y with reached := some (now s), lastTtp := now s - s.sols[c].peakSt, current := solCfg s c 2 })))) ∧
    (∀ (c : Fin 8) t, s.sols[c].state = 2 → s.sols[c].reached = some t → t + solCfg s c 3 ≤ now s →
      exec (.peakDwellEnd c) s = .next (finish s (peakEnded (modSol s c (fun x =>
        { x with state := 3, holdSt := now s, holdFrom := now s, target := holdTarget s c })) (chBank c)))) ∧
    (∀ (c : Fin 8) i, s.sols[c].state = 2 → s.sols[c].reached = none → s.sols[c].peakSt + solCfg s c 8 ≤ now s →
      solCfg s c 9 = 0 →
      exec (.ttpMaxExpire c i) s = .next (finish s (enterHold (raise (modSol s c (fun y =>
        { y with ttpSlow := true, lastTtp := solCfg s c 8, current := i })) 354 c.val i) c))) ∧
    (∀ (c : Fin 8) t, s.banks[chBank c].queue.find? (fun q => q.2 = c) = some (t, c) →
      t + objN s (0x2820 + (chBank c).val) 1 ≤ now s →
      exec (.peakQueueTimeout c) s = .next (finish s (boostWatch (raise (solWithdraw s c) 352 c.val (now s - t)))) ∧
      (solWithdraw s c).sols[c].lastWait = now s - t ∧ (solWithdraw s c).sols[c].state = 0)

/-- The ends of a drive (R271, R274, R276, R286): HOLD_MAX and a PULSE's OFF turn the channel off, an OFF that waited for the minimum
is applied, and the decay ends below 50 mA with LAST_DECAY, the queues being served; a channel with a latch
then reads FAULT. -/
def Claims.SolenoidEnds : Prop :=
  ∀ (s : State) (c : Fin 8), controlLive s = true →
    (s.sols[c].state = 3 ∨ s.sols[c].state = 4 → solCfg s c 5 ≠ 0 → s.sols[c].holdFrom + solCfg s c 5 ≤ now s →
      s.sols[c].onSt + 40000 ≤ now s →
      exec (.holdMaxExpire c) s = .next (finish s (boostWatch (solDecay s c)))) ∧
    (∀ t, s.sols[c].pulseOff = some t → t ≤ now s →
      exec (.pulseEnd c) s = .next (finish s (solOffOp (modSol s c (fun x => { x with pulseOff := none })) c false))) ∧
    (∀ t, s.sols[c].minOff = some t → t ≤ now s → exec (.minOnEnd c) s = .next (finish s (boostWatch (solEnd s c)))) ∧
    (∀ i va vb, s.sols[c].state = 5 → i < 50 →
      ∃ u, exec (.decayEnd c i va vb) s = .next (finish s (serveBanks (setBoost u vb))) ∧
        u.sols[c].state = (if s.sols[c].ttpLatch || s.sols[c].shortSup || s.sols[c].coupled then 7 else 0) ∧
        u.sols[c].lastDecay = now s - s.sols[c].decaySt ∧ u.sols[c].current = i ∧ u.banks = s.banks)

/-- The updates of the drive (R277, R278, R280, R282, R283): proportional targets and bank sums every 1000 ticks, no sooner; the BOOST clamp
counted; EV368 after 10 ms below BOOST_OK with a request queued; the coil model each millisecond, no sooner;
the resistance window opens after 2 ms of HOLD on MAIN24, once in a phase, and is discarded where the high side left MAIN24. -/
def Claims.SolenoidUpdates : Prop :=
  ∀ (s : State), controlLive s = true →
    (∀ is, (∀ t, s.boost.propSt = some t → t + 1000 ≤ now s) →
      exec (.propUpdate is) s = .next (finish s (applyAll (fun t (c : Fin 8) =>
        modSol t c (fun x => { x with current := is.getD c.val x.current }))
        (bankSum (bankSum (applyAll propStep { s with boost := { s.boost with propSt := some (now s) } } (allFin 8)) 0) 1)
        (allFin 8)))) ∧
    (∀ is t, s.boost.propSt = some t → now s < t + 1000 → exec (.propUpdate is) s = .next (finish s s)) ∧
    (∀ v, exec (.boostClamp v) s = .next (finish s (boostClamp s v)) ∧
      (boostClamp s v).boost.clampCount = inc32 s.boost.clampCount ∧ (boostClamp s v).boost.v = v) ∧
    (∀ v t, (serveBanks (setBoost s v)).boost.lowSince = some t → (serveBanks (setBoost s v)).boost.lowRaised = false →
      t + 2000000 ≤ now s →
      exec (.boostLow v) s = .next (finish s (raise { serveBanks (setBoost s v) with boost :=
        { (serveBanks (setBoost s v)).boost with lowRaised := true } } 368 v
        ((serveBanks (setBoost s v)).banks[0].queue.length + 256 * (serveBanks (setBoost s v)).banks[1].queue.length)))) ∧
    (∀ i2s, (∀ t, s.boost.modelSt = some t → t + 200000 ≤ now s) →
      exec (.solModelUpdate i2s) s = .next (finish s (applyAll (fun t (c : Fin 8) =>
        coilStep t c (i2s.getD c.val 0) (atN 0 s.se.temps 3))
        { s with boost := { s.boost with modelSt := some (now s) } } (allFin 8)))) ∧
    (∀ c : Fin 8, s.sols[c].state = 3 → s.sols[c].winDone = false → s.sols[c].winSt = none → bankHs s (chBank c) = 1 →
      s.sols[c].holdSt + 400000 ≤ now s →
      exec (.resWindowStart c) s = .next (finish s (modSol s c (fun y =>
        { y with winSt := some (now s), winBad := false, winDone := true })))) ∧
    (∀ (c : Fin 8) (t0 v i : Nat), s.sols[c].winSt = some t0 → t0 + 200000 ≤ now s → s.sols[c].winBad = true →
      exec (.resWindowEnd c v i) s = .next (finish s (modSol s c (fun y => { y with winSt := none, winBad := false })))) ∧
    (∀ (c : Fin 8) (t0 v i r : Nat), s.sols[c].winSt = some t0 → t0 + 200000 ≤ now s → s.sols[c].winBad = false → 100 ≤ i →
      r = v * 1000 / i → ((tdivS ((r - rMod s c) * 1000) (rMod s c)).natAbs : Int) ≤ solTh s c 10 → solTh s c 11 = 0 →
      exec (.resWindowEnd c v i) s = .next (finish s (modSol s c (fun y =>
        { y with winSt := none, winBad := false, rMeas := r }))))

/-- Shorts (R286, R287, R288): an over-current trip of a held channel that is still commanded waits 10 ms and retries with EV357, the retry
being a request of its cycle; the fourth latches SHORT_SUPPLY with EV356; a high-side short and an output low while OFF turn the bank off; two coupled channels
both latch. -/
def Claims.SolenoidFaults : Prop :=
  ∀ (s : State), controlLive s = true →
    (∀ c : Fin 8, s.sols[c].state = 3 → inc8 s.sols[c].ocTrips < 4 → s.sols[c].cmd = true →
      exec (.solOcTrip c) s = .next (finish s (raise (modSol s c (fun y =>
        { y with ocTrips := inc8 y.ocTrips, tripped := true, winSt := none, state := 6, retryAt := some (now s + 2000000),
                 minOff := none })) 357 c.val (inc8 s.sols[c].ocTrips)))) ∧
    (∀ c : Fin 8, s.sols[c].state = 3 → 4 ≤ inc8 s.sols[c].ocTrips →
      exec (.solOcTrip c) s = .next (finish s (raise (modSol s c (fun y =>
        { y with ocTrips := inc8 y.ocTrips, tripped := true, winSt := none, shortSup := true, state := 7, cmd := false,
                 pulseOff := none, minOff := none })) 356 c.val (inc8 s.sols[c].ocTrips)))) ∧
    (∀ (c : Fin 8) t, s.sols[c].retryAt = some t → s.sols[c].state = 6 → t ≤ now s →
      exec (.solOcRetryDue c) s = .next (finish s (modSol s c (fun x => { x with asks := x.asks ++ [.retry] })))) ∧
    (∀ c : Fin 8, s.sols[c].asks = [.retry] → s.sols[c].state = 6 → solRefuse (modSol s c (fun x => { x with asks := [] })) c = 0 →
      solTurn s c = boostWatch (startProfile (modSol s c (fun x =>
        { x with asks := [], state := 0, retryAt := none })) c)) ∧
    (∀ c : Fin 8, solState s c = 0 → s.sols[c].shortGnd = false →
      exec (.solShortGnd c) s = .next (finish s (bankFault (raise (modSol s c (fun x => { x with shortGnd := true })) 358
        (c.val + 256 * (chBank c).val) 0) (chBank c) 1))) ∧
    (∀ b : Fin 2, bankHs s b ≠ 0 →
      exec (.solHsShort b) s = .next (finish s (bankFault (raise s 360 (256 * b.val) (bankHs s b)) b 2))) ∧
    (∀ x y : Fin 8, x ≠ y → s.sols[x].state = 3 → now s ≤ s.sols[x].onSt + 20000 → solState s y = 0 →
      ∃ u, exec (.solCoupled x y) s = .next (finish s u) ∧ u.sols[x].coupled = true ∧ u.sols[x].state = 7 ∧
        u.sols[x].coupledWith = y.val ∧ u.sols[y].coupled = true ∧ u.sols[y].state = 7 ∧ u.sols[y].coupledWith = x.val ∧
        u.rm.raised = s.rm.raised ++ [⟨359, wrap 32 (x.val + 256 * y.val), 0⟩])

/-! Sense Engine (R292–R330). -/

/-- The roles of the slices (R297, R298, R300): with a spare a rotation falls due every 12 800 000 ticks and is carried out at a boundary of the
role's slice, the spare taking the role and the outgoing slice the calibration; a calibration within its limits stores the trims and is
counted, one outside them leaves the slice FAULTED with the trims it had; SLICE_CLEAR sends its slices to calibration. -/
def Claims.SliceRoles : Prop :=
  ∀ (s : State),
    (controlLive s = true → s.se.rotNext ≤ now s →
      exec .seRotationDue s = .next (finish s (modSe s (fun e =>
        { e with rotNext := e.rotNext + 12800000, rotDue := e.rotDue || (objB s 0x2900 3 && e.spare.isSome) })))) ∧
    (∀ (k : Fin 3) (sp old : Fin 4), controlLive s = true → k.val = s.se.rotations % 3 → s.se.spare = some sp →
      s.se.roles[k] = some old → s.se.rotDue = true → s.se.slices[sp].state = 2 → capRuns s = false →
      (k.val = 2 ∨ atBoundary s (Fin.ofNat 2 k.val) = true) →
      exec .roleHandover s = .next (finish s (modSlice (modSlice (modSe s (fun e =>
        { e with roles := upd e.roles k (fun _ => some sp), spare := some old, rotations := inc32 e.rotations, rotDue := false }))
        sp (fun x => { x with state := 0 })) old (fun x => { x with state := 1 })))) ∧
    (∀ (i : Fin 4) (lo hi : Nat) (gain off : Int), controlLive s = true → refOn s = true → s.se.slices[i].state = 1 →
      gain = tdivS (49152 * 32768) (((hi / 16 : Nat) : Int) - ((lo / 16 : Nat) : Int)) →
      off = 8192 - fdiv (((lo / 16 : Nat) : Int) * gain) 32768 →
      (32113 ≤ gain → gain ≤ 33423 → -512 ≤ off → off ≤ 512 → ∃ u, exec (.sliceCalDone i lo hi) s = .next (finish s u) ∧
        u.se.slices[i].gain = gain.toNat ∧ u.se.slices[i].offset = off ∧ u.se.slices[i].bad = false ∧
        u.se.slices[i].calCount = inc32 s.se.slices[i].calCount) ∧
      (gain < 32113 ∨ 33423 < gain ∨ off < -512 ∨ 512 < off → ∃ u, exec (.sliceCalDone i lo hi) s = .next (finish s u) ∧
        u.se.slices[i].bad = true ∧ u.se.slices[i].state = 3 ∧ u.se.slices[i].gain = s.se.slices[i].gain)) ∧
    (∀ (p : Path) (mask : Nat), mask < 16 → Passes s p (okey 0x2900 6) mask →
      exec (.sliceClear p mask) s = .next (finish s (taken (sliceClear (touch s p) mask) p (okey 0x2900 6))))

/-- The reference (R302, R303): REF_EN becoming 1 starts the 2 ms and resets every filter, becoming 0 records when; a write of the value it
holds changes nothing; REF_STATE reads settled 400 000 ticks after the enabling. -/
def Claims.ReferenceBuffer : Prop :=
  ∀ (s : State),
    (∀ (p : Path) (v : Bool), Passes s p (okey 0x2900 1) (b2n v) →
      ∃ u, exec (.refEnWrite p v) s = .next (finish s (taken u p (okey 0x2900 1))) ∧ refOn u = v ∧
        u.se = (refWrite (touch s p) v).se) ∧
    (refWrite s (refOn s) = s) ∧
    (refOn s = false → (refWrite s true).se.refSt = some (now s) ∧ (refWrite s true).se.refState = 1 ∧
      (refWrite s true).se.refEv = false ∧ ∀ k : Fin 16, (refWrite s true).se.filts[k].taken = 0 ∧ (refWrite s true).se.filts[k].xs = []) ∧
    (refOn s = true → (refWrite s false).se.refSt = none ∧ (refWrite s false).se.refState = 0 ∧ (refWrite s false).se.filts = s.se.filts) ∧
    (∀ r, controlLive s = true → s.se.refSt = some r → s.se.refState = 1 → r + 400000 ≤ now s →
      exec .refSettled s = .next (finish s (modSe s (fun e => { e with refState := 2 })))) ∧
    (∀ r, controlLive s = true → s.se.refSt = some r → now s < r + 400000 → exec .refSettled s = .next (finish s s))

/-- Triggers (R302, R305, R309, R314, R318): TRIG_SW delivers code 0x01; every trigger reaches its consumers as its cycle ends; an edge of TRIGn that EDGE selects is delivered two cycles later; a
sequencer that waits begins its repetition, one that does not latches one trigger and counts the next as lost, with no
further event in the same run; an urgent slot keeps one request and counts the next as an overrun; a running capture counts it. -/
def Claims.SenseTriggers : Prop :=
  ∀ (s : State),
    (∀ p, Passes s p (okey 0x2900 7) 1 →
      exec (.trigSw p) s = .next (finish s (taken (seTrigger (touch s p) 1) p (okey 0x2900 7)))) ∧
    (∀ code, controlLive s = true → seTrigger s code = modSe s (fun e => { e with trigs := e.trigs ++ [code] })) ∧
    (∀ (n : Fin 4) (r : Bool), controlLive s = true →
      (pinSelected s n r = true → exec (.trigPinEdge n r) s =
        .next (finish s (modSe s (fun e => { e with pinDue := e.pinDue ++ [(now s + 2, n)] })))) ∧
      (pinSelected s n r = false → exec (.trigPinEdge n r) s = .next (finish s s))) ∧
    (∀ (p : Fin 2) (code : Nat), objN s (0x2910 + p.val) 3 = code →
      (s.se.sqs[p].phase = .waiting → refOn s = true →
        sqTrigger s p code = sqBegin (modSq s p (fun y => { y with tag := code, lostRun := false })) p (now s)) ∧
      (∀ a, s.se.sqs[p].phase = .active a → s.se.sqs[p].stopAt = false → s.se.sqs[p].latched = none → refOn s = true →
        sqTrigger s p code = modSq s p (fun y => { y with latched := some code, lostRun := false })) ∧
      (∀ a c, s.se.sqs[p].phase = .active a → s.se.sqs[p].stopAt = false → s.se.sqs[p].latched = some c →
        (sqTrigger s p code).se.sqs[p].trigLost = inc32 s.se.sqs[p].trigLost ∧
        (s.se.sqs[p].lostRun = true → sqTrigger s p code =
          modSq s p (fun x => { x with trigLost := inc32 s.se.sqs[p].trigLost, lostRun := true })))) ∧
    (∀ (u : Fin 8) (code : Nat), urgCfg s u 1 ≠ 0 → urgCfg s u 2 = code →
      (s.se.urgs[u].pend = none → refOn s = true → (urgTrigger s u code).se.urgs[u].pend = some (now s)) ∧
      (∀ t, s.se.urgs[u].pend = some t → (urgTrigger s u code).se.urgs[u].pend = some t ∧
        (urgTrigger s u code).se.urgs[u].overruns = inc32 s.se.urgs[u].overruns)) ∧
    (∀ code, objN s 0x2940 3 = code → s.se.capState = 2 →
      (capTrigger s code).se.trigOverruns = inc32 s.se.trigOverruns ∧ (capTrigger s code).se.capTrig = s.se.capTrig)

/-- The sequencers (R306–R310, R313): RUN becoming 1 starts the sequencer as the cycle ends, unless it becomes 0 in the same cycle; it
halts where its role is not filled; RUN becoming 0 discards a latched trigger and stops at the boundary; a conversion's result goes to its filter or the
queue and the next repetition begins where it ended; a DELAY that is over begins the
next entry. -/
def Claims.Sequencers : Prop :=
  ∀ (s : State) (p : Fin 2), controlLive s = true →
    (objN s (0x2910 + p.val) 1 = 0 →
      exec (.sqStart p) s = .next (finish s (modSq s p (fun x => { x with starts := true }))) ∧
      (s.se.roles[roleOf p] = none → s.se.sqs[p].stopAt = false → (sqStart s p).se.sqs[p].phase = .halted)) ∧
    (s.se.sqs[p].starts = true → s.se.sqs[p].stops = false →
      sqAsked s p = sqStart (modSq s p (fun y => { y with starts := false, stops := false })) p) ∧
    (s.se.sqs[p].stops = true → sqAsked s p = sqStop (modSq s p (fun y => { y with starts := false, stops := false })) p) ∧
    (objN s (0x2910 + p.val) 1 = 1 →
      exec (.sqStop p) s = .next (finish s (modSq s p (fun x => { x with stops := true }))) ∧ (sqStop s p).se.sqs[p].latched = none ∧
      (atBoundary s p = true → (sqStop s p).se.sqs[p].phase = .stopped) ∧
      (atBoundary s p = false → s.se.sqs[p].urgent = none → (sqStop s p).se.sqs[p].stopAt = true)) ∧
    (∀ (raw : Nat) (a : ST) (sl : Fin 4), s.se.sqs[p].phase = .active a → s.se.roles[roleOf p] = some sl →
      s.se.sqs[p].urgent = none → a + sqAcq s.se.sqs[p] + 40 ≤ now s → refOn s = true → s.se.sqs[p].stopAt = false →
      s.se.sqs[p].rep < bits (sqNow s.se.sqs[p]) 23 16 →
      exec (.conversionDone (.seq p raw)) s = .next (finish s
        (sqBegin (modSq (seResult s p (sqFilter (sqNow s.se.sqs[p]))
          { ch := bits (sqNow s.se.sqs[p]) 31 24, src := s.se.sqs[p].tag, value := sliceValue s sl raw,
            refU := refUnsettled s (a + sqAcq s.se.sqs[p]), slice := sl.val, st := a + sqAcq s.se.sqs[p] }) p
          (fun y => { y with rep := y.rep + 1 })) p (a + sqAcq s.se.sqs[p] + 40)))) ∧
    (∀ t, s.se.sqs[p].phase = .delay t → t ≤ now s → s.se.sqs[p].urgent = none → capRuns s = false → capWants s = false →
      exec (.sqDelayEnd p) s = .next (finish s (sqNext s p (now s))))

/-- The urgent slots (R312, R313): the lowest ready slot starts at a boundary, at least two cycles after its trigger, with MAX_WAIT kept and its
CH, SRC, acquisition time and filter in force; its completion is counted and ends it. The oldest OPT request completes first, and one
later than 400 ticks raises EV414 (R316). -/
def Claims.UrgentSlots : Prop :=
  ∀ (s : State) (p : Fin 2), controlLive s = true →
    (∀ (u : Fin 8) (r : List (Fin 8)) (t : ST), s.se.sqs[p].urgent = none → capRuns s = false → capTakes s = false →
      atBoundary s p = true →
      (sqSlice s p).isSome = true → refOn s = true → s.se.urgs[u].pend = some t →
      (urgPending s p).filter (fun u => match s.se.urgs[u].pend with | some t => decide (t + 2 ≤ now s) | none => false) = u :: r →
      ∃ w, exec (.urgentStart p) s = .next (finish s w) ∧ w.se.urgs[u].pend = none ∧
        w.se.urgs[u].maxWait = max s.se.urgs[u].maxWait (sat 16 (now s - t)) ∧
        w.se.sqs[p].urgent = some { slot := u, acq := now s, len := urgCfg s u 4, src := urgCfg s u 2, ch := urgCfg s u 3,
                                         filt := urgFilter s u }) ∧
    (∀ (raw : Nat) (u : UrgentRun) (sl : Fin 4), s.se.sqs[p].urgent = some u → s.se.roles[roleOf p] = some sl → u.acq + u.len + 40 ≤ now s →
      refOn s = true → ∃ w, exec (.conversionDone (.urgent p raw)) s = .next (finish s w) ∧
        w.se.urgs[u.slot].count = inc32 s.se.urgs[u.slot].count ∧ w.se.sqs[p].urgent = none) ∧
    (∀ o r, sysReads s = true → s.se.opts = o :: r →
      (400 < now s - o.1 → exec (.conversionDone .opt) s = .next (finish s (raise (modSe s (fun e => { e with opts := r })) 414 o.2
        (min (now s - o.1) 0xFFFFFFFF)))) ∧
      (now s - o.1 ≤ 400 → exec (.conversionDone .opt) s = .next (finish s (modSe s (fun e => { e with opts := r }))))) ∧
    (sysReads s = true → s.se.opts = [] → exec (.conversionDone .opt) s = .next (finish s s))

/-- The capture (R318, R320, R322): CAP_CMD 1 arms it, refused with EV413 where fewer than three slices are healthy; it starts at a joint
boundary two cycles after its trigger and holds both sequences; at CAP_N samples it stores them and raises EV412; CAP_CMD 2 ends it
as ABORTED with what was taken. -/
def Claims.CaptureRuns : Prop :=
  ∀ (s : State),
    (∀ p, Passes s p (okey 0x2940 4) 1 →
      exec (.capArm p) s = .next (finish s (taken (capArm (touch s p)) p (okey 0x2940 4)))) ∧
    (s.se.capState = 0 → 3 ≤ seHealthy s → capArm s = modSe s (fun e => { e with capState := 1, capTrig := none })) ∧
    (s.se.capState ≠ 2 → seHealthy s < 3 →
      capArm s = raise (modSe s (fun e => { e with capState := 5, capTrig := none })) 413 5 s.se.capCount) ∧
    (∀ p raws, Passes s p (okey 0x2940 4) 2 →
      exec (.capAbort p raws) s = .next (finish s (taken (capAbort (touch s p) raws) p (okey 0x2940 4)))) ∧
    (s.se.capState = 1 → ∀ raws, capAbort s raws =
      raise (modSe s (fun e => { e with capState := 5, capTrig := none, capCount := 0 })) 413 5 0) ∧
    (controlLive s = true →
      (∀ t, s.se.capTrig = some t → s.se.capState = 1 → t + 2 ≤ now s → sysCapture s = false → atBoundary s 0 = true → atBoundary s 1 = true →
        s.se.sqs[0].urgent = none → s.se.sqs[1].urgent = none → 3 ≤ seHealthy s → refOn s = true →
        (sqSlice s 0).isSome = true → (sqSlice s 1).isSome = true →
        ∃ u, exec .captureStart s = .next (finish s u) ∧ u.se.capState = 2 ∧ u.se.capSt0 = now s ∧ u.se.capN = objN s 0x2940 2 ∧
          ∀ a, u.se.sqs[0].phase ≠ .active a ∧ u.se.sqs[1].phase ≠ .active a) ∧
      (∀ raws, s.se.capState = 2 → s.se.capN ≤ capTaken s →
        exec (.captureDone raws) s = .next (finish s (raise (modSe (capStore s raws s.se.capN) (fun e =>
          { e with capState := 3, capCount := e.capN })) 412 s.se.capN s.se.capSt0))))

/-- Filters and the result queue (R324, R327–R329): at a pace point a fresh result is taken;
a full queue drops the word and counts it; POP takes the oldest word, QUEUE_FLUSH all of them, EV404 rearmed below half the watermark;
with DMA_MODE 1 the oldest word goes into the application's ring and DMA_WR after it, and a ring with no free word leaves it. -/
def Claims.ResultQueue : Prop :=
  ∀ (s : State),
    (∀ (k : Fin 16) r, controlLive s = true → filtPace s k ≠ 0 → s.se.filts[k].paceAt ≤ now s → s.se.filts[k].latest = some r →
      s.se.filts[k].fresh = true →
      exec (.filterPace k) s = .next (finish s (filtTake (modFilt (modFilt s k (fun y =>
        { y with paceAt := s.se.filts[k].paceAt + filtPace s k, fresh := false })) k (fun y => { y with starvedRun := false })) k
          { r with src := 0x90, st := s.se.filts[k].paceAt }))) ∧
    (∀ r f, s.se.queue.length < 1024 → s.se.refEv = true → s.se.wmRaised = true →
      (seWord s r f).se.queue = s.se.queue ++ [resultWord r.ch r.src r.value r.refU f s.se.lostNext r.slice r.st] ∧
      (seWord s r f).se.lostNext = false) ∧
    (∀ r f, 1024 ≤ s.se.queue.length → (seWord s r f).se.queue = s.se.queue ∧ (seWord s r f).se.lost = inc32 s.se.lost ∧
      (seWord s r f).se.lostNext = true) ∧
    (∀ p, dictLive s = true → judgeRead (touch s p) p (okey 0x2930 2) = 0 →
      exec (.queuePop p) s = .next (finish s (keepResult (answer (queuePop (touch s p)).1 p 0) p (leBytes 8 (queuePop (touch s p)).2)))) ∧
    (∀ w r, s.se.queue = w :: r → (queuePop s).2 = w ∧ (queuePop s).1.se.queue = r) ∧
    (s.se.queue = [] → queuePop s = (s, 0)) ∧
    (∀ p, Passes s p (okey 0x2930 11) 1 →
      exec (.queueFlush p) s = .next (finish s (taken (wmRearm (modSe (touch s p) (fun e => { e with queue := [] }))) p (okey 0x2930 11)))) ∧
    (controlLive s = true → exec .dmaMove s = .next (finish s (dmaMove s))) ∧
    (∀ w r size, s.se.queue = w :: r → size = objN s 0x2930 8 → size ≠ 0 → (s.se.dmaWr + 8) % size ≠ objN s 0x2930 10 →
      ∃ t, dmaWord s = some t ∧ t.se.queue = r ∧ t.se.dmaWr = (s.se.dmaWr + 8) % size ∧
        t.app.mem = memWrite s.app.mem (0x80000000 + objN s 0x2930 7 + s.se.dmaWr) (leBytes 8 w)) ∧
    (objN s 0x2930 8 ≠ 0 → (s.se.dmaWr + 8) % objN s 0x2930 8 = objN s 0x2930 10 → dmaWord s = none)

/-! The dictionary, the Commit Gate, claims, the stored set (R334–R353). -/

/-- OBJECT_WRITE (R335, R340, R21): while the dictionary is not live a write changes nothing; a write that fails a check of R335 changes no
object and returns the status of the first check that fails; a STAGED write that passes enters its path's set and returns STAGED,
with every object unchanged; a write of a value with no command of its own sets that object, takes effect in its unit and returns
OK. -/
def Claims.ObjectWrites : Prop :=
  ∀ (s : State) (p : Path) (idx sub : Nat) (data : List Byte),
    (dictLive s = false → exec (.objectWrite p idx sub data) s = .next (finish s s)) ∧
    (∀ c, dictLive s = true → s.ctl.epoch = none → okey idx sub ≠ okey 0x2002 1 → judgeWrite (touch s p) p (okey idx sub) data = c → c ≠ 0 →
      exec (.objectWrite p idx sub data) s = .next (finish s (turnedAway s p (vStatus c)))) ∧
    (dictLive s = true → s.ctl.epoch = none → judgeWrite (touch s p) p (okey idx sub) data = 0 → plainKey (okey idx sub) →
      tieWinner (touch s p) p (okey idx sub) = none →
      (clsOf (okey idx sub) = .staged → ∃ u, exec (.objectWrite p idx sub data) s = .next (finish s u) ∧
        u.ctl.dict = s.ctl.dict ∧ u.ctl.doms = s.ctl.doms ∧ u.ctl.status[p.idx] = 0x26 ∧
        (stagingOf u p).vals.lookup (okey idx sub) = some (dataValue (okey idx sub) data)) ∧
      (clsOf (okey idx sub) ≠ .staged → okey idx sub ≠ okey 0x1010 1 → okey idx sub ≠ okey 0x1011 1 →
        command (touch s p) p (okey idx sub) (dataValue (okey idx sub) data).toNat [] = none →
        exec (.objectWrite p idx sub data) s = .next (finish s (taken
          (effect (touch s p) (putValue (notePre (touch s p) (okey idx sub)) (okey idx sub) (dataValue (okey idx sub) data))
            (okey idx sub) (dataValue (okey idx sub) data)) p (okey idx sub)))))

/-- The order of the checks and their refusals (R335): existence before the right, the right before the length, then the claim, the mode
and the value. -/
def Claims.WriteChecksInOrder : Prop :=
  ∀ (s : State) (p : Path) (k : Nat) (bs : List Byte),
    (indexExists (k / 256) = false → judgeWrite s p k bs = 0x21) ∧
    (checkExists k ≠ 0 → judgeWrite s p k bs = checkExists k) ∧
    (checkExists k = 0 → checkWriteRight s p k (leNat bs) ≠ 0 → judgeWrite s p k bs = checkWriteRight s p k (leNat bs)) ∧
    (checkExists k = 0 → checkWriteRight s p k (leNat bs) = 0 → checkLength k bs ≠ 0 → judgeWrite s p k bs = checkLength k bs) ∧
    (checkExists k = 0 → checkWriteRight s p k (leNat bs) = 0 → checkLength k bs = 0 → k ≠ okey 0x2002 1 → k ≠ okey 0x2002 2 →
      claimLets s p (k / 256) = false → judgeWrite s p k bs = 0x25) ∧
    (checkExists k = 0 → checkWriteRight s p k (leNat bs) = 0 → checkLength k bs = 0 → checkClaim s p k (leNat bs) = 0 →
      modeLets s p (clsOf k) = false → judgeWrite s p k bs = 0x24) ∧
    (checkExists k = 0 → checkWriteRight s p k (leNat bs) = 0 → checkLength k bs = 0 → checkClaim s p k (leNat bs) = 0 →
      modeLets s p (clsOf k) = true → judgeWrite s p k bs = checkValue s p k (dataValue k bs))

/-- The Commit Gate (R341–R343): COMMIT 1 takes the writer's set, 2 those of paths without a claim as well, 3 empties the writer's own; the
epoch then sets every value at once, counted and dated, with the sets empty, or rejects them all with no object
changed. -/
def Claims.CommitGate : Prop :=
  ∀ (s : State),
    (∀ p, Passes s p (okey 0x2001 1) 1 → exec (.commitOwn p) s = .next (finish s (answer
      { touch s p with ctl := { (touch s p).ctl with epoch := some ⟨commitMask (touch s p) p 1, now s, [p]⟩ } } p 0))) ∧
    (∀ p, Passes s p (okey 0x2001 1) 2 → exec (.commitAll p) s = .next (finish s (answer
      { touch s p with ctl := { (touch s p).ctl with epoch := some ⟨commitMask (touch s p) p 2, now s, [p]⟩ } } p 0))) ∧
    (∀ p, Passes s p (okey 0x2001 1) 3 → exec (.commitDiscard p) s = .next (finish s (answer
      (modStaging (touch s p) p (fun _ => ⟨[], []⟩)) p 0))) ∧
    (∀ p, commitMask s p 1 = 2 ^ p.idx.val) ∧
    (∀ p q : Path, bit (commitMask s p 2) q.idx.val = (decide (q = p) || !holdsAny s q)) ∧
    (∀ e ps ks vs ds, controlLive s = true → s.ctl.epoch = some e → ps = maskPaths e.mask → ks = epochKeys s ps →
      vs = epochVals s ps ks → ds = epochDoms s ps ks →
      (∀ k, ks.find? (fun k => !crossOk s ((activeView s).over vs ds) k) = some k →
        ∃ u, exec .commitEpoch s = .next (finish s u) ∧ u.ctl.dict = s.ctl.dict ∧ u.ctl.doms = s.ctl.doms ∧
          u.ctl.lastReject = k ∧ u.ctl.rejects = inc32 s.ctl.rejects ∧ u.ctl.epoch = none ∧
          ∀ p ∈ ps, stagingOf u p = ⟨[], []⟩) ∧
      (ks.find? (fun k => !crossOk s ((activeView s).over vs ds) k) = none →
        ∃ t, t = applyVals (emptySets (applyAll (epochTies ps) { s with ctl := { s.ctl with epoch := none } } ks) ps) vs ds ∧
          exec .commitEpoch s = .next (finish s (applyAll (finishLate (okey 0x2001 1) 0)
            { t with ctl := { t.ctl with epochs := inc32 t.ctl.epochs, lastEpochSt := wrap 64 (now s) } } e.writers))))

/-- Claims (R347–R349): a group that no other path holds is granted to the writer; one that another path holds is refused with CLAIMED, for
CLAIM and for RELEASE; RELEASE frees what the writer holds; a lease that is over lapses with EV012. The service session is granted in
STANDBY and begins the way to SERVICE. -/
def Claims.ClaimCommands : Prop :=
  ∀ (s : State),
    (∀ (p : Path) (g : Nat), 1 ≤ g → g < 24 → Passes s p (okey 0x2002 1) g → tickWrites (touch s p) = [] →
      exec (.claim p g) s = .next (finish s (answer (noteTick (claimGrant (touch s p) p g) p (claimKey (okey 0x2002 1) g) false none) p 0))) ∧
    (∀ p g, g < 24 → holder (claimGrant s p g) g = some p) ∧
    (∀ p q g, g < 24 → holder s g = some q → q ≠ p → dictLive s = true → s.ctl.epoch = none → tickWrites (touch s p) = [] →
      checkWriteRight (touch s p) p (okey 0x2002 1) g = 0 →
      exec (.claim p g) s = .next (finish s (turnedAway s p 0x25))) ∧
    (∀ p, s.md.mode = .standby → s.md.trans = none → s.pw.pf = none → holder s 0 = none → Passes s p (okey 0x2002 1) 0 →
      tickWrites (touch s p) = [] →
      ∃ u, exec (.serviceClaim p) s = .next (finish s u) ∧ holder u 0 = some p ∧
        u.md.trans = some { src := .standby, target := .service, start := now s, cause := 4, thenDoze := none }) ∧
    (∀ (p : Path) (g : Nat), g ≤ 255 → Passes s p (okey 0x2002 2) g → tickWrites (touch s p) = [] →
      exec (.claimRelease p g) s =
        .next (finish s (answer (noteTick (claimRelease (touch s p) p g) p (claimKey (okey 0x2002 2) g) false none) p 0))) ∧
    (∀ p q g, g < 24 → holder s g = some q → q ≠ p → dictLive s = true → s.ctl.epoch = none →
      checkWriteRight (touch s p) p (okey 0x2002 2) g = 0 →
      exec (.claimRelease p g) s = .next (finish s (turnedAway s p 0x25))) ∧
    (∀ p g, g ≠ 0 → g < 24 → holder s g = some p → holder (claimRelease s p g) g = none) ∧
    (∀ (g : Fin 24) p, controlLive s = true → g.val ≠ 0 → leaseOver s g.val = true → holder s g.val = some p →
      exec (.claimLeaseExpire g) s = .next (finish s (setClaim (raise s 12 g.val (p.ascii + 512)) g.val ⟨none, 0⟩)))

/-- The stored set (R351–R353): the save signature writes the active values into the slot that is not current, its generation one more;
when the write has succeeded the slot is valid and STORES counts, and what was written after it took the values still goes back at the end of the
session (R38), when it has failed STORE_STATE reads 3 and
the slots stay as they were; the load signature erases both slots and leaves the active values. -/
def Claims.StoredSet : Prop :=
  ∀ (s : State),
    (∀ p, Passes s p (okey 0x1010 1) 0x65766173 → s.ctl.storeState ≠ 1 →
      ∃ u, exec (.storeAll p) s = .next (finish s u) ∧ u.ctl.storeState = 1 ∧ u.ctl.storeBy = some p ∧
        u.ctl.storeTo = storeSlot s ∧
        (∀ x, currentSlot s = some x → u.ctl.slots[storeSlot s].gen = wrap 32 (s.ctl.slots[x].gen + 1) ∧
          u.ctl.slots[x] = s.ctl.slots[x] ∧ storeSlot s ≠ x) ∧
        (currentSlot s = none → u.ctl.slots[storeSlot s].gen = 1) ∧ u.ctl.slots[storeSlot s].valid = false ∧
        u.ctl.dict = s.ctl.dict) ∧
    (∀ p, controlLive s = true → s.ctl.storeState = 1 → s.ctl.storeBy = some p →
      (∃ u, exec (.storeDone true) s = .next (finish s u) ∧ u.ctl.storeState = 2 ∧ u.ctl.slots[s.ctl.storeTo].valid = true ∧
        u.ctl.stores = inc32 s.ctl.stores ∧ u.ctl.preimg = preimgLeft s s.ctl.slots[s.ctl.storeTo]) ∧
      (∃ u, exec (.storeDone false) s = .next (finish s u) ∧ u.ctl.storeState = 3 ∧ u.ctl.slots = s.ctl.slots ∧
        u.ctl.stores = s.ctl.stores)) ∧
    (∀ p, Passes s p (okey 0x1011 1) 0x64616F6C →
      exec (.restoreAll p) s = .next (finish s (taken { touch s p with ctl := { (touch s p).ctl with
        slots := s.ctl.slots.map (fun x => { x with valid := false }) } } p (okey 0x1011 1))))

/-! The Job Ledger (R354–R359). -/

/-- CMD on the entry a path has selected (R355, R358, R359): SUBMIT queues a FREE entry that meets every check, and is refused with RANGE
otherwise; ABORT ends a QUEUED, ARMED or ACTIVE one as ABORTED with cause 1, END an ACTIVE one as DONE with cause 19 and an ARMED
one as ABORTED with cause 9, RELEASE frees a DONE or ABORTED one. CLEAR frees them all. -/
def Claims.LedgerCommands : Prop :=
  ∀ (s : State) (p : Path) (e : Fin 64), jobSel s p = e →
    (Passes s p (okey 0x2020 10) 1 → submitOk s e (jobUnitLane s s.ledger.jobs[e]) = true →
      ∃ u, exec (.jobSubmit p) s = .next (finish s (taken u p (okey 0x2020 10))) ∧ u.ledger.jobs[e].state = 1 ∧
        u.ledger.jobs[e].order = s.ledger.nextOrder ∧ u.ledger.nextOrder = s.ledger.nextOrder + 1 ∧
        u.ledger.jobs[e].progress = 0 ∧ u.ledger.jobs[e].first = s.ledger.jobs[e].first ∧
        u.ledger.jobs[e].last = s.ledger.jobs[e].last ∧ ∀ f : Fin 64, f ≠ e → u.ledger.jobs[f] = s.ledger.jobs[f]) ∧
    (Passes s p (okey 0x2020 10) 1 → submitOk s e (jobUnitLane s s.ledger.jobs[e]) = false →
      exec (.jobSubmit p) s = .next (finish s (turnedAway s p 0x23))) ∧
    (Passes s p (okey 0x2020 10) 2 →
      exec (.jobAbort p) s = .next (finish s (taken (jobAbort 1 (touch s p) e) p (okey 0x2020 10)))) ∧
    (Passes s p (okey 0x2020 10) 3 →
      exec (.jobEnd p) s = .next (finish s (taken (jobFinish (touch s p) e (if s.ledger.jobs[e].state = 3 then 4 else 5)
        (if s.ledger.jobs[e].state = 3 then 19 else 9)) p (okey 0x2020 10)))) ∧
    (Passes s p (okey 0x2020 10) 4 →
      exec (.jobRelease p) s = .next (finish s (taken (modJob (touch s p) e (fun _ => Job.reset)) p (okey 0x2020 10)))) ∧
    (Passes s p (okey 0x2021 5) 1 →
      ∃ u, exec (.ledgerClear p) s = .next (finish s (taken u p (okey 0x2021 5))) ∧
        ∀ f : Fin 64, u.ledger.jobs[f] = if jobEnded s.ledger.jobs[f] then Job.reset else s.ledger.jobs[f])

/-- A CMD on an entry in a state it does not apply to is refused with ACCESS, and nothing changes (R355, R359). -/
def Claims.LedgerCommandsOutOfState : Prop :=
  ∀ (s : State) (p : Path), dictLive s = true → s.ctl.epoch = none →
    (s.ledger.jobs[jobSel s p].state ≠ 0 → exec (.jobSubmit p) s = .next (finish s (turnedAway s p 0x22))) ∧
    (s.ledger.jobs[jobSel s p].state = 0 ∨ 4 ≤ s.ledger.jobs[jobSel s p].state →
      exec (.jobAbort p) s = .next (finish s (turnedAway s p 0x22))) ∧
    (s.ledger.jobs[jobSel s p].state ≠ 2 → s.ledger.jobs[jobSel s p].state ≠ 3 →
      exec (.jobEnd p) s = .next (finish s (turnedAway s p 0x22))) ∧
    (s.ledger.jobs[jobSel s p].state ≠ 4 → s.ledger.jobs[jobSel s p].state ≠ 5 →
      exec (.jobRelease p) s = .next (finish s (turnedAway s p 0x22)))

/-- Arming (R356): in RUN or SERVICE, not being left, the QUEUED entries are tried in order of submission, and a print entry is armed at
once, ACTIVE in the same cycle where START_WM is 0xFFFF; in any other mode nothing is armed. -/
def Claims.LedgerArms : Prop :=
  ∀ (s : State), controlLive s = true →
    (runOpen s = true → exec .jobArm s = .next (finish s (applyAll jobTryArm s (queuedJobs s)))) ∧
    (runOpen s = false → exec .jobArm s = .next (finish s s)) ∧
    (∀ e : Fin 64, s.ledger.jobs[e].state = 1 → s.ledger.jobs[e].kind = 1 ∨ s.ledger.jobs[e].kind = 2 →
      jobTryArm s e = jobArmNow s e) ∧
    (∀ e : Fin 64, s.ledger.jobs[e].state ≠ 1 → jobTryArm s e = s)

/-! PDOs (R368–R374, R416). -/

/-- RPDOs (R372–R374, R416): a short frame is counted with EV470 and written nowhere; one of a synchronous type waits for the next SYNC; one of
an event-driven type is applied at once, entry by entry; outside OPERATIONAL it is not taken. -/
def Claims.RpdosReceived : Prop :=
  ∀ (s : State) (n : Fin 4) (bs : List Byte) (need : Nat), need = sumN ((rpdoEntries s n).map entryBytes) →
    (pdoLive s = false → exec (.rpdoReceive n bs) s = .next (finish s s)) ∧
    (pdoLive s = true → rpdoValid s n = true → bs.length < need →
      exec (.rpdoReceive n bs) s = .next (finish s
        (raise (modNet s (fun x => { x with rpdoShort := inc32 x.rpdoShort })) 470 (n.val + 1) bs.length))) ∧
    (pdoLive s = true → rpdoValid s n = true → need ≤ bs.length → objN s (0x1400 + n.val) 2 ≤ 240 →
      exec (.rpdoReceive n bs) s = .next (finish s { s with pdo := { s.pdo with waits := upd s.pdo.waits n (fun _ => some bs) } })) ∧
    (pdoLive s = true → rpdoValid s n = true → need ≤ bs.length → 240 < objN s (0x1400 + n.val) 2 →
      exec (.rpdoReceive n bs) s = .next (finish s (rpdoApply s n bs)))

/-- SYNC and TPDOs (R371, R372, R374): a SYNC in OPERATIONAL writes the RPDOs that wait and samples the TPDOs as the cycle ends, and outside it
discards them; an event-driven TPDO is sent on a change, tested every 100 µs, and on its event timer, held back by its inhibit time and
sent when that ends, with the payload of the cycle; nothing is sent outside OPERATIONAL. What a command asks waits for the end of the cycle
(the model's reading, assumption log 61). -/
def Claims.TpdosSent : Prop :=
  ∀ (s : State) (n : Fin 4),
    (canLive s = true → s.net.nmt ≠ 5 → exec .syncReceive s = .next (finish s (dropWaits s))) ∧
    (pdoLive s = true → exec .syncReceive s =
      .next (finish s (pdoAsk .sync (dropWaits (applyAll rpdoSync s (allFin 4)))))) ∧
    (exec (.tpdoChangeTest n) s = .next (finish s (pdoAsk (.change n) s)) ∧
      exec (.tpdoEventTimer n) s = .next (finish s (pdoAsk (.timer n) s)) ∧
      exec (.tpdoInhibitEnd n) s = .next (finish s (pdoAsk (.inhibitEnd n) s))) ∧
    (∀ x, s.pdo.asks = [x] → pdoEnd s = pdoTurn { s with pdo := { s.pdo with asks := [] } } x) ∧
    (pdoLive s = true → pdoTurn s .sync = applyAll tpdoSync s (allFin 4)) ∧
    (∀ t, t = modTpdo s n (fun x => { x with testSt := some (now s) }) →
      pdoLive s = true → tpdoEvent s n = true → tpdoTests s n = true →
      (tpdoPayload s n ≠ s.pdo.tpdos[n].sent → tpdoFree s n = true → pdoTurn s (.change n) = tpdoSend t n) ∧
      (tpdoPayload s n ≠ s.pdo.tpdos[n].sent → tpdoFree s n = false →
        pdoTurn s (.change n) = modTpdo t n (fun x => { x with due := true })) ∧
      (tpdoPayload s n = s.pdo.tpdos[n].sent → pdoTurn s (.change n) = t)) ∧
    (pdoLive s = false ∨ tpdoTests s n = false → pdoTurn s (.change n) = s) ∧
    (pdoLive s = true → tpdoEvent s n = true → objN s (0x1800 + n.val) 5 ≠ 0 →
      s.pdo.tpdos[n].timerSt + objN s (0x1800 + n.val) 5 * 200000 ≤ now s →
      pdoTurn s (.timer n) = tpdoDue (modTpdo s n (fun t => { t with timerSt := now s })) n) ∧
    (s.pdo.tpdos[n].due = true → tpdoFree s n = true →
      (pdoLive s = true → tpdoEvent s n = true → pdoTurn s (.inhibitEnd n) = tpdoSend s n) ∧
      (pdoLive s = false → pdoTurn s (.inhibitEnd n) = modTpdo s n (fun t => { t with due := false }))) ∧
    ((tpdoSend s n).pdo.tpdos[n].sent = tpdoPayload s n ∧ (tpdoSend s n).pdo.tpdos[n].sentSt = some (now s) ∧
      (tpdoSend s n).pdo.tpdos[n].due = false ∧ (tpdoSend s n).net.txSt = now s)

/-- PDO parameters (R370): a COB-ID, a transmission type or a mapping entry that passes takes its value at once; a mapping entry is refused with
RANGE, and nothing changes, while the PDO is valid. -/
def Claims.PdoParameters : Prop :=
  ∀ (s : State) (p : Path) (tx : Bool) (n : Fin 4) (v : Nat), v < 2 ^ 32 →
    (∀ k, k = okey (0x1400 + 0x400 * b2n tx + n.val) 1 → Passes s p k v →
      ∃ u, exec (.pdoCobIdWrite p tx n v) s = .next (finish s (taken u p k)) ∧ objK u k = v ∧ k ∈ u.ctl.cobSet) ∧
    (∀ k sub, 1 ≤ sub → sub ≤ 64 → k = okey (0x1600 + 0x400 * b2n tx + n.val) sub → Passes s p k v →
      ∃ u, exec (.pdoMapWrite p tx n sub v) s = .next (finish s (taken u p k)) ∧ objK u k = v) ∧
    (∀ k, v < 256 → k = okey (0x1400 + 0x400 * b2n tx + n.val) 2 → Passes s p k v →
      ∃ u, exec (.pdoMapWrite p tx n 0 v) s = .next (finish s (taken u p k)) ∧ objK u k = v) ∧
    (∀ k sub, 1 ≤ sub → sub ≤ 64 → k = okey (0x1600 + 0x400 * b2n tx + n.val) sub → dictLive s = true → s.ctl.epoch = none →
      pdoInvalid s (0x1600 + 0x400 * b2n tx + n.val) = false → checkWriteRight (touch s p) p k (leNat (numData k v)) = 0 →
      claimLets s p (k / 256) = true → modeLets s p (clsOf k) = true →
      exec (.pdoMapWrite p tx n sub v) s = .next (finish s (turnedAway s p 0x23)))

/-! USB (R381–R393, R403). -/

/-- The link (R381, R382, R392, R403): the pull-up follows VBUS where the mode allows it; a USB reset, the loss of VBUS and SET_CONFIGURATION 0
lose H; a reset sets the default state, the address and configuration 1 the next ones with EV448; remote wake is enabled and disabled
in the address and configured states. -/
def Claims.UsbLink : Prop :=
  ∀ (s : State),
    (s.pw.on = true → s.usb.vbus = false → pullupMode s = true → s.usb.state = 0 → objN s 0x2D08 2 = 0 →
      exec .vbusValid s = .next (finish s (modUsb s (fun u => { u with vbus := true, state := 1 })))) ∧
    (exec .vbusInvalid s = .next (finish s (usbTo (loseH (modUsb s (fun u => { u with vbus := false })) 2) 0))) ∧
    (∀ chirp, s.usb.state ≠ 0 → s.md.mode ≠ .recovery →
      ∃ u, exec (.usbReset chirp) s = .next (finish s (modUsb (usbTo u 2) (fun x =>
          { x with speed := 1 + b2n chirp, remoteEn := false, wakeCause := (if s.usb.state = 5 then 1 else x.wakeCause) }))) ∧
        u = loseH s 1 ∧ u.usb.inp.halted = false ∧ u.usb.inp.buf = []) ∧
    (∀ st, (usbTo s st).usb.state = st ∧ (usbTo s st).usb.rw = .idle ∧ (usbTo s st).usb.attempts = 0) ∧
    (∀ chirp, s.usb.state = 0 → exec (.usbReset chirp) s = .next (finish s s)) ∧
    (s.usb.state = 2 → exec .usbSetAddress s = .next (finish s (modUsb s (fun u => { u with state := 3 })))) ∧
    (s.usb.state = 3 ∨ s.usb.state = 4 →
      exec (.usbSetConfiguration 1) s =
        .next (finish s (raise (modUsb s (fun u => { u with state := 4, stalled := false })) 448 s.usb.speed 0)) ∧
      (s.usb.state = 4 → exec (.usbSetConfiguration 0) s = .next (finish s (usbTo (loseH s 3) 3))) ∧
      (∀ v, 2 ≤ v → exec (.usbSetConfiguration v) s = .next (finish s (modUsb s (fun u => { u with stalled := true }))))) ∧
    (s.usb.state = 3 ∨ s.usb.state = 4 → s.md.mode ≠ .recovery →
      exec .usbSetRemoteWake s = .next (finish s (modUsb s (fun u => { u with remoteEn := true }))) ∧
      exec .usbClearRemoteWake s = .next (finish s (modUsb s (fun u => { u with remoteEn := false }))))

/-- The vendor requests (R383–R385): a READ or WRITE of an object is a transaction of H, counted, and stalled where it is refused; one too
short for its value is malformed; GET_RESULT returns the status and the count; a DOMAIN transfer is opened, moved in segments of
1–4096 bytes and abandoned; an unknown request is stalled with NO_SUCH_OBJECT. -/
def Claims.UsbRequests : Prop :=
  ∀ (s : State), usbLive s = true →
    (∀ i x n, judgeRead s .h (okey i x) = 0 → n < (readData s .h (okey i x)).length →
      exec (.usbReadObject i x n) s = .next (finish s (usbRequest (answer s .h 0x21) true))) ∧
    (∀ i x n, judgeRead s .h (okey i x) = 0 → (readData s .h (okey i x)).length ≤ n →
      exec (.usbReadObject i x n) s = .next (finish s (usbRequest (readTx s .h (okey i x)).1 (vRefused (readTx s .h (okey i x)).2.1)))) ∧
    (∀ i x bs, exec (.usbWriteObject i x bs) s =
      .next (finish s (usbRequest (writeTx s .h (okey i x) bs []).1 (vRefused (writeTx s .h (okey i x) bs []).2)))) ∧
    (exec .usbGetResult s = .next (finish s (modUsb (keepResult s .h
      (leBytes 1 s.ctl.status[Path.h.idx] ++ leBytes 1 0 ++ leBytes 2 s.usb.reqCount)) (fun u => { u with stalled := false })))) ∧
    (∀ i x wr t, exec (.usbDomainOpen i x wr t) s =
      .next (finish s (usbRequest (domOpen s .h i x wr t).1 (vRefused (domOpen s .h i x wr t).2)))) ∧
    (∀ bs, 1 ≤ bs.length → bs.length ≤ 4096 →
      exec (.usbDomainPut bs) s = .next (finish s (usbRequest (domPut s .h bs).1 (vRefused (domPut s .h bs).2)))) ∧
    (∀ n, n ≤ 4096 → exec (.usbDomainGet n) s = .next (finish s (usbRequest (domGet s .h n).1 (vRefused (domGet s .h n).2.1)))) ∧
    (exec .usbDomainAbort s = .next (finish s (usbRequest (domAbort s .h).1 false))) ∧
    (exec .usbBadRequest s = .next (finish s (usbRequest (answer s .h 0x21) true))) ∧
    (usbRequest s true).usb.reqCount = inc16 s.usb.reqCount ∧ (usbRequest s true).usb.stalled = true

/-- DOMAIN transfers (R385, R366): an OPEN that passes abandons the transfer of its path and opens a new one, a read taking the content as it
stands; a segment of a write is kept and the last one judges the write; a segment of a read hands out the next bytes; a segment
without a transfer, against its direction or past its length is refused with RANGE; after 1 s without a segment the transfer is
abandoned. -/
def Claims.DomainTransfers : Prop :=
  ∀ (s : State) (p : Path), dictLive s = true → s.ctl.epoch = none →
    (∀ i x, judgeOpen (touch s p) p i x false 0 = 0 →
      (domOpen s p i x false 0).2 = 0 ∧
      (domOpen s p i x false 0).1.ctl.xfers[p.idx] = some ⟨i, false, (readDom (dropXfer (touch s p) p) i).length,
        readDom (dropXfer (touch s p) p) i, 0, now s⟩) ∧
    (∀ i x t, i ≠ 0x5E00 → judgeOpen (touch s p) p i x true t = 0 →
      (domOpen s p i x true t).1.ctl.xfers[p.idx] = some ⟨i, true, t, [], 0, now s⟩) ∧
    (∀ i x wr t c, judgeOpen (touch s p) p i x wr t = c → c ≠ 0 →
      domOpen s p i x wr t = (turnedAway s p (vStatus c), c)) ∧
    (∀ bs, s.ctl.xfers[p.idx] = none → domPut s p bs = (turnedAway s p 0x23, 0x23)) ∧
    (∀ d bs, s.ctl.xfers[p.idx] = some d → now s < d.lastSt + 200000000 → d.wr = true → d.idx ≠ 0x5E00 →
      (d.data ++ bs).length < d.total →
      (domPut s p bs).2 = 0 ∧ (domPut s p bs).1.ctl.xfers[p.idx] =
        some { d with data := d.data ++ bs, off := (d.data ++ bs).length, lastSt := now s } ∧
      (domPut s p bs).1.ctl.doms = s.ctl.doms) ∧
    (∀ d bs, s.ctl.xfers[p.idx] = some d → now s < d.lastSt + 200000000 → d.total < (d.data ++ bs).length →
      domPut s p bs = (turnedAway s p 0x23, 0x23)) ∧
    (∀ d bs n, s.ctl.xfers[p.idx] = some d → d.lastSt + 200000000 ≤ now s →
      (domPut s p bs).2 = 0x23 ∧ (domPut s p bs).1.ctl.xfers[p.idx] = none ∧ (domGet s p n).2.1 = 0x23) ∧
    (∀ d n, s.ctl.xfers[p.idx] = some d → now s < d.lastSt + 200000000 → d.wr = false → (domGet s p n).2.2 = (d.data.drop d.off).take n ∧
      (domGet s p n).2.1 = 0) ∧
    (∀ d, s.ctl.xfers[p.idx] = some d → d.lastSt + 200000000 ≤ now s →
      exec (.domainTimeout p) s = .next (finish s (dropXfer s p)) ∧ (dropXfer s p).ctl.xfers[p.idx] = none) ∧
    (∀ d, s.ctl.xfers[p.idx] = some d → now s < d.lastSt + 200000000 → exec (.domainTimeout p) s = .next (finish s s))

/-- Suspend and remote wake (R392, R393): the link suspends; K is driven once 5 ms of idle have passed and a record of WAKE_PRIO
waits, released after tUS5, and the sample after tUS6 finds J, or K as COLLIDED; without the host's K the wake is tried again up to
its retries, then EV452; the host's resume ends the suspend with its cause. -/
def Claims.SuspendAndWake : Prop :=
  ∀ (s : State),
    (s.usb.state ≠ 0 → s.usb.state ≠ 5 → ∃ u, exec .usbSuspend s = .next (finish s u) ∧ u.usb.state = 5 ∧
      u.usb.prev = s.usb.state ∧ u.usb.idleSt = now s ∧ u.usb.attempts = 0) ∧
    (remoteWakeDue s = true → s.usb.rw = .idle → s.usb.hostK = false → s.usb.idleSt + 1000000 ≤ now s →
      exec .remoteWakeDriveK s = .next (finish s (modUsb s (fun u => { u with rw := .driving (now s), attempts := u.attempts + 1 })))) ∧
    (s.usb.remoteEn = false → exec .remoteWakeDriveK s = .next (finish s s)) ∧
    (∀ t, s.usb.rw = .driving t → s.usb.state = 5 → t + 380000 ≤ now s →
      exec .remoteWakeRelease s = .next (finish s (modUsb s (fun u => { u with rw := .released (now s) })))) ∧
    (∀ t, s.usb.rw = .released t → s.usb.state = 5 → t + 1800 ≤ now s →
      exec (.remoteWakeSample true) s = .next (finish s (modUsb s (fun u => { u with rw := .idle, hostK := true, cause := 3 }))) ∧
      exec (.remoteWakeSample false) s = .next (finish s (modUsb s (fun u => { u with rw := .awaitK t, cause := 2 })))) ∧
    (∀ t, s.usb.rw = .awaitK t → s.usb.state = 5 → t + 2000000 ≤ now s →
      (s.usb.attempts ≤ objN s 0x2A00 3 →
        exec .remoteWakeRetry s = .next (finish s (modUsb s (fun u => { u with rw := .idle, idleSt := t, cause := 0 })))) ∧
      (objN s 0x2A00 3 < s.usb.attempts →
        exec .remoteWakeRetry s = .next (finish s (raise (modUsb s (fun u => { u with rw := .spent, cause := 0 })) 452 s.usb.attempts 0)))) ∧
    (s.usb.state = 5 → s.usb.hostK = false → s.usb.rw = .idle ∨ s.usb.rw = .spent →
      exec .usbHostResume s = .next (finish s (modUsb s (fun u => { u with hostK := true, cause := 1 })))) ∧
    (s.usb.state = 5 → s.usb.hostK = true → ∃ u, exec .usbResumeEnd s = .next (finish s u) ∧ u.usb.state = s.usb.prev ∧
      u.usb.wakeCause = s.usb.cause ∧ u.usb.resumes = inc32 s.usb.resumes ∧ u.usb.rw = .idle)

/-- The endpoints (R388–R391): an IN token of EP 0x82 takes EVT_BATCH records, oldest first; a bulk OUT packet is NAKed while stream staging
cannot take it, and is received otherwise; a raster record whose body fits its head is accepted; a bulk IN packet carries the next bytes of the
ready records, the outgoing record leaves with its last byte, and a full last packet is followed by one of zero length; CLEAR_HALT makes the next byte start a record. -/
def Claims.UsbEndpoints : Prop :=
  ∀ (s : State), usbLive s = true →
    (exec .eventInToken s = .next (finish s (modUsb s (fun u =>
      { u with packet := u.q.recs.take (objN s 0x2A00 2), q := { u.q with recs := u.q.recs.drop (objN s 0x2A00 2) } })))) ∧
    (∀ bs, s.usb.inp.halted = false → inSpace s < bs.length →
      exec (.bulkOutPacket bs) s = .next (finish s (modUsb s (fun u => { u with nakked := true })))) ∧
    (∀ bs, bs.length ≤ inSpace s →
      exec (.bulkOutPacket bs) s = .next (finish s (streamReceive (modUsb s (fun u => { u with nakked := false })) .h bs))) ∧
    (∀ w, acceptable s s.usb.inp.waits [] = some w → exec (.rasterAccept false) s = .next (finish s
      (rasterAdd (modUsb s (fun u => { u with inp := { u.inp with waits := u.inp.waits.erase w } })) w.head (w.lines.map lineOf)))) ∧
    (∀ w, acceptable s s.cb.inp.waits [] = some w → exec (.rasterAccept true) s = .next (finish s
      (rasterAdd (modCb s (fun u => { u with inp := { u.inp with waits := u.inp.waits.erase w } })) w.head (w.lines.map lineOf)))) ∧
    (acceptable s s.usb.inp.waits [] = none → exec (.rasterAccept false) s = .next (finish s s)) ∧
    (∀ r rs pk, bulkRecs s = r :: rs → pk = bulkPacket s → s.usb.inOff + pk.length < r.bytes.length →
      exec (.bulkInAck false) s = .next (finish s (modUsb (beginRec s r .h) (fun u =>
        { u with inOff := s.usb.inOff + pk.length, bulk := pk, inFull := decide (pk.length = bulkMax s) })))) ∧
    (∀ r pk, bulkRecs s = [r] → pk = bulkPacket s → pk ≠ [] → r.bytes.length ≤ s.usb.inOff + pk.length →
      exec (.bulkInAck true) s = .next (finish s (modUsb (takeRec s r) (fun u =>
        { u with inOff := 0, bulk := pk, inFull := decide (pk.length = bulkMax s) })))) ∧
    (bulkRecs s = [] →
      (s.usb.inFull = true → exec (.bulkInAck false) s = .next (finish s (modUsb s (fun u =>
        { u with inOff := 0, bulk := [], inFull := false })))) ∧
      (s.usb.inFull = false → exec (.bulkInAck false) s = .next (finish s s))) ∧
    (∀ last, last ≠ bulkLast s → exec (.bulkInAck last) s = .next (finish s s)) ∧
    (exec .usbClearHalt s = .next (finish s (modUsb s (fun u =>
      { u with inp := { u.inp with buf := [], halted := false, named := none } }))))

/-! The companion bus (R395–R403). -/

/-- The Mirror (R396, R397): a read at a rising address within the snapshot time goes on with the snapshot; one at an address no higher, the
first after another access, and one later than MIRROR_HOLD take a new one, which shows the engine as the last completed cycle left it. -/
def Claims.MirrorReads : Prop :=
  ∀ (s : State) (a : Nat), cbPowered s = true →
    (mirrorFresh s a = true → ∃ u, exec (.mirrorRead a) s = .next (finish s u) ∧ u.cb.mirror.snap = mirrorLast (modCb s (fun c => { c with rstLow := false })) ∧
      u.cb.word = rdLE u.cb.mirror.snap a 2 ∧ u.cb.mirror.prev = some a ∧ u.cb.mirror.prevSt = now s) ∧
    (mirrorFresh s a = false → ∃ u, exec (.mirrorRead a) s = .next (finish s u) ∧ u.cb.mirror.snap = s.cb.mirror.snap ∧
      u.cb.word = rdLE s.cb.mirror.snap a 2 ∧ u.cb.mirror.prev = some a) ∧
    (∀ img, s.cb.mirror.last = some img → mirrorLast s = img) ∧
    ((mirrorNote s).cb.mirror.last = some (mirrorImage s)) ∧
    (s.cb.mirror.prev = none → mirrorFresh s a = true) ∧
    (∀ p, s.cb.mirror.prev = some p → a ≤ p → mirrorFresh s a = true) ∧
    (∀ p, s.cb.mirror.prev = some p → p < a → now s ≤ s.cb.mirror.prevSt + objN s 0x2A10 3 → mirrorFresh s a = false) ∧
    (cbTouch s).cb.mirror.prev = none

/-- Posted writes (R399): a doorbell and PW_GO put a write at the end of the FIFO, of the length of the object, a doorbell of an empty map
none; where the planes do not run neither enters; the 33rd waiting one is dropped and counted; the drain judges the oldest as a write of C, counted, and
reports a refused one with EV457. -/
def Claims.PostedWrites : Prop :=
  ∀ (s : State), cbPowered s = true →
    (∀ (n : Fin 16) w r, controlLive s = true → objN s 0x2A10 (4 + n.val) ≠ 0 → objRow (objN s 0x2A10 (4 + n.val) / 256) = some r → s.cb.fifo.length < 32 →
      exec (.doorbellWrite n w) s = .next (finish s (modCb (cbTouch s) (fun c =>
        { c with fifo := c.fifo ++ [(objN s 0x2A10 (4 + n.val) / 256, leBytes (min 2 r.ty.bytes) w)], dropRun := false })))) ∧
    (∀ (n : Fin 16) w, objN s 0x2A10 (4 + n.val) = 0 → exec (.doorbellWrite n w) s = .next (finish s (cbTouch s))) ∧
    (controlLive s = false → (∀ n w, exec (.doorbellWrite n w) s = .next (finish s (cbTouch s))) ∧
      ∀ i x l v, exec (.pwGo i x l v) s = .next (finish s (cbTouch s))) ∧
    (∀ i x l v, controlLive s = true → s.cb.fifo.length < 32 → ∃ u, exec (.pwGo i x l v) s = .next (finish s u) ∧
      u.cb.fifo = s.cb.fifo ++ [(okey i x, leBytes l v)] ∧ u.cb.pwIndex = i ∧ u.cb.pwSub = x ∧ u.cb.pwLen = l ∧ u.cb.pwVal = v) ∧
    (∀ i x l v, controlLive s = true → 32 ≤ s.cb.fifo.length → ∃ u, exec (.pwGo i x l v) s = .next (finish s u) ∧
      u.cb.fifo = s.cb.fifo ∧ u.cb.dropped = inc32 s.cb.dropped) ∧
    (∀ k bs r w, s.cb.fifo = (k, bs) :: r → dictLive s = true →
      w = writeTx (modCb s (fun c => { c with fifo := r, processed := inc32 c.processed })) .c k bs [] →
      exec .postedDrain s = .next (finish s (if vRefused w.2 then postedRefused w.1 k w.2 else w.1))) ∧
    (s.cb.fifo = [] → exec .postedDrain s = .next (finish s s))

/-- The mailbox (R400, R401): a command while BUSY only sets IGNORED; a read leaves its data in MB_DATA and its status, with DONE and the
sequence number advanced; a write, an OPEN, a SEGMENT and an ABORT are transactions of C; one that is answered later stays BUSY until
it is reported; STREAM_RESET clears the IN port. -/
def Claims.MailboxRequests : Prop :=
  ∀ (s : State), cbPowered s = true → dictLive s = true →
    (s.cb.mb.busy = true →
      (∀ i x, ∃ u, exec (.mbRead i x) s = .next (finish s u) ∧ u = modCb (cbTouch s) (fun c => { c with mb := { c.mb with ignored := true } }) ∧
        (∀ bs, exec (.mbWrite i x bs) s = .next (finish s u)) ∧ exec (.mbOpenRead i x) s = .next (finish s u) ∧
        (∀ t, exec (.mbOpenWrite i x t) s = .next (finish s u)) ∧ (∀ o l bs, exec (.mbSegment o l bs) s = .next (finish s u)) ∧
        exec .mbAbort s = .next (finish s u) ∧ exec .mbStreamReset s = .next (finish s u))) ∧
    (s.cb.mb.busy = false →
      (∀ i x, judgeRead (touch s .c) .c (okey i x) = 0 → okey i x ≠ okey 0x2930 2 → ∃ u, exec (.mbRead i x) s = .next (finish s u) ∧
        u.cb.mb.busy = false ∧ u.cb.mb.done = true ∧ u.cb.mb.code = 0 ∧ u.cb.mb.seq = wrap 16 (s.cb.mb.seq + 1) ∧
        u.cb.mb.len = u.cb.mb.data.length ∧ u.cb.mb.index = i ∧ u.cb.mb.sub = x) ∧
      (∃ t, t = modCb (cbTouch s) (fun c => { c with mb := { c.mb with busy := true, done := false, ignored := false, late := none } }) ∧
        (∀ i x bs w, w = writeTx (mbData (mbName t i x) bs) .c (okey i x) bs [] →
          exec (.mbWrite i x bs) s = .next (finish s (if w.2 = vLate then w.1 else mbDone w.1 (vStatus w.2)))) ∧
        (∀ i x w, w = domOpen (mbName t i x) .c i x false 0 →
          exec (.mbOpenRead i x) s = .next (finish s (if w.2 = vLate then w.1 else mbDone w.1 (vStatus w.2)))) ∧
        (∀ i x n w, w = domOpen (modCb (mbName t i x) (fun c => { c with mb := { c.mb with offset := n } })) .c i x true n →
          exec (.mbOpenWrite i x n) s = .next (finish s (if w.2 = vLate then w.1 else mbDone w.1 (vStatus w.2)))) ∧
        (∀ o l bs, s.ctl.xfers[Path.c.idx] = none → ∃ u, exec (.mbSegment o l bs) s = .next (finish s (mbDone u 0x23)) ∧
          u.ctl.status[Path.c.idx] = 0x23) ∧
        (∀ w, w = domAbort t .c → exec .mbAbort s = .next (finish s (if w.2 = vLate then w.1 else mbDone w.1 (vStatus w.2)))) ∧
        exec .mbStreamReset s = .next (finish s (mbDone (modCb t (fun c =>
          { c with inp := { c.inp with buf := [], halted := false, odd := false, named := none } })) 0)))) ∧
    (∀ code, s.cb.mb.late = some code → s.cb.mb.busy = true → exec .mbRequestDone s = .next (finish s (mbDone s code))) ∧
    (s.cb.mb.late = none → exec .mbRequestDone s = .next (finish s s))

/-- The ports (R386, R389, R402, R403): a word for the IN port is discarded as a record error of reason 4 without space, and received
otherwise; the OUT port reads 0 and counts an underrun where no record waits; the event port reads the words of the oldest record,
which leaves with its eighth; where the planes do not run the ports do nothing; CB_RST# low loses C. -/
def Claims.CompanionPorts : Prop :=
  ∀ (s : State), cbPowered s = true →
    (controlLive s = false → (∀ w, exec (.cbInWrite w) s = .next (finish s (cbTouch s))) ∧
      exec .cbOutRead s = .next (finish s (cbTouch s)) ∧ exec .cbEventRead s = .next (finish s (cbTouch s))) ∧
    (controlLive s = true →
    (∀ w, s.cb.inp.halted = false → inSpace s = 0 → exec (.cbInWrite w) s = .next (finish s (recordError (cbTouch s) .c 4))) ∧
    (∀ w, s.cb.inp.halted = false → inSpace s ≠ 0 →
      exec (.cbInWrite w) s = .next (finish s (streamReceive (cbTouch s) .c (leBytes 2 w)))) ∧
    (∀ w, s.cb.inp.halted = true → exec (.cbInWrite w) s = .next (finish s (cbTouch s))) ∧
    (nextRec s .c = none → exec .cbOutRead s = .next (finish s (modCb (cbTouch s) (fun c =>
      { c with word := 0, underruns := inc32 c.underruns })))) ∧
    (∀ r, nextRec s .c = some r → ∃ u, exec .cbOutRead s = .next (finish s u) ∧ u.cb.word = rdLE r.bytes (2 * s.cb.outOff) 2 ∧
      (paddedLen r ≤ 2 * (s.cb.outOff + 1) → u.cb.outOff = 0 ∧ u.img = (takeRec s r).img) ∧
      (2 * (s.cb.outOff + 1) < paddedLen r → u.cb.outOff = s.cb.outOff + 1)) ∧
    (s.cb.q.recs = [] → exec .cbEventRead s = .next (finish s (modCb (cbTouch s) (fun c => { c with word := 0 })))) ∧
    (∀ r rest, s.cb.q.recs = r :: rest → ∃ u, exec .cbEventRead s = .next (finish s u) ∧
      u.cb.word = rdLE (evBytes r) (2 * s.cb.evOff) 2 ∧
      (s.cb.evOff = 7 → u.cb.evOff = 0 ∧ u.cb.q.recs = rest) ∧
      (s.cb.evOff ≠ 7 → u.cb.evOff = s.cb.evOff + 1 ∧ u.cb.q = s.cb.q))) ∧
    (exec .cbReset s = .next (finish s (loseC (modCb s (fun c => { c with rstLow := true }))))) ∧
    ((loseC s).cb.inp.buf = [] ∧ (loseC s).cb.inp.named = none)

/-! The field network (R410–R419). -/

/-- NMT (R413, R414): a command for this node or for every node moves the NMT state with EV467; one for another node does nothing; Reset Node
and Reset Communication return the communication objects, lose N and enter INITIALISING; the boot-up frame leads to
PRE-OPERATIONAL. -/
def Claims.NmtCommands : Prop :=
  ∀ (s : State) (node : Nat),
    (nmtMine s node = true → s.net.nmt ≠ 0 →
      exec (.nmtStart node) s = .next (finish s (lrLeave (nmtTo s 5 0x01) false)) ∧
      exec (.nmtStop node) s = .next (finish s (lrLeave (nmtTo s 4 0x02) false)) ∧
      exec (.nmtEnterPreop node) s = .next (finish s (lrLeave (nmtTo s 0x7F 0x80) false))) ∧
    (node ≠ 0 → node ≠ s.net.nodeAct →
      exec (.nmtStart node) s = .next (finish s s) ∧ exec (.nmtStop node) s = .next (finish s s) ∧
      exec (.nmtEnterPreop node) s = .next (finish s s) ∧ exec (.nmtResetNode node) s = .next (finish s s) ∧
      exec (.nmtResetComm node) s = .next (finish s s)) ∧
    (nmtMine s node = true → ∃ u, exec (.nmtResetNode node) s = .next (finish s (nmtTo (dropWaits u) 0 0x81)) ∧
      exec (.nmtResetComm node) s = .next (finish s (nmtTo (dropWaits u) 0 0x82)) ∧ u.net.usdo = [] ∧ u.net.usdoWait = []) ∧
    (canLive s = true → s.net.nmt = 0 →
      exec .nmtBootup s = .next (finish s (nmtTo (modNet (sendCan s (0x700 + s.net.nodeAct) [0]) (fun n => { n with hbSt := now s })) 0x7F 0))) ∧
    (∀ st cmd, (nmtTo s st cmd).net.nmt = st) ∧
    (∀ st cmd, s.net.nmt ≠ st → nmtTo s st cmd = raise (modNet s (fun n => { n with nmt := st })) 467 (s.net.nmt + 256 * st) cmd)

/-- Bus errors (R412): a bus-off is counted, ERR_BEHAVIOUR acts on the NMT state and N is lost; recovery returns to error
active with both counters 0 and EV465; from a count of 128 the node is error passive. -/
def Claims.BusErrors : Prop :=
  ∀ (s : State),
    (∀ t r, canLive s = true → ∃ u, exec (.canBusOff t r) s = .next (finish s (loseN u 2)) ∧
      u.net.busState = 2 ∧ u.net.busoffs = inc16 s.net.busoffs ∧
      (objN s 0x1029 1 = 2 → u.net.nmt = 4) ∧ (objN s 0x1029 1 = 0 → s.net.nmt = 5 → u.net.nmt = 0x7F) ∧
      (objN s 0x1029 1 = 1 → u.net.nmt = s.net.nmt)) ∧
    (s.net.busState = 2 → exec .canRecovered s = .next (finish s (lrBack (raise (modNet s (fun n =>
      { n with busState := 0, tec := 0, rec_ := 0 })) 465 0 0)))) ∧
    (s.net.busState ≠ 2 → exec .canRecovered s = .next (finish s s)) ∧
    (∀ t r, canLive s = true → exec (.errorPassive t r) s = .next (finish s (modNet s (fun n =>
      { n with tec := wrap 8 t, rec_ := wrap 8 r, busState := b2n (decide (128 ≤ wrap 8 t) || decide (128 ≤ wrap 8 r)) }))))

/-- Heartbeat and EMCY (R417, R418): the heartbeat is sent PRODUCER_HB ms after the previous one and not in INITIALISING; a heartbeat arms the
entries of its node; an armed entry that times out is disarmed and counted with EV468; the oldest EMCY frame is sent after the inhibit
time. -/
def Claims.HeartbeatAndEmcy : Prop :=
  ∀ (s : State),
    (canLive s = true → s.net.nmt ≠ 0 → objN s 0x1017 0 ≠ 0 → s.net.hbSt + objN s 0x1017 0 * 200000 ≤ now s →
      exec .heartbeatSend s = .next (finish s (modNet (sendCan s (0x700 + s.net.nodeAct) (leBytes 1 s.net.nmt)) (fun n =>
        { n with hbSt := now s })))) ∧
    (s.net.nmt = 0 ∨ objN s 0x1017 0 = 0 → exec .heartbeatSend s = .next (finish s s)) ∧
    (∀ node, canLive s = true → s.net.nmt ≠ 0 → ∃ u, exec (.heartbeatReceive node) s = .next (finish s u) ∧
      ∀ i : Fin 4, u.net.hb[i] = if hbTime s i ≠ 0 ∧ hbNode s i = node then some (now s) else s.net.hb[i]) ∧
    (∀ (i : Fin 4) t, canLive s = true → s.net.hb[i] = some t → hbTime s i ≠ 0 → t + hbTime s i ≤ now s →
      exec (.hbTimeout i) s = .next (finish s (errBehaviour (raise (modNet s (fun n =>
        { n with hb := upd n.hb i (fun _ => none), hbTimeouts := inc16 n.hbTimeouts })) 468 (hbNode s i) (inc16 s.net.hbTimeouts))))) ∧
    (∀ f r, s.net.emcyQ = f :: r → usdoLive s = true → emcyFree s = true →
      exec .emcySend s = .next (finish s (modNet (sendCan s (canId s 0x1014 0) f) (fun n =>
        { n with emcyQ := r, emcySent := inc32 n.emcySent, emcySt := some (now s) })))) ∧
    (s.net.emcyQ = [] → exec .emcySend s = .next (finish s s))

/-- USDO (R415): sessions that have run out are gone first; an initiate of a fifth client is answered with 0x0504_0005, and so is a segment of
one; a segment without a session with 0x0504_0001; a download that is complete is judged as a write of N and answered with its abort code; a
longer one keeps a session; a session is ended by its client and by 1 s without a segment, with 0x0504_0000. -/
def Claims.UsdoSessions : Prop :=
  ∀ (s0 : State) (c : Nat) (s : State), s = usdoExpire s0 → usdoLive s0 = true →
    (∀ i x t bs, usdoRoom s c = false → exec (.usdoDownloadInit c i x t bs) s0 = .next (finish s0 (usdoAnswer s c 0x05040005 []))) ∧
    (∀ i x r, usdoRoom s c = false → exec (.usdoUploadInit c i x r) s0 = .next (finish s0 (usdoAnswer s c 0x05040005 []))) ∧
    (usdoFind s c = none → ∀ k, k = (if usdoRoom s c then 0x05040001 else 0x05040005) →
      (∀ bs, exec (.usdoDownloadSegment c bs) s0 = .next (finish s0 (usdoAnswer s c k []))) ∧
      (∀ r, exec (.usdoUploadSegment c r) s0 = .next (finish s0 (usdoAnswer s c k [])))) ∧
    (∀ i x t bs, usdoRoom s c = true → usdoFind s c = none → keyIsDom (okey i x) = false → t ≤ bs.length →
      exec (.usdoDownloadInit c i x t bs) s0 = .next (finish s0 (usdoWrite s c (okey i x) bs))) ∧
    (∀ i x t bs, usdoRoom s c = true → usdoFind s c = none → keyIsDom (okey i x) = false → bs.length < t →
      exec (.usdoDownloadInit c i x t bs) s0 = .next (finish s0 (usdoAnswer
        (usdoKeep s ⟨c, okey i x, true, t, bs, bs.length, now s⟩) c 0 []))) ∧
    (∀ e bs, usdoFind s c = some e → e.wr = true → keyIsDom e.key = false → e.total ≤ (e.data ++ bs).length →
      exec (.usdoDownloadSegment c bs) s0 = .next (finish s0 (usdoWrite (usdoForget s c) c e.key (e.data ++ bs)))) ∧
    (∀ i x r, usdoRoom s c = true → usdoFind s c = none → keyIsDom (okey i x) = false → judgeRead (touch s .n) .n (okey i x) ≠ 0 →
      exec (.usdoUploadInit c i x r) s0 = .next (finish s0 (usdoAnswer (readTx s .n (okey i x)).1 c
        (abortCode (readTx s .n (okey i x)).2.1) []))) ∧
    (∀ i x r d, usdoRoom s c = true → usdoFind s c = none → keyIsDom (okey i x) = false → judgeRead (touch s .n) .n (okey i x) = 0 →
      d = readTx s .n (okey i x) → d.2.2.length ≤ r →
      exec (.usdoUploadInit c i x r) s0 = .next (finish s0 (usdoAnswer d.1 c 0 d.2.2))) ∧
    (∀ e r, usdoFind s c = some e → e.wr = false → keyIsDom e.key = false →
      ∃ u, exec (.usdoUploadSegment c r) s0 = .next (finish s0 u) ∧ u.net.reply = some ⟨c, 0, (e.data.drop e.off).take r⟩) ∧
    (∃ u, exec (.usdoClientAbort c) s0 = .next (finish s0 u) ∧ usdoFind u c = none) ∧
    (∀ e, usdoFind s0 c = some e → e.lastSt + 200000000 ≤ now s0 →
      ∃ u, exec (.usdoTimeout c) s0 = .next (finish s0 u) ∧ usdoFind u c = none ∧ u.net.reply = some ⟨c, 0x05040000, []⟩) ∧
    ((∀ e ∈ s0.net.usdo, now s0 < e.lastSt + 200000000) → s = s0)

/-! The Last Ride (R420–R429). -/

/-- Readiness (R422): the first condition that fails gives the reason. -/
def Claims.LastRideReadiness : Prop :=
  ∀ (s : State),
    (objN s 0x2A48 2 = 1 → s.md.mode ≠ .standby → lrBusy s = 1) ∧
    (objN s 0x2A48 2 ≠ 1 ∨ s.md.mode = .standby → ledgerIdle s = false → lrBusy s = 2) ∧
    (objN s 0x2A48 2 ≠ 1 ∨ s.md.mode = .standby → ledgerIdle s = true →
      (s.md.trans.isSome = true ∨ s.md.held = true → lrBusy s = 3) ∧
      (s.md.trans = none → s.md.held = false →
        (s.net.lr.evSince = true → lrBusy s = 4) ∧
        (s.net.lr.evSince = false →
          (hostActive s = true → lrBusy s = 5) ∧
          (hostActive s = false → lrBusy s = if s.net.lr.localWake then 6 else 0)))) ∧
    (s.usb.state = 4 → hostActive s = true) ∧ (s.usb.state ≠ 4 → s.cb.rstLow = true → hostActive s = false)

/-- The master (R421, R423): LR_CALL begins a round with the next number and the CALL frame, refused with WRONG_MODE where the engine is busy; a
member's answer is kept once; after the window the round is aborted with the first failing answer, a missing member counting as reason
7, or a VETO as reason 8, and COMMIT is sent where every member is ready; a VETO after it aborts at once. -/
def Claims.LastRideMaster : Prop :=
  ∀ (s : State),
    (∀ p t, Passes s p (okey 0x2A48 8) 1 → objN s 0x2A48 1 = 2 → lrLive s = true → s.net.lr.state = 0 →
      t = modLr (touch s p) (fun l => { l with evSince := false, localWake := false }) →
      (lrBusy t = 0 → exec (.lrCall p 1) s = .next (finish s
        (taken (lrSend (lrBegin t (inc8 s.net.lr.round) 2 true) 1 0) p (okey 0x2A48 8)))) ∧
      (∀ r, lrBusy t = r → r ≠ 0 → exec (.lrCall p 1) s = .next (finish s
        (answer (modLr (touch s p) (fun l => { l with reason := r })) p 0x24)))) ∧
    (lrPart s = true → s.net.lr.state = 2 → s.net.lr.master = true →
      (∀ n r, n ∈ lrMembers s → s.net.lr.answers.lookup n = none →
        exec (.lrAnswerReceive n s.net.lr.round r) s =
          .next (finish s (modLr s (fun l => { l with answers := l.answers ++ [(n, r)] })))) ∧
      (∀ n r, s.net.lr.answers.lookup n ≠ none → exec (.lrAnswerReceive n s.net.lr.round r) s = .next (finish s s)) ∧
      (s.net.lr.commitSent = false → s.net.lr.startSt + 10000000 ≤ now s →
        (∀ n, s.net.lr.veto = some n →
          exec .lrAnswerWindowEnd s = .next (finish s (lrEnd (lrSend s 6 8) 2 8 n))) ∧
        (∀ n r, s.net.lr.veto = none → lrFailing s = some (n, r) →
          exec .lrAnswerWindowEnd s = .next (finish s (lrEnd (lrSend s 6 r) 2 r n))) ∧
        (s.net.lr.veto = none → lrFailing s = none → lrBusy s = 0 →
          exec .lrAnswerWindowEnd s = .next (finish s (lrSend (modLr s (fun l => { l with commitSent := true })) 5 0))) ∧
        (∀ r, s.net.lr.veto = none → lrFailing s = none → lrBusy s = r → r ≠ 0 →
          exec .lrAnswerWindowEnd s = .next (finish s (lrEnd (lrSend s 6 r) 2 r s.net.nodeAct)))) ∧
      (∀ a, s.net.lr.answers.find? (fun a => a.2 != 0) = some a → lrFailing s = some a) ∧
      (s.net.lr.answers.find? (fun a => a.2 != 0) = none → ∀ n,
        (lrMembers s).find? (fun n => (s.net.lr.answers.lookup n).isNone) = some n → lrFailing s = some (n, 7)) ∧
      (∀ n, s.net.lr.commitSent = true →
        exec (.lrVetoReceive n s.net.lr.round) s = .next (finish s (lrEnd (lrSend s 6 8) 2 8 n))) ∧
      (∀ n, s.net.lr.commitSent = false →
        exec (.lrVetoReceive n s.net.lr.round) s = .next (finish s (modLr s (fun l => { l with veto := some n })))))

/-- The participant (R421, R424): a CALL of LR_MASTER is answered READY or BUSY with its reason; one of another node is reported with EV478;
an ABORT ends the round, and 100 ms without COMMIT or ABORT after READY end it with outcome 4. -/
def Claims.LastRideParticipant : Prop :=
  ∀ (s : State), lrPart s = true → objN s 0x2A48 1 = 1 →
    (∀ n r, n ≠ objN s 0x2A48 3 →
      exec (.lrCallReceive n r) s = .next (finish s (raise (modLr s (fun l => { l with node := n })) 478 n r))) ∧
    (∀ r t, s.net.lr.state ≠ 3 → s.net.lr.state ≠ 4 → t = lrBegin s (wrap 8 r) 1 false →
      (lrBusy t = 0 → exec (.lrCallReceive (objN s 0x2A48 3) r) s =
        .next (finish s (lrSend (modLr t (fun l => { l with ready := true })) 2 0))) ∧
      (lrBusy t ≠ 0 → exec (.lrCallReceive (objN s 0x2A48 3) r) s =
        .next (finish s (lrSend (modLr t (fun l => { l with ready := false })) 3 (lrBusy t))))) ∧
    (∀ r, s.net.lr.state = 1 →
      exec (.lrAbortReceive (objN s 0x2A48 3) s.net.lr.round r) s = .next (finish s (lrEnd s 2 r (objN s 0x2A48 3)))) ∧
    (s.net.lr.state = 1 → s.net.lr.ready = true → s.net.lr.startSt + 20000000 ≤ now s →
      exec .lrWaitTimeout s = .next (finish s (lrEnd s 4 0 (objN s 0x2A48 3))))

/-- The curtain, sleep and wake (R425–R429): the COMMIT starts the curtain; a WAKE or a VETO in it cancels the round with outcome 3; at its end with LR_ACTION 0 or 2 the engine sleeps and the transceiver is in standby, its waiting EMCY frames gone; a wake of the transceiver ends the sleep, or
in DOZE is a wake source. -/
def Claims.LastRideCurtain : Prop :=
  ∀ (s : State),
    (lrPart s = true → s.net.lr.state = 1 → s.net.lr.master = false →
      exec (.lrCommitReceive (objN s 0x2A48 3) s.net.lr.round) s =
        .next (finish s (modLr s (fun l => { l with state := 3, startSt := now s })))) ∧
    (lrPart s = true → s.net.lr.state = 2 → s.net.lr.master = true → s.net.lr.commitSent = true →
      exec (.lrCommitReceive s.net.nodeAct s.net.lr.round) s =
        .next (finish s (modLr s (fun l => { l with state := 3, startSt := now s })))) ∧
    (∀ n, lrPart s = true → s.net.lr.state = 3 →
      exec (.lrWakeReceive n) s = .next (finish s (lrEnd s 3 9 n)) ∧
      exec (.lrVetoReceive n s.net.lr.round) s = .next (finish s (lrEnd (lrSend s 7 8) 3 8 n))) ∧
    (s.net.lr.state = 3 → s.net.lr.startSt + 3980000 ≤ now s → objN s 0x2A48 2 ≠ 1 →
      ∃ u, exec .lrCurtainEnd s = .next (finish s (canStandby u 3)) ∧ u.net.lr.state = 4 ∧ u.net.lr.outcome = 1 ∧
        u.net.lr.sleeps = inc32 s.net.lr.sleeps) ∧
    ((canStandby s 3).net.busState = 3 ∧ (canStandby s 3).net.emcyQ = []) ∧
    (∀ f c, s.net.busState = 3 → wakeCauseOf s f = some c →
      (s.md.mode ≠ .doze → exec (.canWake f) s = .next (finish s (lrWoken (canUp s) c 0))) ∧
      (s.md.mode = .doze → exec (.canWake f) s = .next (finish s (modMd (modLr s (fun l => { l with wakeCause := c }))
        (fun d => { d with wakeSrc := setBit d.wakeSrc 4 }))))) ∧
    (∀ f, wakeCauseOf s f = none → exec (.canWake f) s = .next (finish s s)) ∧
    (∀ outcome r n, (lrEnd s outcome r n).net.lr.state = 0 ∧ (lrEnd s outcome r n).net.lr.outcome = outcome ∧
      (lrEnd s outcome r n).net.lr.reason = r ∧ (lrEnd s outcome r n).net.lr.node = n)

/-! The serial ports (R430–R435). -/

/-- A frame and its flags (R430–R432): each bit is the majority of its samples; with 8 data bits, no parity and 1 stop bit the character is the data bits, least significant first, with its framing, break and noise flags. -/
def Claims.UartFrames : Prop :=
  (∀ k, sampleHigh k = decide (2 ≤ k)) ∧
  (∀ s n b0 b1 b2 b3 b4 b5 b6 b7, uartCfg s n 3 = 8 → uartCfg s n 4 = 0 → uartCfg s n 5 = 1 →
    (uartFrame s n [0, 3 * b2n b0, 3 * b2n b1, 3 * b2n b2, 3 * b2n b3, 3 * b2n b4, 3 * b2n b5, 3 * b2n b6, 3 * b2n b7, 3]) =
      ⟨b2n b0 + 2 * b2n b1 + 4 * b2n b2 + 8 * b2n b3 + 16 * b2n b4 + 32 * b2n b5 + 64 * b2n b6 + 128 * b2n b7, false, false, false,
        false⟩) ∧
  (∀ s n, uartCfg s n 3 = 8 → uartCfg s n 4 = 0 → uartCfg s n 5 = 1 →
    (uartFrame s n [0, 0, 0, 0, 0, 0, 0, 0, 0, 0]).brk = true ∧ (uartFrame s n [0, 0, 0, 0, 0, 0, 0, 0, 0, 0]).framing = true ∧
    (uartFrame s n [0, 3, 3, 3, 3, 3, 3, 3, 3, 0]).framing = true ∧ (uartFrame s n [0, 3, 3, 3, 3, 3, 3, 3, 3, 0]).brk = false ∧
    (uartFrame s n [0, 3, 2, 3, 3, 3, 3, 3, 3, 3]).noise = true ∧ (uartFrame s n [0, 3, 2, 3, 3, 3, 3, 3, 3, 3]).data = 255)

/-- Receiving (R431, R432, R435): a character that finds the holding register empty is stored with its flags and counted; one that finds it
full is lost, the kept word marked and OVERRUNS counted; after a BREAK nothing is received until the line has returned high; a start edge
begins a frame of an active receiver, and with WAKE_EN wakes. -/
def Claims.UartReceives : Prop :=
  ∀ (s : State) (n : Fin 2),
    (∀ f, s.uarts[n].rxHold = none → ∃ u, uartStore s n f = u ∧ u.uarts[n].rxHold = some (f.data + f.flags) ∧
      u.uarts[n].rxChars = inc32 s.uarts[n].rxChars ∧ u.uarts[n].overruns = s.uarts[n].overruns) ∧
    (∀ f w, s.uarts[n].rxHold = some w → ∃ u, uartStore s n f = u ∧ u.uarts[n].rxHold = some (setBit w 13) ∧
      u.uarts[n].rxChars = s.uarts[n].rxChars ∧ u.uarts[n].overruns = inc32 s.uarts[n].overruns) ∧
    (∀ x, dictLive s = true → s.uarts[n].breakWait = false → uartCfg s n 7 ≠ 1 → uartActive s n = true → sampleHigh (x.headD 3) = false →
      exec (.uartRxChar n x) s =
        .next (finish s (uartStore (modUart s n (fun u => { u with rxBusy := false })) n (uartFrame s n x)))) ∧
    (∀ x, s.uarts[n].breakWait = true → exec (.uartRxChar n x) s = .next (finish s s)) ∧
    (exec (.uartBreakEnd n) s = .next (finish s (modUart s n (fun u => { u with breakWait := false })))) ∧
    (uartCfg s n 7 ≠ 1 → s.md.mode = .doze → exec (.uartStartEdgeWake n) s = .next (finish s s)) ∧
    (s.md.mode ≠ .doze → dictLive s = false → exec (.uartStartEdgeWake n) s = .next (finish s s)) ∧
    (uartCfg s n 7 = 1 → s.md.mode = .doze → ∃ u, exec (.uartStartEdgeWake n) s = .next (finish s u) ∧
      u.md.wakeSrc = setBit s.md.wakeSrc (2 + n.val) ∧ u.uarts[n].rtsWake = true ∧ u.uarts[n].wakePend = true) ∧
    (s.md.mode ≠ .doze → dictLive s = true → ∃ u, exec (.uartStartEdgeWake n) s = .next (finish s u) ∧
      (uartCfg s n 7 = 1 → u.net.lr.localWake = true) ∧ (uartCfg s n 7 ≠ 1 → u.net = s.net) ∧
      u.uarts[n] = { s.uarts[n] with rxBusy := s.uarts[n].rxBusy || (uartActive s n && !s.uarts[n].breakWait) } ∧
      ∀ m : Fin 2, m ≠ n → u.uarts[m] = s.uarts[m])

/-- Transmitting (R433): the held character starts where the shifter is free, with flow control only while CTS# is low; it is counted when its
stop bits are done, unless the port has gone inactive (the model's choice, assumption log 130). -/
def Claims.UartTransmits : Prop :=
  ∀ (s : State) (n : Fin 2),
    (∀ c cts, uartActive s n = true → s.uarts[n].txHold = some c → s.uarts[n].txShift = none → uartCfg s n 6 = 0 ∨ cts = true →
      ∃ u, exec (.uartTxStart n cts) s = .next (finish s u) ∧ u.uarts[n].txShift = some c ∧ u.uarts[n].txHold = none ∧
        u.uarts[n].ctsLow = cts) ∧
    (uartCfg s n 6 ≠ 0 → exec (.uartTxStart n false) s = .next (finish s (modUart s n (fun u => { u with ctsLow := false })))) ∧
    (∀ c, s.uarts[n].txShift = some c → ∃ u, exec (.uartTxDone n) s = .next (finish s u) ∧ u.uarts[n].txShift = none ∧
      u.uarts[n].txChars = (if uartActive s n then inc32 s.uarts[n].txChars else s.uarts[n].txChars) ∧ u.uarts[n].txHold = s.uarts[n].txHold) ∧
    (s.uarts[n].txShift = none → exec (.uartTxDone n) s = .next (finish s s))

/-! Events, the Safety Net and the Trouble Log (R436–R457). -/

/-- The flags and the log (R446, R450): CLEAR_FLAG clears the flag of the event its path has selected and keeps its counter; CLEAR_ALL clears
every flag; TL_CLEAR empties the log, of which what was raised before is part, and EV509 enters it. -/
def Claims.FlagsAndLog : Prop :=
  ∀ (s : State) (p : Path),
    (Passes s p (okey 0x2B01 4) 1 → ∃ u, exec (.eventClearFlag p) s = .next (finish s (taken u p (okey 0x2B01 4))) ∧
      evRec u (atN 0 s.rm.sel p.idx.val) = { evRec s (atN 0 s.rm.sel p.idx.val) with flag := false } ∧
      ∀ e, e ≠ atN 0 s.rm.sel p.idx.val → evRec u e = evRec s e) ∧
    (Passes s p (okey 0x2B01 9) 1 → ∃ u, exec (.eventClearAll p) s = .next (finish s (taken u p (okey 0x2B01 9))) ∧
      ∀ e, (evRec u e).flag = false ∧ (evRec u e).count = (evRec s e).count) ∧
    (∀ t, t = ringFlush (settle (touch s p)) → Passes s p (okey 0x2C00 1) 1 →
      exec (.tlClear p) s = .next (finish s (taken (ringFlush (settle (raise { t with tl :=
        { t.tl with ring := [], head := 0, lostNext := false, dropRun := false } } 509 p.ascii t.tl.wraps))) p (okey 0x2C00 1))))

/-- The inputs of the Safety Net (R447): COVER# low raises EV496 and acts at once, its return EV497 with the release time of 10 ms; HALT#, the
over-temperature and the over-voltage comparators latch as they assert, with EV498, EV499 and EV500, and their return leaves the
latch. -/
def Claims.SafetyInputs : Prop :=
  ∀ (s : State), s.pw.on = true →
    (s.sn.coverLow = false → exec .coverAssert s = .next (finish s
      (snInput s (fun n => { n with coverLow := true, coverDue := none }) 496 inputsWord cutsWord))) ∧
    (s.sn.coverLow = true → exec .coverDeassert s = .next (finish s
      (snInput s (fun n => { n with coverLow := false, coverDue := some (now s + 2000000) }) 497 inputsWord (fun _ => 0)))) ∧
    (∀ t, s.sn.coverDue = some t → t ≤ now s →
      exec .coverRelease s = .next (finish s (cutsFollow s (modSn s (fun n => { n with coverDue := none }))))) ∧
    (∀ t, s.sn.coverDue = some t → now s < t → exec .coverRelease s = .next (finish s s)) ∧
    (s.sn.haltLow = false → exec (.haltAssert true) s = .next (finish s
      (snInput s (fun n => { n with haltLow := true, haltLatch := true }) 498 inputsWord cutsWord))) ∧
    (s.sn.haltLow = true → exec (.haltAssert false) s = .next (finish s (cutsFollow s (modSn s (fun n => { n with haltLow := false }))))) ∧
    (∀ h : Fin 2, s.sn.ot[h] = false → exec (.headOtAssert h) s = .next (finish s (snInput s (fun n =>
      { n with ot := upd n.ot h (fun _ => true), otLatch := upd n.otLatch h (fun _ => true) }) 499 (fun _ => h.val) inputsWord))) ∧
    (∀ h : Fin 2, exec (.headOtDeassert h) s = .next (finish s (cutsFollow s (modSn s (fun n => { n with ot := upd n.ot h (fun _ => false) }))))) ∧
    (∀ (h : Fin 2) v, s.sn.ov[h] = false → exec (.vhOvAssert h v) s = .next (finish s (snInput s (fun n =>
      { n with ov := upd n.ov h (fun _ => true), ovLatch := upd n.ovLatch h (fun _ => true) }) 500 (fun _ => h.val) (fun _ => v)))) ∧
    (∀ h : Fin 2, exec (.vhOvDeassert h) s = .next (finish s (cutsFollow s (modSn s (fun n => { n with ov := upd n.ov h (fun _ => false) })))))

/-- Cuts and their release (R447, R448): COVER asserted or HALT latched cuts every output, a latched comparator its head; SN_RELEASE is refused with
RANGE while a latched input is still asserted and otherwise releases every latch. -/
def Claims.CutsAndRelease : Prop :=
  ∀ (s : State),
    (s.sn.coverLow = true → outputCut s = true) ∧ (s.sn.haltLatch = true → outputCut s = true) ∧
    (∀ h : Fin 2, s.sn.otLatch[h] = true → headCut s h = true) ∧ (∀ h : Fin 2, s.sn.ovLatch[h] = true → headCut s h = true) ∧
    (∀ p, Passes s p (okey 0x2C11 1) 1 → latchHeld s = true →
      exec (.snRelease p) s = .next (finish s (turnedAway s p 0x23))) ∧
    (∀ p, Passes s p (okey 0x2C11 1) 1 → latchHeld s = false →
      exec (.snRelease p) s = .next (finish s (taken (cutsFollow (touch s p) (modSn (touch s p) (fun n =>
        { n with haltLatch := false, evLatch := false, monLatch := false, otLatch := Vector.replicate 2 false,
                 ovLatch := Vector.replicate 2 false }))) p (okey 0x2C11 1)))) ∧
    (s.sn.haltLatch = true → s.sn.haltLow = true → latchHeld s = true)

/-- The order of the raises of one cycle (R443): the list that the Ringmaster works off is a rearrangement of what was raised, no raise before
one of higher priority; and so go the raises of a cycle down their routes as it ends. -/
def Claims.RaisesInOrder : Prop :=
  ∀ (s : State),
    (∀ rs : List Raise, (raiseSort s rs).Perm rs ∧ (raiseSort s rs).Pairwise (fun a b => raiseBefore s b a = false)) ∧
    (∀ r, (noteRaise s r).rm.cyc = s.rm.cyc ++ [⟨now s, s.md.mode.code, r⟩]) ∧
    ((∀ x ∈ s.rm.cyc, x.st = now s) → ∃ xs, xs.Perm s.rm.cyc ∧ xs.Pairwise (fun a b => raiseBefore s b.r a.r = false) ∧
      routeCycle s = applyAll (fun t x => routeRaise x.st x.mode t x.r) (modRm s (fun m => { m with cyc := [] })) xs)

/-- The queues of the routes (R391, R450, R451): a record enters at the end with the next sequence number and the loss marked; a full queue keeps
what it holds; the log keeps its newest 4096 entries. -/
def Claims.RouteQueues : Prop :=
  (∀ q cap ev prio d1 d2 st, q.recs.length < cap →
    (evqPush q cap ev prio d1 d2 st).1.recs = q.recs ++ [⟨ev, prio, q.lostNext, q.seq, d1, d2, wrap 32 st⟩] ∧
    (evqPush q cap ev prio d1 d2 st).1.seq = wrap 16 (q.seq + 1) ∧ (evqPush q cap ev prio d1 d2 st).1.lostNext = false) ∧
  (∀ q cap ev prio d1 d2 st, cap ≤ q.recs.length →
    (evqPush q cap ev prio d1 d2 st).1.recs = q.recs ∧ (evqPush q cap ev prio d1 d2 st).1.lostNext = true ∧
    (evqPush q cap ev prio d1 d2 st).1.lostCount = inc32 q.lostCount ∧
    (evqPush q cap ev prio d1 d2 st).2 = !q.lostRun) ∧
  (∀ t x, t.ring.length ≤ 4096 → (tlPush t x).ring.length ≤ 4096 ∧ (tlPush t x).ring.getLast? = some x ∧
    (t.ring.length < 4096 → (tlPush t x).ring = t.ring ++ [x] ∧ (tlPush t x).wraps = t.wraps) ∧
    (t.ring.length = 4096 → (tlPush t x).ring = t.ring.drop 1 ++ [x] ∧ (tlPush t x).wraps = inc32 t.wraps) ∧
    (tlPush t x).nextSeq ≠ 0)

/-! Power (R459–R478). -/

/-- Rails (R459, R474): a reading below the rail's threshold sets its flag; a rail that is not off by the mode is recorded as failed with
EV484, and a failed MAIN24 or logic rail starts the power-down with cause 3 or 4 while the input is present; a reading above 110 % of
the set point raises EV485. -/
def Claims.RailFaults : Prop :=
  ∀ (s : State) (r v : Nat), s.pw.on = true → r ≤ 9 →
    (railUv s r ≤ v → exec (.railUv r v) s = .next (finish s s)) ∧
    (v < railUv s r → ∀ t, t = modPw s (fun w => { w with flags := setBit w.flags r }) →
      (railOff s r = true → exec (.railUv r v) s = .next (finish s t)) ∧
      (railOff s r = false → s.pw.pf = none → ∀ u, u = raise (modPw t (fun w => { w with failed := setBit w.failed r })) 484 r v →
        (r = 0 → s.pw.present = true → exec (.railUv r v) s = .next (finish s (pfBegin u 3 true))) ∧
        (4 ≤ r → r ≤ 8 → s.pw.present = true → exec (.railUv r v) s = .next (finish s (pfBegin u 4 true))) ∧
        (r = 1 ∨ r = 2 ∨ r = 3 ∨ r = 9 → exec (.railUv r v) s = .next (finish s u)))) ∧
    (r ≠ 1 → r ≠ 2 → 11 * railSet s r < 10 * v → exec (.railOv r v) s = .next (finish s (raise s 485 r v))) ∧
    (r = 1 ∨ r = 2 ∨ 10 * v ≤ 11 * railSet s r → exec (.railOv r v) s = .next (finish s s)) ∧
    railUv s 0 = 18000 ∧ railUv s 8 = s.pw.vcore - 60 ∧ railSet s 3 = objN s 0x2830 1

/-- AVS (R463): a count below 15/16 of the target raises VCORE_SET by 25 mV up to VCORE_MAX, counted with EV487; with AVS on, a count outside the
band moves it by 5 mV within its limits, and one inside the band leaves it; without AVS only RO_MIN follows. An update that comes before the
next millisecond is none. -/
def Claims.AvsSteps : Prop :=
  ∀ (s0 : State) (counts : List Nat) (ro : Nat) (s : State), controlLive s0 = true → ro = counts.foldl min 65535 →
    s = modPw s0 (fun w => { w with avsSt := some (now s0) }) →
    (dueAfter s0.pw.avsSt 200000 (now s0) = false → exec (.avsUpdate counts) s0 = .next (finish s0 s0)) ∧
    (dueAfter s0.pw.avsSt 200000 (now s0) = true →
    (ro < objN s 0x2D01 6 * 15 / 16 → ∃ u, exec (.avsUpdate counts) s0 = .next (finish s0 (avsLimit (raise u 487 ro u.pw.vcore))) ∧
      u.pw.vcore = max s.pw.vcore (min (s.pw.vcore + 25) (objN s 0x2D01 4)) ∧ u.pw.critSteps = inc32 s.pw.critSteps ∧
      u.pw.roMin = ro) ∧
    (objN s 0x2D01 6 * 15 / 16 ≤ ro → objN s 0x2D01 1 = 1 → objN s 0x2D01 2 = 0 →
      (ro + objN s 0x2D01 7 < objN s 0x2D01 6 → exec (.avsUpdate counts) s0 = .next (finish s0 (avsLimit (modPw s (fun w =>
        { w with roMin := ro, vcore := clampN (objN s 0x2D01 3) (objN s 0x2D01 4) (w.vcore + 5) }))))) ∧
      (objN s 0x2D01 6 + objN s 0x2D01 7 < ro → exec (.avsUpdate counts) s0 = .next (finish s0 (avsLimit (modPw s (fun w =>
        { w with roMin := ro, vcore := clampN (objN s 0x2D01 3) (objN s 0x2D01 4) (w.vcore - 5) }))))) ∧
      (objN s 0x2D01 6 ≤ ro + objN s 0x2D01 7 → ro ≤ objN s 0x2D01 6 + objN s 0x2D01 7 →
        exec (.avsUpdate counts) s0 = .next (finish s0 (modPw s (fun w =>
          { w with roMin := ro, vcore := clampN (objN s 0x2D01 3) (objN s 0x2D01 4) w.vcore }))))) ∧
    (objN s 0x2D01 6 * 15 / 16 ≤ ro → objN s 0x2D01 1 ≠ 1 ∨ objN s 0x2D01 2 ≠ 0 →
      exec (.avsUpdate counts) s0 = .next (finish s0 (modPw s (fun w => { w with roMin := ro })))))

/-- The power-down sequence (R474–R478): it begins once, with EV480, the transition abandoned and PD_CUT asserted, and neither in DOZE nor while
one runs; a gap of 5 ms that ends before 6 ms only counts, with EV493; the loss of SB3V3 leaves what the NOR and the fuses hold and nothing
else. -/
def Claims.PowerDown : Prop :=
  ∀ (s : State),
    (∀ c pr t, s.pw.on = true → s.pw.pf = none → dozeOff s = false ∨ s.md.trans.isSome = true →
      t = raise { s with md := { s.md with trans := none, held := false },
                         pw := { s.pw with present := pr, pf := some ⟨c, now s, 3, 0⟩ } } 480 c s.md.mode.code →
      exec (.powerFail c pr) s =
        .next (finish s (pfSkip (norAbandon (boostOff (cutsFollow t (modSn t (fun n => { n with pdCut := true }))))) 2))) ∧
    (∀ c pr, s.pw.on = false ∨ s.pw.pf.isSome = true ∨ (dozeOff s = true ∧ s.md.trans = none) → exec (.powerFail c pr) s = .next (finish s s)) ∧
    (∀ us, s.pw.on = true → s.pw.pf = none → dozeOff s = false → 5000 ≤ us → us < 6000 →
      exec (.inputDip us) s = .next (finish s (raise (modPw s (fun w => { w with dips := inc32 w.dips })) 493 (inc32 s.pw.dips) us))) ∧
    (∀ us, us < 5000 ∨ 6000 ≤ us → exec (.inputDip us) s = .next (finish s s)) ∧
    (∃ u, exec .powerLost s = .next (finish s u) ∧ u.pw.on = false ∧ u.pw.present = false ∧ u.md = State.reset.md ∧
      (s.md.mode ≠ .boot → u.boot.slots = s.boot.slots) ∧ u.boot.slots = (startFailed s).boot.slots ∧ u.boot.rollback = s.boot.rollback ∧ u.boot.keys = s.boot.keys ∧ u.boot.appNor = s.boot.appNor ∧
      u.ctl.slots = s.ctl.slots ∧ u.tl.copy = s.tl.copy ∧ u.tl.ring = [] ∧ u.ctl.staging = State.reset.ctl.staging ∧
      u.msu = State.reset.msu ∧ u.ledger = State.reset.ledger ∧ u.rm = State.reset.rm)

/-! Images, keys, the application and debug access (R482–R503). -/

/-- Image writes (R490, R497, R335): an OPEN that a check refuses changes nothing but its status; a complete SYSTEM_IMAGE that passes its checks fills
the slot that is not running, which reads valid with no failed starts, and one that fails is refused with RANGE and the check
in LAST_RESULT; a complete APP_IMAGE goes to the staging area where it is valid, and is refused with RANGE otherwise. -/
def Claims.ImageWrites : Prop :=
  ∀ (s : State) (p : Path) (bs : List Byte), dictLive s = true → s.ctl.epoch = none →
    (∀ c, judgeOpen (touch s p) p 0x5E00 0 true bs.length = c → c ≠ 0 →
      exec (.systemImageWrite p bs) s = .next (finish s (turnedAway s p (vStatus c)))) ∧
    (∀ c, judgeOpen (touch s p) p 0x5E01 0 true bs.length = c → c ≠ 0 →
      exec (.appImageWrite p bs) s = .next (finish s (turnedAway s p (vStatus c)))) ∧
    (judgeOpen (touch s p) p 0x5E00 0 true bs.length = 0 → ∃ t, exec (.systemImageWrite p bs) s =
        .next (finish s (answer (systemImage t bs).1 p (systemImage t bs).2)) ∧
      t.boot.slots[s.boot.running] = s.boot.slots[s.boot.running] ∧ t.boot.running = s.boot.running) ∧
    (judgeOpen (touch s p) p 0x5E01 0 true bs.length = 0 → ∃ t, exec (.appImageWrite p bs) s =
        .next (finish s (answer (appImage t bs).1 p (appImage t bs).2)) ∧ t.app = s.app ∧ t.boot.appNor = s.boot.appNor) ∧
        (∀ c, slotCheck s (slotOf bs) false = c → (systemImage s bs).1.boot.lastResult = c ∧
      if c = 0 then (systemImage s bs).2 = 0 ∧
        (systemImage s bs).1.boot.slots = updN s.boot.slots (1 - s.boot.running.val) (fun _ => { slotOf bs with state := 1, fails := 0 })
      else (systemImage s bs).2 = 0x23) ∧
    ((appImage s bs).1.boot.debugOn = false) ∧
        (∀ ok, appImageOk (modBoot s (fun b => { b with debugOn := false })) bs = ok →
      (appImage s bs).1.boot.stageValid = ok ∧
      if ok = true then (appImage s bs).2 = 0 ∧ (appImage s bs).1.boot.appStage = bs else (appImage s bs).2 = 0x23)

/-- Slots, fuses and keys (R491–R493): SLOT_CMD 1 erases the slot that is not running; ROLLBACK_CMD raises ROLLBACK to the running image's
index with EV508, and changes nothing where it is there already; KEY_CMD 1 makes the lowest EMPTY slot ACTIVE with a point of the curve,
where no slot is ACTIVE, and is refused with RANGE otherwise; KEY_CMD 2 + k revokes slot k and erases the application's image. -/
def Claims.SlotsAndKeys : Prop :=
  ∀ (s : State) (p : Path),
    (Passes s p (okey 0x2E00 5) 1 → exec (.slotCmdInvalidate p) s = .next (finish s (taken (modBoot (touch s p) (fun b =>
      { b with slots := updN b.slots (1 - b.running.val) (fun _ => SysSlot.blank) })) p (okey 0x2E00 5)))) ∧
    (Passes s p (okey 0x2E02 11) 1 →
      (s.boot.slots[s.boot.running].rollback ≤ s.boot.rollback →
        exec (.rollbackCommit p) s = .next (finish s (taken (touch s p) p (okey 0x2E02 11)))) ∧
      (s.boot.rollback < s.boot.slots[s.boot.running].rollback →
        ∃ u, exec (.rollbackCommit p) s = .next (finish s (taken (raise u 508 1 s.boot.slots[s.boot.running].rollback) p (okey 0x2E02 11))) ∧
          u.boot.rollback = s.boot.slots[s.boot.running].rollback)) ∧
    (∀ k : Fin 4, Passes s p (okey 0x2E02 9) 1 → (allFin 4).find? (fun k => s.boot.keys[k].state == 0) = some k →
      (∀ j : Fin 4, s.boot.keys[j].state ≠ 1) → onCurve (quad s 0x2E02 1) (quad s 0x2E02 5) = true →
      ∃ u, exec (.keyAdd p) s = .next (finish s (taken (raise u 508 2 (slotStates u)) p (okey 0x2E02 9))) ∧
        u.boot.keys[k] = ⟨1, quad s 0x2E02 1, quad s 0x2E02 5⟩ ∧ ∀ j : Fin 4, j ≠ k → u.boot.keys[j] = s.boot.keys[j]) ∧
    (Passes s p (okey 0x2E02 9) 1 →
      (∃ j : Fin 4, s.boot.keys[j].state = 1) ∨ onCurve (quad s 0x2E02 1) (quad s 0x2E02 5) = false ∨
        (∀ j : Fin 4, s.boot.keys[j].state ≠ 0) →
      exec (.keyAdd p) s = .next (finish s (turnedAway s p 0x23))) ∧
    (∀ k : Fin 4, Passes s p (okey 0x2E02 9) ((2 + k.val : Nat) : Int) →
      ∃ u, exec (.keyRevoke p k) s = .next (finish s (taken (raise u 508 3 (slotStates u)) p (okey 0x2E02 9))) ∧
        u.boot.appNor = [] ∧ u.boot.appStage = [] ∧ u.boot.stageValid = false ∧
        ∃ t, t = modBoot (touch s p) (fun b => { b with keys := upd b.keys k (fun x => { x with state := 2 }) }) ∧
          u = modBoot (appStop t 5) (fun b => { b with appNor := [], appStage := [], stageValid := false }))

/-- The application's start and stop (R494–R496, R500): APP_CMD 1, APP_ENABLE 0, the watchdog and a trap stop a running application with their
causes, and an access outside its regions is the core's own fault; with nothing staged, a start finds no image, rejects the image, finds it incompatible, or runs the image from its entry with
STARTS counted. -/
def Claims.ApplicationStartStop : Prop :=
  ∀ (s : State) (p : Path),
    (Passes s p (okey 0x2E01 2) 2 → exec (.appStart p) s = .next (finish s (taken (appStart (touch s p)) p (okey 0x2E01 2)))) ∧
    (Passes s p (okey 0x2E01 2) 1 → exec (.appStop p) s = .next (finish s (taken (appStop (touch s p) 1) p (okey 0x2E01 2)))) ∧
    (∀ v : Nat, v ≤ 1 → Passes s p (okey 0x2E01 1) v → ∃ u, exec (.appEnableWrite p v) s =
        .next (finish s (taken (if v = 0 then appStop u 4 else u) p (okey 0x2E01 1))) ∧ objN u 0x2E01 1 = v) ∧
    (∀ ms, ms = objN s 0x2E01 3 → s.app.state = 2 → ms ≠ 0 → s.tu.halted = false →
      (s.app.kickSt + s.app.haltTicks + ms * 200000 ≤ now s → exec .appWdogExpire s = .next (finish s (appStop s 2))) ∧
      (now s < s.app.kickSt + s.app.haltTicks + ms * 200000 → exec .appWdogExpire s = .next (finish s s))) ∧
    (∀ pc c, s.app.state = 2 → exec (.appTrap pc c) s =
      .next (finish s (appStop (modApp s (fun a => { a with faultPc := wrap 32 pc, faultCause := wrap 32 c })) 3))) ∧
    (∀ a, appRegion a = false → s.app.state = 2 → s.tu.halted = false →
      exec (.appAccessFault a) s = .next (finish s (modApp s (fun x => { x with accFault := some a })))) ∧
    (∀ a, appRegion a = true ∨ s.app.state ≠ 2 → exec (.appAccessFault a) s = .next (finish s s)) ∧
    (∀ c, s.app.state ≠ 2 → appStop s c = s) ∧
    (s.app.state ≠ 2 → s.boot.stageValid = false →
      (s.boot.appNor = [] → appStart s = modApp s (fun a => { a with state := 0 })) ∧
            (∀ ok, s.boot.appNor ≠ [] → appImageOk (appHeader s) s.boot.appNor = ok →
        if ok = false then (appStart s).app.state = 5
        else if s.boot.slots[s.boot.running].api < rdLE s.boot.appNor 14 2 ∨ rdLE s.boot.appNor 16 2 < s.boot.slots[s.boot.running].api then
          (appStart s).app.state = 4
        else (appStart s).app.state = 2 ∧ (appStart s).app.starts = inc32 s.app.starts ∧ (appStart s).app.entry = rdLE s.boot.appNor 24 4))

/-- Debug access (R501, R502): DEBUG_CMD 1 draws a new challenge and enables the port where the response verifies under the key of an ACTIVE
slot, with EV508; it is refused with RANGE, and counted, otherwise; DEBUG_CMD 2 disables an enabled port with EV508. -/
def Claims.DebugAccess : Prop :=
  ∀ (s : State) (p : Path) (ok : Bool), ok = (allFin 4).any (fun k => s.boot.keys[k].state == 1 &&
      ecdsaOk s.boot.keys[k].x s.boot.keys[k].y (sha256 (debugMessage s)) (quad s 0x2E03 5) (quad s 0x2E03 9)) →
        (Passes s p (okey 0x2E03 13) 1 → exec (.debugUnlock p) s = .next (finish s (if ok = true then taken (raise (modBoot (touch s p) (fun b =>
        { b with challenge := b.challenge + 1, debugOn := true })) 508 4 1) p (okey 0x2E03 13)
      else answer (modBoot (touch s p) (fun b => { b with challenge := b.challenge + 1, debugRefused := b.debugRefused + 1 })) p 0x23))) ∧
    (Passes s p (okey 0x2E03 13) 2 →
      (s.boot.debugOn = true → exec (.debugLock p) s =
        .next (finish s (taken (raise (modBoot (touch s p) (fun b => { b with debugOn := false })) 508 4 0) p (okey 0x2E03 13)))) ∧
      (s.boot.debugOn = false → exec (.debugLock p) s = .next (finish s (taken (touch s p) p (okey 0x2E03 13))))) ∧
    (8 ≤ s.boot.debugRefused → dictLive s = true → s.ctl.epoch = none →
      exec (.debugUnlock p) s = .next (finish s (turnedAway s p 0x22)))

/-! The application's calls (R499). -/

/-- DICT_READ and DICT_WRITE (R499): a call whose buffer is too small or lies outside the B7 mailbox fails with RANGE; a read puts the value into
the buffer and returns its length; a write is a transaction of A with the bytes of the buffer; no call is made where the application does
not run or blocks in WAIT. -/
def Claims.ApiDictionary : Prop :=
  ∀ (s : State),
    (apiLive s = true →
      (∀ i x buf size r, r = readTx s .a (okey i x) → judgeRead s .a (okey i x) = 0 → (readData s .a (okey i x)).length ≤ size →
        inMailbox buf (readData s .a (okey i x)).length = true → r.2.1 = 0 →
        exec (.apiDictRead i x buf size) s = .next (finish s (apiReturn (bufPut r.1 buf r.2.2) 0 r.2.2.length))) ∧
      (∀ i x buf size, judgeRead s .a (okey i x) = 0 → size < (readData s .a (okey i x)).length ∨
        inMailbox buf (readData s .a (okey i x)).length = false →
        exec (.apiDictRead i x buf size) s = .next (finish s (apiReturn (answer s .a 0x23) 0x23 0))) ∧
      (∀ i x buf size r, r = readTx s .a (okey i x) → judgeRead s .a (okey i x) ≠ 0 → r.2.1 ≠ 0 → r.2.1 ≠ vLate →
        exec (.apiDictRead i x buf size) s = .next (finish s (apiReturn r.1 (vStatus r.2.1) 0))) ∧
      (∀ i x buf len, inMailbox buf len = false →
        exec (.apiDictWrite i x buf len) s = .next (finish s (apiReturn (answer s .a 0x23) 0x23 0))) ∧
      (∀ i x buf len r, inMailbox buf len = true → r = writeTx s .a (okey i x) (bufBytes s buf len) [] → r.2 ≠ vLate →
        exec (.apiDictWrite i x buf len) s = .next (finish s (apiReturn r.1 (vStatus r.2) 0)))) ∧
    (apiLive s = false → (∀ i x b n, exec (.apiDictRead i x b n) s = .next (finish s s) ∧ exec (.apiDictWrite i x b n) s = .next (finish s s))) ∧
    (∀ a0 a1, (apiReturn s a0 a1).app.a0 = a0 ∧ (apiReturn s a0 a1).app.a1 = a1)

/-- The DOMAIN calls (R385, R499): OPEN, the SEGMENT of a write at the next offset, and ABORT are transactions of A; a bad direction or buffer fails with RANGE, and
so does a segment where no transfer is open. -/
def Claims.ApiDomains : Prop :=
  ∀ (s : State), apiLive s = true →
    (∀ i d t, 1 < d → exec (.apiDomainOpen i d t) s = .next (finish s (apiReturn (answer s .a 0x23) 0x23 0))) ∧
    (∀ i d t r, d ≤ 1 → r = domOpen s .a i 0 (d == 1) t → r.2 ≠ vLate →
      exec (.apiDomainOpen i d t) s = .next (finish s (apiReturn r.1 (vStatus r.2) 0))) ∧
    (∀ buf len off, inMailbox buf len = false →
      exec (.apiDomainSegment buf len off) s = .next (finish s (apiReturn (answer s .a 0x23) 0x23 0))) ∧
    (∀ buf len off, inMailbox buf len = true → s.ctl.xfers[Path.a.idx] = none →
      ∃ u, exec (.apiDomainSegment buf len off) s = .next (finish s (apiReturn u 0x23 0)) ∧ u.ctl.status[Path.a.idx] = 0x23) ∧
    (∀ buf len x, inMailbox buf len = true → s.ctl.xfers[Path.a.idx] = some x → now s < x.lastSt + 200000000 → x.wr = true →
      (∀ r, r = domPut s .a (bufBytes s buf len) → vRefused r.2 = false → r.2 ≠ vLate →
        exec (.apiDomainSegment buf len x.off) s = .next (finish s (apiReturn r.1 (vStatus r.2) len)))) ∧
    (∀ r, r = domAbort s .a → r.2 ≠ vLate → exec .apiDomainAbort s = .next (finish s (apiReturn r.1 (vStatus r.2) 0)))

/-- The other calls (R498–R500): EVENT_GET copies the oldest records and takes them off the queue; WAIT returns 1 with an event pending, 2 at its
deadline and blocks otherwise; WDOG_KICK restarts the watchdog, and finds the application stopped where it comes too late; UART_PUT fills the transmit holding register or reports a drop, UART_GET
takes the received word; EXIT stops the application with cause 1; an unknown code returns NO_SUCH_OBJECT. -/
def Claims.ApiCalls : Prop :=
  ∀ (s : State), apiLive s = true →
    (∀ buf n rs, rs = s.rm.app.recs.take n → inMailbox buf (16 * rs.length) = true →
      exec (.apiEventGet buf n) s = .next (finish s (apiReturn (modRm (bufPut s buf (rs.flatMap evBytes)) (fun m =>
        { m with app := { m.app with recs := m.app.recs.drop n } })) 0 rs.length))) ∧
    (∀ lo hi d, d = wrap 32 lo + 4294967296 * wrap 32 hi →
      (s.rm.app.recs ≠ [] → exec (.apiWait lo hi) s = .next (finish s (apiReturn s 0 1))) ∧
      (s.rm.app.recs = [] → d ≤ now s → exec (.apiWait lo hi) s = .next (finish s (apiReturn s 0 2))) ∧
      (s.rm.app.recs = [] → now s < d →
        exec (.apiWait lo hi) s = .next (finish s (modApp s (fun a => { a with waiting := some d }))))) ∧
    (objN s 0x2E01 3 = 0 ∨ now s < s.app.kickSt + s.app.haltTicks + objN s 0x2E01 3 * 200000 →
      exec .apiWdogKick s = .next (finish s (apiReturn (modApp s (fun a =>
        { a with kickSt := now s, haltTicks := 0, haltSt := now s })) 0 0))) ∧
    (objN s 0x2E01 3 ≠ 0 → s.app.kickSt + s.app.haltTicks + objN s 0x2E01 3 * 200000 ≤ now s →
      exec .apiWdogKick s = .next (finish s (appStop s 2))) ∧
    (∀ (n : Fin 2) ch, s.uarts[n].txHold = none → ∃ u, exec (.apiUartPut n.val ch) s = .next (finish s (apiReturn u 0 1)) ∧
      u.uarts[n].txHold = some (wrap 9 ch)) ∧
    (∀ (n : Fin 2) ch w, s.uarts[n].txHold = some w → ∃ u, exec (.apiUartPut n.val ch) s = .next (finish s (apiReturn u 0 0)) ∧
      u.uarts[n].txHold = some w ∧ u.uarts[n].txDrops = inc32 s.uarts[n].txDrops) ∧
    (∀ (n : Fin 2), ∃ u, exec (.apiUartGet n.val) s = .next (finish s (apiReturn u 0 (s.uarts[n].rxHold.getD 0xFFFFFFFF))) ∧
      u.uarts[n].rxHold = none) ∧
    (∀ port ch, 1 < port → exec (.apiUartPut port ch) s = .next (finish s (apiReturn (answer s .a 0x23) 0x23 0)) ∧
      exec (.apiUartGet port) s = .next (finish s (apiReturn (answer s .a 0x23) 0x23 0))) ∧
    (exec .apiExit s = .next (finish s (appStop s 1))) ∧
    (∀ code, code ∉ apiCodes → exec (.apiUnknown code) s = .next (finish s (modApp s (fun a => { a with a0 := 0x21 }))))

/-- A WAIT under way ends where an event is pending or its deadline has come, the debugger not halting (R499). -/
def Claims.ApiWaitEnds : Prop :=
  ∀ (s : State) (d : Nat), s.app.waiting = some d → s.tu.halted = false →
    (s.rm.app.recs ≠ [] → exec .apiWaitWake s = .next (finish s (apiReturn (modApp s (fun a => { a with waiting := none })) 0 1))) ∧
    (s.rm.app.recs = [] → d ≤ now s →
      exec .apiWaitWake s = .next (finish s (apiReturn (modApp s (fun a => { a with waiting := none })) 0 2))) ∧
    (s.rm.app.recs = [] → now s < d → exec .apiWaitWake s = .next (finish s s))

/-! Every command completes with its own effect: for each command one clause whose conclusion is the next state that the spec's own words for
the command give, under conditions of normal execution on the state and the operands alone. The statements above say more of most of them. -/

/-- Start-up, RECOVERY, DFU and the modes (R29–R36, R394, R469–R473, R485–R489). -/
def Claims.ModesComplete : Prop :=
  ∀ (s : State),
    (∀ kind volts hz rec_ io, s.pw.on = false → exec (.powerOn kind volts hz rec_ io) s =
      .next (finish s (bootStart s kind volts hz rec_ io)) ∧ (bootStart s kind volts hz rec_ io).pw.on = true ∧
      (bootStart s kind volts hz rec_ io).boot.start = now s) ∧
    (∀ bad ta i, s.md.mode = .boot → s.pw.on = true → s.pw.pf = none → s.boot.recLow = false → chosenSlot s = some i →
      ∃ v, exec (.bootComplete bad ta) s = .next (finish s (bootStandby v ta)) ∧ (bootStandby v ta).md.mode = .standby) ∧
    (s.md.mode = .boot → s.pw.on = true → s.pw.pf = none → 240000000 ≤ now s - s.boot.start →
      exec .bootWatchdog s = .next (finish s (bootStraps (warmReset s)))) ∧
    (s.md.mode = .recovery → s.pw.on = true → s.pw.pf = none →
      exec .recoveryWakeExit s = .next (finish s (bootStraps (warmReset s)))) ∧
    (∀ p, s.pw.pf = none → s.md.trans = none →
      (Passes s p (okey 0x2000 1) 1 → s.md.mode = .run →
        exec (.modeReqStandby p) s = .next (finish s (taken (leaveRun (touch s p) 0 none) p (okey 0x2000 1)))) ∧
      (Passes s p (okey 0x2000 1) 2 → s.md.mode = .standby →
        exec (.modeReqRun p) s = .next (finish s (taken (startRun (touch s p) .run 0) p (okey 0x2000 1)))) ∧
      (Passes s p (okey 0x2000 1) 3 → ledgerIdle s = true → s.md.mode = .standby →
        exec (.modeReqDoze p) s = .next (finish s (taken (startDoze (touch s p) 0) p (okey 0x2000 1))))) ∧
    (∀ p, Passes s p (okey 0x2000 1) 4 →
      exec (.modeReqService p) s = .next (finish s (answer (raise (touch s p) 1 (s.md.mode.code * 256 + 4) p.ascii) p 0x24))) ∧
    (∀ t ra rb va vb boost home, s.md.trans = some t → t.target = .run ∨ t.target = .service → dozeOff s = false →
      shortRail (headsEntry (modMd s (fun d => { d with mode := t.target })) ra rb) va vb boost = none →
      ∃ v, exec (.runReached ra rb va vb boost home none) s = .next (finish s (applyHeld (jobsArm v))) ∧ v.md.mode = t.target ∧
        v.md.trans = none) ∧
    (∀ t ra rb va vb boost r, s.md.trans = some t → t.target = .run ∨ t.target = .service → dozeOff s = false →
      t.start + 40000000 ≤ now s →
      shortRail (headIdCheck (headIdCheck (modMd s (fun d => { d with mode := t.target })) 0 ra) 1 rb) va vb boost = some r →
      exec (.runEntryTimeout ra rb va vb boost) s = .next (finish s (raise (runGivenUp s t) 484 r.1 r.2))) ∧
    (∀ t va vb boost, floorsMet s va vb boost = true → s.md.trans = some t → t.target = .standby → t.thenDoze = none → inRun s = true →
      exec (.standbyReached va vb boost) s = .next (finish s (modeTo
        (stagesOff (modMd (floorsRead s va vb boost) (fun d => { d with trans := none }))) .standby t.cause))) ∧
    (∀ va vb boost, floorsMet s va vb boost = true → s.md.mode = .lockout → s.md.floorsReached = false →
      exec (.lockoutFloorsReached va vb boost) s = .next (finish s
        (stagesOff (modMd (floorsRead s va vb boost) (fun d => { d with floorsReached := true }))))) ∧
    (∀ p, Passes s p (okey 0x2000 4) 1 → s.md.mode = .lockout → lockCauses (touch s p) = [] →
      ∃ v, exec (.lockoutClear p) s =
          .next (finish s (taken (if latchHeld v then v else snReleaseAll v) p (okey 0x2000 4))) ∧ v.md.mode = .standby) ∧
    (∀ p, s.md.mode = .standby → s.md.trans = none → s.pw.pf = none → holder s 0 = none → Passes s p (okey 0x2002 1) 0 →
      tickWrites (touch s p) = [] →
      ∃ u, exec (.serviceClaim p) s = .next (finish s u) ∧ holder u 0 = some p ∧
        u.md.trans = some { src := .standby, target := .service, start := now s, cause := 4, thenDoze := none }) ∧
    (dozeEntering s = true → s.pw.pf = none → s.app.state ≠ 2 →
      exec .dozeHandover s = .next (finish s (modBoot (modPw { s with
        md := { s.md with trans := none }, tu := { s.tu with keeperAhead := 0, keeperFrac := 0 } }
        (fun w => { w with dozeCount := inc32 w.dozeCount })) (fun b => { b with debugOn := false })))) ∧
    (∀ pin k, dozeEntering s = true → lowestWake (wakeMask s pin) = some k →
      exec (.dozeAbort pin) s = .next (finish s (raise (lrWoken (usbAttach (canUp (modeTo
        (modMd s (fun d => { d with trans := none, wakeSrc := 0 })) .standby 1))) (lrCause (usbAttach (canUp (modeTo
        (modMd s (fun d => { d with trans := none, wakeSrc := 0 })) .standby 1))) k) 6) 491 k 0))) ∧
    (dozeOff s = true → exec .keeperTick s = .next (finish s { s with tu := { s.tu with
      st := s.tu.st + (6103 + (s.tu.keeperFrac + 33) / 64),
      keeperAhead := s.tu.keeperAhead + (6103 + (s.tu.keeperFrac + 33) / 64), keeperFrac := (s.tu.keeperFrac + 33) % 64 } })) ∧
    (∀ pin k, dozing s = true → lowestWake (wakeMask s pin) = some k →
      exec (.wakeRecognised pin) s = .next (finish s (modPw (modMd s (fun d => { d with
        wakeCode := k, wakeAt := now s, trans := some ⟨.doze, wakeTarget s, now s, 1, none⟩ }))
        (fun w => { w with wakeCause := k })))) ∧
    (∀ t stopped ta, s.md.trans = some t → dozeOff s = true → t.target = .standby →
      ∃ v, exec (.wakeComplete stopped ta) s = .next (finish s (wokenEvent v)) ∧ v.md.mode = .standby) ∧
    (dfuLive s = true →
      (∀ bs, s.boot.dfu.state = 5 → bs ≠ [] →
        exec (.dfuDnload bs) s = .next (finish s (modBoot (modUsb s (fun u => { u with stalled := false })) (fun b =>
          { b with dfu := { b.dfu with state := 3, data := b.dfu.data ++ bs } })))) ∧
      (∀ i c, s.boot.dfu.state = 7 → dfuFilling s = some i → slotCheck s { slotOf s.boot.dfu.data with fails := 0 } false = c →
        exec (.dfuManifest true) s = .next (finish s (modBoot s (fun b =>
          { b with slots := upd b.slots i (fun _ => { slotOf s.boot.dfu.data with
                     fails := 0, state := (if c = 0 then 1 else stateOfCheck { slotOf s.boot.dfu.data with fails := 0 } c) }),
                   dfu := (if c = 0 then ⟨2, 0, [], true⟩ else { b.dfu with state := 10, status := 7, data := [] }) })))) ∧
      exec .dfuGetstatus s = .next (finish s (modBoot (modUsb s (fun u => { u with stalled := false })) (fun b =>
        { b with dfu := { b.dfu with state := (if b.dfu.state = 3 then 5 else if b.dfu.state = 6 then 7 else b.dfu.state) } }))) ∧
      exec .dfuUpload s = .next (finish s (modUsb s (fun u => { u with stalled := true }))) ∧
      exec .dfuDetach s = .next (finish s (modUsb s (fun u => { u with stalled := true }))))

/-- Lanes, encoders, generators and waymarks (R49–R82). -/
def Claims.MotionSyncComplete : Prop :=
  ∀ (s : State), controlLive s = true →
    (∀ c, encInverted s c = false →
      exec (.encEdge c .fwd) s = .next (finish s (applyAll (edgeLane c) (modEnc s c (encStep (now s) 1)) (allFin 4)))) ∧
    (∀ i, laneSource s i = 1 → laneCfg s i 12 ≤ (now s : Int) - s.msu.encs[laneEnc s i].te0 →
      exec (.edgeTimeout i) s = .next (finish s (modEnc s (laneEnc s i) (fun e => { e with n := 0 })))) ∧
    (∀ i : Fin 4, laneSource s i ≠ 0 → s.msu.lanes[i].dir ≠ .fwd → s.msu.lanes[i].ext + laneCfg s i 11 ≤ s.msu.lanes[i].pos →
      exec (.laneDirCommit i) s = .next (finish s (takeTurns (applyAll (fun t h =>
          if genLane (headGen t h) = i then histDirChange t h else t)
        (applyAll (commitGen .fwd s.msu.lanes[i].ext)
          (raise (modLane s i (fun l => { l with dir := .fwd, ext := l.pos, extPrev := l.pos })) 67 i.val 1) (laneGens i))
        (allFin 2))))) ∧
    (∀ g va vb df0 df1 n, turnWaits s (.lineEvent g va vb df0 df1) = false → lineDue s g = some (n, .fwd) →
      gateAtLine s g = true → dirsAllow s g .fwd = true → dueFwd s g (n + 1) > s.msu.lanes[genLane g].pos →
      exec (.lineEvent g va vb df0 df1) s = .next (finish s (takeTurns
        (applyAll (lineToPort g n .fwd (fun p => if p = 0 then df0 else df1))
          (applyAll (lineToHead g n .fwd (linePeriod s g .fwd) (fun h => if h = 0 then va else vb))
            (modGen s g (fun x => { x with
              lastSt := some (now s), nf := n + 1, index := n, emitted := inc32 x.emitted, fwdSt := some (now s) }))
            (allFin 2)) (allFin 2))))) ∧
    (∀ (e : Fin 1024) d, firesNow s (wmAt s e.val) = d → d = 1 ∨ d = 2 → (wmAt s e.val).op = 0 → (wmAt s e.val).key < 4 →
      (wmAt s e.val).evt = true → turnWaits s (.waymarkFire e) = false →
      exec (.waymarkFire e) s = .next (finish s (takeTurns (raise (setWm s e.val { wmAt s e.val with
          armed := false, fires := min 65535 ((wmAt s e.val).fires + 1), lastDir := d, lastSt := now s })
        (48 + (wmAt s e.val).evsel) (e.val + 1073741824 * d) (w32 s.msu.lanes[wmLane (wmAt s e.val)].pos))))) ∧
    (∀ e : Fin 1024, rearmsNow s (wmAt s e.val) = true →
      exec (.waymarkRearm e) s = .next (finish s (setWm s e.val { wmAt s e.val with en := true, armed := true, since := now s }))) ∧
    (∀ e : Fin 1024, firesNow s (wmAt s e.val) = 3 → (wmAt s e.val).op = 0 → (wmAt s e.val).key = 4 → (wmAt s e.val).evt = false →
      (wmAt s e.val).since ≤ (wmAt s e.val).target → turnWaits s (.waymarkStFire e) = false →
      exec (.waymarkStFire e) s = .next (finish s (takeTurns (setWm s e.val { wmAt s e.val with
          armed := false, fires := min 65535 ((wmAt s e.val).fires + 1), lastDir := 3, lastSt := now s })))) ∧
    (∀ (p : Path) (e v : Nat), atN 0 s.msu.wmSel p.idx.val = e → v < 2 ^ 32 →
      (Passes s p (okey 0x2140 4) v →
        exec (.waymarkWrite p .act v) s = .next (finish s (taken (setWm (touch s p) e (wmSetAct (wmAt s e) v)) p (okey 0x2140 4)))) ∧
      (bit v 31 = true → Passes s p (okey 0x2140 3) v →
        exec (.waymarkEnable p v) s = .next (finish s (taken (wmEnable (setWm (touch s p) e
          { wmSetCtrl (wmAt s e) v with en := false, armed := false }) e) p (okey 0x2140 3))))) ∧
    (∀ (start : Fin 1024) h, s.msu.holds.find? (fun x => x.start == start.val && decide (x.due ≤ now s)) = some h →
      exec (.pairMinimumEnd start) s = .next (finish s
        (levelOff { s with msu := { s.msu with holds := s.msu.holds.erase h } } h.tgt h.inp true))) ∧
    (∀ p, (Passes s p (okey 0x2141 3) 1 →
        exec (.waymarkDisableAll p) s = .next (finish s (taken (wmDisableAll (touch s p)) p (okey 0x2141 3)))) ∧
      (Passes s p (okey 0x2141 3) 2 →
        exec (.waymarkArmAll p) s = .next (finish s (taken (wmArmAll (touch s p)) p (okey 0x2141 3)))) ∧
      (∀ bs : List Byte, dictLive s = true → s.ctl.epoch = none → judgeOpen (touch s p) p 0x5100 0 true bs.length = 0 →
        exec (.waymarkImageWrite p bs) s = .next (finish s (domPut (answer (setXfer (dropXfer (touch s p) p) p
          (some ⟨0x5100, true, bs.length, [], 0, now s⟩)) p 0) p bs).1))) ∧
    (∀ c : Fin 4, objN s (0x2150 + c.val) 2 ≠ 0 → s.msu.encs[c].cRef = none → encLane s c = none →
      exec (.encIndex c) s = .next (finish s (modEnc s c (fun e => { e with cRef := some e.c })))) ∧
    (∀ (p : Path) (c : Fin 4), Passes s p (okey (0x2150 + c.val) 7) 1 →
      exec (.rehomeReq p c) s = .next (finish s (taken (setObj (touch s p) (0x2150 + c.val) 7 1) p (okey (0x2150 + c.val) 7))))

/-- The Timer Unit (R91–R105). -/
def Claims.TimersComplete : Prop :=
  ∀ (s : State), controlLive s = true →
    (∀ c : Fin 32, restartDue s c = false →
      (tcHitA s c = true → s.tu.tcs[c].aSt ≠ some (now s) →
        exec (.tcMatchA c) s = .next (finish s (takeTurns (tcTrigger (tcEvent (tcConds s c) (modTc s c (fun x =>
          { x with ma := true, ovr := x.ovr || x.ma, out := (if tcHitB s c then false else true), aSt := some (now s) })) c) c 1)))) ∧
      (tcHitB s c = true → s.tu.tcs[c].bSt ≠ some (now s) →
        exec (.tcMatchB c) s = .next (finish s (takeTurns (tcTrigger (tcEvent (tcConds s c) (modTc s c (fun x =>
          { x with mb := true, ovr := x.ovr || x.mb, out := false, bSt := some (now s) })) c) c 2)))) ∧
      (tcWrapDue s c = true →
        exec (.tcWrap c) s = .next (finish s (takeTurns (tcTrigger (tcEvent (tcConds s c) (modTc s c (fun x =>
          { x with frame := x.preF, cmpA := x.preA, cmpB := x.preB, wr := true, ovr := x.ovr || x.wr,
                   frames := (if x.opened then inc32 x.frames else x.frames), opened := true, wrapSt := some (now s) })) c) c 3)))) ∧
      (s.tu.tcs[c].parkDue = true →
        exec (.tcOneshotPark c) s = .next (finish s (takeTurns (tcTrigger (tcEvent 4 (modTc s c (fun x =>
          { x with parked := true, parkDue := false, wr := true, ovr := x.ovr || x.wr, frames := inc32 x.frames, out := false }))
          c) c 3))))) ∧
    (∀ c : Fin 32, now s ∈ s.tu.tcs[c].delay →
      exec (.trigDeliver c) s = .next (finish s
        (seTrigger (modTc s c (fun x => { x with delay := x.delay.erase (now s) })) (0x10 + c.val)))) ∧
    (∀ (pin : Fin 16) (c : Fin 32), gioDriver s pin.val = some c → gioChange s pin.val (gioDriven s c) + 20 ≤ now s →
      ∃ v, exec (.gioContention pin) s = .next (finish s (raise v 139 pin.val (b2n (gioDriven s c) + 256 * c.val))) ∧
        v = { setObj s (0x2210 + c.val) 11 0xFF with tu := { s.tu with
          gioIn := (if gioDriven s c then clrBit s.tu.gioIn pin.val else setBit s.tu.gioIn pin.val) } }) ∧
    (∀ m : Fin 8, capCfg s m 1 = 1 → capMay s m = true → s.tu.caps[m].level = true → capCfg s m 3 = 1 →
      exec (.captureAccept m false) s = .next (finish s (takeFree (modCap { s with tu :=
        { s.tu with gioIn := clrBit s.tu.gioIn (capCfg s m 2) } } m (fun x => { x with
          level := false, firstSt := now s + 1, run := 0, pinSt := capPinSt s m false }))))) ∧
    (s.boot.debugOn = true → s.app.state = 2 → s.tu.halted = false →
      exec .debugHalt s = .next (finish s (modApp { s with tu := { s.tu with halted := true } } (fun a => { a with haltSt := now s })))) ∧
    (s.boot.debugOn = true → s.tu.halted = true →
      exec .debugResume s = .next (finish s (modApp { s with tu := { s.tu with halted := false } }
        (fun a => { a with haltTicks := a.haltTicks + (now s - a.haltSt) })))) ∧
    (∀ (p : Path) (m : Fin 8) (v : Nat), v < 256 → Passes s p (okey (0x2240 + m.val) 8) v →
      exec (.flagsW1cWrite p (.cap m) v) s = .next (finish s (taken (modCap (touch s p) m (fun x =>
        { x with new := x.new && !bit v 0, ovr := x.ovr && !bit v 1 })) p (okey (0x2240 + m.val) 8))))

/-- Heads, dot energy and the resistance measurement (R112–R161). -/
def Claims.HeadsComplete : Prop :=
  ∀ (s : State) (h : Fin 2), controlLive s = true →
    (∀ r, sysReads s = true → headCfg s h 1 = 0 →
      exec (.headIdCheck h r) s = .next (finish s (modHead s h (fun x => { x with rId := wrap 32 r })))) ∧
    (∀ t, s.heads[h].train = some t → t.committed = false → t.issues ≠ [] → t.firstStb ≤ now s → s.en[h].thermFault = false →
      strobesHeld s h = false →
      exec (.lineCommit h) s = .next (finish s (rehearse (commitLine (modHead s h (fun x => { x with
        train := some { t with committed := true, splits := 0, splitEv := decide (0 < t.splits), cutBy := none } })) h t) h))) ∧
    (∀ t, s.heads[h].train = some t → t.committed = true → t.todo = [] → t.issues ≠ [] → issuesEnd t.issues (now s) ≤ now s →
      exec (.sliceTrainEnd h) s = .next (finish s (endTrain s h t (issuesEnd t.issues (now s))))) ∧
    (∀ p, Passes s p (okey 0x2320 8) 1 →
      exec (.rasterFlush p 1) s = .next (finish s (taken (rasterFlush (touch s p) 0) p (okey 0x2320 8)))) ∧
    (∀ r, s.heads[h].recomp = some r → recomputeFrom s h r ≤ now s → now s ≤ r.startSt + 8000 → s.heads[h].train = none →
      lcSlots r.lc ≠ [] → ∃ (t : Train) (v : State),
      exec (.recomputeLatch h) s = .next (finish s (govRecompute (rehearseAgain v h r.vh) h)) ∧
      v.heads[h].train = some t ∧ t.rsn = r.rsn) ∧
    (∀ code, sysReads s = true → 16 ≤ code → code ≤ 4080 → s.en[h].thermFault = false →
      exec (.thermRead h code) s = .next (finish s (modEn s h (fun e =>
        { e with tTherm := thermConvert s h code, thermGood := 0, thermFault := false })))) ∧
    (s.heads[h].train = none → s.en[h].stLast + 200000 ≤ now s → s.en[h].thermFault = true →
      exec (.modelUpdate h) s = .next (finish s (modEn s h (fun e => { e with stLast := now s })))) ∧
    (∀ (p : Path) (raws : List Nat), Passes s p (okey (0x2403 + 16 * h.val) 1) 1 → measAllowed s h = true → capRuns s = false →
      exec (.measStart p h raws) s = .next (finish s (taken (modVl (touch s p) h (fun v =>
        { v with measState := 1, measDot := 0, measSt := now s, measW := objN s (0x2403 + 16 * h.val) 2,
                 measRep := objN s (0x2403 + 16 * h.val) 3, dvMean := 0, openCount := 0, highCount := 0, target := vlCfg s h 5,
                 gathered := [] })) p (okey (0x2403 + 16 * h.val) 1)))) ∧
    (∀ p : Path, Passes s p (okey (0x2403 + 16 * h.val) 1) 2 → s.vl[h].measState = 1 →
      exec (.measAbort p h) s = .next (finish s (taken (raise (modVl (touch s p) h (fun v =>
        { v with measState := 3, measDot := measDotNow s h })) 172 (headBit h + 1) (measDotNow s h)) p (okey (0x2403 + 16 * h.val) 1)))) ∧
    (∀ dvs : List Nat, s.vl[h].measState = 1 → s.vl[h].measSt + headDots s h * (max 1 s.vl[h].measRep * measPulse s h) ≤ now s →
      ∃ u, exec (.measDone h dvs) s = .next (finish s u) ∧ u.vl[h].measState = 2 ∧ u.vl[h].measDot = headDots s h - 1)

/-- Media, paper supply and the cutter (R169–R193). -/
def Claims.MediaComplete : Prop :=
  ∀ (s : State), controlLive s = true →
    (∀ codes, ledsOn s = true → sysReads s = true → gridCrossed s ≠ [] → s.media.sampleSt ≠ some (now s) →
      exec (.mediaSample codes) s = .next (finish s (applyAll (gridSample codes)
        (modMedia s (fun m => { m with sampleSt := some (now s) })) ((upto (gridCrossed s).length).zip (gridCrossed s))))) ∧
    (labelPassed s = true → ((inc8 s.media.missingRun : Nat) : Int) ≤ mediaCfg s 16 →
      exec .labelMissing s = .next (finish s (cutAuto (raise (modMedia s (fun m =>
        { m with missingRun := inc8 m.missingRun, missingCount := inc16 m.missingCount, xLast := mediaExpected s }))
        210 (w32 (mediaExpected s)) (inc8 s.media.missingRun))))) ∧
    (∀ codes, ledsOn s = true → sysReads s = true → laneStopped s (mediaLane s) = true → s.supply.stoppedSt = none →
      exec (.supplySample codes) s = .next (finish s (applyAll (stoppedChannel codes)
        { s with supply := { s.supply with stoppedSt := some (now s) } } (allFin 8)))) ∧
    (∀ q, s.supply.reserveFrom = some q →
      q + obj s 0x2510 7 ≤ s.msu.lanes[mediaLane s].pos ∨ laneStopped s (mediaLane s) = true →
      exec .outReserveReached s = .next (finish s (mediaHalt { s with supply := { s.supply with reserveFrom := none } } 3))) ∧
    (∀ (p : Path) (g : Fin 2), Passes s p (okey (0x2520 + 8 * g.val) 5) 1 →
      exec (.govRelease p g) s = .next (finish s (taken (govRelease (touch s p) g) p (okey (0x2520 + 8 * g.val) 5)))) ∧
    (∀ p, inRun s = true → s.msu.lanes[mediaLane s].dir ≠ .rev →
      (Passes s p (okey 0x2541 2) 1 → s.cut.state = 0 → s.cut.phase = .idle →
        exec (.cutCmdFull p) s = .next (finish s (taken (modCut (touch s p) (fun c =>
          { c with active := some ⟨1, s.msu.lanes[mediaLane s].pos⟩, stopSet := true, phase := .waiting, attempt := 0,
                   forwardOk := false, state := 1 })) p (okey 0x2541 2)))) ∧
      (Passes s p (okey 0x2541 2) 2 → s.cut.state = 0 → s.cut.phase = .idle →
        exec (.cutCmdPartial p) s = .next (finish s (taken (modCut (touch s p) (fun c =>
          { c with active := some ⟨2, s.msu.lanes[mediaLane s].pos⟩, stopSet := true, phase := .waiting, attempt := 0,
                   forwardOk := false, state := 1 })) p (okey 0x2541 2)))) ∧
      (Passes s p (okey 0x2541 2) 3 → outputCut s = false → s.cut.tripped = false → s.cut.phase = .idle → s.cut.homeSw = false →
        exec (.cutCmdHome p) s = .next (finish s (taken (modCut (touch s p) (fun c =>
          { c with state := 6, phase := .homing, phaseSt := now s, active := none, stopSet := false, attempt := 0 }))
          p (okey 0x2541 2)))) ∧
      (Passes s p (okey 0x2541 3) 1 → outputCut s = false → s.cut.homeSw = false →
        exec (.cutClear p false) s = .next (finish s (taken (modCut (touch s p) (fun c =>
          { c with tripped := false, state := 6, phase := .homing, phaseSt := now s, active := none, stopSet := false, attempt := 0 }))
          p (okey 0x2541 3))))) ∧
    (∀ c, s.cut.active = some c →
      (s.cut.phase = .waiting → cutAtStop s c = true → s.msu.lanes[mediaLane s].pos ≤ c.stop →
        exec .cutDriveStart s = .next (finish s (modCut s (fun x =>
          { x with state := 2, phase := .forward, phaseSt := now s, cycleSt := now s, homeSw := false })))) ∧
      (s.cut.phase = .forward → exec .cutEndReached s = .next (finish s (modCut s (fun x =>
          { x with phase := .braking, phaseSt := now s, forwardOk := true, state := 3 })))) ∧
      (s.cut.phase = .forward → c.kind = 2 → objN s 0x2540 7 ≤ now s - s.cut.phaseSt →
        exec .cutPartialEnd s = .next (finish s (modCut s (fun x =>
          { x with phase := .braking, phaseSt := now s, forwardOk := true, state := 3 })))) ∧
      (s.cut.phase = .braking → objN s 0x2540 8 ≤ now s - s.cut.phaseSt →
        exec .cutReverseDrive s = .next (finish s (modCut s (fun x => { x with phase := .returning, phaseSt := now s })))) ∧
      (s.cut.phase = .returning → s.cut.forwardOk = true →
        exec .cutHomeReached s = .next (finish s (modCut s (fun x =>
          { x with state := 0, stopSet := false, phase := .finalBrake, phaseSt := now s, homeSw := true })))) ∧
      (s.cut.phase = .finalBrake → objN s 0x2540 8 ≤ now s - s.cut.phaseSt → s.cut.queued = none →
        exec .cutDone s = .next (finish s (raise (modCut s (fun x =>
          { x with count := inc32 x.count, lastCycle := wrap 32 (now s - s.cut.cycleSt), active := none, phase := .idle }))
          224 c.kind (wrap 32 (now s - s.cut.cycleSt)))))) ∧
    (s.cut.phase = .forward → objN s 0x2540 5 ≤ now s - s.cut.phaseSt → s.cut.attempt < objN s 0x2540 9 →
      exec .cutEndTimeout s = .next (finish s (modCut s (fun x =>
        { x with phase := .braking, phaseSt := now s, forwardOk := false, state := 3 })))) ∧
    (s.cut.phase = .returning ∨ s.cut.phase = .homing → objN s 0x2540 6 ≤ now s - s.cut.phaseSt →
      exec .cutHomeTimeout s = .next (finish s (mediaHalt (raise (modCut s (fun x =>
        { x with state := 5, active := none, stopSet := false, phase := .idle }))
        226 (s.cut.attempt + 1) (objN s 0x2540 6)) 5))) ∧
    (cutDriven s.cut = true →
      exec .cutShort s = .next (finish s (mediaHalt (raise (modCut s (fun x =>
        { x with state := 5, active := none, stopSet := false, phase := .idle, tripped := true })) 227 s.cut.state 0) 5)))

/-- Axes, servo boundaries and document imaging (R199–R255). -/
def Claims.AxesAndImagesComplete : Prop :=
  ∀ (s : State), controlLive s = true →
    (∀ rails i p, now s % 5000 = 0 → (∀ t, s.pw.servoSt = some t → t + 5000 ≤ now s) →
      exec (.servoBoundary rails i p) s = .next (finish s (recharge (applyAll hybridCorrect (applyAll axisTurn
        (govUpdate (govUpdate (tollgate (railsRead (modPw s (fun w => { w with servoSt := some (now s) })) rails i p) p) 0) 1)
        (allFin 4)) (allFin 4))))) ∧
    (∀ n : Fin 4, s.axes[n].pend = none →
      exec (.axGo n) s = .next (finish s (modAxis s n (fun x => { x with pend := some .go, pendSt := now s, pendWm := false }))) ∧
      exec (.axGoAlt n) s = .next (finish s (modAxis s n (fun x => { x with pend := some .goAlt, pendSt := now s, pendWm := false }))) ∧
      exec (.axStop n) s = .next (finish s (modAxis s n (fun x => { x with pend := some .stop, pendSt := now s, pendWm := false }))) ∧
      exec (.axQstop n) s = .next (finish s (modAxis s n (fun x => { x with pend := some .qstop, pendSt := now s, pendWm := false })))) ∧
    (∀ (n : Fin 4) met, s.axes[n].regAt = some met → met = true ∨ reach128 s.axes[n].sp0 (axisMicrostep s n) = true →
      exec (.regChangeover n) s = .next (finish s (modAxis s n (fun x => { x with strong := !x.strong, regAt := none })))) ∧
    (∀ (n : Fin 4) t, s.axes[n].restSt = some t → axEnergised s n = true → t + axCfgN s n 0 12 ≤ now s →
      exec (.axStandstill n) s = .next (finish s (modAxis s n (enterStill s n)))) ∧
    (∀ n phase kind, axConducts s n = true →
      exec (.axShort n phase kind) s = .next (finish s (jamAxis (raise (modAxis s n (fun x =>
        { axFreeze x with short := true, state := 5, stillMode := 2 })) 249 (n.val + 256 * phase + 4096 * kind)
        (w32 s.axes[n].sp)) n))) ∧
    (∀ (n : Fin 4) p, Passes s p (okey (0x2608 + n.val) 5) 1 →
      exec (.axClear p n false) s = .next (finish s (taken (modAxis (stallRetake (touch s p) n) n (fun x =>
        { (if x.state = 5 then axReenergise (touch s p) n x else x) with
          stall := false, short := false, stallHeld := false, stalling := false,
          state := (if x.state = 4 || x.state = 5 then 1 else x.state) }))
        p (okey (0x2608 + n.val) 5)))) ∧
    (∀ (n : Fin 4) phase, axEnergised s n = true → s.axes[n].strong = true → s.axes[n].openLoad = false →
      axPeak s n < 4 * (coilTarget s n (Fin.ofNat 2 phase)).natAbs →
      exec (.axOpenLoad n phase) s = .next (finish s (raise (modAxis s n (fun x => { x with openLoad := true })) 250
        (n.val + 256 * phase) (axPeak s n)))) ∧
    (∀ values, sysReads s = true →
      exec (.sysTempRead values) s = .next (finish s (applyAll axTempRead (sysTemps s values) (allFin 4)))) ∧
    (∀ (p : Fin 2) raw t r f, s.img.ports[p].trains = t :: r → t.fin = some f → f ≤ now s →
      exec (.imgTrainEnd p raw) s = .next (finish s (applyAll (processLine raw p)
        (modPort s p (fun o => { o with trains := r, lastTrain := f - t.start })) t.lines))) ∧
    (∀ (p : Fin 2) d, s.img.ports[p].cur = some d →
      (∀ q, d.p0 = some q → d.ending = false →
        s.msu.lanes[Fin.ofNat 4 (imgCfg s p 4 / 4)].dir ≠ .none → s.msu.lanes[Fin.ofNat 4 (imgCfg s p 4 / 4)].dir ≠ d.dir →
        docSign d * (s.msu.lanes[Fin.ofNat 4 (imgCfg s p 4 / 4)].pos - q) < 0 →
        exec (.imgWithdrawn p) s = .next (finish s (modPort s p (fun x => { x with trig := firstReason 2 x.trig })))) ∧
      (exec (.lineFinal p) s = .next (finish s (modPort s p (fun x => { x with finalReq := true })))) ∧
      (d.ending = true → s.img.ports[p].trains = [] →
        exec (.docEnd p) s = .next (finish s (modPort s p (fun x => { x with endReq := true }))))) ∧
    (∀ (i : Fin 2) p,
      ((inRun s && !(jobsOfKind s (i.val + 3)).any (fun e => jobLive s.ledger.jobs[e])) = true →
        (Passes s p (okey (0x2704 + 16 * i.val) 4) 1 →
          exec (.calBlack p i) s = .next (finish s (taken (modPort (touch s p) i (fun x =>
            { x with calCmd := 1, calState := 1, calLeft := shCfg s i 5, calN := shCfg s i 5, calAt := now s,
                     calSlots := slotList s i, calSum := [] })) p (okey (0x2704 + 16 * i.val) 4)))) ∧
        (Passes s p (okey (0x2704 + 16 * i.val) 4) 2 →
          exec (.calWhite p i) s = .next (finish s (taken (modPort (touch s p) i (fun x =>
            { x with calCmd := 2, calState := 1, calLeft := shCfg s i 5, calN := shCfg s i 5, calAt := now s,
                     calSlots := slotList s i, calSum := [] })) p (okey (0x2704 + 16 * i.val) 4))))) ∧
      (Passes s p (okey (0x2704 + 16 * i.val) 4) 3 →
        exec (.calAlign p i) s = .next (finish s (taken (modPort (touch s p) i (fun x =>
          { x with calCmd := 3, calState := 1, calDoc := false })) p (okey (0x2704 + 16 * i.val) 4)))) ∧
      (Passes s p (okey (0x2704 + 16 * i.val) 4) 4 →
        exec (.calBarEdges p i) s = .next (finish s (taken (modPort (touch s p) i (fun x =>
          { x with calCmd := 4, calState := 1, calDoc := false })) p (okey (0x2704 + 16 * i.val) 4))))) ∧
    (∀ (i : Fin 2) raw, s.img.ports[i].calState = 1 → s.img.ports[i].calCmd = 1 ∨ s.img.ports[i].calCmd = 2 →
      inRun s = true → s.img.ports[i].calAt ≤ now s → now s < s.img.ports[i].calAt + 40000 →
      1 < s.img.ports[i].calLeft → s.img.ports[i].calSum = [] →
      exec (.calLineTrigger i raw) s = .next (finish s (modPort s i (fun o =>
        { o with calLeft := o.calLeft - 1, calSum := raw.map (nativeRow s i), calAt := o.calAt + 40000,
                 lit := litFrom s i s.img.ports[i].calSlots (slotTimes s i) }))))

/-- Solenoids (R268–R289). -/
def Claims.SolenoidsComplete : Prop :=
  ∀ (s : State), controlLive s = true →
    (∀ (p : Path) (mask : Nat), mask < 256 →
      (Passes s p (okey 0x2838 1) ((0x100 + mask : Nat) : Int) →
        exec (.solOn p mask) s = .next (finish s (taken (solCmd (touch s p) (0x100 + mask)) p (okey 0x2838 1)))) ∧
      (Passes s p (okey 0x2838 1) ((0x200 + mask : Nat) : Int) →
        exec (.solOff p mask) s = .next (finish s (taken (solCmd (touch s p) (0x200 + mask)) p (okey 0x2838 1)))) ∧
      (Passes s p (okey 0x2838 1) ((0x300 + mask : Nat) : Int) →
        exec (.solPulse p mask) s = .next (finish s (taken (solCmd (touch s p) (0x300 + mask)) p (okey 0x2838 1)))) ∧
      (Passes s p (okey 0x2838 2) mask →
        exec (.solClear p mask) s = .next (finish s (taken (solClear (touch s p) mask) p (okey 0x2838 2))))) ∧
    (∀ (p : Path) (mask low : Nat), mask < 4 → Passes s p (okey 0x2838 3) mask →
      (∀ b : Fin 2, (bit mask b.val && bit low b.val) = false) →
      exec (.bankClear p mask low) s = .next (finish s (taken (bankClear (touch s p) mask) p (okey 0x2838 3)))) ∧
    (∀ (p : Path) (c : Fin 8) (v : Nat), v < 2 ^ 32 → Passes s p (okey (0x2810 + c.val) 1) v →
      ∃ u, exec (.rColdNomWrite p c v) s = .next (finish s (taken u p (okey (0x2810 + c.val) 1))) ∧
        u.sols[c].rLearn = v ∧ objN u (0x2810 + c.val) 1 = v) ∧
    (∀ (b : Fin 2) v, exec (.peakStart b v) s = .next (finish s (boostWatch (serveBank (setBoost s v) b)))) ∧
    (∀ c : Fin 8, s.sols[c].state = 2 → s.sols[c].reached = none → now s - s.sols[c].peakSt ≤ solCfg s c 8 →
      solCfg s c 7 ≤ now s - s.sols[c].peakSt →
      exec (.peakCurrentReached c) s = .next (finish s (modSol s c (fun y =>
        { y with reached := some (now s), lastTtp := now s - s.sols[c].peakSt, current := solCfg s c 2 })))) ∧
    (∀ (c : Fin 8) t, s.sols[c].state = 2 → s.sols[c].reached = some t → t + solCfg s c 3 ≤ now s →
      exec (.peakDwellEnd c) s = .next (finish s (peakEnded (modSol s c (fun x =>
        { x with state := 3, holdSt := now s, holdFrom := now s, target := holdTarget s c })) (chBank c)))) ∧
    (∀ (c : Fin 8) i, s.sols[c].state = 2 → s.sols[c].reached = none → s.sols[c].peakSt + solCfg s c 8 ≤ now s → solCfg s c 9 = 0 →
      exec (.ttpMaxExpire c i) s = .next (finish s (enterHold (raise (modSol s c (fun y =>
        { y with ttpSlow := true, lastTtp := solCfg s c 8, current := i })) 354 c.val i) c))) ∧
    (∀ (c : Fin 8) t, s.banks[chBank c].queue.find? (fun q => q.2 = c) = some (t, c) →
      t + objN s (0x2820 + (chBank c).val) 1 ≤ now s →
      exec (.peakQueueTimeout c) s = .next (finish s (boostWatch (raise (solWithdraw s c) 352 c.val (now s - t))))) ∧
    (∀ c : Fin 8, s.sols[c].state = 3 ∨ s.sols[c].state = 4 → solCfg s c 5 ≠ 0 → s.sols[c].holdFrom + solCfg s c 5 ≤ now s →
      s.sols[c].onSt + 40000 ≤ now s → exec (.holdMaxExpire c) s = .next (finish s (boostWatch (solDecay s c)))) ∧
    (∀ (c : Fin 8) t, s.sols[c].pulseOff = some t → t ≤ now s →
      exec (.pulseEnd c) s = .next (finish s (solOffOp (modSol s c (fun x => { x with pulseOff := none })) c false))) ∧
    (∀ (c : Fin 8) t, s.sols[c].minOff = some t → t ≤ now s → exec (.minOnEnd c) s = .next (finish s (boostWatch (solEnd s c)))) ∧
    (∀ (c : Fin 8) i va vb, s.sols[c].state = 5 → i < 50 →
      ∃ u, exec (.decayEnd c i va vb) s = .next (finish s (serveBanks (setBoost u vb))) ∧
        u.sols[c].lastDecay = now s - s.sols[c].decaySt ∧ u.sols[c].current = i) ∧
    (∀ is, s.boost.propSt = none →
      exec (.propUpdate is) s = .next (finish s (applyAll (fun t (c : Fin 8) =>
        modSol t c (fun x => { x with current := is.getD c.val x.current }))
        (bankSum (bankSum (applyAll propStep { s with boost := { s.boost with propSt := some (now s) } } (allFin 8)) 0) 1)
        (allFin 8)))) ∧
    (∀ v, exec (.boostClamp v) s = .next (finish s (boostClamp s v))) ∧
    (∀ v t, (serveBanks (setBoost s v)).boost.lowSince = some t → (serveBanks (setBoost s v)).boost.lowRaised = false →
      t + 2000000 ≤ now s →
      exec (.boostLow v) s = .next (finish s (raise { serveBanks (setBoost s v) with boost :=
        { (serveBanks (setBoost s v)).boost with lowRaised := true } } 368 v
        ((serveBanks (setBoost s v)).banks[0].queue.length + 256 * (serveBanks (setBoost s v)).banks[1].queue.length)))) ∧
    (∀ i2s, s.boost.modelSt = none →
      exec (.solModelUpdate i2s) s = .next (finish s (applyAll (fun t (c : Fin 8) =>
        coilStep t c (i2s.getD c.val 0) (atN 0 s.se.temps 3))
        { s with boost := { s.boost with modelSt := some (now s) } } (allFin 8)))) ∧
    (∀ c : Fin 8, s.sols[c].state = 3 → s.sols[c].winDone = false → s.sols[c].winSt = none → bankHs s (chBank c) = 1 →
      s.sols[c].holdSt + 400000 ≤ now s →
      exec (.resWindowStart c) s = .next (finish s (modSol s c (fun y =>
        { y with winSt := some (now s), winBad := false, winDone := true })))) ∧
    (∀ (c : Fin 8) (t0 v i : Nat), s.sols[c].winSt = some t0 → t0 + 200000 ≤ now s → s.sols[c].winBad = true →
      exec (.resWindowEnd c v i) s = .next (finish s (modSol s c (fun y => { y with winSt := none, winBad := false })))) ∧
    (∀ c : Fin 8, s.sols[c].state = 3 → inc8 s.sols[c].ocTrips < 4 → s.sols[c].cmd = true →
      exec (.solOcTrip c) s = .next (finish s (raise (modSol s c (fun y =>
        { y with ocTrips := inc8 y.ocTrips, tripped := true, winSt := none, state := 6, retryAt := some (now s + 2000000),
                 minOff := none })) 357 c.val (inc8 s.sols[c].ocTrips)))) ∧
    (∀ (c : Fin 8) t, s.sols[c].retryAt = some t → s.sols[c].state = 6 → t ≤ now s →
      exec (.solOcRetryDue c) s = .next (finish s (modSol s c (fun x => { x with asks := x.asks ++ [.retry] })))) ∧
    (∀ c : Fin 8, solState s c = 0 → s.sols[c].shortGnd = false →
      exec (.solShortGnd c) s = .next (finish s (bankFault (raise (modSol s c (fun x => { x with shortGnd := true })) 358
        (c.val + 256 * (chBank c).val) 0) (chBank c) 1))) ∧
    (∀ b : Fin 2, bankHs s b ≠ 0 →
      exec (.solHsShort b) s = .next (finish s (bankFault (raise s 360 (256 * b.val) (bankHs s b)) b 2))) ∧
    (∀ x y : Fin 8, x ≠ y → s.sols[x].state = 3 → now s ≤ s.sols[x].onSt + 20000 → solState s y = 0 →
      ∃ u, exec (.solCoupled x y) s = .next (finish s u) ∧ u.sols[x].coupled = true ∧ u.sols[x].state = 7 ∧
        u.sols[y].coupled = true ∧ u.sols[y].state = 7)

/-- The Sense Engine (R295–R330). -/
def Claims.SenseComplete : Prop :=
  ∀ (s : State), controlLive s = true →
    (s.se.rotNext ≤ now s → exec .seRotationDue s = .next (finish s (modSe s (fun e =>
      { e with rotNext := e.rotNext + 12800000, rotDue := e.rotDue || (objB s 0x2900 3 && e.spare.isSome) })))) ∧
    (∀ (k : Fin 3) (sp old : Fin 4), k.val = s.se.rotations % 3 → s.se.spare = some sp → s.se.roles[k] = some old →
      s.se.rotDue = true → s.se.slices[sp].state = 2 → capRuns s = false →
      (k.val = 2 ∨ atBoundary s (Fin.ofNat 2 k.val) = true) →
      exec .roleHandover s = .next (finish s (modSlice (modSlice (modSe s (fun e =>
        { e with roles := upd e.roles k (fun _ => some sp), spare := some old, rotations := inc32 e.rotations, rotDue := false }))
        sp (fun x => { x with state := 0 })) old (fun x => { x with state := 1 })))) ∧
    (∀ (i : Fin 4) (lo hi : Nat) (gain off : Int), refOn s = true → s.se.slices[i].state = 1 →
      gain = tdivS (49152 * 32768) (((hi / 16 : Nat) : Int) - ((lo / 16 : Nat) : Int)) →
      off = 8192 - fdiv (((lo / 16 : Nat) : Int) * gain) 32768 →
      32113 ≤ gain → gain ≤ 33423 → -512 ≤ off → off ≤ 512 → ∃ u, exec (.sliceCalDone i lo hi) s = .next (finish s u) ∧
        u.se.slices[i].gain = gain.toNat ∧ u.se.slices[i].offset = off) ∧
    (∀ (p : Path) (mask : Nat), mask < 16 → Passes s p (okey 0x2900 6) mask →
      exec (.sliceClear p mask) s = .next (finish s (taken (sliceClear (touch s p) mask) p (okey 0x2900 6)))) ∧
    (∀ (p : Path) (v : Bool), Passes s p (okey 0x2900 1) (b2n v) →
      ∃ u, exec (.refEnWrite p v) s = .next (finish s (taken u p (okey 0x2900 1))) ∧ refOn u = v) ∧
    (∀ r, s.se.refSt = some r → s.se.refState = 1 → r + 400000 ≤ now s →
      exec .refSettled s = .next (finish s (modSe s (fun e => { e with refState := 2 })))) ∧
    (∀ p, Passes s p (okey 0x2900 7) 1 →
      exec (.trigSw p) s = .next (finish s (taken (seTrigger (touch s p) 1) p (okey 0x2900 7)))) ∧
    (∀ (n : Fin 4) (r : Bool), pinSelected s n r = true → exec (.trigPinEdge n r) s =
        .next (finish s (modSe s (fun e => { e with pinDue := e.pinDue ++ [(now s + 2, n)] })))) ∧
    (∀ p : Fin 2, objN s (0x2910 + p.val) 1 = 0 → exec (.sqStart p) s = .next (finish s (modSq s p (fun x => { x with starts := true })))) ∧
    (∀ p : Fin 2, objN s (0x2910 + p.val) 1 = 1 → exec (.sqStop p) s = .next (finish s (modSq s p (fun x => { x with stops := true })))) ∧
    (∀ (p : Fin 2) t, s.se.sqs[p].phase = .delay t → t ≤ now s → s.se.sqs[p].urgent = none → capRuns s = false → capWants s = false →
      exec (.sqDelayEnd p) s = .next (finish s (sqNext s p (now s)))) ∧
    (∀ (p : Fin 2) (raw : Nat) (a : ST) (sl : Fin 4), s.se.sqs[p].phase = .active a → s.se.roles[roleOf p] = some sl →
      s.se.sqs[p].urgent = none → a + sqAcq s.se.sqs[p] + 40 ≤ now s → refOn s = true → s.se.sqs[p].stopAt = false →
      s.se.sqs[p].rep < bits (sqNow s.se.sqs[p]) 23 16 →
      exec (.conversionDone (.seq p raw)) s = .next (finish s
        (sqBegin (modSq (seResult s p (sqFilter (sqNow s.se.sqs[p]))
          { ch := bits (sqNow s.se.sqs[p]) 31 24, src := s.se.sqs[p].tag, value := sliceValue s sl raw,
            refU := refUnsettled s (a + sqAcq s.se.sqs[p]), slice := sl.val, st := a + sqAcq s.se.sqs[p] }) p
          (fun y => { y with rep := y.rep + 1 })) p (a + sqAcq s.se.sqs[p] + 40)))) ∧
    (∀ (p : Fin 2) (u : Fin 8) (r : List (Fin 8)) (t : ST), s.se.sqs[p].urgent = none → capRuns s = false → capTakes s = false →
      atBoundary s p = true → (sqSlice s p).isSome = true → refOn s = true → s.se.urgs[u].pend = some t →
      (urgPending s p).filter (fun u => match s.se.urgs[u].pend with | some t => decide (t + 2 ≤ now s) | none => false) = u :: r →
      ∃ w, exec (.urgentStart p) s = .next (finish s w) ∧ w.se.urgs[u].pend = none ∧
        w.se.sqs[p].urgent = some { slot := u, acq := now s, len := urgCfg s u 4, src := urgCfg s u 2, ch := urgCfg s u 3,
                                         filt := urgFilter s u }) ∧
    (∀ p, Passes s p (okey 0x2940 4) 1 → exec (.capArm p) s = .next (finish s (taken (capArm (touch s p)) p (okey 0x2940 4)))) ∧
    (∀ p raws, Passes s p (okey 0x2940 4) 2 →
      exec (.capAbort p raws) s = .next (finish s (taken (capAbort (touch s p) raws) p (okey 0x2940 4)))) ∧
    (∀ t, s.se.capTrig = some t → s.se.capState = 1 → t + 2 ≤ now s → sysCapture s = false → atBoundary s 0 = true →
      atBoundary s 1 = true → s.se.sqs[0].urgent = none → s.se.sqs[1].urgent = none → 3 ≤ seHealthy s → refOn s = true →
      (sqSlice s 0).isSome = true → (sqSlice s 1).isSome = true →
      ∃ u, exec .captureStart s = .next (finish s u) ∧ u.se.capState = 2 ∧ u.se.capSt0 = now s) ∧
    (∀ raws, s.se.capState = 2 → s.se.capN ≤ capTaken s →
      exec (.captureDone raws) s = .next (finish s (raise (modSe (capStore s raws s.se.capN) (fun e =>
        { e with capState := 3, capCount := e.capN })) 412 s.se.capN s.se.capSt0))) ∧
    (∀ (k : Fin 16) r, filtPace s k ≠ 0 → s.se.filts[k].paceAt ≤ now s → s.se.filts[k].latest = some r → s.se.filts[k].fresh = true →
      exec (.filterPace k) s = .next (finish s (filtTake (modFilt (modFilt s k (fun y =>
        { y with paceAt := s.se.filts[k].paceAt + filtPace s k, fresh := false })) k (fun y => { y with starvedRun := false })) k
          { r with src := 0x90, st := s.se.filts[k].paceAt }))) ∧
    (∀ p, dictLive s = true → judgeRead (touch s p) p (okey 0x2930 2) = 0 →
      exec (.queuePop p) s = .next (finish s (keepResult (answer (queuePop (touch s p)).1 p 0) p (leBytes 8 (queuePop (touch s p)).2)))) ∧
    (∀ p, Passes s p (okey 0x2930 11) 1 →
      exec (.queueFlush p) s = .next (finish s (taken (wmRearm (modSe (touch s p) (fun e => { e with queue := [] }))) p (okey 0x2930 11)))) ∧
    (∀ w t, objN s 0x2930 6 = 1 → s.se.queue = [w] → dmaWord s = some t →
      exec .dmaMove s = .next (finish s (modSe (wmRearm t) (fun e => { e with dmaStall := false }))))

/-- The dictionary, the Commit Gate, claims, the stored set, the ledger and the PDOs (R335–R374). -/
def Claims.DictionaryComplete : Prop :=
  ∀ (s : State) (p : Path),
    (∀ idx sub data, dictLive s = true → s.ctl.epoch = none → judgeWrite (touch s p) p (okey idx sub) data = 0 →
      plainKey (okey idx sub) → tieWinner (touch s p) p (okey idx sub) = none → clsOf (okey idx sub) = .staged →
      ∃ u, exec (.objectWrite p idx sub data) s = .next (finish s u) ∧ u.ctl.status[p.idx] = 0x26 ∧
        (stagingOf u p).vals.lookup (okey idx sub) = some (dataValue (okey idx sub) data)) ∧
    (Passes s p (okey 0x2001 1) 1 → exec (.commitOwn p) s = .next (finish s (answer
      { touch s p with ctl := { (touch s p).ctl with epoch := some ⟨commitMask (touch s p) p 1, now s, [p]⟩ } } p 0))) ∧
    (Passes s p (okey 0x2001 1) 2 → exec (.commitAll p) s = .next (finish s (answer
      { touch s p with ctl := { (touch s p).ctl with epoch := some ⟨commitMask (touch s p) p 2, now s, [p]⟩ } } p 0))) ∧
    (Passes s p (okey 0x2001 1) 3 → exec (.commitDiscard p) s = .next (finish s (answer
      (modStaging (touch s p) p (fun _ => ⟨[], []⟩)) p 0))) ∧
    (∀ e ps ks vs ds, controlLive s = true → s.ctl.epoch = some e → ps = maskPaths e.mask → ks = epochKeys s ps →
      vs = epochVals s ps ks → ds = epochDoms s ps ks → ks.find? (fun k => !crossOk s ((activeView s).over vs ds) k) = none →
      ∃ t, t = applyVals (emptySets (applyAll (epochTies ps) { s with ctl := { s.ctl with epoch := none } } ks) ps) vs ds ∧
        exec .commitEpoch s = .next (finish s (applyAll (finishLate (okey 0x2001 1) 0)
          { t with ctl := { t.ctl with epochs := inc32 t.ctl.epochs, lastEpochSt := wrap 64 (now s) } } e.writers))) ∧
    (∀ g : Nat, 1 ≤ g → g < 24 → Passes s p (okey 0x2002 1) g → tickWrites (touch s p) = [] →
      exec (.claim p g) s = .next (finish s (answer (noteTick (claimGrant (touch s p) p g) p (claimKey (okey 0x2002 1) g) false none) p 0))) ∧
    (∀ g : Nat, g ≤ 255 → Passes s p (okey 0x2002 2) g → tickWrites (touch s p) = [] →
      exec (.claimRelease p g) s =
        .next (finish s (answer (noteTick (claimRelease (touch s p) p g) p (claimKey (okey 0x2002 2) g) false none) p 0))) ∧
    (∀ g : Fin 24, controlLive s = true → g.val ≠ 0 → leaseOver s g.val = true → holder s g.val = some p →
      exec (.claimLeaseExpire g) s = .next (finish s (setClaim (raise s 12 g.val (p.ascii + 512)) g.val ⟨none, 0⟩))) ∧
    (Passes s p (okey 0x1010 1) 0x65766173 → s.ctl.storeState ≠ 1 →
      ∃ u, exec (.storeAll p) s = .next (finish s u) ∧ u.ctl.storeState = 1 ∧ u.ctl.storeBy = some p ∧ u.ctl.storeTo = storeSlot s) ∧
    (controlLive s = true → s.ctl.storeState = 1 → s.ctl.storeBy = some p →
      ∃ u, exec (.storeDone true) s = .next (finish s u) ∧ u.ctl.storeState = 2 ∧ u.ctl.slots[s.ctl.storeTo].valid = true) ∧
    (Passes s p (okey 0x1011 1) 0x64616F6C →
      exec (.restoreAll p) s = .next (finish s (taken { touch s p with ctl := { (touch s p).ctl with
        slots := s.ctl.slots.map (fun x => { x with valid := false }) } } p (okey 0x1011 1)))) ∧
    (∀ e : Fin 64, jobSel s p = e →
      (Passes s p (okey 0x2020 10) 1 → submitOk s e (jobUnitLane s s.ledger.jobs[e]) = true →
        ∃ u, exec (.jobSubmit p) s = .next (finish s (taken u p (okey 0x2020 10))) ∧ u.ledger.jobs[e].state = 1 ∧
          u.ledger.jobs[e].order = s.ledger.nextOrder) ∧
      (Passes s p (okey 0x2020 10) 2 →
        exec (.jobAbort p) s = .next (finish s (taken (jobAbort 1 (touch s p) e) p (okey 0x2020 10)))) ∧
      (Passes s p (okey 0x2020 10) 3 → s.ledger.jobs[e].state = 3 →
        exec (.jobEnd p) s = .next (finish s (taken (jobFinish (touch s p) e 4 19) p (okey 0x2020 10)))) ∧
      (Passes s p (okey 0x2020 10) 4 →
        exec (.jobRelease p) s = .next (finish s (taken (modJob (touch s p) e (fun _ => Job.reset)) p (okey 0x2020 10))))) ∧
    (Passes s p (okey 0x2021 5) 1 →
      ∃ u, exec (.ledgerClear p) s = .next (finish s (taken u p (okey 0x2021 5))) ∧
        ∀ f : Fin 64, u.ledger.jobs[f] = if jobEnded s.ledger.jobs[f] then Job.reset else s.ledger.jobs[f]) ∧
    (controlLive s = true → runOpen s = true → exec .jobArm s = .next (finish s (applyAll jobTryArm s (queuedJobs s)))) ∧
    (∀ (n : Fin 4) bs, pdoLive s = true → rpdoValid s n = true → sumN ((rpdoEntries s n).map entryBytes) ≤ bs.length →
      240 < objN s (0x1400 + n.val) 2 → exec (.rpdoReceive n bs) s = .next (finish s (rpdoApply s n bs))) ∧
    (pdoLive s = true → exec .syncReceive s =
      .next (finish s (pdoAsk .sync (dropWaits (applyAll rpdoSync s (allFin 4)))))) ∧
    (∀ n, exec (.tpdoChangeTest n) s = .next (finish s (pdoAsk (.change n) s))) ∧
    (∀ n, exec (.tpdoEventTimer n) s = .next (finish s (pdoAsk (.timer n) s))) ∧
    (∀ n, exec (.tpdoInhibitEnd n) s = .next (finish s (pdoAsk (.inhibitEnd n) s))) ∧
    (∀ tx (n : Fin 4) (v k : Nat), v < 2 ^ 32 → k = okey (0x1400 + 0x400 * b2n tx + n.val) 1 → Passes s p k v →
      ∃ u, exec (.pdoCobIdWrite p tx n v) s = .next (finish s (taken u p k)) ∧ objK u k = v) ∧
    (∀ tx (n : Fin 4) (v k sub : Nat), v < 2 ^ 32 → 1 ≤ sub → sub ≤ 64 → k = okey (0x1600 + 0x400 * b2n tx + n.val) sub →
      Passes s p k v → ∃ u, exec (.pdoMapWrite p tx n sub v) s = .next (finish s (taken u p k)) ∧ objK u k = v)

/-- USB (R381–R393). -/
def Claims.UsbComplete : Prop :=
  ∀ (s : State),
    (s.pw.on = true → s.usb.vbus = false → pullupMode s = true → s.usb.state = 0 → objN s 0x2D08 2 = 0 →
      exec .vbusValid s = .next (finish s (modUsb s (fun u => { u with vbus := true, state := 1 })))) ∧
    (exec .vbusInvalid s = .next (finish s (usbTo (loseH (modUsb s (fun u => { u with vbus := false })) 2) 0))) ∧
    (∀ chirp, s.usb.state ≠ 0 → s.md.mode ≠ .recovery → s.usb.state ≠ 5 →
      exec (.usbReset chirp) s = .next (finish s (modUsb (usbTo (loseH s 1) 2) (fun x =>
        { x with speed := 1 + b2n chirp, remoteEn := false })))) ∧
    (s.usb.state = 2 → exec .usbSetAddress s = .next (finish s (modUsb s (fun u => { u with state := 3 })))) ∧
    (s.usb.state = 3 ∨ s.usb.state = 4 →
      exec (.usbSetConfiguration 1) s =
        .next (finish s (raise (modUsb s (fun u => { u with state := 4, stalled := false })) 448 s.usb.speed 0))) ∧
    (s.usb.state = 3 ∨ s.usb.state = 4 → s.md.mode ≠ .recovery →
      exec .usbSetRemoteWake s = .next (finish s (modUsb s (fun u => { u with remoteEn := true }))) ∧
      exec .usbClearRemoteWake s = .next (finish s (modUsb s (fun u => { u with remoteEn := false })))) ∧
    (usbLive s = true →
      (∀ i x n, judgeRead s .h (okey i x) = 0 → (readData s .h (okey i x)).length ≤ n →
        exec (.usbReadObject i x n) s = .next (finish s (usbRequest (readTx s .h (okey i x)).1 (vRefused (readTx s .h (okey i x)).2.1)))) ∧
      (∀ i x bs, exec (.usbWriteObject i x bs) s =
        .next (finish s (usbRequest (writeTx s .h (okey i x) bs []).1 (vRefused (writeTx s .h (okey i x) bs []).2)))) ∧
      (exec .usbGetResult s = .next (finish s (modUsb (keepResult s .h
        (leBytes 1 s.ctl.status[Path.h.idx] ++ leBytes 1 0 ++ leBytes 2 s.usb.reqCount)) (fun u => { u with stalled := false })))) ∧
      (∀ i x wr t, exec (.usbDomainOpen i x wr t) s =
        .next (finish s (usbRequest (domOpen s .h i x wr t).1 (vRefused (domOpen s .h i x wr t).2)))) ∧
      (∀ bs, 1 ≤ bs.length → bs.length ≤ 4096 →
        exec (.usbDomainPut bs) s = .next (finish s (usbRequest (domPut s .h bs).1 (vRefused (domPut s .h bs).2)))) ∧
      (∀ n, n ≤ 4096 → exec (.usbDomainGet n) s = .next (finish s (usbRequest (domGet s .h n).1 (vRefused (domGet s .h n).2.1)))) ∧
      (exec .usbDomainAbort s = .next (finish s (usbRequest (domAbort s .h).1 false))) ∧
      (exec .usbBadRequest s = .next (finish s (usbRequest (answer s .h 0x21) true))) ∧
      (exec .eventInToken s = .next (finish s (modUsb s (fun u =>
        { u with packet := u.q.recs.take (objN s 0x2A00 2), q := { u.q with recs := u.q.recs.drop (objN s 0x2A00 2) } })))) ∧
      (∀ bs, bs.length ≤ inSpace s →
        exec (.bulkOutPacket bs) s = .next (finish s (streamReceive (modUsb s (fun u => { u with nakked := false })) .h bs))) ∧
      (∀ r pk, bulkRecs s = [r] → pk = bulkPacket s → pk ≠ [] → r.bytes.length ≤ s.usb.inOff + pk.length →
        exec (.bulkInAck true) s = .next (finish s (modUsb (takeRec s r) (fun u =>
          { u with inOff := 0, bulk := pk, inFull := decide (pk.length = bulkMax s) })))) ∧
      (exec .usbClearHalt s = .next (finish s (modUsb s (fun u =>
        { u with inp := { u.inp with buf := [], halted := false, named := none } }))))) ∧
    (∀ w, acceptable s s.usb.inp.waits [] = some w → exec (.rasterAccept false) s = .next (finish s
      (rasterAdd (modUsb s (fun u => { u with inp := { u.inp with waits := u.inp.waits.erase w } })) w.head (w.lines.map lineOf)))) ∧
    (∀ p d, s.ctl.xfers[p.idx] = some d → d.lastSt + 200000000 ≤ now s → exec (.domainTimeout p) s = .next (finish s (dropXfer s p))) ∧
    (s.usb.state ≠ 0 → s.usb.state ≠ 5 → ∃ u, exec .usbSuspend s = .next (finish s u) ∧ u.usb.state = 5 ∧ u.usb.prev = s.usb.state) ∧
    (remoteWakeDue s = true → s.usb.rw = .idle → s.usb.hostK = false → s.usb.idleSt + 1000000 ≤ now s →
      exec .remoteWakeDriveK s = .next (finish s (modUsb s (fun u => { u with rw := .driving (now s), attempts := u.attempts + 1 })))) ∧
    (∀ t, s.usb.rw = .driving t → s.usb.state = 5 → t + 380000 ≤ now s →
      exec .remoteWakeRelease s = .next (finish s (modUsb s (fun u => { u with rw := .released (now s) })))) ∧
    (∀ t, s.usb.rw = .released t → s.usb.state = 5 → t + 1800 ≤ now s →
      exec (.remoteWakeSample false) s = .next (finish s (modUsb s (fun u => { u with rw := .awaitK t, cause := 2 })))) ∧
    (∀ t, s.usb.rw = .awaitK t → s.usb.state = 5 → t + 2000000 ≤ now s → s.usb.attempts ≤ objN s 0x2A00 3 →
      exec .remoteWakeRetry s = .next (finish s (modUsb s (fun u => { u with rw := .idle, idleSt := t, cause := 0 })))) ∧
    (s.usb.state = 5 → s.usb.hostK = false → s.usb.rw = .idle →
      exec .usbHostResume s = .next (finish s (modUsb s (fun u => { u with hostK := true, cause := 1 })))) ∧
    (s.usb.state = 5 → s.usb.hostK = true → ∃ u, exec .usbResumeEnd s = .next (finish s u) ∧ u.usb.state = s.usb.prev ∧
      u.usb.wakeCause = s.usb.cause ∧ u.usb.resumes = inc32 s.usb.resumes)

/-- The companion bus (R396–R403). -/
def Claims.CompanionComplete : Prop :=
  ∀ (s : State), cbPowered s = true → dictLive s = true →
    (∀ a, mirrorFresh s a = false → ∃ u, exec (.mirrorRead a) s = .next (finish s u) ∧ u.cb.word = rdLE s.cb.mirror.snap a 2 ∧
      u.cb.mirror.prev = some a) ∧
    (∀ k bs r w, s.cb.fifo = (k, bs) :: r →
      w = writeTx (modCb s (fun c => { c with fifo := r, processed := inc32 c.processed })) .c k bs [] →
      exec .postedDrain s = .next (finish s (if vRefused w.2 then postedRefused w.1 k w.2 else w.1))) ∧
    (controlLive s = true →
      (∀ (n : Fin 16) w r, objN s 0x2A10 (4 + n.val) ≠ 0 → objRow (objN s 0x2A10 (4 + n.val) / 256) = some r → s.cb.fifo.length < 32 →
        exec (.doorbellWrite n w) s = .next (finish s (modCb (cbTouch s) (fun c =>
          { c with fifo := c.fifo ++ [(objN s 0x2A10 (4 + n.val) / 256, leBytes (min 2 r.ty.bytes) w)], dropRun := false })))) ∧
      (∀ i x l v, s.cb.fifo.length < 32 → ∃ u, exec (.pwGo i x l v) s = .next (finish s u) ∧
        u.cb.fifo = s.cb.fifo ++ [(okey i x, leBytes l v)]) ∧
      (∀ w, s.cb.inp.halted = false → inSpace s ≠ 0 →
        exec (.cbInWrite w) s = .next (finish s (streamReceive (cbTouch s) .c (leBytes 2 w)))) ∧
      (∀ r, nextRec s .c = some r → ∃ u, exec .cbOutRead s = .next (finish s u) ∧ u.cb.word = rdLE r.bytes (2 * s.cb.outOff) 2) ∧
      (∀ r rest, s.cb.q.recs = r :: rest → ∃ u, exec .cbEventRead s = .next (finish s u) ∧
        u.cb.word = rdLE (evBytes r) (2 * s.cb.evOff) 2)) ∧
    (exec .cbReset s = .next (finish s (loseC (modCb s (fun c => { c with rstLow := true }))))) ∧
    (s.cb.mb.busy = false →
      (∀ i x, judgeRead (touch s .c) .c (okey i x) = 0 → okey i x ≠ okey 0x2930 2 → ∃ u, exec (.mbRead i x) s = .next (finish s u) ∧
        u.cb.mb.busy = false ∧ u.cb.mb.done = true ∧ u.cb.mb.code = 0) ∧
      (∃ t, t = modCb (cbTouch s) (fun c => { c with mb := { c.mb with busy := true, done := false, ignored := false, late := none } }) ∧
        (∀ i x bs w, w = writeTx (mbData (mbName t i x) bs) .c (okey i x) bs [] →
          exec (.mbWrite i x bs) s = .next (finish s (if w.2 = vLate then w.1 else mbDone w.1 (vStatus w.2)))) ∧
        (∀ i x w, w = domOpen (mbName t i x) .c i x false 0 →
          exec (.mbOpenRead i x) s = .next (finish s (if w.2 = vLate then w.1 else mbDone w.1 (vStatus w.2)))) ∧
        (∀ i x n w, w = domOpen (modCb (mbName t i x) (fun c => { c with mb := { c.mb with offset := n } })) .c i x true n →
          exec (.mbOpenWrite i x n) s = .next (finish s (if w.2 = vLate then w.1 else mbDone w.1 (vStatus w.2)))) ∧
        (∀ o l bs d w, s.ctl.xfers[Path.c.idx] = some d → now s < d.lastSt + 200000000 → d.wr = true → d.off = o →
          w = domPut (modCb t (fun c => { c with mb := { c.mb with offset := o, len := l, data := bs } })) .c bs →
          exec (.mbSegment o l bs) s = .next (finish s (if w.2 = vLate then w.1 else mbDone w.1 (vStatus w.2)))) ∧
        (∀ w, w = domAbort t .c → exec .mbAbort s = .next (finish s (if w.2 = vLate then w.1 else mbDone w.1 (vStatus w.2)))) ∧
        exec .mbStreamReset s = .next (finish s (mbDone (modCb t (fun c =>
          { c with inp := { c.inp with buf := [], halted := false, odd := false, named := none } })) 0)))) ∧
    (∀ code, s.cb.mb.late = some code → s.cb.mb.busy = true → exec .mbRequestDone s = .next (finish s (mbDone s code)))

/-- The field network, the Last Ride and the serial ports (R412–R435). -/
def Claims.NetworkComplete : Prop :=
  ∀ (s : State),
    (∀ node, nmtMine s node = true → s.net.nmt ≠ 0 →
      exec (.nmtStart node) s = .next (finish s (lrLeave (nmtTo s 5 0x01) false)) ∧
      exec (.nmtStop node) s = .next (finish s (lrLeave (nmtTo s 4 0x02) false)) ∧
      exec (.nmtEnterPreop node) s = .next (finish s (lrLeave (nmtTo s 0x7F 0x80) false))) ∧
    (∀ node, nmtMine s node = true → ∃ u, exec (.nmtResetNode node) s = .next (finish s (nmtTo (dropWaits u) 0 0x81)) ∧
      exec (.nmtResetComm node) s = .next (finish s (nmtTo (dropWaits u) 0 0x82))) ∧
    (canLive s = true →
      (s.net.nmt = 0 → exec .nmtBootup s =
        .next (finish s (nmtTo (modNet (sendCan s (0x700 + s.net.nodeAct) [0]) (fun n => { n with hbSt := now s })) 0x7F 0))) ∧
      (∀ t r, ∃ u, exec (.canBusOff t r) s = .next (finish s (loseN u 2)) ∧ u.net.busState = 2 ∧ u.net.busoffs = inc16 s.net.busoffs) ∧
      (∀ t r, exec (.errorPassive t r) s = .next (finish s (modNet s (fun n =>
        { n with tec := wrap 8 t, rec_ := wrap 8 r, busState := b2n (decide (128 ≤ wrap 8 t) || decide (128 ≤ wrap 8 r)) })))) ∧
      (s.net.nmt ≠ 0 → objN s 0x1017 0 ≠ 0 → s.net.hbSt + objN s 0x1017 0 * 200000 ≤ now s →
        exec .heartbeatSend s = .next (finish s (modNet (sendCan s (0x700 + s.net.nodeAct) (leBytes 1 s.net.nmt)) (fun n =>
          { n with hbSt := now s })))) ∧
      (∀ node, s.net.nmt ≠ 0 → ∃ u, exec (.heartbeatReceive node) s = .next (finish s u) ∧
        ∀ i : Fin 4, hbTime s i ≠ 0 → hbNode s i = node → u.net.hb[i] = some (now s)) ∧
      (∀ (i : Fin 4) t, s.net.hb[i] = some t → hbTime s i ≠ 0 → t + hbTime s i ≤ now s →
        exec (.hbTimeout i) s = .next (finish s (errBehaviour (raise (modNet s (fun n =>
          { n with hb := upd n.hb i (fun _ => none), hbTimeouts := inc16 n.hbTimeouts })) 468 (hbNode s i) (inc16 s.net.hbTimeouts)))))) ∧
    (s.net.busState = 2 → exec .canRecovered s = .next (finish s (lrBack (raise (modNet s (fun n =>
      { n with busState := 0, tec := 0, rec_ := 0 })) 465 0 0)))) ∧
    (∀ f r, s.net.emcyQ = f :: r → usdoLive s = true → emcyFree s = true →
      exec .emcySend s = .next (finish s (modNet (sendCan s (canId s 0x1014 0) f) (fun n =>
        { n with emcyQ := r, emcySent := inc32 n.emcySent, emcySt := some (now s) })))) ∧
    (∀ c u, u = usdoExpire s → usdoLive s = true →
      (∀ i x t bs, usdoRoom u c = true → usdoFind u c = none → keyIsDom (okey i x) = false → t ≤ bs.length →
        exec (.usdoDownloadInit c i x t bs) s = .next (finish s (usdoWrite u c (okey i x) bs))) ∧
      (∀ e bs, usdoFind u c = some e → e.wr = true → keyIsDom e.key = false → e.total ≤ (e.data ++ bs).length →
        exec (.usdoDownloadSegment c bs) s = .next (finish s (usdoWrite (usdoForget u c) c e.key (e.data ++ bs)))) ∧
      (∀ i x r d, usdoRoom u c = true → usdoFind u c = none → keyIsDom (okey i x) = false → judgeRead (touch u .n) .n (okey i x) = 0 →
        d = readTx u .n (okey i x) → d.2.2.length ≤ r →
        exec (.usdoUploadInit c i x r) s = .next (finish s (usdoAnswer d.1 c 0 d.2.2))) ∧
      (∀ e r, usdoFind u c = some e → e.wr = false → keyIsDom e.key = false →
        ∃ v, exec (.usdoUploadSegment c r) s = .next (finish s v) ∧ v.net.reply = some ⟨c, 0, (e.data.drop e.off).take r⟩) ∧
      (∃ v, exec (.usdoClientAbort c) s = .next (finish s v) ∧ usdoFind v c = none)) ∧
    (∀ c e, usdoFind s c = some e → e.lastSt + 200000000 ≤ now s →
      ∃ v, exec (.usdoTimeout c) s = .next (finish s v) ∧ v.net.reply = some ⟨c, 0x05040000, []⟩) ∧
    (∀ p t, Passes s p (okey 0x2A48 8) 1 → objN s 0x2A48 1 = 2 → lrLive s = true → s.net.lr.state = 0 →
      t = modLr (touch s p) (fun l => { l with evSince := false, localWake := false }) → lrBusy t = 0 →
      exec (.lrCall p 1) s = .next (finish s (taken (lrSend (lrBegin t (inc8 s.net.lr.round) 2 true) 1 0) p (okey 0x2A48 8)))) ∧
    (lrPart s = true →
      (∀ r t, objN s 0x2A48 1 = 1 → s.net.lr.state ≠ 3 → s.net.lr.state ≠ 4 → t = lrBegin s (wrap 8 r) 1 false → lrBusy t = 0 →
        exec (.lrCallReceive (objN s 0x2A48 3) r) s =
          .next (finish s (lrSend (modLr t (fun l => { l with ready := true })) 2 0))) ∧
      (∀ n r, s.net.lr.state = 2 → s.net.lr.master = true → n ∈ lrMembers s → s.net.lr.answers.lookup n = none →
        exec (.lrAnswerReceive n s.net.lr.round r) s =
          .next (finish s (modLr s (fun l => { l with answers := l.answers ++ [(n, r)] })))) ∧
      (s.net.lr.state = 2 → s.net.lr.master = true → s.net.lr.commitSent = false → s.net.lr.startSt + 10000000 ≤ now s →
        s.net.lr.veto = none → lrFailing s = none → lrBusy s = 0 →
        exec .lrAnswerWindowEnd s = .next (finish s (lrSend (modLr s (fun l => { l with commitSent := true })) 5 0))) ∧
      (∀ n, s.net.lr.state = 3 →
        exec (.lrVetoReceive n s.net.lr.round) s = .next (finish s (lrEnd (lrSend s 7 8) 3 8 n)) ∧
        exec (.lrWakeReceive n) s = .next (finish s (lrEnd s 3 9 n))) ∧
      (s.net.lr.state = 1 → s.net.lr.master = false →
        exec (.lrCommitReceive (objN s 0x2A48 3) s.net.lr.round) s =
          .next (finish s (modLr s (fun l => { l with state := 3, startSt := now s }))) ∧
        ∀ r, exec (.lrAbortReceive (objN s 0x2A48 3) s.net.lr.round r) s = .next (finish s (lrEnd s 2 r (objN s 0x2A48 3))))) ∧
    (s.net.lr.state = 1 → s.net.lr.ready = true → s.net.lr.startSt + 20000000 ≤ now s →
      exec .lrWaitTimeout s = .next (finish s (lrEnd s 4 0 (objN s 0x2A48 3)))) ∧
    (s.net.lr.state = 3 → s.net.lr.startSt + 3980000 ≤ now s → objN s 0x2A48 2 ≠ 1 →
      ∃ u, exec .lrCurtainEnd s = .next (finish s (canStandby u 3)) ∧ u.net.lr.state = 4 ∧ u.net.lr.outcome = 1) ∧
    (∀ f c, s.net.busState = 3 → wakeCauseOf s f = some c → s.md.mode ≠ .doze →
      exec (.canWake f) s = .next (finish s (lrWoken (canUp s) c 0))) ∧
    (∀ (n : Fin 2) x, dictLive s = true → s.uarts[n].breakWait = false → uartCfg s n 7 ≠ 1 → uartActive s n = true →
      sampleHigh (x.headD 3) = false → exec (.uartRxChar n x) s =
        .next (finish s (uartStore (modUart s n (fun u => { u with rxBusy := false })) n (uartFrame s n x)))) ∧
    (∀ (n : Fin 2) c cts, uartActive s n = true → s.uarts[n].txHold = some c → s.uarts[n].txShift = none →
      uartCfg s n 6 = 0 ∨ cts = true → ∃ u, exec (.uartTxStart n cts) s = .next (finish s u) ∧ u.uarts[n].txShift = some c ∧
        u.uarts[n].txHold = none) ∧
    (∀ (n : Fin 2) c, s.uarts[n].txShift = some c → uartActive s n = true → ∃ u, exec (.uartTxDone n) s = .next (finish s u) ∧
      u.uarts[n].txShift = none ∧ u.uarts[n].txChars = inc32 s.uarts[n].txChars) ∧
    (∀ n : Fin 2, uartCfg s n 7 = 1 → s.md.mode = .doze → ∃ u, exec (.uartStartEdgeWake n) s = .next (finish s u) ∧
      u.md.wakeSrc = setBit s.md.wakeSrc (2 + n.val) ∧ u.uarts[n].rtsWake = true) ∧
    (∀ n, exec (.uartBreakEnd n) s = .next (finish s (modUart s n (fun u => { u with breakWait := false }))))

/-- Events, the Safety Net, the Trouble Log and power (R442–R478). -/
def Claims.SafetyComplete : Prop :=
  ∀ (s : State),
    (∀ p, Passes s p (okey 0x2B01 4) 1 → ∃ u, exec (.eventClearFlag p) s = .next (finish s (taken u p (okey 0x2B01 4))) ∧
      evRec u (atN 0 s.rm.sel p.idx.val) = { evRec s (atN 0 s.rm.sel p.idx.val) with flag := false }) ∧
    (∀ p, Passes s p (okey 0x2B01 9) 1 → ∃ u, exec (.eventClearAll p) s = .next (finish s (taken u p (okey 0x2B01 9))) ∧
      ∀ e, (evRec u e).flag = false) ∧
    (s.pw.on = true →
      (s.sn.coverLow = false → exec .coverAssert s = .next (finish s
        (snInput s (fun n => { n with coverLow := true, coverDue := none }) 496 inputsWord cutsWord))) ∧
      (s.sn.coverLow = true → exec .coverDeassert s = .next (finish s
        (snInput s (fun n => { n with coverLow := false, coverDue := some (now s + 2000000) }) 497 inputsWord (fun _ => 0)))) ∧
      (s.sn.haltLow = false → exec (.haltAssert true) s = .next (finish s
        (snInput s (fun n => { n with haltLow := true, haltLatch := true }) 498 inputsWord cutsWord))) ∧
      (∀ h : Fin 2, s.sn.ot[h] = false → exec (.headOtAssert h) s = .next (finish s (snInput s (fun n =>
        { n with ot := upd n.ot h (fun _ => true), otLatch := upd n.otLatch h (fun _ => true) }) 499 (fun _ => h.val) inputsWord))) ∧
      (∀ (h : Fin 2) v, s.sn.ov[h] = false → exec (.vhOvAssert h v) s = .next (finish s (snInput s (fun n =>
        { n with ov := upd n.ov h (fun _ => true), ovLatch := upd n.ovLatch h (fun _ => true) }) 500 (fun _ => h.val) (fun _ => v))))) ∧
    (∀ t, s.sn.coverDue = some t → t ≤ now s →
      exec .coverRelease s = .next (finish s (cutsFollow s (modSn s (fun n => { n with coverDue := none }))))) ∧
    (∀ h : Fin 2, exec (.headOtDeassert h) s = .next (finish s (cutsFollow s (modSn s (fun n => { n with ot := upd n.ot h (fun _ => false) })))) ∧
      exec (.vhOvDeassert h) s = .next (finish s (cutsFollow s (modSn s (fun n => { n with ov := upd n.ov h (fun _ => false) }))))) ∧
    (∀ p, Passes s p (okey 0x2C11 1) 1 → latchHeld s = false →
      exec (.snRelease p) s = .next (finish s (taken (snReleaseAll (touch s p)) p (okey 0x2C11 1)))) ∧
    (∀ p t, t = ringFlush (settle (touch s p)) → Passes s p (okey 0x2C00 1) 1 →
      exec (.tlClear p) s = .next (finish s (taken (ringFlush (settle (raise { t with tl :=
        { t.tl with ring := [], head := 0, lostNext := false, dropRun := false } } 509 p.ascii t.tl.wraps))) p (okey 0x2C00 1)))) ∧
    (∀ v, s.pw.on = true → s.pw.pf = none → v < railUv s 9 →
      exec (.railUv 9 v) s = .next (finish s (raise (modPw (modPw s (fun w => { w with flags := setBit w.flags 9 }))
        (fun w => { w with failed := setBit w.failed 9 })) 484 9 v))) ∧
    (∀ r v, s.pw.on = true → r ≤ 9 → r ≠ 1 → r ≠ 2 → 11 * railSet s r < 10 * v →
      exec (.railOv r v) s = .next (finish s (raise s 485 r v))) ∧
    (∀ counts ro t, controlLive s = true → s.pw.avsSt = none → ro = counts.foldl min 65535 →
      t = modPw s (fun w => { w with avsSt := some (now s) }) → objN t 0x2D01 6 * 15 / 16 ≤ ro → objN t 0x2D01 1 ≠ 1 →
      exec (.avsUpdate counts) s = .next (finish s (modPw t (fun w => { w with roMin := ro })))) ∧
    (∀ c pr t, s.pw.on = true → s.pw.pf = none → dozeOff s = false →
      t = raise { s with md := { s.md with trans := none, held := false },
                         pw := { s.pw with present := pr, pf := some ⟨c, now s, 3, 0⟩ } } 480 c s.md.mode.code →
      exec (.powerFail c pr) s =
        .next (finish s (pfSkip (norAbandon (boostOff (cutsFollow t (modSn t (fun n => { n with pdCut := true }))))) 2))) ∧
    (∀ us, s.pw.on = true → s.pw.pf = none → dozeOff s = false → 5000 ≤ us → us < 6000 →
      exec (.inputDip us) s = .next (finish s (raise (modPw s (fun w => { w with dips := inc32 w.dips })) 493 (inc32 s.pw.dips) us))) ∧
    (exec .powerLost s = .next (finish s (coldReset s)) ∧ (coldReset s).pw.on = false ∧ (coldReset s).md = State.reset.md)

/-- Images, keys, the application, its calls and debug access (R490–R502). -/
def Claims.ApplicationComplete : Prop :=
  ∀ (s : State) (p : Path),
    (∀ bs : List Byte, dictLive s = true → s.ctl.epoch = none →
      (judgeOpen (touch s p) p 0x5E00 0 true bs.length = 0 → ∃ t, exec (.systemImageWrite p bs) s =
        .next (finish s (answer (systemImage t bs).1 p (systemImage t bs).2))) ∧
      (judgeOpen (touch s p) p 0x5E01 0 true bs.length = 0 → ∃ t, exec (.appImageWrite p bs) s =
        .next (finish s (answer (appImage t bs).1 p (appImage t bs).2)))) ∧
    (Passes s p (okey 0x2E00 5) 1 → exec (.slotCmdInvalidate p) s = .next (finish s (taken (modBoot (touch s p) (fun b =>
      { b with slots := updN b.slots (1 - b.running.val) (fun _ => SysSlot.blank) })) p (okey 0x2E00 5)))) ∧
    (Passes s p (okey 0x2E02 11) 1 → s.boot.rollback < s.boot.slots[s.boot.running].rollback →
      ∃ u, exec (.rollbackCommit p) s = .next (finish s (taken (raise u 508 1 s.boot.slots[s.boot.running].rollback) p (okey 0x2E02 11))) ∧
        u.boot.rollback = s.boot.slots[s.boot.running].rollback) ∧
    (∀ k : Fin 4, Passes s p (okey 0x2E02 9) 1 → (allFin 4).find? (fun k => s.boot.keys[k].state == 0) = some k →
      (∀ j : Fin 4, s.boot.keys[j].state ≠ 1) → onCurve (quad s 0x2E02 1) (quad s 0x2E02 5) = true →
      ∃ u, exec (.keyAdd p) s = .next (finish s (taken (raise u 508 2 (slotStates u)) p (okey 0x2E02 9))) ∧
        u.boot.keys[k] = ⟨1, quad s 0x2E02 1, quad s 0x2E02 5⟩) ∧
    (∀ k : Fin 4, Passes s p (okey 0x2E02 9) ((2 + k.val : Nat) : Int) →
      ∃ u, exec (.keyRevoke p k) s = .next (finish s (taken (raise u 508 3 (slotStates u)) p (okey 0x2E02 9))) ∧ u.boot.appNor = []) ∧
    (Passes s p (okey 0x2E01 2) 2 → exec (.appStart p) s = .next (finish s (taken (appStart (touch s p)) p (okey 0x2E01 2)))) ∧
    (Passes s p (okey 0x2E01 2) 1 → exec (.appStop p) s = .next (finish s (taken (appStop (touch s p) 1) p (okey 0x2E01 2)))) ∧
    (∀ v : Nat, v ≤ 1 → Passes s p (okey 0x2E01 1) v → ∃ u, exec (.appEnableWrite p v) s =
      .next (finish s (taken (if v = 0 then appStop u 4 else u) p (okey 0x2E01 1))) ∧ objN u 0x2E01 1 = v) ∧
    (s.app.state = 2 →
      (∀ ms, ms = objN s 0x2E01 3 → ms ≠ 0 → s.tu.halted = false → s.app.kickSt + s.app.haltTicks + ms * 200000 ≤ now s →
        exec .appWdogExpire s = .next (finish s (appStop s 2))) ∧
      (∀ pc c, exec (.appTrap pc c) s =
        .next (finish s (appStop (modApp s (fun a => { a with faultPc := wrap 32 pc, faultCause := wrap 32 c })) 3))) ∧
      (∀ a, appRegion a = false → s.tu.halted = false →
        exec (.appAccessFault a) s = .next (finish s (modApp s (fun x => { x with accFault := some a }))))) ∧
    (apiLive s = true →
      (∀ i x buf size r, r = readTx s .a (okey i x) → judgeRead s .a (okey i x) = 0 → (readData s .a (okey i x)).length ≤ size →
        inMailbox buf (readData s .a (okey i x)).length = true → r.2.1 = 0 →
        exec (.apiDictRead i x buf size) s = .next (finish s (apiReturn (bufPut r.1 buf r.2.2) 0 r.2.2.length))) ∧
      (∀ i x buf len r, inMailbox buf len = true → r = writeTx s .a (okey i x) (bufBytes s buf len) [] → r.2 ≠ vLate →
        exec (.apiDictWrite i x buf len) s = .next (finish s (apiReturn r.1 (vStatus r.2) 0))) ∧
      (∀ i d t r, d ≤ 1 → r = domOpen s .a i 0 (d == 1) t → r.2 ≠ vLate →
        exec (.apiDomainOpen i d t) s = .next (finish s (apiReturn r.1 (vStatus r.2) 0))) ∧
      (∀ buf len x r, inMailbox buf len = true → s.ctl.xfers[Path.a.idx] = some x → now s < x.lastSt + 200000000 → x.wr = true →
        r = domPut s .a (bufBytes s buf len) → vRefused r.2 = false → r.2 ≠ vLate →
        exec (.apiDomainSegment buf len x.off) s = .next (finish s (apiReturn r.1 (vStatus r.2) len))) ∧
      (∀ r, r = domAbort s .a → r.2 ≠ vLate → exec .apiDomainAbort s = .next (finish s (apiReturn r.1 (vStatus r.2) 0))) ∧
      (∀ buf n rs, rs = s.rm.app.recs.take n → inMailbox buf (16 * rs.length) = true →
        exec (.apiEventGet buf n) s = .next (finish s (apiReturn (modRm (bufPut s buf (rs.flatMap evBytes)) (fun m =>
          { m with app := { m.app with recs := m.app.recs.drop n } })) 0 rs.length))) ∧
      (∀ lo hi, s.rm.app.recs ≠ [] → exec (.apiWait lo hi) s = .next (finish s (apiReturn s 0 1))) ∧
      (objN s 0x2E01 3 = 0 → exec .apiWdogKick s = .next (finish s (apiReturn (modApp s (fun a =>
        { a with kickSt := now s, haltTicks := 0, haltSt := now s })) 0 0))) ∧
      (∀ (n : Fin 2) ch, s.uarts[n].txHold = none → ∃ u, exec (.apiUartPut n.val ch) s = .next (finish s (apiReturn u 0 1)) ∧
        u.uarts[n].txHold = some (wrap 9 ch)) ∧
      (∀ n : Fin 2, ∃ u, exec (.apiUartGet n.val) s = .next (finish s (apiReturn u 0 (s.uarts[n].rxHold.getD 0xFFFFFFFF))) ∧
        u.uarts[n].rxHold = none) ∧
      (exec .apiExit s = .next (finish s (appStop s 1))) ∧
      (∀ code, code ∉ apiCodes → exec (.apiUnknown code) s = .next (finish s (modApp s (fun a => { a with a0 := 0x21 }))))) ∧
    (∀ d, s.app.waiting = some d → s.tu.halted = false → s.rm.app.recs ≠ [] →
      exec .apiWaitWake s = .next (finish s (apiReturn (modApp s (fun a => { a with waiting := none })) 0 1))) ∧
    (∀ ok, ok = (allFin 4).any (fun k => s.boot.keys[k].state == 1 &&
        ecdsaOk s.boot.keys[k].x s.boot.keys[k].y (sha256 (debugMessage s)) (quad s 0x2E03 5) (quad s 0x2E03 9)) →
      Passes s p (okey 0x2E03 13) 1 → exec (.debugUnlock p) s = .next (finish s (if ok = true then taken (raise (modBoot (touch s p) (fun b =>
        { b with challenge := b.challenge + 1, debugOn := true })) 508 4 1) p (okey 0x2E03 13)
      else answer (modBoot (touch s p) (fun b => { b with challenge := b.challenge + 1, debugRefused := b.debugRefused + 1 })) p 0x23))) ∧
    (Passes s p (okey 0x2E03 13) 2 → s.boot.debugOn = true → exec (.debugLock p) s =
      .next (finish s (taken (raise (modBoot (touch s p) (fun b => { b with debugOn := false })) 508 4 0) p (okey 0x2E03 13))))

/-! The obligations: each is the conjunction of its claims. -/

/-- A step carries out the command at the front of the queue. -/
def Obligations.StepTakesFront : Prop := Claims.StepTakesFront

/-- The invariant holds at reset. -/
def Obligations.ResetInv : Prop := Claims.ResetInv

/-- Every step keeps the invariant. -/
def Obligations.StepKeepsInv : Prop := Claims.StepKeepsInv

/-- Every command completes; one of a plane that is not live has no effect. -/
def Obligations.EveryCommandCompletes : Prop := Claims.EveryCommandCompletes ∧ Claims.NotLiveNoEffect

/-- The follow-up of a command leaves the units as the command left them. -/
def Obligations.FollowLeavesUnits : Prop := Claims.FollowLeavesUnits

/-- The queue of commands drains, in order, and the invariant holds after it. -/
def Obligations.QueueDrains : Prop := Claims.QueueDrains

/-- What reset leaves. -/
def Obligations.ResetLeaves : Prop := Claims.ResetLeaves

/-- The keeper period in DOZE. -/
def Obligations.KeeperPeriod : Prop := Claims.KeeperPeriod

/-- Urgent requests for P0 or P1 wait while a capture runs. -/
def Obligations.UrgentWaitsForCapture : Prop := Claims.UrgentWaitsForCapture

/-- A SERVICE-ONLY write from another path than the session path is refused with ACCESS. -/
def Obligations.ServiceOnlyFromOtherPath : Prop := Claims.ServiceOnlyFromOtherPath

/-- The RUN8 decoder. -/
def Obligations.Run8Decodes : Prop := Claims.Run8Decodes

/-- Which dots a decoded line marks black. -/
def Obligations.DotBits : Prop := Claims.DotBits

/-- Power-on, the end of the boot, its watchdog and the way out of RECOVERY. -/
def Obligations.StartUp : Prop := Claims.PowerOnStartsBoot ∧ Claims.BootCompletes ∧ Claims.BootWatchdogAndWakeExit

/-- The DFU requests of RECOVERY. -/
def Obligations.DfuRequests : Prop := Claims.DfuRequests

/-- Mode requests, and the transitions they begin. -/
def Obligations.ModeChanges : Prop := Claims.ModeRequests ∧ Claims.TransitionsBegin

/-- RUN, SERVICE, STANDBY and LOCKOUT reached and left. -/
def Obligations.ModesReached : Prop := Claims.RunReached ∧ Claims.FloorsReached ∧ Claims.LockoutClears

/-- DOZE, its handover, abort and wake. -/
def Obligations.DozeAndWake : Prop := Claims.DozeCommands ∧ Claims.WakeCompletes

/-- Encoder edges, faults and index pulses. -/
def Obligations.EncoderChannels : Prop := Claims.EncoderEdges ∧ Claims.EncoderIndex

/-- Direction, and the line events of the generators. -/
def Obligations.LinesOfMotion : Prop := Claims.DirectionCommits ∧ Claims.LineEvents ∧ Claims.FirstLineIsLeast

/-- When a waymark fires and what it then does. -/
def Obligations.WaymarksFire : Prop := Claims.WaymarksFire ∧ Claims.WaymarkConditions

/-- The waymark window: writes, enables, the table. -/
def Obligations.WaymarkWindow : Prop := Claims.WaymarkWrites ∧ Claims.WaymarkEnables ∧ Claims.WaymarkTable

/-- Compares, events, armings and triggers of the timer channels. -/
def Obligations.TimerChannels : Prop := Claims.TimerCompares ∧ Claims.TimerEventsAndTriggers

/-- Deliveries of the timer, its captures, and its halt. -/
def Obligations.TimerOutputs : Prop := Claims.TimerDeliveries ∧ Claims.CapturesAndHalt

/-- Head identification, the train of a line, flushes. -/
def Obligations.HeadLines : Prop := Claims.HeadIdentification ∧ Claims.LineTrains ∧ Claims.RasterFlushes

/-- Head temperature limits, and the measurement of the dots. -/
def Obligations.HeadTemperatureAndResistance : Prop := Claims.HeadTemperature ∧ Claims.ResistanceMeasurement

/-- Media samples and the grid. -/
def Obligations.MediaFinding : Prop := Claims.MediaSampling ∧ Claims.GridCrossing

/-- Media indexes judged, the halts of the media and their release. -/
def Obligations.MediaIndexes : Prop := Claims.IndexJudged ∧ Claims.MediaHaltsAndReleases

/-- Axis commands, moves and their events. -/
def Obligations.AxisMotion : Prop := Claims.AxisCommandsWait ∧ Claims.AxisMovesBegin ∧ Claims.AxisEvents

/-- Servo boundaries, and the bounds of the tollgate. -/
def Obligations.ServoAndTollgate : Prop := Claims.ServoBoundaries ∧ Claims.TollgateBounds

/-- Image lines, documents and calibration. -/
def Obligations.Images : Prop := Claims.ImageLines ∧ Claims.ImageDocuments ∧ Claims.Calibration

/-- The drives of the cutter's cycle. -/
def Obligations.CutterCycle : Prop := Claims.CutterDrives

/-- Requests of the cutter, its jams, retries and faults. -/
def Obligations.CutterFaultsAndRequests : Prop := Claims.CutterFaults ∧ Claims.CutterRequests

/-- Solenoid commands on a channel. -/
def Obligations.SolenoidChannels : Prop := Claims.SolenoidWrites ∧ Claims.SolenoidChannel

/-- The phases of a solenoid's drive. -/
def Obligations.SolenoidProfiles : Prop := Claims.SolenoidPeaks ∧ Claims.SolenoidEnds

/-- The solenoid update, its faults and their clear. -/
def Obligations.SolenoidSupervision : Prop := Claims.SolenoidUpdates ∧ Claims.SolenoidFaults

/-- The slices of the Sense Engine and the reference buffer. -/
def Obligations.SenseSlices : Prop := Claims.SliceRoles ∧ Claims.ReferenceBuffer

/-- Triggers and sequencers of the Sense Engine. -/
def Obligations.SenseSequencers : Prop := Claims.SenseTriggers ∧ Claims.Sequencers

/-- Urgent slots, captures and the result queue. -/
def Obligations.SenseRequests : Prop := Claims.UrgentSlots ∧ Claims.CaptureRuns ∧ Claims.ResultQueue

/-- A write of an object, and the order of its checks. -/
def Obligations.DictionaryWrites : Prop := Claims.ObjectWrites ∧ Claims.WriteChecksInOrder

/-- The Commit Gate. -/
def Obligations.CommitGate : Prop := Claims.CommitGate

/-- Claims, their leases and the service session. -/
def Obligations.ClaimGroups : Prop := Claims.ClaimCommands

/-- The stored set. -/
def Obligations.StoredSet : Prop := Claims.StoredSet

/-- The Job Ledger. -/
def Obligations.JobLedger : Prop := Claims.LedgerCommands ∧ Claims.LedgerCommandsOutOfState ∧ Claims.LedgerArms

/-- RPDOs, TPDOs and their parameters. -/
def Obligations.ProcessData : Prop := Claims.RpdosReceived ∧ Claims.TpdosSent ∧ Claims.PdoParameters

/-- The USB link, suspend and wake. -/
def Obligations.UsbAttachment : Prop := Claims.UsbLink ∧ Claims.SuspendAndWake

/-- USB requests and endpoints. -/
def Obligations.UsbTransfers : Prop := Claims.UsbRequests ∧ Claims.UsbEndpoints

/-- DOMAIN transfers. -/
def Obligations.DomainTransfers : Prop := Claims.DomainTransfers

/-- The Mirror and the posted writes of the companion bus. -/
def Obligations.CompanionRegisters : Prop := Claims.MirrorReads ∧ Claims.PostedWrites

/-- The mailbox and the stream ports of the companion bus. -/
def Obligations.CompanionMailbox : Prop := Claims.MailboxRequests ∧ Claims.CompanionPorts

/-- NMT, bus errors, heartbeat and EMCY. -/
def Obligations.FieldNetwork : Prop := Claims.NmtCommands ∧ Claims.BusErrors ∧ Claims.HeartbeatAndEmcy

/-- USDO sessions. -/
def Obligations.UsdoSessions : Prop := Claims.UsdoSessions

/-- The Last Ride. -/
def Obligations.LastRide : Prop := Claims.LastRideReadiness ∧ Claims.LastRideMaster ∧ Claims.LastRideParticipant ∧ Claims.LastRideCurtain

/-- The serial ports. -/
def Obligations.SerialPorts : Prop := Claims.UartFrames ∧ Claims.UartReceives ∧ Claims.UartTransmits

/-- Event flags, the order of raises, the queues of the routes and the Trouble Log. -/
def Obligations.EventRouting : Prop := Claims.FlagsAndLog ∧ Claims.RaisesInOrder ∧ Claims.RouteQueues

/-- The inputs of the Safety Net, its cuts and their release. -/
def Obligations.SafetyNet : Prop := Claims.SafetyInputs ∧ Claims.CutsAndRelease

/-- Rail faults, AVS and the power-down sequence. -/
def Obligations.PowerSupply : Prop := Claims.RailFaults ∧ Claims.AvsSteps ∧ Claims.PowerDown

/-- System and application images, slots and keys. -/
def Obligations.ImagesAndKeys : Prop := Claims.ImageWrites ∧ Claims.SlotsAndKeys

/-- The application's start and stop, and debug access. -/
def Obligations.ApplicationControl : Prop := Claims.ApplicationStartStop ∧ Claims.DebugAccess

/-- The calls of the application. -/
def Obligations.ApplicationCalls : Prop := Claims.ApiDictionary ∧ Claims.ApiDomains ∧ Claims.ApiCalls ∧ Claims.ApiWaitEnds

/-- Every command completes with its own effect, under conditions on the state and its operands alone. -/
def Obligations.CommandsComplete : Prop :=
  Claims.ModesComplete ∧ Claims.MotionSyncComplete ∧ Claims.TimersComplete ∧ Claims.HeadsComplete ∧
  Claims.MediaComplete ∧ Claims.AxesAndImagesComplete ∧ Claims.SolenoidsComplete ∧ Claims.SenseComplete ∧
  Claims.DictionaryComplete ∧ Claims.UsbComplete ∧ Claims.CompanionComplete ∧ Claims.NetworkComplete ∧
  Claims.SafetyComplete ∧ Claims.ApplicationComplete
end

