-- ==== Sys2Proof/Laws/Word.lean ====
section
/-!
SUPPORT. Word.lean: laws of the tables with natural-number keys and of the fixed arrays: reading after writing, and the
canonical form.
-/

namespace Sys2Proof

/-- A dropped key reads as unlisted. -/
theorem SMap.get_drop_same {α : Type} (d : Nat → α) (m : SMap α) (k : Nat) : SMap.get d (SMap.drop m k) k = d k := by
  induction m with
  | nil => rfl
  | cons x r ih => by_cases h : x.1 = k <;> simp [drop, get, h, ih]

/-- Dropping a key leaves every other key alone. -/
theorem SMap.get_drop_other {α : Type} (d : Nat → α) (m : SMap α) (k j : Nat) (h : j ≠ k) :
    SMap.get d (SMap.drop m k) j = SMap.get d m j := by
  induction m with
  | nil => rfl
  | cons x r ih =>
    by_cases h1 : x.1 = k
    · simp [drop, get, h1, Ne.symm h, ih]
    · by_cases h2 : x.1 = j
      · simp only [drop, if_neg h1, get, if_pos h2]
      · simp only [drop, if_neg h1, get, if_neg h2]; exact ih

/-- A new entry is read where its key was unlisted before. -/
theorem SMap.get_insert_same {α : Type} (d : Nat → α) (m : SMap α) (k : Nat) (v : α) :
    SMap.get d (SMap.insert (SMap.drop m k) k v) k = v := by
  induction m with
  | nil => simp [drop, insert, get]
  | cons x r ih =>
    by_cases h : x.1 = k
    · simpa [drop, h] using ih
    · by_cases h1 : k < x.1 <;> simp [drop, h, insert, h1, get, ih]

/-- A new entry leaves every other key alone. -/
theorem SMap.get_insert_other {α : Type} (d : Nat → α) (m : SMap α) (k j : Nat) (v : α) (h : j ≠ k) :
    SMap.get d (SMap.insert m k v) j = SMap.get d m j := by
  induction m with
  | nil => simp [insert, get, Ne.symm h]
  | cons x r ih => by_cases h1 : k < x.1 <;> simp [insert, h1, get, Ne.symm h, ih]

/-- Reading the key just written. -/
theorem SMap.get_put_same {α : Type} [DecidableEq α] (d : Nat → α) (m : SMap α) (k : Nat) (v : α) :
    SMap.get d (SMap.put d m k v) k = v := by
  unfold put
  split
  · rename_i h; rw [get_drop_same, h]
  · exact get_insert_same d m k v

/-- Writing a key leaves every other key alone. -/
theorem SMap.get_put_other {α : Type} [DecidableEq α] (d : Nat → α) (m : SMap α) (k j : Nat) (v : α) (h : j ≠ k) :
    SMap.get d (SMap.put d m k v) j = SMap.get d m j := by
  unfold put
  split
  · exact get_drop_other d m k j h
  · rw [get_insert_other d _ k j v h, get_drop_other d m k j h]

/-- A lower bound of the keys may be lowered. -/
theorem SMap.wfFrom_mono {α : Type} [DecidableEq α] (d : Nat → α) (m : SMap α) (a b : Nat) (hab : a ≤ b)
    (hw : SMap.wfFrom d b m = true) : SMap.wfFrom d a m = true := by
  cases m with
  | nil => rfl
  | cons x r =>
    simp only [wfFrom, Bool.and_eq_true, decide_eq_true_eq] at hw ⊢
    exact ⟨⟨by omega, hw.1.2⟩, hw.2⟩

/-- Dropping a key keeps the canonical form. -/
theorem SMap.drop_wf {α : Type} [DecidableEq α] (d : Nat → α) (m : SMap α) (k lo : Nat) (h : SMap.wfFrom d lo m = true) :
    SMap.wfFrom d lo (SMap.drop m k) = true := by
  induction m generalizing lo with
  | nil => rfl
  | cons x r ih =>
    simp only [wfFrom, Bool.and_eq_true, decide_eq_true_eq] at h
    by_cases h1 : x.1 = k
    · simp only [drop, if_pos h1]; exact ih lo (wfFrom_mono d r lo (x.1 + 1) (by omega) h.2)
    · simp only [drop, if_neg h1, wfFrom, Bool.and_eq_true, decide_eq_true_eq]; exact ⟨h.1, ih (x.1 + 1) h.2⟩

/-- A new entry away from its default keeps the canonical form. -/
theorem SMap.insert_wf {α : Type} [DecidableEq α] (d : Nat → α) (m : SMap α) (k lo : Nat) (v : α) (hv : v ≠ d k) (hlo : lo ≤ k)
    (h : SMap.wfFrom d lo m = true) : SMap.wfFrom d lo (SMap.insert (SMap.drop m k) k v) = true := by
  induction m generalizing lo with
  | nil => simp [drop, insert, wfFrom, hv, hlo]
  | cons x r ih =>
    simp only [wfFrom, Bool.and_eq_true, decide_eq_true_eq] at h
    by_cases h1 : x.1 = k
    · simp only [drop, if_pos h1]; exact ih lo hlo (wfFrom_mono d r lo (x.1 + 1) (by omega) h.2)
    · by_cases h2 : k < x.1
      · simp only [drop, if_neg h1, insert, if_pos h2, wfFrom, Bool.and_eq_true, decide_eq_true_eq]
        exact ⟨⟨hlo, by simp [hv]⟩, ⟨by omega, h.1.2⟩, drop_wf d r k (x.1 + 1) h.2⟩
      · simp only [drop, if_neg h1, insert, if_neg h2, wfFrom, Bool.and_eq_true, decide_eq_true_eq]
        exact ⟨h.1, ih (x.1 + 1) (by omega) h.2⟩

/-- Writing keeps the canonical form. -/
theorem SMap.put_wf {α : Type} [DecidableEq α] (d : Nat → α) (m : SMap α) (k : Nat) (v : α) (h : SMap.wf d m = true) :
    SMap.wf d (SMap.put d m k v) = true := by
  unfold put
  split
  · exact drop_wf d m k 0 h
  · rename_i hv; exact insert_wf d m k 0 v hv (Nat.zero_le k) h

/-- The element just changed. -/
theorem upd_same {α : Type} {n : Nat} (v : Vector α n) (i : Fin n) (f : α → α) : (upd v i f)[i.val]'i.isLt = f v[i.val] := by
  simp [upd]

/-- The other elements. -/
theorem upd_other {α : Type} {n : Nat} (v : Vector α n) (i j : Fin n) (f : α → α) (h : i ≠ j) :
    (upd v i f)[j.val]'j.isLt = v[j.val] := by
  have hne : i.val ≠ j.val := fun e => h (Fin.ext e)
  simp [upd, hne]

end Sys2Proof
end

