-- ==== Sys2Proof/Laws/Bytes.lean ====
section
/-!
SUPPORT. Bytes.lean: data and the value it spells (R335), and application memory in its canonical form (R498).
-/

namespace Sys2Proof.Machine

open Sys2Proof

/-- The bytes of a number spell it, up to their width. -/
theorem leNat_leBytes (k n : Nat) : leNat (leBytes k n) = n % 256 ^ k := by
  induction k generalizing n with
  | zero => simp [leBytes, leNat, Nat.mod_one]
  | succ k ih =>
    simp only [leBytes, leNat, ih, BitVec.toNat_ofNat]
    rw [show 256 ^ (k + 1) = 256 * 256 ^ k by rw [Nat.pow_succ, Nat.mul_comm], Nat.mod_mul]

theorem leBytes_length (k n : Nat) : (leBytes k n).length = k := by
  induction k generalizing n with
  | zero => rfl
  | succ k ih => simp [leBytes, ih]

theorem toBits_of_lt {b n : Nat} (h : n < 2 ^ b) : toBits b (n : Int) = n := by
  unfold toBits
  have : ((n : Int) % (2 ^ b : Int)) = (n : Int) := Int.emod_eq_of_lt (by omega) (by exact_mod_cast h)
  rw [this]; rfl

/-- A number of an unsigned object's width is the value its data spells. -/
theorem dataValue_numData {k n : Nat} {r : ObjRow} (h : objRow k = some r) (hs : r.ty.signed = false)
    (hn : n < 2 ^ (8 * r.ty.bytes)) : dataValue k (numData k (n : Int)) = n := by
  unfold dataValue numData; simp only [h, ObjType.ofData, ObjType.toData, hs]
  rw [toBits_of_lt hn, leNat_leBytes, Nat.mod_eq_of_lt]
  · rfl
  · rwa [Nat.pow_mul] at hn

/-- The same, from what the object table says of the key. -/
theorem dataValue_unsigned {k n b : Nat} (h : (objRow k).map (fun r => (r.ty.signed, r.ty.bytes)) = some (false, b))
    (hn : n < 2 ^ (8 * b)) : dataValue k (numData k (n : Int)) = n := by
  obtain ⟨r, hr, he⟩ := Option.map_eq_some_iff.mp h
  obtain ⟨h1, h2⟩ := Prod.mk.inj he
  exact dataValue_numData hr h1 (h2 ▸ hn)

/-- Bytes written at an address keep the canonical form of application memory. -/
theorem memWrite_wf {m : SMap Byte} (a : Nat) (bs : List Byte) (h : SMap.wf (fun _ => 0) m) :
    SMap.wf (fun _ => 0) (memWrite m a bs) := by
  induction bs generalizing m a with
  | nil => exact h
  | cons b bs ih => exact ih (a + 1) (SMap.put_wf _ m a b h)

/-- A byte outside those written reads as before. -/
theorem memWrite_other {m : SMap Byte} (a : Nat) (bs : List Byte) (x : Nat) (hm : SMap.wf (fun _ => 0) m)
    (h : x < a ∨ a + bs.length ≤ x) : memRead (memWrite m a bs) x = memRead m x := by
  induction bs generalizing m a with
  | nil => rfl
  | cons b bs ih =>
    simp only [List.length_cons] at h
    have h1 := ih (m := SMap.put (fun _ => 0) m a b) (a + 1) (SMap.put_wf _ m a b hm) (by omega)
    exact h1.trans (SMap.get_put_other _ m a x b (by omega))

end Sys2Proof.Machine
end

