-- ==== Sys2Proof/Laws/State.lean ====
section
/-!
SUPPORT. State.lean: what each update of one part of the state leaves of every field, true by computation: one lemma per
update and field, so that no later proof unfolds a record update. A lemma is named after the update and the field it reads.
-/

namespace Sys2Proof.Machine

open Sys2Proof


/-! `modLane` changes msu.lanes alone. -/

@[simp] theorem modLane_md (s : State) (i : Fin 4) (f : Lane → Lane) : (modLane s i f).md = s.md := rfl
@[simp] theorem modLane_tu (s : State) (i : Fin 4) (f : Lane → Lane) : (modLane s i f).tu = s.tu := rfl
@[simp] theorem modLane_msu_lanes (s : State) (i : Fin 4) (f : Lane → Lane) : (modLane s i f).msu.lanes = upd s.msu.lanes i f := rfl
@[simp] theorem modLane_msu_encs (s : State) (i : Fin 4) (f : Lane → Lane) : (modLane s i f).msu.encs = s.msu.encs := rfl
@[simp] theorem modLane_msu_gens (s : State) (i : Fin 4) (f : Lane → Lane) : (modLane s i f).msu.gens = s.msu.gens := rfl
@[simp] theorem modLane_msu_wm (s : State) (i : Fin 4) (f : Lane → Lane) : (modLane s i f).msu.wm = s.msu.wm := rfl
@[simp] theorem modLane_msu_wmSel (s : State) (i : Fin 4) (f : Lane → Lane) : (modLane s i f).msu.wmSel = s.msu.wmSel := rfl
@[simp] theorem modLane_msu_holds (s : State) (i : Fin 4) (f : Lane → Lane) : (modLane s i f).msu.holds = s.msu.holds := rfl
@[simp] theorem modLane_msu_offs (s : State) (i : Fin 4) (f : Lane → Lane) : (modLane s i f).msu.offs = s.msu.offs := rfl
@[simp] theorem modLane_msu_offSt (s : State) (i : Fin 4) (f : Lane → Lane) : (modLane s i f).msu.offSt = s.msu.offSt := rfl
@[simp] theorem modLane_heads (s : State) (i : Fin 4) (f : Lane → Lane) : (modLane s i f).heads = s.heads := rfl
@[simp] theorem modLane_en (s : State) (i : Fin 4) (f : Lane → Lane) : (modLane s i f).en = s.en := rfl
@[simp] theorem modLane_vl (s : State) (i : Fin 4) (f : Lane → Lane) : (modLane s i f).vl = s.vl := rfl
@[simp] theorem modLane_rb (s : State) (i : Fin 4) (f : Lane → Lane) : (modLane s i f).rb = s.rb := rfl
@[simp] theorem modLane_media (s : State) (i : Fin 4) (f : Lane → Lane) : (modLane s i f).media = s.media := rfl
@[simp] theorem modLane_opts (s : State) (i : Fin 4) (f : Lane → Lane) : (modLane s i f).opts = s.opts := rfl
@[simp] theorem modLane_supply (s : State) (i : Fin 4) (f : Lane → Lane) : (modLane s i f).supply = s.supply := rfl
@[simp] theorem modLane_govs (s : State) (i : Fin 4) (f : Lane → Lane) : (modLane s i f).govs = s.govs := rfl
@[simp] theorem modLane_cut (s : State) (i : Fin 4) (f : Lane → Lane) : (modLane s i f).cut = s.cut := rfl
@[simp] theorem modLane_axes (s : State) (i : Fin 4) (f : Lane → Lane) : (modLane s i f).axes = s.axes := rfl
@[simp] theorem modLane_img (s : State) (i : Fin 4) (f : Lane → Lane) : (modLane s i f).img = s.img := rfl
@[simp] theorem modLane_sols (s : State) (i : Fin 4) (f : Lane → Lane) : (modLane s i f).sols = s.sols := rfl
@[simp] theorem modLane_banks (s : State) (i : Fin 4) (f : Lane → Lane) : (modLane s i f).banks = s.banks := rfl
@[simp] theorem modLane_boost (s : State) (i : Fin 4) (f : Lane → Lane) : (modLane s i f).boost = s.boost := rfl
@[simp] theorem modLane_tg (s : State) (i : Fin 4) (f : Lane → Lane) : (modLane s i f).tg = s.tg := rfl
@[simp] theorem modLane_se (s : State) (i : Fin 4) (f : Lane → Lane) : (modLane s i f).se = s.se := rfl
@[simp] theorem modLane_usb (s : State) (i : Fin 4) (f : Lane → Lane) : (modLane s i f).usb = s.usb := rfl
@[simp] theorem modLane_cb (s : State) (i : Fin 4) (f : Lane → Lane) : (modLane s i f).cb = s.cb := rfl
@[simp] theorem modLane_net (s : State) (i : Fin 4) (f : Lane → Lane) : (modLane s i f).net = s.net := rfl
@[simp] theorem modLane_uarts (s : State) (i : Fin 4) (f : Lane → Lane) : (modLane s i f).uarts = s.uarts := rfl
@[simp] theorem modLane_pw (s : State) (i : Fin 4) (f : Lane → Lane) : (modLane s i f).pw = s.pw := rfl
@[simp] theorem modLane_boot (s : State) (i : Fin 4) (f : Lane → Lane) : (modLane s i f).boot = s.boot := rfl
@[simp] theorem modLane_app (s : State) (i : Fin 4) (f : Lane → Lane) : (modLane s i f).app = s.app := rfl
@[simp] theorem modLane_ctl (s : State) (i : Fin 4) (f : Lane → Lane) : (modLane s i f).ctl = s.ctl := rfl
@[simp] theorem modLane_ledger (s : State) (i : Fin 4) (f : Lane → Lane) : (modLane s i f).ledger = s.ledger := rfl
@[simp] theorem modLane_pdo (s : State) (i : Fin 4) (f : Lane → Lane) : (modLane s i f).pdo = s.pdo := rfl
@[simp] theorem modLane_rm (s : State) (i : Fin 4) (f : Lane → Lane) : (modLane s i f).rm = s.rm := rfl
@[simp] theorem modLane_tl (s : State) (i : Fin 4) (f : Lane → Lane) : (modLane s i f).tl = s.tl := rfl
@[simp] theorem modLane_sn (s : State) (i : Fin 4) (f : Lane → Lane) : (modLane s i f).sn = s.sn := rfl
@[simp] theorem modLane_turns (s : State) (i : Fin 4) (f : Lane → Lane) : (modLane s i f).turns = s.turns := rfl
@[simp] theorem modLane_free (s : State) (i : Fin 4) (f : Lane → Lane) : (modLane s i f).free = s.free := rfl
@[simp] theorem modLane_pending (s : State) (i : Fin 4) (f : Lane → Lane) : (modLane s i f).pending = s.pending := rfl

/-! `modEnc` changes msu.encs alone. -/

@[simp] theorem modEnc_md (s : State) (i : Fin 4) (f : Enc → Enc) : (modEnc s i f).md = s.md := rfl
@[simp] theorem modEnc_tu (s : State) (i : Fin 4) (f : Enc → Enc) : (modEnc s i f).tu = s.tu := rfl
@[simp] theorem modEnc_msu_lanes (s : State) (i : Fin 4) (f : Enc → Enc) : (modEnc s i f).msu.lanes = s.msu.lanes := rfl
@[simp] theorem modEnc_msu_encs (s : State) (i : Fin 4) (f : Enc → Enc) : (modEnc s i f).msu.encs = upd s.msu.encs i f := rfl
@[simp] theorem modEnc_msu_gens (s : State) (i : Fin 4) (f : Enc → Enc) : (modEnc s i f).msu.gens = s.msu.gens := rfl
@[simp] theorem modEnc_msu_wm (s : State) (i : Fin 4) (f : Enc → Enc) : (modEnc s i f).msu.wm = s.msu.wm := rfl
@[simp] theorem modEnc_msu_wmSel (s : State) (i : Fin 4) (f : Enc → Enc) : (modEnc s i f).msu.wmSel = s.msu.wmSel := rfl
@[simp] theorem modEnc_msu_holds (s : State) (i : Fin 4) (f : Enc → Enc) : (modEnc s i f).msu.holds = s.msu.holds := rfl
@[simp] theorem modEnc_msu_offs (s : State) (i : Fin 4) (f : Enc → Enc) : (modEnc s i f).msu.offs = s.msu.offs := rfl
@[simp] theorem modEnc_msu_offSt (s : State) (i : Fin 4) (f : Enc → Enc) : (modEnc s i f).msu.offSt = s.msu.offSt := rfl
@[simp] theorem modEnc_heads (s : State) (i : Fin 4) (f : Enc → Enc) : (modEnc s i f).heads = s.heads := rfl
@[simp] theorem modEnc_en (s : State) (i : Fin 4) (f : Enc → Enc) : (modEnc s i f).en = s.en := rfl
@[simp] theorem modEnc_vl (s : State) (i : Fin 4) (f : Enc → Enc) : (modEnc s i f).vl = s.vl := rfl
@[simp] theorem modEnc_rb (s : State) (i : Fin 4) (f : Enc → Enc) : (modEnc s i f).rb = s.rb := rfl
@[simp] theorem modEnc_media (s : State) (i : Fin 4) (f : Enc → Enc) : (modEnc s i f).media = s.media := rfl
@[simp] theorem modEnc_opts (s : State) (i : Fin 4) (f : Enc → Enc) : (modEnc s i f).opts = s.opts := rfl
@[simp] theorem modEnc_supply (s : State) (i : Fin 4) (f : Enc → Enc) : (modEnc s i f).supply = s.supply := rfl
@[simp] theorem modEnc_govs (s : State) (i : Fin 4) (f : Enc → Enc) : (modEnc s i f).govs = s.govs := rfl
@[simp] theorem modEnc_cut (s : State) (i : Fin 4) (f : Enc → Enc) : (modEnc s i f).cut = s.cut := rfl
@[simp] theorem modEnc_axes (s : State) (i : Fin 4) (f : Enc → Enc) : (modEnc s i f).axes = s.axes := rfl
@[simp] theorem modEnc_img (s : State) (i : Fin 4) (f : Enc → Enc) : (modEnc s i f).img = s.img := rfl
@[simp] theorem modEnc_sols (s : State) (i : Fin 4) (f : Enc → Enc) : (modEnc s i f).sols = s.sols := rfl
@[simp] theorem modEnc_banks (s : State) (i : Fin 4) (f : Enc → Enc) : (modEnc s i f).banks = s.banks := rfl
@[simp] theorem modEnc_boost (s : State) (i : Fin 4) (f : Enc → Enc) : (modEnc s i f).boost = s.boost := rfl
@[simp] theorem modEnc_tg (s : State) (i : Fin 4) (f : Enc → Enc) : (modEnc s i f).tg = s.tg := rfl
@[simp] theorem modEnc_se (s : State) (i : Fin 4) (f : Enc → Enc) : (modEnc s i f).se = s.se := rfl
@[simp] theorem modEnc_usb (s : State) (i : Fin 4) (f : Enc → Enc) : (modEnc s i f).usb = s.usb := rfl
@[simp] theorem modEnc_cb (s : State) (i : Fin 4) (f : Enc → Enc) : (modEnc s i f).cb = s.cb := rfl
@[simp] theorem modEnc_net (s : State) (i : Fin 4) (f : Enc → Enc) : (modEnc s i f).net = s.net := rfl
@[simp] theorem modEnc_uarts (s : State) (i : Fin 4) (f : Enc → Enc) : (modEnc s i f).uarts = s.uarts := rfl
@[simp] theorem modEnc_pw (s : State) (i : Fin 4) (f : Enc → Enc) : (modEnc s i f).pw = s.pw := rfl
@[simp] theorem modEnc_boot (s : State) (i : Fin 4) (f : Enc → Enc) : (modEnc s i f).boot = s.boot := rfl
@[simp] theorem modEnc_app (s : State) (i : Fin 4) (f : Enc → Enc) : (modEnc s i f).app = s.app := rfl
@[simp] theorem modEnc_ctl (s : State) (i : Fin 4) (f : Enc → Enc) : (modEnc s i f).ctl = s.ctl := rfl
@[simp] theorem modEnc_ledger (s : State) (i : Fin 4) (f : Enc → Enc) : (modEnc s i f).ledger = s.ledger := rfl
@[simp] theorem modEnc_pdo (s : State) (i : Fin 4) (f : Enc → Enc) : (modEnc s i f).pdo = s.pdo := rfl
@[simp] theorem modEnc_rm (s : State) (i : Fin 4) (f : Enc → Enc) : (modEnc s i f).rm = s.rm := rfl
@[simp] theorem modEnc_tl (s : State) (i : Fin 4) (f : Enc → Enc) : (modEnc s i f).tl = s.tl := rfl
@[simp] theorem modEnc_sn (s : State) (i : Fin 4) (f : Enc → Enc) : (modEnc s i f).sn = s.sn := rfl
@[simp] theorem modEnc_turns (s : State) (i : Fin 4) (f : Enc → Enc) : (modEnc s i f).turns = s.turns := rfl
@[simp] theorem modEnc_free (s : State) (i : Fin 4) (f : Enc → Enc) : (modEnc s i f).free = s.free := rfl
@[simp] theorem modEnc_pending (s : State) (i : Fin 4) (f : Enc → Enc) : (modEnc s i f).pending = s.pending := rfl

/-! `modGen` changes msu.gens alone. -/

@[simp] theorem modGen_md (s : State) (i : Fin 16) (f : Gen → Gen) : (modGen s i f).md = s.md := rfl
@[simp] theorem modGen_tu (s : State) (i : Fin 16) (f : Gen → Gen) : (modGen s i f).tu = s.tu := rfl
@[simp] theorem modGen_msu_lanes (s : State) (i : Fin 16) (f : Gen → Gen) : (modGen s i f).msu.lanes = s.msu.lanes := rfl
@[simp] theorem modGen_msu_encs (s : State) (i : Fin 16) (f : Gen → Gen) : (modGen s i f).msu.encs = s.msu.encs := rfl
@[simp] theorem modGen_msu_gens (s : State) (i : Fin 16) (f : Gen → Gen) : (modGen s i f).msu.gens = upd s.msu.gens i f := rfl
@[simp] theorem modGen_msu_wm (s : State) (i : Fin 16) (f : Gen → Gen) : (modGen s i f).msu.wm = s.msu.wm := rfl
@[simp] theorem modGen_msu_wmSel (s : State) (i : Fin 16) (f : Gen → Gen) : (modGen s i f).msu.wmSel = s.msu.wmSel := rfl
@[simp] theorem modGen_msu_holds (s : State) (i : Fin 16) (f : Gen → Gen) : (modGen s i f).msu.holds = s.msu.holds := rfl
@[simp] theorem modGen_msu_offs (s : State) (i : Fin 16) (f : Gen → Gen) : (modGen s i f).msu.offs = s.msu.offs := rfl
@[simp] theorem modGen_msu_offSt (s : State) (i : Fin 16) (f : Gen → Gen) : (modGen s i f).msu.offSt = s.msu.offSt := rfl
@[simp] theorem modGen_heads (s : State) (i : Fin 16) (f : Gen → Gen) : (modGen s i f).heads = s.heads := rfl
@[simp] theorem modGen_en (s : State) (i : Fin 16) (f : Gen → Gen) : (modGen s i f).en = s.en := rfl
@[simp] theorem modGen_vl (s : State) (i : Fin 16) (f : Gen → Gen) : (modGen s i f).vl = s.vl := rfl
@[simp] theorem modGen_rb (s : State) (i : Fin 16) (f : Gen → Gen) : (modGen s i f).rb = s.rb := rfl
@[simp] theorem modGen_media (s : State) (i : Fin 16) (f : Gen → Gen) : (modGen s i f).media = s.media := rfl
@[simp] theorem modGen_opts (s : State) (i : Fin 16) (f : Gen → Gen) : (modGen s i f).opts = s.opts := rfl
@[simp] theorem modGen_supply (s : State) (i : Fin 16) (f : Gen → Gen) : (modGen s i f).supply = s.supply := rfl
@[simp] theorem modGen_govs (s : State) (i : Fin 16) (f : Gen → Gen) : (modGen s i f).govs = s.govs := rfl
@[simp] theorem modGen_cut (s : State) (i : Fin 16) (f : Gen → Gen) : (modGen s i f).cut = s.cut := rfl
@[simp] theorem modGen_axes (s : State) (i : Fin 16) (f : Gen → Gen) : (modGen s i f).axes = s.axes := rfl
@[simp] theorem modGen_img (s : State) (i : Fin 16) (f : Gen → Gen) : (modGen s i f).img = s.img := rfl
@[simp] theorem modGen_sols (s : State) (i : Fin 16) (f : Gen → Gen) : (modGen s i f).sols = s.sols := rfl
@[simp] theorem modGen_banks (s : State) (i : Fin 16) (f : Gen → Gen) : (modGen s i f).banks = s.banks := rfl
@[simp] theorem modGen_boost (s : State) (i : Fin 16) (f : Gen → Gen) : (modGen s i f).boost = s.boost := rfl
@[simp] theorem modGen_tg (s : State) (i : Fin 16) (f : Gen → Gen) : (modGen s i f).tg = s.tg := rfl
@[simp] theorem modGen_se (s : State) (i : Fin 16) (f : Gen → Gen) : (modGen s i f).se = s.se := rfl
@[simp] theorem modGen_usb (s : State) (i : Fin 16) (f : Gen → Gen) : (modGen s i f).usb = s.usb := rfl
@[simp] theorem modGen_cb (s : State) (i : Fin 16) (f : Gen → Gen) : (modGen s i f).cb = s.cb := rfl
@[simp] theorem modGen_net (s : State) (i : Fin 16) (f : Gen → Gen) : (modGen s i f).net = s.net := rfl
@[simp] theorem modGen_uarts (s : State) (i : Fin 16) (f : Gen → Gen) : (modGen s i f).uarts = s.uarts := rfl
@[simp] theorem modGen_pw (s : State) (i : Fin 16) (f : Gen → Gen) : (modGen s i f).pw = s.pw := rfl
@[simp] theorem modGen_boot (s : State) (i : Fin 16) (f : Gen → Gen) : (modGen s i f).boot = s.boot := rfl
@[simp] theorem modGen_app (s : State) (i : Fin 16) (f : Gen → Gen) : (modGen s i f).app = s.app := rfl
@[simp] theorem modGen_ctl (s : State) (i : Fin 16) (f : Gen → Gen) : (modGen s i f).ctl = s.ctl := rfl
@[simp] theorem modGen_ledger (s : State) (i : Fin 16) (f : Gen → Gen) : (modGen s i f).ledger = s.ledger := rfl
@[simp] theorem modGen_pdo (s : State) (i : Fin 16) (f : Gen → Gen) : (modGen s i f).pdo = s.pdo := rfl
@[simp] theorem modGen_rm (s : State) (i : Fin 16) (f : Gen → Gen) : (modGen s i f).rm = s.rm := rfl
@[simp] theorem modGen_tl (s : State) (i : Fin 16) (f : Gen → Gen) : (modGen s i f).tl = s.tl := rfl
@[simp] theorem modGen_sn (s : State) (i : Fin 16) (f : Gen → Gen) : (modGen s i f).sn = s.sn := rfl
@[simp] theorem modGen_turns (s : State) (i : Fin 16) (f : Gen → Gen) : (modGen s i f).turns = s.turns := rfl
@[simp] theorem modGen_free (s : State) (i : Fin 16) (f : Gen → Gen) : (modGen s i f).free = s.free := rfl
@[simp] theorem modGen_pending (s : State) (i : Fin 16) (f : Gen → Gen) : (modGen s i f).pending = s.pending := rfl

/-! `setWm` changes msu.wm alone. -/

@[simp] theorem setWm_md (s : State) (e : Nat) (w : Waymark) : (setWm s e w).md = s.md := rfl
@[simp] theorem setWm_tu (s : State) (e : Nat) (w : Waymark) : (setWm s e w).tu = s.tu := rfl
@[simp] theorem setWm_msu_lanes (s : State) (e : Nat) (w : Waymark) : (setWm s e w).msu.lanes = s.msu.lanes := rfl
@[simp] theorem setWm_msu_encs (s : State) (e : Nat) (w : Waymark) : (setWm s e w).msu.encs = s.msu.encs := rfl
@[simp] theorem setWm_msu_gens (s : State) (e : Nat) (w : Waymark) : (setWm s e w).msu.gens = s.msu.gens := rfl
@[simp] theorem setWm_msu_wm (s : State) (e : Nat) (w : Waymark) : (setWm s e w).msu.wm = SMap.put (fun _ => Waymark.reset) s.msu.wm e w := rfl
@[simp] theorem setWm_msu_wmSel (s : State) (e : Nat) (w : Waymark) : (setWm s e w).msu.wmSel = s.msu.wmSel := rfl
@[simp] theorem setWm_msu_holds (s : State) (e : Nat) (w : Waymark) : (setWm s e w).msu.holds = s.msu.holds := rfl
@[simp] theorem setWm_msu_offs (s : State) (e : Nat) (w : Waymark) : (setWm s e w).msu.offs = s.msu.offs := rfl
@[simp] theorem setWm_msu_offSt (s : State) (e : Nat) (w : Waymark) : (setWm s e w).msu.offSt = s.msu.offSt := rfl
@[simp] theorem setWm_heads (s : State) (e : Nat) (w : Waymark) : (setWm s e w).heads = s.heads := rfl
@[simp] theorem setWm_en (s : State) (e : Nat) (w : Waymark) : (setWm s e w).en = s.en := rfl
@[simp] theorem setWm_vl (s : State) (e : Nat) (w : Waymark) : (setWm s e w).vl = s.vl := rfl
@[simp] theorem setWm_rb (s : State) (e : Nat) (w : Waymark) : (setWm s e w).rb = s.rb := rfl
@[simp] theorem setWm_media (s : State) (e : Nat) (w : Waymark) : (setWm s e w).media = s.media := rfl
@[simp] theorem setWm_opts (s : State) (e : Nat) (w : Waymark) : (setWm s e w).opts = s.opts := rfl
@[simp] theorem setWm_supply (s : State) (e : Nat) (w : Waymark) : (setWm s e w).supply = s.supply := rfl
@[simp] theorem setWm_govs (s : State) (e : Nat) (w : Waymark) : (setWm s e w).govs = s.govs := rfl
@[simp] theorem setWm_cut (s : State) (e : Nat) (w : Waymark) : (setWm s e w).cut = s.cut := rfl
@[simp] theorem setWm_axes (s : State) (e : Nat) (w : Waymark) : (setWm s e w).axes = s.axes := rfl
@[simp] theorem setWm_img (s : State) (e : Nat) (w : Waymark) : (setWm s e w).img = s.img := rfl
@[simp] theorem setWm_sols (s : State) (e : Nat) (w : Waymark) : (setWm s e w).sols = s.sols := rfl
@[simp] theorem setWm_banks (s : State) (e : Nat) (w : Waymark) : (setWm s e w).banks = s.banks := rfl
@[simp] theorem setWm_boost (s : State) (e : Nat) (w : Waymark) : (setWm s e w).boost = s.boost := rfl
@[simp] theorem setWm_tg (s : State) (e : Nat) (w : Waymark) : (setWm s e w).tg = s.tg := rfl
@[simp] theorem setWm_se (s : State) (e : Nat) (w : Waymark) : (setWm s e w).se = s.se := rfl
@[simp] theorem setWm_usb (s : State) (e : Nat) (w : Waymark) : (setWm s e w).usb = s.usb := rfl
@[simp] theorem setWm_cb (s : State) (e : Nat) (w : Waymark) : (setWm s e w).cb = s.cb := rfl
@[simp] theorem setWm_net (s : State) (e : Nat) (w : Waymark) : (setWm s e w).net = s.net := rfl
@[simp] theorem setWm_uarts (s : State) (e : Nat) (w : Waymark) : (setWm s e w).uarts = s.uarts := rfl
@[simp] theorem setWm_pw (s : State) (e : Nat) (w : Waymark) : (setWm s e w).pw = s.pw := rfl
@[simp] theorem setWm_boot (s : State) (e : Nat) (w : Waymark) : (setWm s e w).boot = s.boot := rfl
@[simp] theorem setWm_app (s : State) (e : Nat) (w : Waymark) : (setWm s e w).app = s.app := rfl
@[simp] theorem setWm_ctl (s : State) (e : Nat) (w : Waymark) : (setWm s e w).ctl = s.ctl := rfl
@[simp] theorem setWm_ledger (s : State) (e : Nat) (w : Waymark) : (setWm s e w).ledger = s.ledger := rfl
@[simp] theorem setWm_pdo (s : State) (e : Nat) (w : Waymark) : (setWm s e w).pdo = s.pdo := rfl
@[simp] theorem setWm_rm (s : State) (e : Nat) (w : Waymark) : (setWm s e w).rm = s.rm := rfl
@[simp] theorem setWm_tl (s : State) (e : Nat) (w : Waymark) : (setWm s e w).tl = s.tl := rfl
@[simp] theorem setWm_sn (s : State) (e : Nat) (w : Waymark) : (setWm s e w).sn = s.sn := rfl
@[simp] theorem setWm_turns (s : State) (e : Nat) (w : Waymark) : (setWm s e w).turns = s.turns := rfl
@[simp] theorem setWm_free (s : State) (e : Nat) (w : Waymark) : (setWm s e w).free = s.free := rfl
@[simp] theorem setWm_pending (s : State) (e : Nat) (w : Waymark) : (setWm s e w).pending = s.pending := rfl

/-! `modTc` changes tu.tcs alone. -/

@[simp] theorem modTc_md (s : State) (i : Fin 32) (f : Tc → Tc) : (modTc s i f).md = s.md := rfl
@[simp] theorem modTc_tu_st (s : State) (i : Fin 32) (f : Tc → Tc) : (modTc s i f).tu.st = s.tu.st := rfl
@[simp] theorem modTc_tu_keeperFrac (s : State) (i : Fin 32) (f : Tc → Tc) : (modTc s i f).tu.keeperFrac = s.tu.keeperFrac := rfl
@[simp] theorem modTc_tu_keeperAhead (s : State) (i : Fin 32) (f : Tc → Tc) : (modTc s i f).tu.keeperAhead = s.tu.keeperAhead := rfl
@[simp] theorem modTc_tu_dozeTicks (s : State) (i : Fin 32) (f : Tc → Tc) : (modTc s i f).tu.dozeTicks = s.tu.dozeTicks := rfl
@[simp] theorem modTc_tu_resync (s : State) (i : Fin 32) (f : Tc → Tc) : (modTc s i f).tu.resync = s.tu.resync := rfl
@[simp] theorem modTc_tu_tcs (s : State) (i : Fin 32) (f : Tc → Tc) : (modTc s i f).tu.tcs = upd s.tu.tcs i f := rfl
@[simp] theorem modTc_tu_caps (s : State) (i : Fin 32) (f : Tc → Tc) : (modTc s i f).tu.caps = s.tu.caps := rfl
@[simp] theorem modTc_tu_gioIn (s : State) (i : Fin 32) (f : Tc → Tc) : (modTc s i f).tu.gioIn = s.tu.gioIn := rfl
@[simp] theorem modTc_tu_halted (s : State) (i : Fin 32) (f : Tc → Tc) : (modTc s i f).tu.halted = s.tu.halted := rfl
@[simp] theorem modTc_tu_gio1 (s : State) (i : Fin 32) (f : Tc → Tc) : (modTc s i f).tu.gio1 = s.tu.gio1 := rfl
@[simp] theorem modTc_tu_gio2 (s : State) (i : Fin 32) (f : Tc → Tc) : (modTc s i f).tu.gio2 = s.tu.gio2 := rfl
@[simp] theorem modTc_tu_gioDrv (s : State) (i : Fin 32) (f : Tc → Tc) : (modTc s i f).tu.gioDrv = s.tu.gioDrv := rfl
@[simp] theorem modTc_msu (s : State) (i : Fin 32) (f : Tc → Tc) : (modTc s i f).msu = s.msu := rfl
@[simp] theorem modTc_heads (s : State) (i : Fin 32) (f : Tc → Tc) : (modTc s i f).heads = s.heads := rfl
@[simp] theorem modTc_en (s : State) (i : Fin 32) (f : Tc → Tc) : (modTc s i f).en = s.en := rfl
@[simp] theorem modTc_vl (s : State) (i : Fin 32) (f : Tc → Tc) : (modTc s i f).vl = s.vl := rfl
@[simp] theorem modTc_rb (s : State) (i : Fin 32) (f : Tc → Tc) : (modTc s i f).rb = s.rb := rfl
@[simp] theorem modTc_media (s : State) (i : Fin 32) (f : Tc → Tc) : (modTc s i f).media = s.media := rfl
@[simp] theorem modTc_opts (s : State) (i : Fin 32) (f : Tc → Tc) : (modTc s i f).opts = s.opts := rfl
@[simp] theorem modTc_supply (s : State) (i : Fin 32) (f : Tc → Tc) : (modTc s i f).supply = s.supply := rfl
@[simp] theorem modTc_govs (s : State) (i : Fin 32) (f : Tc → Tc) : (modTc s i f).govs = s.govs := rfl
@[simp] theorem modTc_cut (s : State) (i : Fin 32) (f : Tc → Tc) : (modTc s i f).cut = s.cut := rfl
@[simp] theorem modTc_axes (s : State) (i : Fin 32) (f : Tc → Tc) : (modTc s i f).axes = s.axes := rfl
@[simp] theorem modTc_img (s : State) (i : Fin 32) (f : Tc → Tc) : (modTc s i f).img = s.img := rfl
@[simp] theorem modTc_sols (s : State) (i : Fin 32) (f : Tc → Tc) : (modTc s i f).sols = s.sols := rfl
@[simp] theorem modTc_banks (s : State) (i : Fin 32) (f : Tc → Tc) : (modTc s i f).banks = s.banks := rfl
@[simp] theorem modTc_boost (s : State) (i : Fin 32) (f : Tc → Tc) : (modTc s i f).boost = s.boost := rfl
@[simp] theorem modTc_tg (s : State) (i : Fin 32) (f : Tc → Tc) : (modTc s i f).tg = s.tg := rfl
@[simp] theorem modTc_se (s : State) (i : Fin 32) (f : Tc → Tc) : (modTc s i f).se = s.se := rfl
@[simp] theorem modTc_usb (s : State) (i : Fin 32) (f : Tc → Tc) : (modTc s i f).usb = s.usb := rfl
@[simp] theorem modTc_cb (s : State) (i : Fin 32) (f : Tc → Tc) : (modTc s i f).cb = s.cb := rfl
@[simp] theorem modTc_net (s : State) (i : Fin 32) (f : Tc → Tc) : (modTc s i f).net = s.net := rfl
@[simp] theorem modTc_uarts (s : State) (i : Fin 32) (f : Tc → Tc) : (modTc s i f).uarts = s.uarts := rfl
@[simp] theorem modTc_pw (s : State) (i : Fin 32) (f : Tc → Tc) : (modTc s i f).pw = s.pw := rfl
@[simp] theorem modTc_boot (s : State) (i : Fin 32) (f : Tc → Tc) : (modTc s i f).boot = s.boot := rfl
@[simp] theorem modTc_app (s : State) (i : Fin 32) (f : Tc → Tc) : (modTc s i f).app = s.app := rfl
@[simp] theorem modTc_ctl (s : State) (i : Fin 32) (f : Tc → Tc) : (modTc s i f).ctl = s.ctl := rfl
@[simp] theorem modTc_ledger (s : State) (i : Fin 32) (f : Tc → Tc) : (modTc s i f).ledger = s.ledger := rfl
@[simp] theorem modTc_pdo (s : State) (i : Fin 32) (f : Tc → Tc) : (modTc s i f).pdo = s.pdo := rfl
@[simp] theorem modTc_rm (s : State) (i : Fin 32) (f : Tc → Tc) : (modTc s i f).rm = s.rm := rfl
@[simp] theorem modTc_tl (s : State) (i : Fin 32) (f : Tc → Tc) : (modTc s i f).tl = s.tl := rfl
@[simp] theorem modTc_sn (s : State) (i : Fin 32) (f : Tc → Tc) : (modTc s i f).sn = s.sn := rfl
@[simp] theorem modTc_turns (s : State) (i : Fin 32) (f : Tc → Tc) : (modTc s i f).turns = s.turns := rfl
@[simp] theorem modTc_free (s : State) (i : Fin 32) (f : Tc → Tc) : (modTc s i f).free = s.free := rfl
@[simp] theorem modTc_pending (s : State) (i : Fin 32) (f : Tc → Tc) : (modTc s i f).pending = s.pending := rfl

/-! `modCap` changes tu.caps alone. -/

@[simp] theorem modCap_md (s : State) (i : Fin 8) (f : Cap → Cap) : (modCap s i f).md = s.md := rfl
@[simp] theorem modCap_tu_st (s : State) (i : Fin 8) (f : Cap → Cap) : (modCap s i f).tu.st = s.tu.st := rfl
@[simp] theorem modCap_tu_keeperFrac (s : State) (i : Fin 8) (f : Cap → Cap) : (modCap s i f).tu.keeperFrac = s.tu.keeperFrac := rfl
@[simp] theorem modCap_tu_keeperAhead (s : State) (i : Fin 8) (f : Cap → Cap) : (modCap s i f).tu.keeperAhead = s.tu.keeperAhead := rfl
@[simp] theorem modCap_tu_dozeTicks (s : State) (i : Fin 8) (f : Cap → Cap) : (modCap s i f).tu.dozeTicks = s.tu.dozeTicks := rfl
@[simp] theorem modCap_tu_resync (s : State) (i : Fin 8) (f : Cap → Cap) : (modCap s i f).tu.resync = s.tu.resync := rfl
@[simp] theorem modCap_tu_tcs (s : State) (i : Fin 8) (f : Cap → Cap) : (modCap s i f).tu.tcs = s.tu.tcs := rfl
@[simp] theorem modCap_tu_caps (s : State) (i : Fin 8) (f : Cap → Cap) : (modCap s i f).tu.caps = upd s.tu.caps i f := rfl
@[simp] theorem modCap_tu_gioIn (s : State) (i : Fin 8) (f : Cap → Cap) : (modCap s i f).tu.gioIn = s.tu.gioIn := rfl
@[simp] theorem modCap_tu_halted (s : State) (i : Fin 8) (f : Cap → Cap) : (modCap s i f).tu.halted = s.tu.halted := rfl
@[simp] theorem modCap_tu_gio1 (s : State) (i : Fin 8) (f : Cap → Cap) : (modCap s i f).tu.gio1 = s.tu.gio1 := rfl
@[simp] theorem modCap_tu_gio2 (s : State) (i : Fin 8) (f : Cap → Cap) : (modCap s i f).tu.gio2 = s.tu.gio2 := rfl
@[simp] theorem modCap_tu_gioDrv (s : State) (i : Fin 8) (f : Cap → Cap) : (modCap s i f).tu.gioDrv = s.tu.gioDrv := rfl
@[simp] theorem modCap_msu (s : State) (i : Fin 8) (f : Cap → Cap) : (modCap s i f).msu = s.msu := rfl
@[simp] theorem modCap_heads (s : State) (i : Fin 8) (f : Cap → Cap) : (modCap s i f).heads = s.heads := rfl
@[simp] theorem modCap_en (s : State) (i : Fin 8) (f : Cap → Cap) : (modCap s i f).en = s.en := rfl
@[simp] theorem modCap_vl (s : State) (i : Fin 8) (f : Cap → Cap) : (modCap s i f).vl = s.vl := rfl
@[simp] theorem modCap_rb (s : State) (i : Fin 8) (f : Cap → Cap) : (modCap s i f).rb = s.rb := rfl
@[simp] theorem modCap_media (s : State) (i : Fin 8) (f : Cap → Cap) : (modCap s i f).media = s.media := rfl
@[simp] theorem modCap_opts (s : State) (i : Fin 8) (f : Cap → Cap) : (modCap s i f).opts = s.opts := rfl
@[simp] theorem modCap_supply (s : State) (i : Fin 8) (f : Cap → Cap) : (modCap s i f).supply = s.supply := rfl
@[simp] theorem modCap_govs (s : State) (i : Fin 8) (f : Cap → Cap) : (modCap s i f).govs = s.govs := rfl
@[simp] theorem modCap_cut (s : State) (i : Fin 8) (f : Cap → Cap) : (modCap s i f).cut = s.cut := rfl
@[simp] theorem modCap_axes (s : State) (i : Fin 8) (f : Cap → Cap) : (modCap s i f).axes = s.axes := rfl
@[simp] theorem modCap_img (s : State) (i : Fin 8) (f : Cap → Cap) : (modCap s i f).img = s.img := rfl
@[simp] theorem modCap_sols (s : State) (i : Fin 8) (f : Cap → Cap) : (modCap s i f).sols = s.sols := rfl
@[simp] theorem modCap_banks (s : State) (i : Fin 8) (f : Cap → Cap) : (modCap s i f).banks = s.banks := rfl
@[simp] theorem modCap_boost (s : State) (i : Fin 8) (f : Cap → Cap) : (modCap s i f).boost = s.boost := rfl
@[simp] theorem modCap_tg (s : State) (i : Fin 8) (f : Cap → Cap) : (modCap s i f).tg = s.tg := rfl
@[simp] theorem modCap_se (s : State) (i : Fin 8) (f : Cap → Cap) : (modCap s i f).se = s.se := rfl
@[simp] theorem modCap_usb (s : State) (i : Fin 8) (f : Cap → Cap) : (modCap s i f).usb = s.usb := rfl
@[simp] theorem modCap_cb (s : State) (i : Fin 8) (f : Cap → Cap) : (modCap s i f).cb = s.cb := rfl
@[simp] theorem modCap_net (s : State) (i : Fin 8) (f : Cap → Cap) : (modCap s i f).net = s.net := rfl
@[simp] theorem modCap_uarts (s : State) (i : Fin 8) (f : Cap → Cap) : (modCap s i f).uarts = s.uarts := rfl
@[simp] theorem modCap_pw (s : State) (i : Fin 8) (f : Cap → Cap) : (modCap s i f).pw = s.pw := rfl
@[simp] theorem modCap_boot (s : State) (i : Fin 8) (f : Cap → Cap) : (modCap s i f).boot = s.boot := rfl
@[simp] theorem modCap_app (s : State) (i : Fin 8) (f : Cap → Cap) : (modCap s i f).app = s.app := rfl
@[simp] theorem modCap_ctl (s : State) (i : Fin 8) (f : Cap → Cap) : (modCap s i f).ctl = s.ctl := rfl
@[simp] theorem modCap_ledger (s : State) (i : Fin 8) (f : Cap → Cap) : (modCap s i f).ledger = s.ledger := rfl
@[simp] theorem modCap_pdo (s : State) (i : Fin 8) (f : Cap → Cap) : (modCap s i f).pdo = s.pdo := rfl
@[simp] theorem modCap_rm (s : State) (i : Fin 8) (f : Cap → Cap) : (modCap s i f).rm = s.rm := rfl
@[simp] theorem modCap_tl (s : State) (i : Fin 8) (f : Cap → Cap) : (modCap s i f).tl = s.tl := rfl
@[simp] theorem modCap_sn (s : State) (i : Fin 8) (f : Cap → Cap) : (modCap s i f).sn = s.sn := rfl
@[simp] theorem modCap_turns (s : State) (i : Fin 8) (f : Cap → Cap) : (modCap s i f).turns = s.turns := rfl
@[simp] theorem modCap_free (s : State) (i : Fin 8) (f : Cap → Cap) : (modCap s i f).free = s.free := rfl
@[simp] theorem modCap_pending (s : State) (i : Fin 8) (f : Cap → Cap) : (modCap s i f).pending = s.pending := rfl

/-! `modHead` changes heads alone. -/

@[simp] theorem modHead_md (s : State) (i : Fin 2) (f : HeadSt → HeadSt) : (modHead s i f).md = s.md := rfl
@[simp] theorem modHead_tu (s : State) (i : Fin 2) (f : HeadSt → HeadSt) : (modHead s i f).tu = s.tu := rfl
@[simp] theorem modHead_msu (s : State) (i : Fin 2) (f : HeadSt → HeadSt) : (modHead s i f).msu = s.msu := rfl
@[simp] theorem modHead_heads (s : State) (i : Fin 2) (f : HeadSt → HeadSt) : (modHead s i f).heads = upd s.heads i f := rfl
@[simp] theorem modHead_en (s : State) (i : Fin 2) (f : HeadSt → HeadSt) : (modHead s i f).en = s.en := rfl
@[simp] theorem modHead_vl (s : State) (i : Fin 2) (f : HeadSt → HeadSt) : (modHead s i f).vl = s.vl := rfl
@[simp] theorem modHead_rb (s : State) (i : Fin 2) (f : HeadSt → HeadSt) : (modHead s i f).rb = s.rb := rfl
@[simp] theorem modHead_media (s : State) (i : Fin 2) (f : HeadSt → HeadSt) : (modHead s i f).media = s.media := rfl
@[simp] theorem modHead_opts (s : State) (i : Fin 2) (f : HeadSt → HeadSt) : (modHead s i f).opts = s.opts := rfl
@[simp] theorem modHead_supply (s : State) (i : Fin 2) (f : HeadSt → HeadSt) : (modHead s i f).supply = s.supply := rfl
@[simp] theorem modHead_govs (s : State) (i : Fin 2) (f : HeadSt → HeadSt) : (modHead s i f).govs = s.govs := rfl
@[simp] theorem modHead_cut (s : State) (i : Fin 2) (f : HeadSt → HeadSt) : (modHead s i f).cut = s.cut := rfl
@[simp] theorem modHead_axes (s : State) (i : Fin 2) (f : HeadSt → HeadSt) : (modHead s i f).axes = s.axes := rfl
@[simp] theorem modHead_img (s : State) (i : Fin 2) (f : HeadSt → HeadSt) : (modHead s i f).img = s.img := rfl
@[simp] theorem modHead_sols (s : State) (i : Fin 2) (f : HeadSt → HeadSt) : (modHead s i f).sols = s.sols := rfl
@[simp] theorem modHead_banks (s : State) (i : Fin 2) (f : HeadSt → HeadSt) : (modHead s i f).banks = s.banks := rfl
@[simp] theorem modHead_boost (s : State) (i : Fin 2) (f : HeadSt → HeadSt) : (modHead s i f).boost = s.boost := rfl
@[simp] theorem modHead_tg (s : State) (i : Fin 2) (f : HeadSt → HeadSt) : (modHead s i f).tg = s.tg := rfl
@[simp] theorem modHead_se (s : State) (i : Fin 2) (f : HeadSt → HeadSt) : (modHead s i f).se = s.se := rfl
@[simp] theorem modHead_usb (s : State) (i : Fin 2) (f : HeadSt → HeadSt) : (modHead s i f).usb = s.usb := rfl
@[simp] theorem modHead_cb (s : State) (i : Fin 2) (f : HeadSt → HeadSt) : (modHead s i f).cb = s.cb := rfl
@[simp] theorem modHead_net (s : State) (i : Fin 2) (f : HeadSt → HeadSt) : (modHead s i f).net = s.net := rfl
@[simp] theorem modHead_uarts (s : State) (i : Fin 2) (f : HeadSt → HeadSt) : (modHead s i f).uarts = s.uarts := rfl
@[simp] theorem modHead_pw (s : State) (i : Fin 2) (f : HeadSt → HeadSt) : (modHead s i f).pw = s.pw := rfl
@[simp] theorem modHead_boot (s : State) (i : Fin 2) (f : HeadSt → HeadSt) : (modHead s i f).boot = s.boot := rfl
@[simp] theorem modHead_app (s : State) (i : Fin 2) (f : HeadSt → HeadSt) : (modHead s i f).app = s.app := rfl
@[simp] theorem modHead_ctl (s : State) (i : Fin 2) (f : HeadSt → HeadSt) : (modHead s i f).ctl = s.ctl := rfl
@[simp] theorem modHead_ledger (s : State) (i : Fin 2) (f : HeadSt → HeadSt) : (modHead s i f).ledger = s.ledger := rfl
@[simp] theorem modHead_pdo (s : State) (i : Fin 2) (f : HeadSt → HeadSt) : (modHead s i f).pdo = s.pdo := rfl
@[simp] theorem modHead_rm (s : State) (i : Fin 2) (f : HeadSt → HeadSt) : (modHead s i f).rm = s.rm := rfl
@[simp] theorem modHead_tl (s : State) (i : Fin 2) (f : HeadSt → HeadSt) : (modHead s i f).tl = s.tl := rfl
@[simp] theorem modHead_sn (s : State) (i : Fin 2) (f : HeadSt → HeadSt) : (modHead s i f).sn = s.sn := rfl
@[simp] theorem modHead_turns (s : State) (i : Fin 2) (f : HeadSt → HeadSt) : (modHead s i f).turns = s.turns := rfl
@[simp] theorem modHead_free (s : State) (i : Fin 2) (f : HeadSt → HeadSt) : (modHead s i f).free = s.free := rfl
@[simp] theorem modHead_pending (s : State) (i : Fin 2) (f : HeadSt → HeadSt) : (modHead s i f).pending = s.pending := rfl

/-! `modEn` changes en alone. -/

@[simp] theorem modEn_md (s : State) (i : Fin 2) (f : EnergySt → EnergySt) : (modEn s i f).md = s.md := rfl
@[simp] theorem modEn_tu (s : State) (i : Fin 2) (f : EnergySt → EnergySt) : (modEn s i f).tu = s.tu := rfl
@[simp] theorem modEn_msu (s : State) (i : Fin 2) (f : EnergySt → EnergySt) : (modEn s i f).msu = s.msu := rfl
@[simp] theorem modEn_heads (s : State) (i : Fin 2) (f : EnergySt → EnergySt) : (modEn s i f).heads = s.heads := rfl
@[simp] theorem modEn_en (s : State) (i : Fin 2) (f : EnergySt → EnergySt) : (modEn s i f).en = upd s.en i f := rfl
@[simp] theorem modEn_vl (s : State) (i : Fin 2) (f : EnergySt → EnergySt) : (modEn s i f).vl = s.vl := rfl
@[simp] theorem modEn_rb (s : State) (i : Fin 2) (f : EnergySt → EnergySt) : (modEn s i f).rb = s.rb := rfl
@[simp] theorem modEn_media (s : State) (i : Fin 2) (f : EnergySt → EnergySt) : (modEn s i f).media = s.media := rfl
@[simp] theorem modEn_opts (s : State) (i : Fin 2) (f : EnergySt → EnergySt) : (modEn s i f).opts = s.opts := rfl
@[simp] theorem modEn_supply (s : State) (i : Fin 2) (f : EnergySt → EnergySt) : (modEn s i f).supply = s.supply := rfl
@[simp] theorem modEn_govs (s : State) (i : Fin 2) (f : EnergySt → EnergySt) : (modEn s i f).govs = s.govs := rfl
@[simp] theorem modEn_cut (s : State) (i : Fin 2) (f : EnergySt → EnergySt) : (modEn s i f).cut = s.cut := rfl
@[simp] theorem modEn_axes (s : State) (i : Fin 2) (f : EnergySt → EnergySt) : (modEn s i f).axes = s.axes := rfl
@[simp] theorem modEn_img (s : State) (i : Fin 2) (f : EnergySt → EnergySt) : (modEn s i f).img = s.img := rfl
@[simp] theorem modEn_sols (s : State) (i : Fin 2) (f : EnergySt → EnergySt) : (modEn s i f).sols = s.sols := rfl
@[simp] theorem modEn_banks (s : State) (i : Fin 2) (f : EnergySt → EnergySt) : (modEn s i f).banks = s.banks := rfl
@[simp] theorem modEn_boost (s : State) (i : Fin 2) (f : EnergySt → EnergySt) : (modEn s i f).boost = s.boost := rfl
@[simp] theorem modEn_tg (s : State) (i : Fin 2) (f : EnergySt → EnergySt) : (modEn s i f).tg = s.tg := rfl
@[simp] theorem modEn_se (s : State) (i : Fin 2) (f : EnergySt → EnergySt) : (modEn s i f).se = s.se := rfl
@[simp] theorem modEn_usb (s : State) (i : Fin 2) (f : EnergySt → EnergySt) : (modEn s i f).usb = s.usb := rfl
@[simp] theorem modEn_cb (s : State) (i : Fin 2) (f : EnergySt → EnergySt) : (modEn s i f).cb = s.cb := rfl
@[simp] theorem modEn_net (s : State) (i : Fin 2) (f : EnergySt → EnergySt) : (modEn s i f).net = s.net := rfl
@[simp] theorem modEn_uarts (s : State) (i : Fin 2) (f : EnergySt → EnergySt) : (modEn s i f).uarts = s.uarts := rfl
@[simp] theorem modEn_pw (s : State) (i : Fin 2) (f : EnergySt → EnergySt) : (modEn s i f).pw = s.pw := rfl
@[simp] theorem modEn_boot (s : State) (i : Fin 2) (f : EnergySt → EnergySt) : (modEn s i f).boot = s.boot := rfl
@[simp] theorem modEn_app (s : State) (i : Fin 2) (f : EnergySt → EnergySt) : (modEn s i f).app = s.app := rfl
@[simp] theorem modEn_ctl (s : State) (i : Fin 2) (f : EnergySt → EnergySt) : (modEn s i f).ctl = s.ctl := rfl
@[simp] theorem modEn_ledger (s : State) (i : Fin 2) (f : EnergySt → EnergySt) : (modEn s i f).ledger = s.ledger := rfl
@[simp] theorem modEn_pdo (s : State) (i : Fin 2) (f : EnergySt → EnergySt) : (modEn s i f).pdo = s.pdo := rfl
@[simp] theorem modEn_rm (s : State) (i : Fin 2) (f : EnergySt → EnergySt) : (modEn s i f).rm = s.rm := rfl
@[simp] theorem modEn_tl (s : State) (i : Fin 2) (f : EnergySt → EnergySt) : (modEn s i f).tl = s.tl := rfl
@[simp] theorem modEn_sn (s : State) (i : Fin 2) (f : EnergySt → EnergySt) : (modEn s i f).sn = s.sn := rfl
@[simp] theorem modEn_turns (s : State) (i : Fin 2) (f : EnergySt → EnergySt) : (modEn s i f).turns = s.turns := rfl
@[simp] theorem modEn_free (s : State) (i : Fin 2) (f : EnergySt → EnergySt) : (modEn s i f).free = s.free := rfl
@[simp] theorem modEn_pending (s : State) (i : Fin 2) (f : EnergySt → EnergySt) : (modEn s i f).pending = s.pending := rfl

/-! `modVl` changes vl alone. -/

@[simp] theorem modVl_md (s : State) (i : Fin 2) (f : VhLoopSt → VhLoopSt) : (modVl s i f).md = s.md := rfl
@[simp] theorem modVl_tu (s : State) (i : Fin 2) (f : VhLoopSt → VhLoopSt) : (modVl s i f).tu = s.tu := rfl
@[simp] theorem modVl_msu (s : State) (i : Fin 2) (f : VhLoopSt → VhLoopSt) : (modVl s i f).msu = s.msu := rfl
@[simp] theorem modVl_heads (s : State) (i : Fin 2) (f : VhLoopSt → VhLoopSt) : (modVl s i f).heads = s.heads := rfl
@[simp] theorem modVl_en (s : State) (i : Fin 2) (f : VhLoopSt → VhLoopSt) : (modVl s i f).en = s.en := rfl
@[simp] theorem modVl_vl (s : State) (i : Fin 2) (f : VhLoopSt → VhLoopSt) : (modVl s i f).vl = upd s.vl i f := rfl
@[simp] theorem modVl_rb (s : State) (i : Fin 2) (f : VhLoopSt → VhLoopSt) : (modVl s i f).rb = s.rb := rfl
@[simp] theorem modVl_media (s : State) (i : Fin 2) (f : VhLoopSt → VhLoopSt) : (modVl s i f).media = s.media := rfl
@[simp] theorem modVl_opts (s : State) (i : Fin 2) (f : VhLoopSt → VhLoopSt) : (modVl s i f).opts = s.opts := rfl
@[simp] theorem modVl_supply (s : State) (i : Fin 2) (f : VhLoopSt → VhLoopSt) : (modVl s i f).supply = s.supply := rfl
@[simp] theorem modVl_govs (s : State) (i : Fin 2) (f : VhLoopSt → VhLoopSt) : (modVl s i f).govs = s.govs := rfl
@[simp] theorem modVl_cut (s : State) (i : Fin 2) (f : VhLoopSt → VhLoopSt) : (modVl s i f).cut = s.cut := rfl
@[simp] theorem modVl_axes (s : State) (i : Fin 2) (f : VhLoopSt → VhLoopSt) : (modVl s i f).axes = s.axes := rfl
@[simp] theorem modVl_img (s : State) (i : Fin 2) (f : VhLoopSt → VhLoopSt) : (modVl s i f).img = s.img := rfl
@[simp] theorem modVl_sols (s : State) (i : Fin 2) (f : VhLoopSt → VhLoopSt) : (modVl s i f).sols = s.sols := rfl
@[simp] theorem modVl_banks (s : State) (i : Fin 2) (f : VhLoopSt → VhLoopSt) : (modVl s i f).banks = s.banks := rfl
@[simp] theorem modVl_boost (s : State) (i : Fin 2) (f : VhLoopSt → VhLoopSt) : (modVl s i f).boost = s.boost := rfl
@[simp] theorem modVl_tg (s : State) (i : Fin 2) (f : VhLoopSt → VhLoopSt) : (modVl s i f).tg = s.tg := rfl
@[simp] theorem modVl_se (s : State) (i : Fin 2) (f : VhLoopSt → VhLoopSt) : (modVl s i f).se = s.se := rfl
@[simp] theorem modVl_usb (s : State) (i : Fin 2) (f : VhLoopSt → VhLoopSt) : (modVl s i f).usb = s.usb := rfl
@[simp] theorem modVl_cb (s : State) (i : Fin 2) (f : VhLoopSt → VhLoopSt) : (modVl s i f).cb = s.cb := rfl
@[simp] theorem modVl_net (s : State) (i : Fin 2) (f : VhLoopSt → VhLoopSt) : (modVl s i f).net = s.net := rfl
@[simp] theorem modVl_uarts (s : State) (i : Fin 2) (f : VhLoopSt → VhLoopSt) : (modVl s i f).uarts = s.uarts := rfl
@[simp] theorem modVl_pw (s : State) (i : Fin 2) (f : VhLoopSt → VhLoopSt) : (modVl s i f).pw = s.pw := rfl
@[simp] theorem modVl_boot (s : State) (i : Fin 2) (f : VhLoopSt → VhLoopSt) : (modVl s i f).boot = s.boot := rfl
@[simp] theorem modVl_app (s : State) (i : Fin 2) (f : VhLoopSt → VhLoopSt) : (modVl s i f).app = s.app := rfl
@[simp] theorem modVl_ctl (s : State) (i : Fin 2) (f : VhLoopSt → VhLoopSt) : (modVl s i f).ctl = s.ctl := rfl
@[simp] theorem modVl_ledger (s : State) (i : Fin 2) (f : VhLoopSt → VhLoopSt) : (modVl s i f).ledger = s.ledger := rfl
@[simp] theorem modVl_pdo (s : State) (i : Fin 2) (f : VhLoopSt → VhLoopSt) : (modVl s i f).pdo = s.pdo := rfl
@[simp] theorem modVl_rm (s : State) (i : Fin 2) (f : VhLoopSt → VhLoopSt) : (modVl s i f).rm = s.rm := rfl
@[simp] theorem modVl_tl (s : State) (i : Fin 2) (f : VhLoopSt → VhLoopSt) : (modVl s i f).tl = s.tl := rfl
@[simp] theorem modVl_sn (s : State) (i : Fin 2) (f : VhLoopSt → VhLoopSt) : (modVl s i f).sn = s.sn := rfl
@[simp] theorem modVl_turns (s : State) (i : Fin 2) (f : VhLoopSt → VhLoopSt) : (modVl s i f).turns = s.turns := rfl
@[simp] theorem modVl_free (s : State) (i : Fin 2) (f : VhLoopSt → VhLoopSt) : (modVl s i f).free = s.free := rfl
@[simp] theorem modVl_pending (s : State) (i : Fin 2) (f : VhLoopSt → VhLoopSt) : (modVl s i f).pending = s.pending := rfl

/-! `modOpt` changes opts alone. -/

@[simp] theorem modOpt_md (s : State) (i : Fin 8) (f : OptSt → OptSt) : (modOpt s i f).md = s.md := rfl
@[simp] theorem modOpt_tu (s : State) (i : Fin 8) (f : OptSt → OptSt) : (modOpt s i f).tu = s.tu := rfl
@[simp] theorem modOpt_msu (s : State) (i : Fin 8) (f : OptSt → OptSt) : (modOpt s i f).msu = s.msu := rfl
@[simp] theorem modOpt_heads (s : State) (i : Fin 8) (f : OptSt → OptSt) : (modOpt s i f).heads = s.heads := rfl
@[simp] theorem modOpt_en (s : State) (i : Fin 8) (f : OptSt → OptSt) : (modOpt s i f).en = s.en := rfl
@[simp] theorem modOpt_vl (s : State) (i : Fin 8) (f : OptSt → OptSt) : (modOpt s i f).vl = s.vl := rfl
@[simp] theorem modOpt_rb (s : State) (i : Fin 8) (f : OptSt → OptSt) : (modOpt s i f).rb = s.rb := rfl
@[simp] theorem modOpt_media (s : State) (i : Fin 8) (f : OptSt → OptSt) : (modOpt s i f).media = s.media := rfl
@[simp] theorem modOpt_opts (s : State) (i : Fin 8) (f : OptSt → OptSt) : (modOpt s i f).opts = upd s.opts i f := rfl
@[simp] theorem modOpt_supply (s : State) (i : Fin 8) (f : OptSt → OptSt) : (modOpt s i f).supply = s.supply := rfl
@[simp] theorem modOpt_govs (s : State) (i : Fin 8) (f : OptSt → OptSt) : (modOpt s i f).govs = s.govs := rfl
@[simp] theorem modOpt_cut (s : State) (i : Fin 8) (f : OptSt → OptSt) : (modOpt s i f).cut = s.cut := rfl
@[simp] theorem modOpt_axes (s : State) (i : Fin 8) (f : OptSt → OptSt) : (modOpt s i f).axes = s.axes := rfl
@[simp] theorem modOpt_img (s : State) (i : Fin 8) (f : OptSt → OptSt) : (modOpt s i f).img = s.img := rfl
@[simp] theorem modOpt_sols (s : State) (i : Fin 8) (f : OptSt → OptSt) : (modOpt s i f).sols = s.sols := rfl
@[simp] theorem modOpt_banks (s : State) (i : Fin 8) (f : OptSt → OptSt) : (modOpt s i f).banks = s.banks := rfl
@[simp] theorem modOpt_boost (s : State) (i : Fin 8) (f : OptSt → OptSt) : (modOpt s i f).boost = s.boost := rfl
@[simp] theorem modOpt_tg (s : State) (i : Fin 8) (f : OptSt → OptSt) : (modOpt s i f).tg = s.tg := rfl
@[simp] theorem modOpt_se (s : State) (i : Fin 8) (f : OptSt → OptSt) : (modOpt s i f).se = s.se := rfl
@[simp] theorem modOpt_usb (s : State) (i : Fin 8) (f : OptSt → OptSt) : (modOpt s i f).usb = s.usb := rfl
@[simp] theorem modOpt_cb (s : State) (i : Fin 8) (f : OptSt → OptSt) : (modOpt s i f).cb = s.cb := rfl
@[simp] theorem modOpt_net (s : State) (i : Fin 8) (f : OptSt → OptSt) : (modOpt s i f).net = s.net := rfl
@[simp] theorem modOpt_uarts (s : State) (i : Fin 8) (f : OptSt → OptSt) : (modOpt s i f).uarts = s.uarts := rfl
@[simp] theorem modOpt_pw (s : State) (i : Fin 8) (f : OptSt → OptSt) : (modOpt s i f).pw = s.pw := rfl
@[simp] theorem modOpt_boot (s : State) (i : Fin 8) (f : OptSt → OptSt) : (modOpt s i f).boot = s.boot := rfl
@[simp] theorem modOpt_app (s : State) (i : Fin 8) (f : OptSt → OptSt) : (modOpt s i f).app = s.app := rfl
@[simp] theorem modOpt_ctl (s : State) (i : Fin 8) (f : OptSt → OptSt) : (modOpt s i f).ctl = s.ctl := rfl
@[simp] theorem modOpt_ledger (s : State) (i : Fin 8) (f : OptSt → OptSt) : (modOpt s i f).ledger = s.ledger := rfl
@[simp] theorem modOpt_pdo (s : State) (i : Fin 8) (f : OptSt → OptSt) : (modOpt s i f).pdo = s.pdo := rfl
@[simp] theorem modOpt_rm (s : State) (i : Fin 8) (f : OptSt → OptSt) : (modOpt s i f).rm = s.rm := rfl
@[simp] theorem modOpt_tl (s : State) (i : Fin 8) (f : OptSt → OptSt) : (modOpt s i f).tl = s.tl := rfl
@[simp] theorem modOpt_sn (s : State) (i : Fin 8) (f : OptSt → OptSt) : (modOpt s i f).sn = s.sn := rfl
@[simp] theorem modOpt_turns (s : State) (i : Fin 8) (f : OptSt → OptSt) : (modOpt s i f).turns = s.turns := rfl
@[simp] theorem modOpt_free (s : State) (i : Fin 8) (f : OptSt → OptSt) : (modOpt s i f).free = s.free := rfl
@[simp] theorem modOpt_pending (s : State) (i : Fin 8) (f : OptSt → OptSt) : (modOpt s i f).pending = s.pending := rfl

/-! `modGov` changes govs alone. -/

@[simp] theorem modGov_md (s : State) (i : Fin 2) (f : GovSt → GovSt) : (modGov s i f).md = s.md := rfl
@[simp] theorem modGov_tu (s : State) (i : Fin 2) (f : GovSt → GovSt) : (modGov s i f).tu = s.tu := rfl
@[simp] theorem modGov_msu (s : State) (i : Fin 2) (f : GovSt → GovSt) : (modGov s i f).msu = s.msu := rfl
@[simp] theorem modGov_heads (s : State) (i : Fin 2) (f : GovSt → GovSt) : (modGov s i f).heads = s.heads := rfl
@[simp] theorem modGov_en (s : State) (i : Fin 2) (f : GovSt → GovSt) : (modGov s i f).en = s.en := rfl
@[simp] theorem modGov_vl (s : State) (i : Fin 2) (f : GovSt → GovSt) : (modGov s i f).vl = s.vl := rfl
@[simp] theorem modGov_rb (s : State) (i : Fin 2) (f : GovSt → GovSt) : (modGov s i f).rb = s.rb := rfl
@[simp] theorem modGov_media (s : State) (i : Fin 2) (f : GovSt → GovSt) : (modGov s i f).media = s.media := rfl
@[simp] theorem modGov_opts (s : State) (i : Fin 2) (f : GovSt → GovSt) : (modGov s i f).opts = s.opts := rfl
@[simp] theorem modGov_supply (s : State) (i : Fin 2) (f : GovSt → GovSt) : (modGov s i f).supply = s.supply := rfl
@[simp] theorem modGov_govs (s : State) (i : Fin 2) (f : GovSt → GovSt) : (modGov s i f).govs = upd s.govs i f := rfl
@[simp] theorem modGov_cut (s : State) (i : Fin 2) (f : GovSt → GovSt) : (modGov s i f).cut = s.cut := rfl
@[simp] theorem modGov_axes (s : State) (i : Fin 2) (f : GovSt → GovSt) : (modGov s i f).axes = s.axes := rfl
@[simp] theorem modGov_img (s : State) (i : Fin 2) (f : GovSt → GovSt) : (modGov s i f).img = s.img := rfl
@[simp] theorem modGov_sols (s : State) (i : Fin 2) (f : GovSt → GovSt) : (modGov s i f).sols = s.sols := rfl
@[simp] theorem modGov_banks (s : State) (i : Fin 2) (f : GovSt → GovSt) : (modGov s i f).banks = s.banks := rfl
@[simp] theorem modGov_boost (s : State) (i : Fin 2) (f : GovSt → GovSt) : (modGov s i f).boost = s.boost := rfl
@[simp] theorem modGov_tg (s : State) (i : Fin 2) (f : GovSt → GovSt) : (modGov s i f).tg = s.tg := rfl
@[simp] theorem modGov_se (s : State) (i : Fin 2) (f : GovSt → GovSt) : (modGov s i f).se = s.se := rfl
@[simp] theorem modGov_usb (s : State) (i : Fin 2) (f : GovSt → GovSt) : (modGov s i f).usb = s.usb := rfl
@[simp] theorem modGov_cb (s : State) (i : Fin 2) (f : GovSt → GovSt) : (modGov s i f).cb = s.cb := rfl
@[simp] theorem modGov_net (s : State) (i : Fin 2) (f : GovSt → GovSt) : (modGov s i f).net = s.net := rfl
@[simp] theorem modGov_uarts (s : State) (i : Fin 2) (f : GovSt → GovSt) : (modGov s i f).uarts = s.uarts := rfl
@[simp] theorem modGov_pw (s : State) (i : Fin 2) (f : GovSt → GovSt) : (modGov s i f).pw = s.pw := rfl
@[simp] theorem modGov_boot (s : State) (i : Fin 2) (f : GovSt → GovSt) : (modGov s i f).boot = s.boot := rfl
@[simp] theorem modGov_app (s : State) (i : Fin 2) (f : GovSt → GovSt) : (modGov s i f).app = s.app := rfl
@[simp] theorem modGov_ctl (s : State) (i : Fin 2) (f : GovSt → GovSt) : (modGov s i f).ctl = s.ctl := rfl
@[simp] theorem modGov_ledger (s : State) (i : Fin 2) (f : GovSt → GovSt) : (modGov s i f).ledger = s.ledger := rfl
@[simp] theorem modGov_pdo (s : State) (i : Fin 2) (f : GovSt → GovSt) : (modGov s i f).pdo = s.pdo := rfl
@[simp] theorem modGov_rm (s : State) (i : Fin 2) (f : GovSt → GovSt) : (modGov s i f).rm = s.rm := rfl
@[simp] theorem modGov_tl (s : State) (i : Fin 2) (f : GovSt → GovSt) : (modGov s i f).tl = s.tl := rfl
@[simp] theorem modGov_sn (s : State) (i : Fin 2) (f : GovSt → GovSt) : (modGov s i f).sn = s.sn := rfl
@[simp] theorem modGov_turns (s : State) (i : Fin 2) (f : GovSt → GovSt) : (modGov s i f).turns = s.turns := rfl
@[simp] theorem modGov_free (s : State) (i : Fin 2) (f : GovSt → GovSt) : (modGov s i f).free = s.free := rfl
@[simp] theorem modGov_pending (s : State) (i : Fin 2) (f : GovSt → GovSt) : (modGov s i f).pending = s.pending := rfl

/-! `modAxis` changes axes alone. -/

@[simp] theorem modAxis_md (s : State) (i : Fin 4) (f : AxisSt → AxisSt) : (modAxis s i f).md = s.md := rfl
@[simp] theorem modAxis_tu (s : State) (i : Fin 4) (f : AxisSt → AxisSt) : (modAxis s i f).tu = s.tu := rfl
@[simp] theorem modAxis_msu (s : State) (i : Fin 4) (f : AxisSt → AxisSt) : (modAxis s i f).msu = s.msu := rfl
@[simp] theorem modAxis_heads (s : State) (i : Fin 4) (f : AxisSt → AxisSt) : (modAxis s i f).heads = s.heads := rfl
@[simp] theorem modAxis_en (s : State) (i : Fin 4) (f : AxisSt → AxisSt) : (modAxis s i f).en = s.en := rfl
@[simp] theorem modAxis_vl (s : State) (i : Fin 4) (f : AxisSt → AxisSt) : (modAxis s i f).vl = s.vl := rfl
@[simp] theorem modAxis_rb (s : State) (i : Fin 4) (f : AxisSt → AxisSt) : (modAxis s i f).rb = s.rb := rfl
@[simp] theorem modAxis_media (s : State) (i : Fin 4) (f : AxisSt → AxisSt) : (modAxis s i f).media = s.media := rfl
@[simp] theorem modAxis_opts (s : State) (i : Fin 4) (f : AxisSt → AxisSt) : (modAxis s i f).opts = s.opts := rfl
@[simp] theorem modAxis_supply (s : State) (i : Fin 4) (f : AxisSt → AxisSt) : (modAxis s i f).supply = s.supply := rfl
@[simp] theorem modAxis_govs (s : State) (i : Fin 4) (f : AxisSt → AxisSt) : (modAxis s i f).govs = s.govs := rfl
@[simp] theorem modAxis_cut (s : State) (i : Fin 4) (f : AxisSt → AxisSt) : (modAxis s i f).cut = s.cut := rfl
@[simp] theorem modAxis_axes (s : State) (i : Fin 4) (f : AxisSt → AxisSt) : (modAxis s i f).axes = upd s.axes i f := rfl
@[simp] theorem modAxis_img (s : State) (i : Fin 4) (f : AxisSt → AxisSt) : (modAxis s i f).img = s.img := rfl
@[simp] theorem modAxis_sols (s : State) (i : Fin 4) (f : AxisSt → AxisSt) : (modAxis s i f).sols = s.sols := rfl
@[simp] theorem modAxis_banks (s : State) (i : Fin 4) (f : AxisSt → AxisSt) : (modAxis s i f).banks = s.banks := rfl
@[simp] theorem modAxis_boost (s : State) (i : Fin 4) (f : AxisSt → AxisSt) : (modAxis s i f).boost = s.boost := rfl
@[simp] theorem modAxis_tg (s : State) (i : Fin 4) (f : AxisSt → AxisSt) : (modAxis s i f).tg = s.tg := rfl
@[simp] theorem modAxis_se (s : State) (i : Fin 4) (f : AxisSt → AxisSt) : (modAxis s i f).se = s.se := rfl
@[simp] theorem modAxis_usb (s : State) (i : Fin 4) (f : AxisSt → AxisSt) : (modAxis s i f).usb = s.usb := rfl
@[simp] theorem modAxis_cb (s : State) (i : Fin 4) (f : AxisSt → AxisSt) : (modAxis s i f).cb = s.cb := rfl
@[simp] theorem modAxis_net (s : State) (i : Fin 4) (f : AxisSt → AxisSt) : (modAxis s i f).net = s.net := rfl
@[simp] theorem modAxis_uarts (s : State) (i : Fin 4) (f : AxisSt → AxisSt) : (modAxis s i f).uarts = s.uarts := rfl
@[simp] theorem modAxis_pw (s : State) (i : Fin 4) (f : AxisSt → AxisSt) : (modAxis s i f).pw = s.pw := rfl
@[simp] theorem modAxis_boot (s : State) (i : Fin 4) (f : AxisSt → AxisSt) : (modAxis s i f).boot = s.boot := rfl
@[simp] theorem modAxis_app (s : State) (i : Fin 4) (f : AxisSt → AxisSt) : (modAxis s i f).app = s.app := rfl
@[simp] theorem modAxis_ctl (s : State) (i : Fin 4) (f : AxisSt → AxisSt) : (modAxis s i f).ctl = s.ctl := rfl
@[simp] theorem modAxis_ledger (s : State) (i : Fin 4) (f : AxisSt → AxisSt) : (modAxis s i f).ledger = s.ledger := rfl
@[simp] theorem modAxis_pdo (s : State) (i : Fin 4) (f : AxisSt → AxisSt) : (modAxis s i f).pdo = s.pdo := rfl
@[simp] theorem modAxis_rm (s : State) (i : Fin 4) (f : AxisSt → AxisSt) : (modAxis s i f).rm = s.rm := rfl
@[simp] theorem modAxis_tl (s : State) (i : Fin 4) (f : AxisSt → AxisSt) : (modAxis s i f).tl = s.tl := rfl
@[simp] theorem modAxis_sn (s : State) (i : Fin 4) (f : AxisSt → AxisSt) : (modAxis s i f).sn = s.sn := rfl
@[simp] theorem modAxis_turns (s : State) (i : Fin 4) (f : AxisSt → AxisSt) : (modAxis s i f).turns = s.turns := rfl
@[simp] theorem modAxis_free (s : State) (i : Fin 4) (f : AxisSt → AxisSt) : (modAxis s i f).free = s.free := rfl
@[simp] theorem modAxis_pending (s : State) (i : Fin 4) (f : AxisSt → AxisSt) : (modAxis s i f).pending = s.pending := rfl

/-! `modPort` changes img.ports alone. -/

@[simp] theorem modPort_md (s : State) (i : Fin 2) (f : ImgPort → ImgPort) : (modPort s i f).md = s.md := rfl
@[simp] theorem modPort_tu (s : State) (i : Fin 2) (f : ImgPort → ImgPort) : (modPort s i f).tu = s.tu := rfl
@[simp] theorem modPort_msu (s : State) (i : Fin 2) (f : ImgPort → ImgPort) : (modPort s i f).msu = s.msu := rfl
@[simp] theorem modPort_heads (s : State) (i : Fin 2) (f : ImgPort → ImgPort) : (modPort s i f).heads = s.heads := rfl
@[simp] theorem modPort_en (s : State) (i : Fin 2) (f : ImgPort → ImgPort) : (modPort s i f).en = s.en := rfl
@[simp] theorem modPort_vl (s : State) (i : Fin 2) (f : ImgPort → ImgPort) : (modPort s i f).vl = s.vl := rfl
@[simp] theorem modPort_rb (s : State) (i : Fin 2) (f : ImgPort → ImgPort) : (modPort s i f).rb = s.rb := rfl
@[simp] theorem modPort_media (s : State) (i : Fin 2) (f : ImgPort → ImgPort) : (modPort s i f).media = s.media := rfl
@[simp] theorem modPort_opts (s : State) (i : Fin 2) (f : ImgPort → ImgPort) : (modPort s i f).opts = s.opts := rfl
@[simp] theorem modPort_supply (s : State) (i : Fin 2) (f : ImgPort → ImgPort) : (modPort s i f).supply = s.supply := rfl
@[simp] theorem modPort_govs (s : State) (i : Fin 2) (f : ImgPort → ImgPort) : (modPort s i f).govs = s.govs := rfl
@[simp] theorem modPort_cut (s : State) (i : Fin 2) (f : ImgPort → ImgPort) : (modPort s i f).cut = s.cut := rfl
@[simp] theorem modPort_axes (s : State) (i : Fin 2) (f : ImgPort → ImgPort) : (modPort s i f).axes = s.axes := rfl
@[simp] theorem modPort_img_ports (s : State) (i : Fin 2) (f : ImgPort → ImgPort) : (modPort s i f).img.ports = upd s.img.ports i f := rfl
@[simp] theorem modPort_img_recs (s : State) (i : Fin 2) (f : ImgPort → ImgPort) : (modPort s i f).img.recs = s.img.recs := rfl
@[simp] theorem modPort_img_resvs (s : State) (i : Fin 2) (f : ImgPort → ImgPort) : (modPort s i f).img.resvs = s.img.resvs := rfl
@[simp] theorem modPort_img_rbPend (s : State) (i : Fin 2) (f : ImgPort → ImgPort) : (modPort s i f).img.rbPend = s.img.rbPend := rfl
@[simp] theorem modPort_img_rbMissed (s : State) (i : Fin 2) (f : ImgPort → ImgPort) : (modPort s i f).img.rbMissed = s.img.rbMissed := rfl
@[simp] theorem modPort_sols (s : State) (i : Fin 2) (f : ImgPort → ImgPort) : (modPort s i f).sols = s.sols := rfl
@[simp] theorem modPort_banks (s : State) (i : Fin 2) (f : ImgPort → ImgPort) : (modPort s i f).banks = s.banks := rfl
@[simp] theorem modPort_boost (s : State) (i : Fin 2) (f : ImgPort → ImgPort) : (modPort s i f).boost = s.boost := rfl
@[simp] theorem modPort_tg (s : State) (i : Fin 2) (f : ImgPort → ImgPort) : (modPort s i f).tg = s.tg := rfl
@[simp] theorem modPort_se (s : State) (i : Fin 2) (f : ImgPort → ImgPort) : (modPort s i f).se = s.se := rfl
@[simp] theorem modPort_usb (s : State) (i : Fin 2) (f : ImgPort → ImgPort) : (modPort s i f).usb = s.usb := rfl
@[simp] theorem modPort_cb (s : State) (i : Fin 2) (f : ImgPort → ImgPort) : (modPort s i f).cb = s.cb := rfl
@[simp] theorem modPort_net (s : State) (i : Fin 2) (f : ImgPort → ImgPort) : (modPort s i f).net = s.net := rfl
@[simp] theorem modPort_uarts (s : State) (i : Fin 2) (f : ImgPort → ImgPort) : (modPort s i f).uarts = s.uarts := rfl
@[simp] theorem modPort_pw (s : State) (i : Fin 2) (f : ImgPort → ImgPort) : (modPort s i f).pw = s.pw := rfl
@[simp] theorem modPort_boot (s : State) (i : Fin 2) (f : ImgPort → ImgPort) : (modPort s i f).boot = s.boot := rfl
@[simp] theorem modPort_app (s : State) (i : Fin 2) (f : ImgPort → ImgPort) : (modPort s i f).app = s.app := rfl
@[simp] theorem modPort_ctl (s : State) (i : Fin 2) (f : ImgPort → ImgPort) : (modPort s i f).ctl = s.ctl := rfl
@[simp] theorem modPort_ledger (s : State) (i : Fin 2) (f : ImgPort → ImgPort) : (modPort s i f).ledger = s.ledger := rfl
@[simp] theorem modPort_pdo (s : State) (i : Fin 2) (f : ImgPort → ImgPort) : (modPort s i f).pdo = s.pdo := rfl
@[simp] theorem modPort_rm (s : State) (i : Fin 2) (f : ImgPort → ImgPort) : (modPort s i f).rm = s.rm := rfl
@[simp] theorem modPort_tl (s : State) (i : Fin 2) (f : ImgPort → ImgPort) : (modPort s i f).tl = s.tl := rfl
@[simp] theorem modPort_sn (s : State) (i : Fin 2) (f : ImgPort → ImgPort) : (modPort s i f).sn = s.sn := rfl
@[simp] theorem modPort_turns (s : State) (i : Fin 2) (f : ImgPort → ImgPort) : (modPort s i f).turns = s.turns := rfl
@[simp] theorem modPort_free (s : State) (i : Fin 2) (f : ImgPort → ImgPort) : (modPort s i f).free = s.free := rfl
@[simp] theorem modPort_pending (s : State) (i : Fin 2) (f : ImgPort → ImgPort) : (modPort s i f).pending = s.pending := rfl

/-! `modSol` changes sols alone. -/

@[simp] theorem modSol_md (s : State) (i : Fin 8) (f : SolSt → SolSt) : (modSol s i f).md = s.md := rfl
@[simp] theorem modSol_tu (s : State) (i : Fin 8) (f : SolSt → SolSt) : (modSol s i f).tu = s.tu := rfl
@[simp] theorem modSol_msu (s : State) (i : Fin 8) (f : SolSt → SolSt) : (modSol s i f).msu = s.msu := rfl
@[simp] theorem modSol_heads (s : State) (i : Fin 8) (f : SolSt → SolSt) : (modSol s i f).heads = s.heads := rfl
@[simp] theorem modSol_en (s : State) (i : Fin 8) (f : SolSt → SolSt) : (modSol s i f).en = s.en := rfl
@[simp] theorem modSol_vl (s : State) (i : Fin 8) (f : SolSt → SolSt) : (modSol s i f).vl = s.vl := rfl
@[simp] theorem modSol_rb (s : State) (i : Fin 8) (f : SolSt → SolSt) : (modSol s i f).rb = s.rb := rfl
@[simp] theorem modSol_media (s : State) (i : Fin 8) (f : SolSt → SolSt) : (modSol s i f).media = s.media := rfl
@[simp] theorem modSol_opts (s : State) (i : Fin 8) (f : SolSt → SolSt) : (modSol s i f).opts = s.opts := rfl
@[simp] theorem modSol_supply (s : State) (i : Fin 8) (f : SolSt → SolSt) : (modSol s i f).supply = s.supply := rfl
@[simp] theorem modSol_govs (s : State) (i : Fin 8) (f : SolSt → SolSt) : (modSol s i f).govs = s.govs := rfl
@[simp] theorem modSol_cut (s : State) (i : Fin 8) (f : SolSt → SolSt) : (modSol s i f).cut = s.cut := rfl
@[simp] theorem modSol_axes (s : State) (i : Fin 8) (f : SolSt → SolSt) : (modSol s i f).axes = s.axes := rfl
@[simp] theorem modSol_img (s : State) (i : Fin 8) (f : SolSt → SolSt) : (modSol s i f).img = s.img := rfl
@[simp] theorem modSol_sols (s : State) (i : Fin 8) (f : SolSt → SolSt) : (modSol s i f).sols = upd s.sols i f := rfl
@[simp] theorem modSol_banks (s : State) (i : Fin 8) (f : SolSt → SolSt) : (modSol s i f).banks = s.banks := rfl
@[simp] theorem modSol_boost (s : State) (i : Fin 8) (f : SolSt → SolSt) : (modSol s i f).boost = s.boost := rfl
@[simp] theorem modSol_tg (s : State) (i : Fin 8) (f : SolSt → SolSt) : (modSol s i f).tg = s.tg := rfl
@[simp] theorem modSol_se (s : State) (i : Fin 8) (f : SolSt → SolSt) : (modSol s i f).se = s.se := rfl
@[simp] theorem modSol_usb (s : State) (i : Fin 8) (f : SolSt → SolSt) : (modSol s i f).usb = s.usb := rfl
@[simp] theorem modSol_cb (s : State) (i : Fin 8) (f : SolSt → SolSt) : (modSol s i f).cb = s.cb := rfl
@[simp] theorem modSol_net (s : State) (i : Fin 8) (f : SolSt → SolSt) : (modSol s i f).net = s.net := rfl
@[simp] theorem modSol_uarts (s : State) (i : Fin 8) (f : SolSt → SolSt) : (modSol s i f).uarts = s.uarts := rfl
@[simp] theorem modSol_pw (s : State) (i : Fin 8) (f : SolSt → SolSt) : (modSol s i f).pw = s.pw := rfl
@[simp] theorem modSol_boot (s : State) (i : Fin 8) (f : SolSt → SolSt) : (modSol s i f).boot = s.boot := rfl
@[simp] theorem modSol_app (s : State) (i : Fin 8) (f : SolSt → SolSt) : (modSol s i f).app = s.app := rfl
@[simp] theorem modSol_ctl (s : State) (i : Fin 8) (f : SolSt → SolSt) : (modSol s i f).ctl = s.ctl := rfl
@[simp] theorem modSol_ledger (s : State) (i : Fin 8) (f : SolSt → SolSt) : (modSol s i f).ledger = s.ledger := rfl
@[simp] theorem modSol_pdo (s : State) (i : Fin 8) (f : SolSt → SolSt) : (modSol s i f).pdo = s.pdo := rfl
@[simp] theorem modSol_rm (s : State) (i : Fin 8) (f : SolSt → SolSt) : (modSol s i f).rm = s.rm := rfl
@[simp] theorem modSol_tl (s : State) (i : Fin 8) (f : SolSt → SolSt) : (modSol s i f).tl = s.tl := rfl
@[simp] theorem modSol_sn (s : State) (i : Fin 8) (f : SolSt → SolSt) : (modSol s i f).sn = s.sn := rfl
@[simp] theorem modSol_turns (s : State) (i : Fin 8) (f : SolSt → SolSt) : (modSol s i f).turns = s.turns := rfl
@[simp] theorem modSol_free (s : State) (i : Fin 8) (f : SolSt → SolSt) : (modSol s i f).free = s.free := rfl
@[simp] theorem modSol_pending (s : State) (i : Fin 8) (f : SolSt → SolSt) : (modSol s i f).pending = s.pending := rfl

/-! `modBank` changes banks alone. -/

@[simp] theorem modBank_md (s : State) (i : Fin 2) (f : BankSt → BankSt) : (modBank s i f).md = s.md := rfl
@[simp] theorem modBank_tu (s : State) (i : Fin 2) (f : BankSt → BankSt) : (modBank s i f).tu = s.tu := rfl
@[simp] theorem modBank_msu (s : State) (i : Fin 2) (f : BankSt → BankSt) : (modBank s i f).msu = s.msu := rfl
@[simp] theorem modBank_heads (s : State) (i : Fin 2) (f : BankSt → BankSt) : (modBank s i f).heads = s.heads := rfl
@[simp] theorem modBank_en (s : State) (i : Fin 2) (f : BankSt → BankSt) : (modBank s i f).en = s.en := rfl
@[simp] theorem modBank_vl (s : State) (i : Fin 2) (f : BankSt → BankSt) : (modBank s i f).vl = s.vl := rfl
@[simp] theorem modBank_rb (s : State) (i : Fin 2) (f : BankSt → BankSt) : (modBank s i f).rb = s.rb := rfl
@[simp] theorem modBank_media (s : State) (i : Fin 2) (f : BankSt → BankSt) : (modBank s i f).media = s.media := rfl
@[simp] theorem modBank_opts (s : State) (i : Fin 2) (f : BankSt → BankSt) : (modBank s i f).opts = s.opts := rfl
@[simp] theorem modBank_supply (s : State) (i : Fin 2) (f : BankSt → BankSt) : (modBank s i f).supply = s.supply := rfl
@[simp] theorem modBank_govs (s : State) (i : Fin 2) (f : BankSt → BankSt) : (modBank s i f).govs = s.govs := rfl
@[simp] theorem modBank_cut (s : State) (i : Fin 2) (f : BankSt → BankSt) : (modBank s i f).cut = s.cut := rfl
@[simp] theorem modBank_axes (s : State) (i : Fin 2) (f : BankSt → BankSt) : (modBank s i f).axes = s.axes := rfl
@[simp] theorem modBank_img (s : State) (i : Fin 2) (f : BankSt → BankSt) : (modBank s i f).img = s.img := rfl
@[simp] theorem modBank_sols (s : State) (i : Fin 2) (f : BankSt → BankSt) : (modBank s i f).sols = s.sols := rfl
@[simp] theorem modBank_banks (s : State) (i : Fin 2) (f : BankSt → BankSt) : (modBank s i f).banks = upd s.banks i f := rfl
@[simp] theorem modBank_boost (s : State) (i : Fin 2) (f : BankSt → BankSt) : (modBank s i f).boost = s.boost := rfl
@[simp] theorem modBank_tg (s : State) (i : Fin 2) (f : BankSt → BankSt) : (modBank s i f).tg = s.tg := rfl
@[simp] theorem modBank_se (s : State) (i : Fin 2) (f : BankSt → BankSt) : (modBank s i f).se = s.se := rfl
@[simp] theorem modBank_usb (s : State) (i : Fin 2) (f : BankSt → BankSt) : (modBank s i f).usb = s.usb := rfl
@[simp] theorem modBank_cb (s : State) (i : Fin 2) (f : BankSt → BankSt) : (modBank s i f).cb = s.cb := rfl
@[simp] theorem modBank_net (s : State) (i : Fin 2) (f : BankSt → BankSt) : (modBank s i f).net = s.net := rfl
@[simp] theorem modBank_uarts (s : State) (i : Fin 2) (f : BankSt → BankSt) : (modBank s i f).uarts = s.uarts := rfl
@[simp] theorem modBank_pw (s : State) (i : Fin 2) (f : BankSt → BankSt) : (modBank s i f).pw = s.pw := rfl
@[simp] theorem modBank_boot (s : State) (i : Fin 2) (f : BankSt → BankSt) : (modBank s i f).boot = s.boot := rfl
@[simp] theorem modBank_app (s : State) (i : Fin 2) (f : BankSt → BankSt) : (modBank s i f).app = s.app := rfl
@[simp] theorem modBank_ctl (s : State) (i : Fin 2) (f : BankSt → BankSt) : (modBank s i f).ctl = s.ctl := rfl
@[simp] theorem modBank_ledger (s : State) (i : Fin 2) (f : BankSt → BankSt) : (modBank s i f).ledger = s.ledger := rfl
@[simp] theorem modBank_pdo (s : State) (i : Fin 2) (f : BankSt → BankSt) : (modBank s i f).pdo = s.pdo := rfl
@[simp] theorem modBank_rm (s : State) (i : Fin 2) (f : BankSt → BankSt) : (modBank s i f).rm = s.rm := rfl
@[simp] theorem modBank_tl (s : State) (i : Fin 2) (f : BankSt → BankSt) : (modBank s i f).tl = s.tl := rfl
@[simp] theorem modBank_sn (s : State) (i : Fin 2) (f : BankSt → BankSt) : (modBank s i f).sn = s.sn := rfl
@[simp] theorem modBank_turns (s : State) (i : Fin 2) (f : BankSt → BankSt) : (modBank s i f).turns = s.turns := rfl
@[simp] theorem modBank_free (s : State) (i : Fin 2) (f : BankSt → BankSt) : (modBank s i f).free = s.free := rfl
@[simp] theorem modBank_pending (s : State) (i : Fin 2) (f : BankSt → BankSt) : (modBank s i f).pending = s.pending := rfl

/-! `modJob` changes ledger.jobs alone. -/

@[simp] theorem modJob_md (s : State) (i : Fin 64) (f : Job → Job) : (modJob s i f).md = s.md := rfl
@[simp] theorem modJob_tu (s : State) (i : Fin 64) (f : Job → Job) : (modJob s i f).tu = s.tu := rfl
@[simp] theorem modJob_msu (s : State) (i : Fin 64) (f : Job → Job) : (modJob s i f).msu = s.msu := rfl
@[simp] theorem modJob_heads (s : State) (i : Fin 64) (f : Job → Job) : (modJob s i f).heads = s.heads := rfl
@[simp] theorem modJob_en (s : State) (i : Fin 64) (f : Job → Job) : (modJob s i f).en = s.en := rfl
@[simp] theorem modJob_vl (s : State) (i : Fin 64) (f : Job → Job) : (modJob s i f).vl = s.vl := rfl
@[simp] theorem modJob_rb (s : State) (i : Fin 64) (f : Job → Job) : (modJob s i f).rb = s.rb := rfl
@[simp] theorem modJob_media (s : State) (i : Fin 64) (f : Job → Job) : (modJob s i f).media = s.media := rfl
@[simp] theorem modJob_opts (s : State) (i : Fin 64) (f : Job → Job) : (modJob s i f).opts = s.opts := rfl
@[simp] theorem modJob_supply (s : State) (i : Fin 64) (f : Job → Job) : (modJob s i f).supply = s.supply := rfl
@[simp] theorem modJob_govs (s : State) (i : Fin 64) (f : Job → Job) : (modJob s i f).govs = s.govs := rfl
@[simp] theorem modJob_cut (s : State) (i : Fin 64) (f : Job → Job) : (modJob s i f).cut = s.cut := rfl
@[simp] theorem modJob_axes (s : State) (i : Fin 64) (f : Job → Job) : (modJob s i f).axes = s.axes := rfl
@[simp] theorem modJob_img (s : State) (i : Fin 64) (f : Job → Job) : (modJob s i f).img = s.img := rfl
@[simp] theorem modJob_sols (s : State) (i : Fin 64) (f : Job → Job) : (modJob s i f).sols = s.sols := rfl
@[simp] theorem modJob_banks (s : State) (i : Fin 64) (f : Job → Job) : (modJob s i f).banks = s.banks := rfl
@[simp] theorem modJob_boost (s : State) (i : Fin 64) (f : Job → Job) : (modJob s i f).boost = s.boost := rfl
@[simp] theorem modJob_tg (s : State) (i : Fin 64) (f : Job → Job) : (modJob s i f).tg = s.tg := rfl
@[simp] theorem modJob_se (s : State) (i : Fin 64) (f : Job → Job) : (modJob s i f).se = s.se := rfl
@[simp] theorem modJob_usb (s : State) (i : Fin 64) (f : Job → Job) : (modJob s i f).usb = s.usb := rfl
@[simp] theorem modJob_cb (s : State) (i : Fin 64) (f : Job → Job) : (modJob s i f).cb = s.cb := rfl
@[simp] theorem modJob_net (s : State) (i : Fin 64) (f : Job → Job) : (modJob s i f).net = s.net := rfl
@[simp] theorem modJob_uarts (s : State) (i : Fin 64) (f : Job → Job) : (modJob s i f).uarts = s.uarts := rfl
@[simp] theorem modJob_pw (s : State) (i : Fin 64) (f : Job → Job) : (modJob s i f).pw = s.pw := rfl
@[simp] theorem modJob_boot (s : State) (i : Fin 64) (f : Job → Job) : (modJob s i f).boot = s.boot := rfl
@[simp] theorem modJob_app (s : State) (i : Fin 64) (f : Job → Job) : (modJob s i f).app = s.app := rfl
@[simp] theorem modJob_ctl (s : State) (i : Fin 64) (f : Job → Job) : (modJob s i f).ctl = s.ctl := rfl
@[simp] theorem modJob_ledger_jobs (s : State) (i : Fin 64) (f : Job → Job) : (modJob s i f).ledger.jobs = upd s.ledger.jobs i f := rfl
@[simp] theorem modJob_ledger_sel (s : State) (i : Fin 64) (f : Job → Job) : (modJob s i f).ledger.sel = s.ledger.sel := rfl
@[simp] theorem modJob_ledger_nextOrder (s : State) (i : Fin 64) (f : Job → Job) : (modJob s i f).ledger.nextOrder = s.ledger.nextOrder := rfl
@[simp] theorem modJob_ledger_nextAct (s : State) (i : Fin 64) (f : Job → Job) : (modJob s i f).ledger.nextAct = s.ledger.nextAct := rfl
@[simp] theorem modJob_pdo (s : State) (i : Fin 64) (f : Job → Job) : (modJob s i f).pdo = s.pdo := rfl
@[simp] theorem modJob_rm (s : State) (i : Fin 64) (f : Job → Job) : (modJob s i f).rm = s.rm := rfl
@[simp] theorem modJob_tl (s : State) (i : Fin 64) (f : Job → Job) : (modJob s i f).tl = s.tl := rfl
@[simp] theorem modJob_sn (s : State) (i : Fin 64) (f : Job → Job) : (modJob s i f).sn = s.sn := rfl
@[simp] theorem modJob_turns (s : State) (i : Fin 64) (f : Job → Job) : (modJob s i f).turns = s.turns := rfl
@[simp] theorem modJob_free (s : State) (i : Fin 64) (f : Job → Job) : (modJob s i f).free = s.free := rfl
@[simp] theorem modJob_pending (s : State) (i : Fin 64) (f : Job → Job) : (modJob s i f).pending = s.pending := rfl

/-! `modCut` changes cut alone. -/

@[simp] theorem modCut_md (s : State) (f : CutSt → CutSt) : (modCut s f).md = s.md := rfl
@[simp] theorem modCut_tu (s : State) (f : CutSt → CutSt) : (modCut s f).tu = s.tu := rfl
@[simp] theorem modCut_msu (s : State) (f : CutSt → CutSt) : (modCut s f).msu = s.msu := rfl
@[simp] theorem modCut_heads (s : State) (f : CutSt → CutSt) : (modCut s f).heads = s.heads := rfl
@[simp] theorem modCut_en (s : State) (f : CutSt → CutSt) : (modCut s f).en = s.en := rfl
@[simp] theorem modCut_vl (s : State) (f : CutSt → CutSt) : (modCut s f).vl = s.vl := rfl
@[simp] theorem modCut_rb (s : State) (f : CutSt → CutSt) : (modCut s f).rb = s.rb := rfl
@[simp] theorem modCut_media (s : State) (f : CutSt → CutSt) : (modCut s f).media = s.media := rfl
@[simp] theorem modCut_opts (s : State) (f : CutSt → CutSt) : (modCut s f).opts = s.opts := rfl
@[simp] theorem modCut_supply (s : State) (f : CutSt → CutSt) : (modCut s f).supply = s.supply := rfl
@[simp] theorem modCut_govs (s : State) (f : CutSt → CutSt) : (modCut s f).govs = s.govs := rfl
@[simp] theorem modCut_cut (s : State) (f : CutSt → CutSt) : (modCut s f).cut = f s.cut := rfl
@[simp] theorem modCut_axes (s : State) (f : CutSt → CutSt) : (modCut s f).axes = s.axes := rfl
@[simp] theorem modCut_img (s : State) (f : CutSt → CutSt) : (modCut s f).img = s.img := rfl
@[simp] theorem modCut_sols (s : State) (f : CutSt → CutSt) : (modCut s f).sols = s.sols := rfl
@[simp] theorem modCut_banks (s : State) (f : CutSt → CutSt) : (modCut s f).banks = s.banks := rfl
@[simp] theorem modCut_boost (s : State) (f : CutSt → CutSt) : (modCut s f).boost = s.boost := rfl
@[simp] theorem modCut_tg (s : State) (f : CutSt → CutSt) : (modCut s f).tg = s.tg := rfl
@[simp] theorem modCut_se (s : State) (f : CutSt → CutSt) : (modCut s f).se = s.se := rfl
@[simp] theorem modCut_usb (s : State) (f : CutSt → CutSt) : (modCut s f).usb = s.usb := rfl
@[simp] theorem modCut_cb (s : State) (f : CutSt → CutSt) : (modCut s f).cb = s.cb := rfl
@[simp] theorem modCut_net (s : State) (f : CutSt → CutSt) : (modCut s f).net = s.net := rfl
@[simp] theorem modCut_uarts (s : State) (f : CutSt → CutSt) : (modCut s f).uarts = s.uarts := rfl
@[simp] theorem modCut_pw (s : State) (f : CutSt → CutSt) : (modCut s f).pw = s.pw := rfl
@[simp] theorem modCut_boot (s : State) (f : CutSt → CutSt) : (modCut s f).boot = s.boot := rfl
@[simp] theorem modCut_app (s : State) (f : CutSt → CutSt) : (modCut s f).app = s.app := rfl
@[simp] theorem modCut_ctl (s : State) (f : CutSt → CutSt) : (modCut s f).ctl = s.ctl := rfl
@[simp] theorem modCut_ledger (s : State) (f : CutSt → CutSt) : (modCut s f).ledger = s.ledger := rfl
@[simp] theorem modCut_pdo (s : State) (f : CutSt → CutSt) : (modCut s f).pdo = s.pdo := rfl
@[simp] theorem modCut_rm (s : State) (f : CutSt → CutSt) : (modCut s f).rm = s.rm := rfl
@[simp] theorem modCut_tl (s : State) (f : CutSt → CutSt) : (modCut s f).tl = s.tl := rfl
@[simp] theorem modCut_sn (s : State) (f : CutSt → CutSt) : (modCut s f).sn = s.sn := rfl
@[simp] theorem modCut_turns (s : State) (f : CutSt → CutSt) : (modCut s f).turns = s.turns := rfl
@[simp] theorem modCut_free (s : State) (f : CutSt → CutSt) : (modCut s f).free = s.free := rfl
@[simp] theorem modCut_pending (s : State) (f : CutSt → CutSt) : (modCut s f).pending = s.pending := rfl

/-! `modMedia` changes media alone. -/

@[simp] theorem modMedia_md (s : State) (f : MediaSt → MediaSt) : (modMedia s f).md = s.md := rfl
@[simp] theorem modMedia_tu (s : State) (f : MediaSt → MediaSt) : (modMedia s f).tu = s.tu := rfl
@[simp] theorem modMedia_msu (s : State) (f : MediaSt → MediaSt) : (modMedia s f).msu = s.msu := rfl
@[simp] theorem modMedia_heads (s : State) (f : MediaSt → MediaSt) : (modMedia s f).heads = s.heads := rfl
@[simp] theorem modMedia_en (s : State) (f : MediaSt → MediaSt) : (modMedia s f).en = s.en := rfl
@[simp] theorem modMedia_vl (s : State) (f : MediaSt → MediaSt) : (modMedia s f).vl = s.vl := rfl
@[simp] theorem modMedia_rb (s : State) (f : MediaSt → MediaSt) : (modMedia s f).rb = s.rb := rfl
@[simp] theorem modMedia_media (s : State) (f : MediaSt → MediaSt) : (modMedia s f).media = f s.media := rfl
@[simp] theorem modMedia_opts (s : State) (f : MediaSt → MediaSt) : (modMedia s f).opts = s.opts := rfl
@[simp] theorem modMedia_supply (s : State) (f : MediaSt → MediaSt) : (modMedia s f).supply = s.supply := rfl
@[simp] theorem modMedia_govs (s : State) (f : MediaSt → MediaSt) : (modMedia s f).govs = s.govs := rfl
@[simp] theorem modMedia_cut (s : State) (f : MediaSt → MediaSt) : (modMedia s f).cut = s.cut := rfl
@[simp] theorem modMedia_axes (s : State) (f : MediaSt → MediaSt) : (modMedia s f).axes = s.axes := rfl
@[simp] theorem modMedia_img (s : State) (f : MediaSt → MediaSt) : (modMedia s f).img = s.img := rfl
@[simp] theorem modMedia_sols (s : State) (f : MediaSt → MediaSt) : (modMedia s f).sols = s.sols := rfl
@[simp] theorem modMedia_banks (s : State) (f : MediaSt → MediaSt) : (modMedia s f).banks = s.banks := rfl
@[simp] theorem modMedia_boost (s : State) (f : MediaSt → MediaSt) : (modMedia s f).boost = s.boost := rfl
@[simp] theorem modMedia_tg (s : State) (f : MediaSt → MediaSt) : (modMedia s f).tg = s.tg := rfl
@[simp] theorem modMedia_se (s : State) (f : MediaSt → MediaSt) : (modMedia s f).se = s.se := rfl
@[simp] theorem modMedia_usb (s : State) (f : MediaSt → MediaSt) : (modMedia s f).usb = s.usb := rfl
@[simp] theorem modMedia_cb (s : State) (f : MediaSt → MediaSt) : (modMedia s f).cb = s.cb := rfl
@[simp] theorem modMedia_net (s : State) (f : MediaSt → MediaSt) : (modMedia s f).net = s.net := rfl
@[simp] theorem modMedia_uarts (s : State) (f : MediaSt → MediaSt) : (modMedia s f).uarts = s.uarts := rfl
@[simp] theorem modMedia_pw (s : State) (f : MediaSt → MediaSt) : (modMedia s f).pw = s.pw := rfl
@[simp] theorem modMedia_boot (s : State) (f : MediaSt → MediaSt) : (modMedia s f).boot = s.boot := rfl
@[simp] theorem modMedia_app (s : State) (f : MediaSt → MediaSt) : (modMedia s f).app = s.app := rfl
@[simp] theorem modMedia_ctl (s : State) (f : MediaSt → MediaSt) : (modMedia s f).ctl = s.ctl := rfl
@[simp] theorem modMedia_ledger (s : State) (f : MediaSt → MediaSt) : (modMedia s f).ledger = s.ledger := rfl
@[simp] theorem modMedia_pdo (s : State) (f : MediaSt → MediaSt) : (modMedia s f).pdo = s.pdo := rfl
@[simp] theorem modMedia_rm (s : State) (f : MediaSt → MediaSt) : (modMedia s f).rm = s.rm := rfl
@[simp] theorem modMedia_tl (s : State) (f : MediaSt → MediaSt) : (modMedia s f).tl = s.tl := rfl
@[simp] theorem modMedia_sn (s : State) (f : MediaSt → MediaSt) : (modMedia s f).sn = s.sn := rfl
@[simp] theorem modMedia_turns (s : State) (f : MediaSt → MediaSt) : (modMedia s f).turns = s.turns := rfl
@[simp] theorem modMedia_free (s : State) (f : MediaSt → MediaSt) : (modMedia s f).free = s.free := rfl
@[simp] theorem modMedia_pending (s : State) (f : MediaSt → MediaSt) : (modMedia s f).pending = s.pending := rfl

/-! `modMd` changes md alone. -/

@[simp] theorem modMd_md (s : State) (f : ModeSt → ModeSt) : (modMd s f).md = f s.md := rfl
@[simp] theorem modMd_tu (s : State) (f : ModeSt → ModeSt) : (modMd s f).tu = s.tu := rfl
@[simp] theorem modMd_msu (s : State) (f : ModeSt → ModeSt) : (modMd s f).msu = s.msu := rfl
@[simp] theorem modMd_heads (s : State) (f : ModeSt → ModeSt) : (modMd s f).heads = s.heads := rfl
@[simp] theorem modMd_en (s : State) (f : ModeSt → ModeSt) : (modMd s f).en = s.en := rfl
@[simp] theorem modMd_vl (s : State) (f : ModeSt → ModeSt) : (modMd s f).vl = s.vl := rfl
@[simp] theorem modMd_rb (s : State) (f : ModeSt → ModeSt) : (modMd s f).rb = s.rb := rfl
@[simp] theorem modMd_media (s : State) (f : ModeSt → ModeSt) : (modMd s f).media = s.media := rfl
@[simp] theorem modMd_opts (s : State) (f : ModeSt → ModeSt) : (modMd s f).opts = s.opts := rfl
@[simp] theorem modMd_supply (s : State) (f : ModeSt → ModeSt) : (modMd s f).supply = s.supply := rfl
@[simp] theorem modMd_govs (s : State) (f : ModeSt → ModeSt) : (modMd s f).govs = s.govs := rfl
@[simp] theorem modMd_cut (s : State) (f : ModeSt → ModeSt) : (modMd s f).cut = s.cut := rfl
@[simp] theorem modMd_axes (s : State) (f : ModeSt → ModeSt) : (modMd s f).axes = s.axes := rfl
@[simp] theorem modMd_img (s : State) (f : ModeSt → ModeSt) : (modMd s f).img = s.img := rfl
@[simp] theorem modMd_sols (s : State) (f : ModeSt → ModeSt) : (modMd s f).sols = s.sols := rfl
@[simp] theorem modMd_banks (s : State) (f : ModeSt → ModeSt) : (modMd s f).banks = s.banks := rfl
@[simp] theorem modMd_boost (s : State) (f : ModeSt → ModeSt) : (modMd s f).boost = s.boost := rfl
@[simp] theorem modMd_tg (s : State) (f : ModeSt → ModeSt) : (modMd s f).tg = s.tg := rfl
@[simp] theorem modMd_se (s : State) (f : ModeSt → ModeSt) : (modMd s f).se = s.se := rfl
@[simp] theorem modMd_usb (s : State) (f : ModeSt → ModeSt) : (modMd s f).usb = s.usb := rfl
@[simp] theorem modMd_cb (s : State) (f : ModeSt → ModeSt) : (modMd s f).cb = s.cb := rfl
@[simp] theorem modMd_net (s : State) (f : ModeSt → ModeSt) : (modMd s f).net = s.net := rfl
@[simp] theorem modMd_uarts (s : State) (f : ModeSt → ModeSt) : (modMd s f).uarts = s.uarts := rfl
@[simp] theorem modMd_pw (s : State) (f : ModeSt → ModeSt) : (modMd s f).pw = s.pw := rfl
@[simp] theorem modMd_boot (s : State) (f : ModeSt → ModeSt) : (modMd s f).boot = s.boot := rfl
@[simp] theorem modMd_app (s : State) (f : ModeSt → ModeSt) : (modMd s f).app = s.app := rfl
@[simp] theorem modMd_ctl (s : State) (f : ModeSt → ModeSt) : (modMd s f).ctl = s.ctl := rfl
@[simp] theorem modMd_ledger (s : State) (f : ModeSt → ModeSt) : (modMd s f).ledger = s.ledger := rfl
@[simp] theorem modMd_pdo (s : State) (f : ModeSt → ModeSt) : (modMd s f).pdo = s.pdo := rfl
@[simp] theorem modMd_rm (s : State) (f : ModeSt → ModeSt) : (modMd s f).rm = s.rm := rfl
@[simp] theorem modMd_tl (s : State) (f : ModeSt → ModeSt) : (modMd s f).tl = s.tl := rfl
@[simp] theorem modMd_sn (s : State) (f : ModeSt → ModeSt) : (modMd s f).sn = s.sn := rfl
@[simp] theorem modMd_turns (s : State) (f : ModeSt → ModeSt) : (modMd s f).turns = s.turns := rfl
@[simp] theorem modMd_free (s : State) (f : ModeSt → ModeSt) : (modMd s f).free = s.free := rfl
@[simp] theorem modMd_pending (s : State) (f : ModeSt → ModeSt) : (modMd s f).pending = s.pending := rfl

/-! `modPw` changes pw alone. -/

@[simp] theorem modPw_md (s : State) (f : PwSt → PwSt) : (modPw s f).md = s.md := rfl
@[simp] theorem modPw_tu (s : State) (f : PwSt → PwSt) : (modPw s f).tu = s.tu := rfl
@[simp] theorem modPw_msu (s : State) (f : PwSt → PwSt) : (modPw s f).msu = s.msu := rfl
@[simp] theorem modPw_heads (s : State) (f : PwSt → PwSt) : (modPw s f).heads = s.heads := rfl
@[simp] theorem modPw_en (s : State) (f : PwSt → PwSt) : (modPw s f).en = s.en := rfl
@[simp] theorem modPw_vl (s : State) (f : PwSt → PwSt) : (modPw s f).vl = s.vl := rfl
@[simp] theorem modPw_rb (s : State) (f : PwSt → PwSt) : (modPw s f).rb = s.rb := rfl
@[simp] theorem modPw_media (s : State) (f : PwSt → PwSt) : (modPw s f).media = s.media := rfl
@[simp] theorem modPw_opts (s : State) (f : PwSt → PwSt) : (modPw s f).opts = s.opts := rfl
@[simp] theorem modPw_supply (s : State) (f : PwSt → PwSt) : (modPw s f).supply = s.supply := rfl
@[simp] theorem modPw_govs (s : State) (f : PwSt → PwSt) : (modPw s f).govs = s.govs := rfl
@[simp] theorem modPw_cut (s : State) (f : PwSt → PwSt) : (modPw s f).cut = s.cut := rfl
@[simp] theorem modPw_axes (s : State) (f : PwSt → PwSt) : (modPw s f).axes = s.axes := rfl
@[simp] theorem modPw_img (s : State) (f : PwSt → PwSt) : (modPw s f).img = s.img := rfl
@[simp] theorem modPw_sols (s : State) (f : PwSt → PwSt) : (modPw s f).sols = s.sols := rfl
@[simp] theorem modPw_banks (s : State) (f : PwSt → PwSt) : (modPw s f).banks = s.banks := rfl
@[simp] theorem modPw_boost (s : State) (f : PwSt → PwSt) : (modPw s f).boost = s.boost := rfl
@[simp] theorem modPw_tg (s : State) (f : PwSt → PwSt) : (modPw s f).tg = s.tg := rfl
@[simp] theorem modPw_se (s : State) (f : PwSt → PwSt) : (modPw s f).se = s.se := rfl
@[simp] theorem modPw_usb (s : State) (f : PwSt → PwSt) : (modPw s f).usb = s.usb := rfl
@[simp] theorem modPw_cb (s : State) (f : PwSt → PwSt) : (modPw s f).cb = s.cb := rfl
@[simp] theorem modPw_net (s : State) (f : PwSt → PwSt) : (modPw s f).net = s.net := rfl
@[simp] theorem modPw_uarts (s : State) (f : PwSt → PwSt) : (modPw s f).uarts = s.uarts := rfl
@[simp] theorem modPw_pw (s : State) (f : PwSt → PwSt) : (modPw s f).pw = f s.pw := rfl
@[simp] theorem modPw_boot (s : State) (f : PwSt → PwSt) : (modPw s f).boot = s.boot := rfl
@[simp] theorem modPw_app (s : State) (f : PwSt → PwSt) : (modPw s f).app = s.app := rfl
@[simp] theorem modPw_ctl (s : State) (f : PwSt → PwSt) : (modPw s f).ctl = s.ctl := rfl
@[simp] theorem modPw_ledger (s : State) (f : PwSt → PwSt) : (modPw s f).ledger = s.ledger := rfl
@[simp] theorem modPw_pdo (s : State) (f : PwSt → PwSt) : (modPw s f).pdo = s.pdo := rfl
@[simp] theorem modPw_rm (s : State) (f : PwSt → PwSt) : (modPw s f).rm = s.rm := rfl
@[simp] theorem modPw_tl (s : State) (f : PwSt → PwSt) : (modPw s f).tl = s.tl := rfl
@[simp] theorem modPw_sn (s : State) (f : PwSt → PwSt) : (modPw s f).sn = s.sn := rfl
@[simp] theorem modPw_turns (s : State) (f : PwSt → PwSt) : (modPw s f).turns = s.turns := rfl
@[simp] theorem modPw_free (s : State) (f : PwSt → PwSt) : (modPw s f).free = s.free := rfl
@[simp] theorem modPw_pending (s : State) (f : PwSt → PwSt) : (modPw s f).pending = s.pending := rfl

/-! `modSn` changes sn alone. -/

@[simp] theorem modSn_md (s : State) (f : SnSt → SnSt) : (modSn s f).md = s.md := rfl
@[simp] theorem modSn_tu (s : State) (f : SnSt → SnSt) : (modSn s f).tu = s.tu := rfl
@[simp] theorem modSn_msu (s : State) (f : SnSt → SnSt) : (modSn s f).msu = s.msu := rfl
@[simp] theorem modSn_heads (s : State) (f : SnSt → SnSt) : (modSn s f).heads = s.heads := rfl
@[simp] theorem modSn_en (s : State) (f : SnSt → SnSt) : (modSn s f).en = s.en := rfl
@[simp] theorem modSn_vl (s : State) (f : SnSt → SnSt) : (modSn s f).vl = s.vl := rfl
@[simp] theorem modSn_rb (s : State) (f : SnSt → SnSt) : (modSn s f).rb = s.rb := rfl
@[simp] theorem modSn_media (s : State) (f : SnSt → SnSt) : (modSn s f).media = s.media := rfl
@[simp] theorem modSn_opts (s : State) (f : SnSt → SnSt) : (modSn s f).opts = s.opts := rfl
@[simp] theorem modSn_supply (s : State) (f : SnSt → SnSt) : (modSn s f).supply = s.supply := rfl
@[simp] theorem modSn_govs (s : State) (f : SnSt → SnSt) : (modSn s f).govs = s.govs := rfl
@[simp] theorem modSn_cut (s : State) (f : SnSt → SnSt) : (modSn s f).cut = s.cut := rfl
@[simp] theorem modSn_axes (s : State) (f : SnSt → SnSt) : (modSn s f).axes = s.axes := rfl
@[simp] theorem modSn_img (s : State) (f : SnSt → SnSt) : (modSn s f).img = s.img := rfl
@[simp] theorem modSn_sols (s : State) (f : SnSt → SnSt) : (modSn s f).sols = s.sols := rfl
@[simp] theorem modSn_banks (s : State) (f : SnSt → SnSt) : (modSn s f).banks = s.banks := rfl
@[simp] theorem modSn_boost (s : State) (f : SnSt → SnSt) : (modSn s f).boost = s.boost := rfl
@[simp] theorem modSn_tg (s : State) (f : SnSt → SnSt) : (modSn s f).tg = s.tg := rfl
@[simp] theorem modSn_se (s : State) (f : SnSt → SnSt) : (modSn s f).se = s.se := rfl
@[simp] theorem modSn_usb (s : State) (f : SnSt → SnSt) : (modSn s f).usb = s.usb := rfl
@[simp] theorem modSn_cb (s : State) (f : SnSt → SnSt) : (modSn s f).cb = s.cb := rfl
@[simp] theorem modSn_net (s : State) (f : SnSt → SnSt) : (modSn s f).net = s.net := rfl
@[simp] theorem modSn_uarts (s : State) (f : SnSt → SnSt) : (modSn s f).uarts = s.uarts := rfl
@[simp] theorem modSn_pw (s : State) (f : SnSt → SnSt) : (modSn s f).pw = s.pw := rfl
@[simp] theorem modSn_boot (s : State) (f : SnSt → SnSt) : (modSn s f).boot = s.boot := rfl
@[simp] theorem modSn_app (s : State) (f : SnSt → SnSt) : (modSn s f).app = s.app := rfl
@[simp] theorem modSn_ctl (s : State) (f : SnSt → SnSt) : (modSn s f).ctl = s.ctl := rfl
@[simp] theorem modSn_ledger (s : State) (f : SnSt → SnSt) : (modSn s f).ledger = s.ledger := rfl
@[simp] theorem modSn_pdo (s : State) (f : SnSt → SnSt) : (modSn s f).pdo = s.pdo := rfl
@[simp] theorem modSn_rm (s : State) (f : SnSt → SnSt) : (modSn s f).rm = s.rm := rfl
@[simp] theorem modSn_tl (s : State) (f : SnSt → SnSt) : (modSn s f).tl = s.tl := rfl
@[simp] theorem modSn_sn (s : State) (f : SnSt → SnSt) : (modSn s f).sn = f s.sn := rfl
@[simp] theorem modSn_turns (s : State) (f : SnSt → SnSt) : (modSn s f).turns = s.turns := rfl
@[simp] theorem modSn_free (s : State) (f : SnSt → SnSt) : (modSn s f).free = s.free := rfl
@[simp] theorem modSn_pending (s : State) (f : SnSt → SnSt) : (modSn s f).pending = s.pending := rfl

/-! `modRm` changes rm alone. -/

@[simp] theorem modRm_md (s : State) (f : RmSt → RmSt) : (modRm s f).md = s.md := rfl
@[simp] theorem modRm_tu (s : State) (f : RmSt → RmSt) : (modRm s f).tu = s.tu := rfl
@[simp] theorem modRm_msu (s : State) (f : RmSt → RmSt) : (modRm s f).msu = s.msu := rfl
@[simp] theorem modRm_heads (s : State) (f : RmSt → RmSt) : (modRm s f).heads = s.heads := rfl
@[simp] theorem modRm_en (s : State) (f : RmSt → RmSt) : (modRm s f).en = s.en := rfl
@[simp] theorem modRm_vl (s : State) (f : RmSt → RmSt) : (modRm s f).vl = s.vl := rfl
@[simp] theorem modRm_rb (s : State) (f : RmSt → RmSt) : (modRm s f).rb = s.rb := rfl
@[simp] theorem modRm_media (s : State) (f : RmSt → RmSt) : (modRm s f).media = s.media := rfl
@[simp] theorem modRm_opts (s : State) (f : RmSt → RmSt) : (modRm s f).opts = s.opts := rfl
@[simp] theorem modRm_supply (s : State) (f : RmSt → RmSt) : (modRm s f).supply = s.supply := rfl
@[simp] theorem modRm_govs (s : State) (f : RmSt → RmSt) : (modRm s f).govs = s.govs := rfl
@[simp] theorem modRm_cut (s : State) (f : RmSt → RmSt) : (modRm s f).cut = s.cut := rfl
@[simp] theorem modRm_axes (s : State) (f : RmSt → RmSt) : (modRm s f).axes = s.axes := rfl
@[simp] theorem modRm_img (s : State) (f : RmSt → RmSt) : (modRm s f).img = s.img := rfl
@[simp] theorem modRm_sols (s : State) (f : RmSt → RmSt) : (modRm s f).sols = s.sols := rfl
@[simp] theorem modRm_banks (s : State) (f : RmSt → RmSt) : (modRm s f).banks = s.banks := rfl
@[simp] theorem modRm_boost (s : State) (f : RmSt → RmSt) : (modRm s f).boost = s.boost := rfl
@[simp] theorem modRm_tg (s : State) (f : RmSt → RmSt) : (modRm s f).tg = s.tg := rfl
@[simp] theorem modRm_se (s : State) (f : RmSt → RmSt) : (modRm s f).se = s.se := rfl
@[simp] theorem modRm_usb (s : State) (f : RmSt → RmSt) : (modRm s f).usb = s.usb := rfl
@[simp] theorem modRm_cb (s : State) (f : RmSt → RmSt) : (modRm s f).cb = s.cb := rfl
@[simp] theorem modRm_net (s : State) (f : RmSt → RmSt) : (modRm s f).net = s.net := rfl
@[simp] theorem modRm_uarts (s : State) (f : RmSt → RmSt) : (modRm s f).uarts = s.uarts := rfl
@[simp] theorem modRm_pw (s : State) (f : RmSt → RmSt) : (modRm s f).pw = s.pw := rfl
@[simp] theorem modRm_boot (s : State) (f : RmSt → RmSt) : (modRm s f).boot = s.boot := rfl
@[simp] theorem modRm_app (s : State) (f : RmSt → RmSt) : (modRm s f).app = s.app := rfl
@[simp] theorem modRm_ctl (s : State) (f : RmSt → RmSt) : (modRm s f).ctl = s.ctl := rfl
@[simp] theorem modRm_ledger (s : State) (f : RmSt → RmSt) : (modRm s f).ledger = s.ledger := rfl
@[simp] theorem modRm_pdo (s : State) (f : RmSt → RmSt) : (modRm s f).pdo = s.pdo := rfl
@[simp] theorem modRm_rm (s : State) (f : RmSt → RmSt) : (modRm s f).rm = f s.rm := rfl
@[simp] theorem modRm_tl (s : State) (f : RmSt → RmSt) : (modRm s f).tl = s.tl := rfl
@[simp] theorem modRm_sn (s : State) (f : RmSt → RmSt) : (modRm s f).sn = s.sn := rfl
@[simp] theorem modRm_turns (s : State) (f : RmSt → RmSt) : (modRm s f).turns = s.turns := rfl
@[simp] theorem modRm_free (s : State) (f : RmSt → RmSt) : (modRm s f).free = s.free := rfl
@[simp] theorem modRm_pending (s : State) (f : RmSt → RmSt) : (modRm s f).pending = s.pending := rfl

/-! `modBoot` changes boot alone. -/

@[simp] theorem modBoot_md (s : State) (f : BootSt → BootSt) : (modBoot s f).md = s.md := rfl
@[simp] theorem modBoot_tu (s : State) (f : BootSt → BootSt) : (modBoot s f).tu = s.tu := rfl
@[simp] theorem modBoot_msu (s : State) (f : BootSt → BootSt) : (modBoot s f).msu = s.msu := rfl
@[simp] theorem modBoot_heads (s : State) (f : BootSt → BootSt) : (modBoot s f).heads = s.heads := rfl
@[simp] theorem modBoot_en (s : State) (f : BootSt → BootSt) : (modBoot s f).en = s.en := rfl
@[simp] theorem modBoot_vl (s : State) (f : BootSt → BootSt) : (modBoot s f).vl = s.vl := rfl
@[simp] theorem modBoot_rb (s : State) (f : BootSt → BootSt) : (modBoot s f).rb = s.rb := rfl
@[simp] theorem modBoot_media (s : State) (f : BootSt → BootSt) : (modBoot s f).media = s.media := rfl
@[simp] theorem modBoot_opts (s : State) (f : BootSt → BootSt) : (modBoot s f).opts = s.opts := rfl
@[simp] theorem modBoot_supply (s : State) (f : BootSt → BootSt) : (modBoot s f).supply = s.supply := rfl
@[simp] theorem modBoot_govs (s : State) (f : BootSt → BootSt) : (modBoot s f).govs = s.govs := rfl
@[simp] theorem modBoot_cut (s : State) (f : BootSt → BootSt) : (modBoot s f).cut = s.cut := rfl
@[simp] theorem modBoot_axes (s : State) (f : BootSt → BootSt) : (modBoot s f).axes = s.axes := rfl
@[simp] theorem modBoot_img (s : State) (f : BootSt → BootSt) : (modBoot s f).img = s.img := rfl
@[simp] theorem modBoot_sols (s : State) (f : BootSt → BootSt) : (modBoot s f).sols = s.sols := rfl
@[simp] theorem modBoot_banks (s : State) (f : BootSt → BootSt) : (modBoot s f).banks = s.banks := rfl
@[simp] theorem modBoot_boost (s : State) (f : BootSt → BootSt) : (modBoot s f).boost = s.boost := rfl
@[simp] theorem modBoot_tg (s : State) (f : BootSt → BootSt) : (modBoot s f).tg = s.tg := rfl
@[simp] theorem modBoot_se (s : State) (f : BootSt → BootSt) : (modBoot s f).se = s.se := rfl
@[simp] theorem modBoot_usb (s : State) (f : BootSt → BootSt) : (modBoot s f).usb = s.usb := rfl
@[simp] theorem modBoot_cb (s : State) (f : BootSt → BootSt) : (modBoot s f).cb = s.cb := rfl
@[simp] theorem modBoot_net (s : State) (f : BootSt → BootSt) : (modBoot s f).net = s.net := rfl
@[simp] theorem modBoot_uarts (s : State) (f : BootSt → BootSt) : (modBoot s f).uarts = s.uarts := rfl
@[simp] theorem modBoot_pw (s : State) (f : BootSt → BootSt) : (modBoot s f).pw = s.pw := rfl
@[simp] theorem modBoot_boot (s : State) (f : BootSt → BootSt) : (modBoot s f).boot = f s.boot := rfl
@[simp] theorem modBoot_app (s : State) (f : BootSt → BootSt) : (modBoot s f).app = s.app := rfl
@[simp] theorem modBoot_ctl (s : State) (f : BootSt → BootSt) : (modBoot s f).ctl = s.ctl := rfl
@[simp] theorem modBoot_ledger (s : State) (f : BootSt → BootSt) : (modBoot s f).ledger = s.ledger := rfl
@[simp] theorem modBoot_pdo (s : State) (f : BootSt → BootSt) : (modBoot s f).pdo = s.pdo := rfl
@[simp] theorem modBoot_rm (s : State) (f : BootSt → BootSt) : (modBoot s f).rm = s.rm := rfl
@[simp] theorem modBoot_tl (s : State) (f : BootSt → BootSt) : (modBoot s f).tl = s.tl := rfl
@[simp] theorem modBoot_sn (s : State) (f : BootSt → BootSt) : (modBoot s f).sn = s.sn := rfl
@[simp] theorem modBoot_turns (s : State) (f : BootSt → BootSt) : (modBoot s f).turns = s.turns := rfl
@[simp] theorem modBoot_free (s : State) (f : BootSt → BootSt) : (modBoot s f).free = s.free := rfl
@[simp] theorem modBoot_pending (s : State) (f : BootSt → BootSt) : (modBoot s f).pending = s.pending := rfl

/-! `modApp` changes app alone. -/

@[simp] theorem modApp_md (s : State) (f : AppSt → AppSt) : (modApp s f).md = s.md := rfl
@[simp] theorem modApp_tu (s : State) (f : AppSt → AppSt) : (modApp s f).tu = s.tu := rfl
@[simp] theorem modApp_msu (s : State) (f : AppSt → AppSt) : (modApp s f).msu = s.msu := rfl
@[simp] theorem modApp_heads (s : State) (f : AppSt → AppSt) : (modApp s f).heads = s.heads := rfl
@[simp] theorem modApp_en (s : State) (f : AppSt → AppSt) : (modApp s f).en = s.en := rfl
@[simp] theorem modApp_vl (s : State) (f : AppSt → AppSt) : (modApp s f).vl = s.vl := rfl
@[simp] theorem modApp_rb (s : State) (f : AppSt → AppSt) : (modApp s f).rb = s.rb := rfl
@[simp] theorem modApp_media (s : State) (f : AppSt → AppSt) : (modApp s f).media = s.media := rfl
@[simp] theorem modApp_opts (s : State) (f : AppSt → AppSt) : (modApp s f).opts = s.opts := rfl
@[simp] theorem modApp_supply (s : State) (f : AppSt → AppSt) : (modApp s f).supply = s.supply := rfl
@[simp] theorem modApp_govs (s : State) (f : AppSt → AppSt) : (modApp s f).govs = s.govs := rfl
@[simp] theorem modApp_cut (s : State) (f : AppSt → AppSt) : (modApp s f).cut = s.cut := rfl
@[simp] theorem modApp_axes (s : State) (f : AppSt → AppSt) : (modApp s f).axes = s.axes := rfl
@[simp] theorem modApp_img (s : State) (f : AppSt → AppSt) : (modApp s f).img = s.img := rfl
@[simp] theorem modApp_sols (s : State) (f : AppSt → AppSt) : (modApp s f).sols = s.sols := rfl
@[simp] theorem modApp_banks (s : State) (f : AppSt → AppSt) : (modApp s f).banks = s.banks := rfl
@[simp] theorem modApp_boost (s : State) (f : AppSt → AppSt) : (modApp s f).boost = s.boost := rfl
@[simp] theorem modApp_tg (s : State) (f : AppSt → AppSt) : (modApp s f).tg = s.tg := rfl
@[simp] theorem modApp_se (s : State) (f : AppSt → AppSt) : (modApp s f).se = s.se := rfl
@[simp] theorem modApp_usb (s : State) (f : AppSt → AppSt) : (modApp s f).usb = s.usb := rfl
@[simp] theorem modApp_cb (s : State) (f : AppSt → AppSt) : (modApp s f).cb = s.cb := rfl
@[simp] theorem modApp_net (s : State) (f : AppSt → AppSt) : (modApp s f).net = s.net := rfl
@[simp] theorem modApp_uarts (s : State) (f : AppSt → AppSt) : (modApp s f).uarts = s.uarts := rfl
@[simp] theorem modApp_pw (s : State) (f : AppSt → AppSt) : (modApp s f).pw = s.pw := rfl
@[simp] theorem modApp_boot (s : State) (f : AppSt → AppSt) : (modApp s f).boot = s.boot := rfl
@[simp] theorem modApp_app (s : State) (f : AppSt → AppSt) : (modApp s f).app = f s.app := rfl
@[simp] theorem modApp_ctl (s : State) (f : AppSt → AppSt) : (modApp s f).ctl = s.ctl := rfl
@[simp] theorem modApp_ledger (s : State) (f : AppSt → AppSt) : (modApp s f).ledger = s.ledger := rfl
@[simp] theorem modApp_pdo (s : State) (f : AppSt → AppSt) : (modApp s f).pdo = s.pdo := rfl
@[simp] theorem modApp_rm (s : State) (f : AppSt → AppSt) : (modApp s f).rm = s.rm := rfl
@[simp] theorem modApp_tl (s : State) (f : AppSt → AppSt) : (modApp s f).tl = s.tl := rfl
@[simp] theorem modApp_sn (s : State) (f : AppSt → AppSt) : (modApp s f).sn = s.sn := rfl
@[simp] theorem modApp_turns (s : State) (f : AppSt → AppSt) : (modApp s f).turns = s.turns := rfl
@[simp] theorem modApp_free (s : State) (f : AppSt → AppSt) : (modApp s f).free = s.free := rfl
@[simp] theorem modApp_pending (s : State) (f : AppSt → AppSt) : (modApp s f).pending = s.pending := rfl

/-! `modUsb` changes usb alone. -/

@[simp] theorem modUsb_md (s : State) (f : UsbSt → UsbSt) : (modUsb s f).md = s.md := rfl
@[simp] theorem modUsb_tu (s : State) (f : UsbSt → UsbSt) : (modUsb s f).tu = s.tu := rfl
@[simp] theorem modUsb_msu (s : State) (f : UsbSt → UsbSt) : (modUsb s f).msu = s.msu := rfl
@[simp] theorem modUsb_heads (s : State) (f : UsbSt → UsbSt) : (modUsb s f).heads = s.heads := rfl
@[simp] theorem modUsb_en (s : State) (f : UsbSt → UsbSt) : (modUsb s f).en = s.en := rfl
@[simp] theorem modUsb_vl (s : State) (f : UsbSt → UsbSt) : (modUsb s f).vl = s.vl := rfl
@[simp] theorem modUsb_rb (s : State) (f : UsbSt → UsbSt) : (modUsb s f).rb = s.rb := rfl
@[simp] theorem modUsb_media (s : State) (f : UsbSt → UsbSt) : (modUsb s f).media = s.media := rfl
@[simp] theorem modUsb_opts (s : State) (f : UsbSt → UsbSt) : (modUsb s f).opts = s.opts := rfl
@[simp] theorem modUsb_supply (s : State) (f : UsbSt → UsbSt) : (modUsb s f).supply = s.supply := rfl
@[simp] theorem modUsb_govs (s : State) (f : UsbSt → UsbSt) : (modUsb s f).govs = s.govs := rfl
@[simp] theorem modUsb_cut (s : State) (f : UsbSt → UsbSt) : (modUsb s f).cut = s.cut := rfl
@[simp] theorem modUsb_axes (s : State) (f : UsbSt → UsbSt) : (modUsb s f).axes = s.axes := rfl
@[simp] theorem modUsb_img (s : State) (f : UsbSt → UsbSt) : (modUsb s f).img = s.img := rfl
@[simp] theorem modUsb_sols (s : State) (f : UsbSt → UsbSt) : (modUsb s f).sols = s.sols := rfl
@[simp] theorem modUsb_banks (s : State) (f : UsbSt → UsbSt) : (modUsb s f).banks = s.banks := rfl
@[simp] theorem modUsb_boost (s : State) (f : UsbSt → UsbSt) : (modUsb s f).boost = s.boost := rfl
@[simp] theorem modUsb_tg (s : State) (f : UsbSt → UsbSt) : (modUsb s f).tg = s.tg := rfl
@[simp] theorem modUsb_se (s : State) (f : UsbSt → UsbSt) : (modUsb s f).se = s.se := rfl
@[simp] theorem modUsb_usb (s : State) (f : UsbSt → UsbSt) : (modUsb s f).usb = f s.usb := rfl
@[simp] theorem modUsb_cb (s : State) (f : UsbSt → UsbSt) : (modUsb s f).cb = s.cb := rfl
@[simp] theorem modUsb_net (s : State) (f : UsbSt → UsbSt) : (modUsb s f).net = s.net := rfl
@[simp] theorem modUsb_uarts (s : State) (f : UsbSt → UsbSt) : (modUsb s f).uarts = s.uarts := rfl
@[simp] theorem modUsb_pw (s : State) (f : UsbSt → UsbSt) : (modUsb s f).pw = s.pw := rfl
@[simp] theorem modUsb_boot (s : State) (f : UsbSt → UsbSt) : (modUsb s f).boot = s.boot := rfl
@[simp] theorem modUsb_app (s : State) (f : UsbSt → UsbSt) : (modUsb s f).app = s.app := rfl
@[simp] theorem modUsb_ctl (s : State) (f : UsbSt → UsbSt) : (modUsb s f).ctl = s.ctl := rfl
@[simp] theorem modUsb_ledger (s : State) (f : UsbSt → UsbSt) : (modUsb s f).ledger = s.ledger := rfl
@[simp] theorem modUsb_pdo (s : State) (f : UsbSt → UsbSt) : (modUsb s f).pdo = s.pdo := rfl
@[simp] theorem modUsb_rm (s : State) (f : UsbSt → UsbSt) : (modUsb s f).rm = s.rm := rfl
@[simp] theorem modUsb_tl (s : State) (f : UsbSt → UsbSt) : (modUsb s f).tl = s.tl := rfl
@[simp] theorem modUsb_sn (s : State) (f : UsbSt → UsbSt) : (modUsb s f).sn = s.sn := rfl
@[simp] theorem modUsb_turns (s : State) (f : UsbSt → UsbSt) : (modUsb s f).turns = s.turns := rfl
@[simp] theorem modUsb_free (s : State) (f : UsbSt → UsbSt) : (modUsb s f).free = s.free := rfl
@[simp] theorem modUsb_pending (s : State) (f : UsbSt → UsbSt) : (modUsb s f).pending = s.pending := rfl

/-! `modCb` changes cb alone. -/

@[simp] theorem modCb_md (s : State) (f : CbSt → CbSt) : (modCb s f).md = s.md := rfl
@[simp] theorem modCb_tu (s : State) (f : CbSt → CbSt) : (modCb s f).tu = s.tu := rfl
@[simp] theorem modCb_msu (s : State) (f : CbSt → CbSt) : (modCb s f).msu = s.msu := rfl
@[simp] theorem modCb_heads (s : State) (f : CbSt → CbSt) : (modCb s f).heads = s.heads := rfl
@[simp] theorem modCb_en (s : State) (f : CbSt → CbSt) : (modCb s f).en = s.en := rfl
@[simp] theorem modCb_vl (s : State) (f : CbSt → CbSt) : (modCb s f).vl = s.vl := rfl
@[simp] theorem modCb_rb (s : State) (f : CbSt → CbSt) : (modCb s f).rb = s.rb := rfl
@[simp] theorem modCb_media (s : State) (f : CbSt → CbSt) : (modCb s f).media = s.media := rfl
@[simp] theorem modCb_opts (s : State) (f : CbSt → CbSt) : (modCb s f).opts = s.opts := rfl
@[simp] theorem modCb_supply (s : State) (f : CbSt → CbSt) : (modCb s f).supply = s.supply := rfl
@[simp] theorem modCb_govs (s : State) (f : CbSt → CbSt) : (modCb s f).govs = s.govs := rfl
@[simp] theorem modCb_cut (s : State) (f : CbSt → CbSt) : (modCb s f).cut = s.cut := rfl
@[simp] theorem modCb_axes (s : State) (f : CbSt → CbSt) : (modCb s f).axes = s.axes := rfl
@[simp] theorem modCb_img (s : State) (f : CbSt → CbSt) : (modCb s f).img = s.img := rfl
@[simp] theorem modCb_sols (s : State) (f : CbSt → CbSt) : (modCb s f).sols = s.sols := rfl
@[simp] theorem modCb_banks (s : State) (f : CbSt → CbSt) : (modCb s f).banks = s.banks := rfl
@[simp] theorem modCb_boost (s : State) (f : CbSt → CbSt) : (modCb s f).boost = s.boost := rfl
@[simp] theorem modCb_tg (s : State) (f : CbSt → CbSt) : (modCb s f).tg = s.tg := rfl
@[simp] theorem modCb_se (s : State) (f : CbSt → CbSt) : (modCb s f).se = s.se := rfl
@[simp] theorem modCb_usb (s : State) (f : CbSt → CbSt) : (modCb s f).usb = s.usb := rfl
@[simp] theorem modCb_cb (s : State) (f : CbSt → CbSt) : (modCb s f).cb = f s.cb := rfl
@[simp] theorem modCb_net (s : State) (f : CbSt → CbSt) : (modCb s f).net = s.net := rfl
@[simp] theorem modCb_uarts (s : State) (f : CbSt → CbSt) : (modCb s f).uarts = s.uarts := rfl
@[simp] theorem modCb_pw (s : State) (f : CbSt → CbSt) : (modCb s f).pw = s.pw := rfl
@[simp] theorem modCb_boot (s : State) (f : CbSt → CbSt) : (modCb s f).boot = s.boot := rfl
@[simp] theorem modCb_app (s : State) (f : CbSt → CbSt) : (modCb s f).app = s.app := rfl
@[simp] theorem modCb_ctl (s : State) (f : CbSt → CbSt) : (modCb s f).ctl = s.ctl := rfl
@[simp] theorem modCb_ledger (s : State) (f : CbSt → CbSt) : (modCb s f).ledger = s.ledger := rfl
@[simp] theorem modCb_pdo (s : State) (f : CbSt → CbSt) : (modCb s f).pdo = s.pdo := rfl
@[simp] theorem modCb_rm (s : State) (f : CbSt → CbSt) : (modCb s f).rm = s.rm := rfl
@[simp] theorem modCb_tl (s : State) (f : CbSt → CbSt) : (modCb s f).tl = s.tl := rfl
@[simp] theorem modCb_sn (s : State) (f : CbSt → CbSt) : (modCb s f).sn = s.sn := rfl
@[simp] theorem modCb_turns (s : State) (f : CbSt → CbSt) : (modCb s f).turns = s.turns := rfl
@[simp] theorem modCb_free (s : State) (f : CbSt → CbSt) : (modCb s f).free = s.free := rfl
@[simp] theorem modCb_pending (s : State) (f : CbSt → CbSt) : (modCb s f).pending = s.pending := rfl

/-! `modNet` changes net alone. -/

@[simp] theorem modNet_md (s : State) (f : NetSt → NetSt) : (modNet s f).md = s.md := rfl
@[simp] theorem modNet_tu (s : State) (f : NetSt → NetSt) : (modNet s f).tu = s.tu := rfl
@[simp] theorem modNet_msu (s : State) (f : NetSt → NetSt) : (modNet s f).msu = s.msu := rfl
@[simp] theorem modNet_heads (s : State) (f : NetSt → NetSt) : (modNet s f).heads = s.heads := rfl
@[simp] theorem modNet_en (s : State) (f : NetSt → NetSt) : (modNet s f).en = s.en := rfl
@[simp] theorem modNet_vl (s : State) (f : NetSt → NetSt) : (modNet s f).vl = s.vl := rfl
@[simp] theorem modNet_rb (s : State) (f : NetSt → NetSt) : (modNet s f).rb = s.rb := rfl
@[simp] theorem modNet_media (s : State) (f : NetSt → NetSt) : (modNet s f).media = s.media := rfl
@[simp] theorem modNet_opts (s : State) (f : NetSt → NetSt) : (modNet s f).opts = s.opts := rfl
@[simp] theorem modNet_supply (s : State) (f : NetSt → NetSt) : (modNet s f).supply = s.supply := rfl
@[simp] theorem modNet_govs (s : State) (f : NetSt → NetSt) : (modNet s f).govs = s.govs := rfl
@[simp] theorem modNet_cut (s : State) (f : NetSt → NetSt) : (modNet s f).cut = s.cut := rfl
@[simp] theorem modNet_axes (s : State) (f : NetSt → NetSt) : (modNet s f).axes = s.axes := rfl
@[simp] theorem modNet_img (s : State) (f : NetSt → NetSt) : (modNet s f).img = s.img := rfl
@[simp] theorem modNet_sols (s : State) (f : NetSt → NetSt) : (modNet s f).sols = s.sols := rfl
@[simp] theorem modNet_banks (s : State) (f : NetSt → NetSt) : (modNet s f).banks = s.banks := rfl
@[simp] theorem modNet_boost (s : State) (f : NetSt → NetSt) : (modNet s f).boost = s.boost := rfl
@[simp] theorem modNet_tg (s : State) (f : NetSt → NetSt) : (modNet s f).tg = s.tg := rfl
@[simp] theorem modNet_se (s : State) (f : NetSt → NetSt) : (modNet s f).se = s.se := rfl
@[simp] theorem modNet_usb (s : State) (f : NetSt → NetSt) : (modNet s f).usb = s.usb := rfl
@[simp] theorem modNet_cb (s : State) (f : NetSt → NetSt) : (modNet s f).cb = s.cb := rfl
@[simp] theorem modNet_net (s : State) (f : NetSt → NetSt) : (modNet s f).net = f s.net := rfl
@[simp] theorem modNet_uarts (s : State) (f : NetSt → NetSt) : (modNet s f).uarts = s.uarts := rfl
@[simp] theorem modNet_pw (s : State) (f : NetSt → NetSt) : (modNet s f).pw = s.pw := rfl
@[simp] theorem modNet_boot (s : State) (f : NetSt → NetSt) : (modNet s f).boot = s.boot := rfl
@[simp] theorem modNet_app (s : State) (f : NetSt → NetSt) : (modNet s f).app = s.app := rfl
@[simp] theorem modNet_ctl (s : State) (f : NetSt → NetSt) : (modNet s f).ctl = s.ctl := rfl
@[simp] theorem modNet_ledger (s : State) (f : NetSt → NetSt) : (modNet s f).ledger = s.ledger := rfl
@[simp] theorem modNet_pdo (s : State) (f : NetSt → NetSt) : (modNet s f).pdo = s.pdo := rfl
@[simp] theorem modNet_rm (s : State) (f : NetSt → NetSt) : (modNet s f).rm = s.rm := rfl
@[simp] theorem modNet_tl (s : State) (f : NetSt → NetSt) : (modNet s f).tl = s.tl := rfl
@[simp] theorem modNet_sn (s : State) (f : NetSt → NetSt) : (modNet s f).sn = s.sn := rfl
@[simp] theorem modNet_turns (s : State) (f : NetSt → NetSt) : (modNet s f).turns = s.turns := rfl
@[simp] theorem modNet_free (s : State) (f : NetSt → NetSt) : (modNet s f).free = s.free := rfl
@[simp] theorem modNet_pending (s : State) (f : NetSt → NetSt) : (modNet s f).pending = s.pending := rfl

/-! `modLr` changes net.lr alone. -/

@[simp] theorem modLr_md (s : State) (f : LrSt → LrSt) : (modLr s f).md = s.md := rfl
@[simp] theorem modLr_tu (s : State) (f : LrSt → LrSt) : (modLr s f).tu = s.tu := rfl
@[simp] theorem modLr_msu (s : State) (f : LrSt → LrSt) : (modLr s f).msu = s.msu := rfl
@[simp] theorem modLr_heads (s : State) (f : LrSt → LrSt) : (modLr s f).heads = s.heads := rfl
@[simp] theorem modLr_en (s : State) (f : LrSt → LrSt) : (modLr s f).en = s.en := rfl
@[simp] theorem modLr_vl (s : State) (f : LrSt → LrSt) : (modLr s f).vl = s.vl := rfl
@[simp] theorem modLr_rb (s : State) (f : LrSt → LrSt) : (modLr s f).rb = s.rb := rfl
@[simp] theorem modLr_media (s : State) (f : LrSt → LrSt) : (modLr s f).media = s.media := rfl
@[simp] theorem modLr_opts (s : State) (f : LrSt → LrSt) : (modLr s f).opts = s.opts := rfl
@[simp] theorem modLr_supply (s : State) (f : LrSt → LrSt) : (modLr s f).supply = s.supply := rfl
@[simp] theorem modLr_govs (s : State) (f : LrSt → LrSt) : (modLr s f).govs = s.govs := rfl
@[simp] theorem modLr_cut (s : State) (f : LrSt → LrSt) : (modLr s f).cut = s.cut := rfl
@[simp] theorem modLr_axes (s : State) (f : LrSt → LrSt) : (modLr s f).axes = s.axes := rfl
@[simp] theorem modLr_img (s : State) (f : LrSt → LrSt) : (modLr s f).img = s.img := rfl
@[simp] theorem modLr_sols (s : State) (f : LrSt → LrSt) : (modLr s f).sols = s.sols := rfl
@[simp] theorem modLr_banks (s : State) (f : LrSt → LrSt) : (modLr s f).banks = s.banks := rfl
@[simp] theorem modLr_boost (s : State) (f : LrSt → LrSt) : (modLr s f).boost = s.boost := rfl
@[simp] theorem modLr_tg (s : State) (f : LrSt → LrSt) : (modLr s f).tg = s.tg := rfl
@[simp] theorem modLr_se (s : State) (f : LrSt → LrSt) : (modLr s f).se = s.se := rfl
@[simp] theorem modLr_usb (s : State) (f : LrSt → LrSt) : (modLr s f).usb = s.usb := rfl
@[simp] theorem modLr_cb (s : State) (f : LrSt → LrSt) : (modLr s f).cb = s.cb := rfl
@[simp] theorem modLr_net_nmt (s : State) (f : LrSt → LrSt) : (modLr s f).net.nmt = s.net.nmt := rfl
@[simp] theorem modLr_net_nodeAct (s : State) (f : LrSt → LrSt) : (modLr s f).net.nodeAct = s.net.nodeAct := rfl
@[simp] theorem modLr_net_nomAct (s : State) (f : LrSt → LrSt) : (modLr s f).net.nomAct = s.net.nomAct := rfl
@[simp] theorem modLr_net_dataAct (s : State) (f : LrSt → LrSt) : (modLr s f).net.dataAct = s.net.dataAct := rfl
@[simp] theorem modLr_net_busState (s : State) (f : LrSt → LrSt) : (modLr s f).net.busState = s.net.busState := rfl
@[simp] theorem modLr_net_tec (s : State) (f : LrSt → LrSt) : (modLr s f).net.tec = s.net.tec := rfl
@[simp] theorem modLr_net_rec_ (s : State) (f : LrSt → LrSt) : (modLr s f).net.rec_ = s.net.rec_ := rfl
@[simp] theorem modLr_net_busoffs (s : State) (f : LrSt → LrSt) : (modLr s f).net.busoffs = s.net.busoffs := rfl
@[simp] theorem modLr_net_rpdoRefused (s : State) (f : LrSt → LrSt) : (modLr s f).net.rpdoRefused = s.net.rpdoRefused := rfl
@[simp] theorem modLr_net_rpdoShort (s : State) (f : LrSt → LrSt) : (modLr s f).net.rpdoShort = s.net.rpdoShort := rfl
@[simp] theorem modLr_net_lastRefusal (s : State) (f : LrSt → LrSt) : (modLr s f).net.lastRefusal = s.net.lastRefusal := rfl
@[simp] theorem modLr_net_refRun (s : State) (f : LrSt → LrSt) : (modLr s f).net.refRun = s.net.refRun := rfl
@[simp] theorem modLr_net_emcySent (s : State) (f : LrSt → LrSt) : (modLr s f).net.emcySent = s.net.emcySent := rfl
@[simp] theorem modLr_net_emcyLost (s : State) (f : LrSt → LrSt) : (modLr s f).net.emcyLost = s.net.emcyLost := rfl
@[simp] theorem modLr_net_emcyRun (s : State) (f : LrSt → LrSt) : (modLr s f).net.emcyRun = s.net.emcyRun := rfl
@[simp] theorem modLr_net_emcyQ (s : State) (f : LrSt → LrSt) : (modLr s f).net.emcyQ = s.net.emcyQ := rfl
@[simp] theorem modLr_net_emcySt (s : State) (f : LrSt → LrSt) : (modLr s f).net.emcySt = s.net.emcySt := rfl
@[simp] theorem modLr_net_errReg (s : State) (f : LrSt → LrSt) : (modLr s f).net.errReg = s.net.errReg := rfl
@[simp] theorem modLr_net_hbSt (s : State) (f : LrSt → LrSt) : (modLr s f).net.hbSt = s.net.hbSt := rfl
@[simp] theorem modLr_net_hbTimeouts (s : State) (f : LrSt → LrSt) : (modLr s f).net.hbTimeouts = s.net.hbTimeouts := rfl
@[simp] theorem modLr_net_hb (s : State) (f : LrSt → LrSt) : (modLr s f).net.hb = s.net.hb := rfl
@[simp] theorem modLr_net_usdo (s : State) (f : LrSt → LrSt) : (modLr s f).net.usdo = s.net.usdo := rfl
@[simp] theorem modLr_net_reply (s : State) (f : LrSt → LrSt) : (modLr s f).net.reply = s.net.reply := rfl
@[simp] theorem modLr_net_usdoWait (s : State) (f : LrSt → LrSt) : (modLr s f).net.usdoWait = s.net.usdoWait := rfl
@[simp] theorem modLr_net_tx (s : State) (f : LrSt → LrSt) : (modLr s f).net.tx = s.net.tx := rfl
@[simp] theorem modLr_net_txSt (s : State) (f : LrSt → LrSt) : (modLr s f).net.txSt = s.net.txSt := rfl
@[simp] theorem modLr_net_lr (s : State) (f : LrSt → LrSt) : (modLr s f).net.lr = f s.net.lr := rfl
@[simp] theorem modLr_uarts (s : State) (f : LrSt → LrSt) : (modLr s f).uarts = s.uarts := rfl
@[simp] theorem modLr_pw (s : State) (f : LrSt → LrSt) : (modLr s f).pw = s.pw := rfl
@[simp] theorem modLr_boot (s : State) (f : LrSt → LrSt) : (modLr s f).boot = s.boot := rfl
@[simp] theorem modLr_app (s : State) (f : LrSt → LrSt) : (modLr s f).app = s.app := rfl
@[simp] theorem modLr_ctl (s : State) (f : LrSt → LrSt) : (modLr s f).ctl = s.ctl := rfl
@[simp] theorem modLr_ledger (s : State) (f : LrSt → LrSt) : (modLr s f).ledger = s.ledger := rfl
@[simp] theorem modLr_pdo (s : State) (f : LrSt → LrSt) : (modLr s f).pdo = s.pdo := rfl
@[simp] theorem modLr_rm (s : State) (f : LrSt → LrSt) : (modLr s f).rm = s.rm := rfl
@[simp] theorem modLr_tl (s : State) (f : LrSt → LrSt) : (modLr s f).tl = s.tl := rfl
@[simp] theorem modLr_sn (s : State) (f : LrSt → LrSt) : (modLr s f).sn = s.sn := rfl
@[simp] theorem modLr_turns (s : State) (f : LrSt → LrSt) : (modLr s f).turns = s.turns := rfl
@[simp] theorem modLr_free (s : State) (f : LrSt → LrSt) : (modLr s f).free = s.free := rfl
@[simp] theorem modLr_pending (s : State) (f : LrSt → LrSt) : (modLr s f).pending = s.pending := rfl

/-! `modUart` changes uarts alone. -/

@[simp] theorem modUart_md (s : State) (n : Fin 2) (f : UartSt → UartSt) : (modUart s n f).md = s.md := rfl
@[simp] theorem modUart_tu (s : State) (n : Fin 2) (f : UartSt → UartSt) : (modUart s n f).tu = s.tu := rfl
@[simp] theorem modUart_msu (s : State) (n : Fin 2) (f : UartSt → UartSt) : (modUart s n f).msu = s.msu := rfl
@[simp] theorem modUart_heads (s : State) (n : Fin 2) (f : UartSt → UartSt) : (modUart s n f).heads = s.heads := rfl
@[simp] theorem modUart_en (s : State) (n : Fin 2) (f : UartSt → UartSt) : (modUart s n f).en = s.en := rfl
@[simp] theorem modUart_vl (s : State) (n : Fin 2) (f : UartSt → UartSt) : (modUart s n f).vl = s.vl := rfl
@[simp] theorem modUart_rb (s : State) (n : Fin 2) (f : UartSt → UartSt) : (modUart s n f).rb = s.rb := rfl
@[simp] theorem modUart_media (s : State) (n : Fin 2) (f : UartSt → UartSt) : (modUart s n f).media = s.media := rfl
@[simp] theorem modUart_opts (s : State) (n : Fin 2) (f : UartSt → UartSt) : (modUart s n f).opts = s.opts := rfl
@[simp] theorem modUart_supply (s : State) (n : Fin 2) (f : UartSt → UartSt) : (modUart s n f).supply = s.supply := rfl
@[simp] theorem modUart_govs (s : State) (n : Fin 2) (f : UartSt → UartSt) : (modUart s n f).govs = s.govs := rfl
@[simp] theorem modUart_cut (s : State) (n : Fin 2) (f : UartSt → UartSt) : (modUart s n f).cut = s.cut := rfl
@[simp] theorem modUart_axes (s : State) (n : Fin 2) (f : UartSt → UartSt) : (modUart s n f).axes = s.axes := rfl
@[simp] theorem modUart_img (s : State) (n : Fin 2) (f : UartSt → UartSt) : (modUart s n f).img = s.img := rfl
@[simp] theorem modUart_sols (s : State) (n : Fin 2) (f : UartSt → UartSt) : (modUart s n f).sols = s.sols := rfl
@[simp] theorem modUart_banks (s : State) (n : Fin 2) (f : UartSt → UartSt) : (modUart s n f).banks = s.banks := rfl
@[simp] theorem modUart_boost (s : State) (n : Fin 2) (f : UartSt → UartSt) : (modUart s n f).boost = s.boost := rfl
@[simp] theorem modUart_tg (s : State) (n : Fin 2) (f : UartSt → UartSt) : (modUart s n f).tg = s.tg := rfl
@[simp] theorem modUart_se (s : State) (n : Fin 2) (f : UartSt → UartSt) : (modUart s n f).se = s.se := rfl
@[simp] theorem modUart_usb (s : State) (n : Fin 2) (f : UartSt → UartSt) : (modUart s n f).usb = s.usb := rfl
@[simp] theorem modUart_cb (s : State) (n : Fin 2) (f : UartSt → UartSt) : (modUart s n f).cb = s.cb := rfl
@[simp] theorem modUart_net (s : State) (n : Fin 2) (f : UartSt → UartSt) : (modUart s n f).net = s.net := rfl
@[simp] theorem modUart_uarts (s : State) (n : Fin 2) (f : UartSt → UartSt) : (modUart s n f).uarts = upd s.uarts n f := rfl
@[simp] theorem modUart_pw (s : State) (n : Fin 2) (f : UartSt → UartSt) : (modUart s n f).pw = s.pw := rfl
@[simp] theorem modUart_boot (s : State) (n : Fin 2) (f : UartSt → UartSt) : (modUart s n f).boot = s.boot := rfl
@[simp] theorem modUart_app (s : State) (n : Fin 2) (f : UartSt → UartSt) : (modUart s n f).app = s.app := rfl
@[simp] theorem modUart_ctl (s : State) (n : Fin 2) (f : UartSt → UartSt) : (modUart s n f).ctl = s.ctl := rfl
@[simp] theorem modUart_ledger (s : State) (n : Fin 2) (f : UartSt → UartSt) : (modUart s n f).ledger = s.ledger := rfl
@[simp] theorem modUart_pdo (s : State) (n : Fin 2) (f : UartSt → UartSt) : (modUart s n f).pdo = s.pdo := rfl
@[simp] theorem modUart_rm (s : State) (n : Fin 2) (f : UartSt → UartSt) : (modUart s n f).rm = s.rm := rfl
@[simp] theorem modUart_tl (s : State) (n : Fin 2) (f : UartSt → UartSt) : (modUart s n f).tl = s.tl := rfl
@[simp] theorem modUart_sn (s : State) (n : Fin 2) (f : UartSt → UartSt) : (modUart s n f).sn = s.sn := rfl
@[simp] theorem modUart_turns (s : State) (n : Fin 2) (f : UartSt → UartSt) : (modUart s n f).turns = s.turns := rfl
@[simp] theorem modUart_free (s : State) (n : Fin 2) (f : UartSt → UartSt) : (modUart s n f).free = s.free := rfl
@[simp] theorem modUart_pending (s : State) (n : Fin 2) (f : UartSt → UartSt) : (modUart s n f).pending = s.pending := rfl

/-! `modSe` changes se alone. -/

@[simp] theorem modSe_md (s : State) (f : SeSt → SeSt) : (modSe s f).md = s.md := rfl
@[simp] theorem modSe_tu (s : State) (f : SeSt → SeSt) : (modSe s f).tu = s.tu := rfl
@[simp] theorem modSe_msu (s : State) (f : SeSt → SeSt) : (modSe s f).msu = s.msu := rfl
@[simp] theorem modSe_heads (s : State) (f : SeSt → SeSt) : (modSe s f).heads = s.heads := rfl
@[simp] theorem modSe_en (s : State) (f : SeSt → SeSt) : (modSe s f).en = s.en := rfl
@[simp] theorem modSe_vl (s : State) (f : SeSt → SeSt) : (modSe s f).vl = s.vl := rfl
@[simp] theorem modSe_rb (s : State) (f : SeSt → SeSt) : (modSe s f).rb = s.rb := rfl
@[simp] theorem modSe_media (s : State) (f : SeSt → SeSt) : (modSe s f).media = s.media := rfl
@[simp] theorem modSe_opts (s : State) (f : SeSt → SeSt) : (modSe s f).opts = s.opts := rfl
@[simp] theorem modSe_supply (s : State) (f : SeSt → SeSt) : (modSe s f).supply = s.supply := rfl
@[simp] theorem modSe_govs (s : State) (f : SeSt → SeSt) : (modSe s f).govs = s.govs := rfl
@[simp] theorem modSe_cut (s : State) (f : SeSt → SeSt) : (modSe s f).cut = s.cut := rfl
@[simp] theorem modSe_axes (s : State) (f : SeSt → SeSt) : (modSe s f).axes = s.axes := rfl
@[simp] theorem modSe_img (s : State) (f : SeSt → SeSt) : (modSe s f).img = s.img := rfl
@[simp] theorem modSe_sols (s : State) (f : SeSt → SeSt) : (modSe s f).sols = s.sols := rfl
@[simp] theorem modSe_banks (s : State) (f : SeSt → SeSt) : (modSe s f).banks = s.banks := rfl
@[simp] theorem modSe_boost (s : State) (f : SeSt → SeSt) : (modSe s f).boost = s.boost := rfl
@[simp] theorem modSe_tg (s : State) (f : SeSt → SeSt) : (modSe s f).tg = s.tg := rfl
@[simp] theorem modSe_se (s : State) (f : SeSt → SeSt) : (modSe s f).se = f s.se := rfl
@[simp] theorem modSe_usb (s : State) (f : SeSt → SeSt) : (modSe s f).usb = s.usb := rfl
@[simp] theorem modSe_cb (s : State) (f : SeSt → SeSt) : (modSe s f).cb = s.cb := rfl
@[simp] theorem modSe_net (s : State) (f : SeSt → SeSt) : (modSe s f).net = s.net := rfl
@[simp] theorem modSe_uarts (s : State) (f : SeSt → SeSt) : (modSe s f).uarts = s.uarts := rfl
@[simp] theorem modSe_pw (s : State) (f : SeSt → SeSt) : (modSe s f).pw = s.pw := rfl
@[simp] theorem modSe_boot (s : State) (f : SeSt → SeSt) : (modSe s f).boot = s.boot := rfl
@[simp] theorem modSe_app (s : State) (f : SeSt → SeSt) : (modSe s f).app = s.app := rfl
@[simp] theorem modSe_ctl (s : State) (f : SeSt → SeSt) : (modSe s f).ctl = s.ctl := rfl
@[simp] theorem modSe_ledger (s : State) (f : SeSt → SeSt) : (modSe s f).ledger = s.ledger := rfl
@[simp] theorem modSe_pdo (s : State) (f : SeSt → SeSt) : (modSe s f).pdo = s.pdo := rfl
@[simp] theorem modSe_rm (s : State) (f : SeSt → SeSt) : (modSe s f).rm = s.rm := rfl
@[simp] theorem modSe_tl (s : State) (f : SeSt → SeSt) : (modSe s f).tl = s.tl := rfl
@[simp] theorem modSe_sn (s : State) (f : SeSt → SeSt) : (modSe s f).sn = s.sn := rfl
@[simp] theorem modSe_turns (s : State) (f : SeSt → SeSt) : (modSe s f).turns = s.turns := rfl
@[simp] theorem modSe_free (s : State) (f : SeSt → SeSt) : (modSe s f).free = s.free := rfl
@[simp] theorem modSe_pending (s : State) (f : SeSt → SeSt) : (modSe s f).pending = s.pending := rfl

/-! `modSlice` changes se.slices alone. -/

@[simp] theorem modSlice_md (s : State) (i : Fin 4) (f : SliceSt → SliceSt) : (modSlice s i f).md = s.md := rfl
@[simp] theorem modSlice_tu (s : State) (i : Fin 4) (f : SliceSt → SliceSt) : (modSlice s i f).tu = s.tu := rfl
@[simp] theorem modSlice_msu (s : State) (i : Fin 4) (f : SliceSt → SliceSt) : (modSlice s i f).msu = s.msu := rfl
@[simp] theorem modSlice_heads (s : State) (i : Fin 4) (f : SliceSt → SliceSt) : (modSlice s i f).heads = s.heads := rfl
@[simp] theorem modSlice_en (s : State) (i : Fin 4) (f : SliceSt → SliceSt) : (modSlice s i f).en = s.en := rfl
@[simp] theorem modSlice_vl (s : State) (i : Fin 4) (f : SliceSt → SliceSt) : (modSlice s i f).vl = s.vl := rfl
@[simp] theorem modSlice_rb (s : State) (i : Fin 4) (f : SliceSt → SliceSt) : (modSlice s i f).rb = s.rb := rfl
@[simp] theorem modSlice_media (s : State) (i : Fin 4) (f : SliceSt → SliceSt) : (modSlice s i f).media = s.media := rfl
@[simp] theorem modSlice_opts (s : State) (i : Fin 4) (f : SliceSt → SliceSt) : (modSlice s i f).opts = s.opts := rfl
@[simp] theorem modSlice_supply (s : State) (i : Fin 4) (f : SliceSt → SliceSt) : (modSlice s i f).supply = s.supply := rfl
@[simp] theorem modSlice_govs (s : State) (i : Fin 4) (f : SliceSt → SliceSt) : (modSlice s i f).govs = s.govs := rfl
@[simp] theorem modSlice_cut (s : State) (i : Fin 4) (f : SliceSt → SliceSt) : (modSlice s i f).cut = s.cut := rfl
@[simp] theorem modSlice_axes (s : State) (i : Fin 4) (f : SliceSt → SliceSt) : (modSlice s i f).axes = s.axes := rfl
@[simp] theorem modSlice_img (s : State) (i : Fin 4) (f : SliceSt → SliceSt) : (modSlice s i f).img = s.img := rfl
@[simp] theorem modSlice_sols (s : State) (i : Fin 4) (f : SliceSt → SliceSt) : (modSlice s i f).sols = s.sols := rfl
@[simp] theorem modSlice_banks (s : State) (i : Fin 4) (f : SliceSt → SliceSt) : (modSlice s i f).banks = s.banks := rfl
@[simp] theorem modSlice_boost (s : State) (i : Fin 4) (f : SliceSt → SliceSt) : (modSlice s i f).boost = s.boost := rfl
@[simp] theorem modSlice_tg (s : State) (i : Fin 4) (f : SliceSt → SliceSt) : (modSlice s i f).tg = s.tg := rfl
@[simp] theorem modSlice_se_slices (s : State) (i : Fin 4) (f : SliceSt → SliceSt) : (modSlice s i f).se.slices = upd s.se.slices i f := rfl
@[simp] theorem modSlice_se_roles (s : State) (i : Fin 4) (f : SliceSt → SliceSt) : (modSlice s i f).se.roles = s.se.roles := rfl
@[simp] theorem modSlice_se_spare (s : State) (i : Fin 4) (f : SliceSt → SliceSt) : (modSlice s i f).se.spare = s.se.spare := rfl
@[simp] theorem modSlice_se_rotations (s : State) (i : Fin 4) (f : SliceSt → SliceSt) : (modSlice s i f).se.rotations = s.se.rotations := rfl
@[simp] theorem modSlice_se_rotNext (s : State) (i : Fin 4) (f : SliceSt → SliceSt) : (modSlice s i f).se.rotNext = s.se.rotNext := rfl
@[simp] theorem modSlice_se_rotDue (s : State) (i : Fin 4) (f : SliceSt → SliceSt) : (modSlice s i f).se.rotDue = s.se.rotDue := rfl
@[simp] theorem modSlice_se_refSt (s : State) (i : Fin 4) (f : SliceSt → SliceSt) : (modSlice s i f).se.refSt = s.se.refSt := rfl
@[simp] theorem modSlice_se_refOff (s : State) (i : Fin 4) (f : SliceSt → SliceSt) : (modSlice s i f).se.refOff = s.se.refOff := rfl
@[simp] theorem modSlice_se_refState (s : State) (i : Fin 4) (f : SliceSt → SliceSt) : (modSlice s i f).se.refState = s.se.refState := rfl
@[simp] theorem modSlice_se_refEv (s : State) (i : Fin 4) (f : SliceSt → SliceSt) : (modSlice s i f).se.refEv = s.se.refEv := rfl
@[simp] theorem modSlice_se_trigOverruns (s : State) (i : Fin 4) (f : SliceSt → SliceSt) : (modSlice s i f).se.trigOverruns = s.se.trigOverruns := rfl
@[simp] theorem modSlice_se_edges (s : State) (i : Fin 4) (f : SliceSt → SliceSt) : (modSlice s i f).se.edges = s.se.edges := rfl
@[simp] theorem modSlice_se_pinDue (s : State) (i : Fin 4) (f : SliceSt → SliceSt) : (modSlice s i f).se.pinDue = s.se.pinDue := rfl
@[simp] theorem modSlice_se_sqs (s : State) (i : Fin 4) (f : SliceSt → SliceSt) : (modSlice s i f).se.sqs = s.se.sqs := rfl
@[simp] theorem modSlice_se_urgs (s : State) (i : Fin 4) (f : SliceSt → SliceSt) : (modSlice s i f).se.urgs = s.se.urgs := rfl
@[simp] theorem modSlice_se_filts (s : State) (i : Fin 4) (f : SliceSt → SliceSt) : (modSlice s i f).se.filts = s.se.filts := rfl
@[simp] theorem modSlice_se_queue (s : State) (i : Fin 4) (f : SliceSt → SliceSt) : (modSlice s i f).se.queue = s.se.queue := rfl
@[simp] theorem modSlice_se_lost (s : State) (i : Fin 4) (f : SliceSt → SliceSt) : (modSlice s i f).se.lost = s.se.lost := rfl
@[simp] theorem modSlice_se_lostNext (s : State) (i : Fin 4) (f : SliceSt → SliceSt) : (modSlice s i f).se.lostNext = s.se.lostNext := rfl
@[simp] theorem modSlice_se_lostRun (s : State) (i : Fin 4) (f : SliceSt → SliceSt) : (modSlice s i f).se.lostRun = s.se.lostRun := rfl
@[simp] theorem modSlice_se_wmRaised (s : State) (i : Fin 4) (f : SliceSt → SliceSt) : (modSlice s i f).se.wmRaised = s.se.wmRaised := rfl
@[simp] theorem modSlice_se_dmaWr (s : State) (i : Fin 4) (f : SliceSt → SliceSt) : (modSlice s i f).se.dmaWr = s.se.dmaWr := rfl
@[simp] theorem modSlice_se_dmaStall (s : State) (i : Fin 4) (f : SliceSt → SliceSt) : (modSlice s i f).se.dmaStall = s.se.dmaStall := rfl
@[simp] theorem modSlice_se_capState (s : State) (i : Fin 4) (f : SliceSt → SliceSt) : (modSlice s i f).se.capState = s.se.capState := rfl
@[simp] theorem modSlice_se_capTrig (s : State) (i : Fin 4) (f : SliceSt → SliceSt) : (modSlice s i f).se.capTrig = s.se.capTrig := rfl
@[simp] theorem modSlice_se_capSt0 (s : State) (i : Fin 4) (f : SliceSt → SliceSt) : (modSlice s i f).se.capSt0 = s.se.capSt0 := rfl
@[simp] theorem modSlice_se_capCount (s : State) (i : Fin 4) (f : SliceSt → SliceSt) : (modSlice s i f).se.capCount = s.se.capCount := rfl
@[simp] theorem modSlice_se_capN (s : State) (i : Fin 4) (f : SliceSt → SliceSt) : (modSlice s i f).se.capN = s.se.capN := rfl
@[simp] theorem modSlice_se_temps (s : State) (i : Fin 4) (f : SliceSt → SliceSt) : (modSlice s i f).se.temps = s.se.temps := rfl
@[simp] theorem modSlice_se_trigs (s : State) (i : Fin 4) (f : SliceSt → SliceSt) : (modSlice s i f).se.trigs = s.se.trigs := rfl
@[simp] theorem modSlice_se_words (s : State) (i : Fin 4) (f : SliceSt → SliceSt) : (modSlice s i f).se.words = s.se.words := rfl
@[simp] theorem modSlice_se_opts (s : State) (i : Fin 4) (f : SliceSt → SliceSt) : (modSlice s i f).se.opts = s.se.opts := rfl
@[simp] theorem modSlice_usb (s : State) (i : Fin 4) (f : SliceSt → SliceSt) : (modSlice s i f).usb = s.usb := rfl
@[simp] theorem modSlice_cb (s : State) (i : Fin 4) (f : SliceSt → SliceSt) : (modSlice s i f).cb = s.cb := rfl
@[simp] theorem modSlice_net (s : State) (i : Fin 4) (f : SliceSt → SliceSt) : (modSlice s i f).net = s.net := rfl
@[simp] theorem modSlice_uarts (s : State) (i : Fin 4) (f : SliceSt → SliceSt) : (modSlice s i f).uarts = s.uarts := rfl
@[simp] theorem modSlice_pw (s : State) (i : Fin 4) (f : SliceSt → SliceSt) : (modSlice s i f).pw = s.pw := rfl
@[simp] theorem modSlice_boot (s : State) (i : Fin 4) (f : SliceSt → SliceSt) : (modSlice s i f).boot = s.boot := rfl
@[simp] theorem modSlice_app (s : State) (i : Fin 4) (f : SliceSt → SliceSt) : (modSlice s i f).app = s.app := rfl
@[simp] theorem modSlice_ctl (s : State) (i : Fin 4) (f : SliceSt → SliceSt) : (modSlice s i f).ctl = s.ctl := rfl
@[simp] theorem modSlice_ledger (s : State) (i : Fin 4) (f : SliceSt → SliceSt) : (modSlice s i f).ledger = s.ledger := rfl
@[simp] theorem modSlice_pdo (s : State) (i : Fin 4) (f : SliceSt → SliceSt) : (modSlice s i f).pdo = s.pdo := rfl
@[simp] theorem modSlice_rm (s : State) (i : Fin 4) (f : SliceSt → SliceSt) : (modSlice s i f).rm = s.rm := rfl
@[simp] theorem modSlice_tl (s : State) (i : Fin 4) (f : SliceSt → SliceSt) : (modSlice s i f).tl = s.tl := rfl
@[simp] theorem modSlice_sn (s : State) (i : Fin 4) (f : SliceSt → SliceSt) : (modSlice s i f).sn = s.sn := rfl
@[simp] theorem modSlice_turns (s : State) (i : Fin 4) (f : SliceSt → SliceSt) : (modSlice s i f).turns = s.turns := rfl
@[simp] theorem modSlice_free (s : State) (i : Fin 4) (f : SliceSt → SliceSt) : (modSlice s i f).free = s.free := rfl
@[simp] theorem modSlice_pending (s : State) (i : Fin 4) (f : SliceSt → SliceSt) : (modSlice s i f).pending = s.pending := rfl

/-! `modSq` changes se.sqs alone. -/

@[simp] theorem modSq_md (s : State) (p : Fin 2) (f : SqSt → SqSt) : (modSq s p f).md = s.md := rfl
@[simp] theorem modSq_tu (s : State) (p : Fin 2) (f : SqSt → SqSt) : (modSq s p f).tu = s.tu := rfl
@[simp] theorem modSq_msu (s : State) (p : Fin 2) (f : SqSt → SqSt) : (modSq s p f).msu = s.msu := rfl
@[simp] theorem modSq_heads (s : State) (p : Fin 2) (f : SqSt → SqSt) : (modSq s p f).heads = s.heads := rfl
@[simp] theorem modSq_en (s : State) (p : Fin 2) (f : SqSt → SqSt) : (modSq s p f).en = s.en := rfl
@[simp] theorem modSq_vl (s : State) (p : Fin 2) (f : SqSt → SqSt) : (modSq s p f).vl = s.vl := rfl
@[simp] theorem modSq_rb (s : State) (p : Fin 2) (f : SqSt → SqSt) : (modSq s p f).rb = s.rb := rfl
@[simp] theorem modSq_media (s : State) (p : Fin 2) (f : SqSt → SqSt) : (modSq s p f).media = s.media := rfl
@[simp] theorem modSq_opts (s : State) (p : Fin 2) (f : SqSt → SqSt) : (modSq s p f).opts = s.opts := rfl
@[simp] theorem modSq_supply (s : State) (p : Fin 2) (f : SqSt → SqSt) : (modSq s p f).supply = s.supply := rfl
@[simp] theorem modSq_govs (s : State) (p : Fin 2) (f : SqSt → SqSt) : (modSq s p f).govs = s.govs := rfl
@[simp] theorem modSq_cut (s : State) (p : Fin 2) (f : SqSt → SqSt) : (modSq s p f).cut = s.cut := rfl
@[simp] theorem modSq_axes (s : State) (p : Fin 2) (f : SqSt → SqSt) : (modSq s p f).axes = s.axes := rfl
@[simp] theorem modSq_img (s : State) (p : Fin 2) (f : SqSt → SqSt) : (modSq s p f).img = s.img := rfl
@[simp] theorem modSq_sols (s : State) (p : Fin 2) (f : SqSt → SqSt) : (modSq s p f).sols = s.sols := rfl
@[simp] theorem modSq_banks (s : State) (p : Fin 2) (f : SqSt → SqSt) : (modSq s p f).banks = s.banks := rfl
@[simp] theorem modSq_boost (s : State) (p : Fin 2) (f : SqSt → SqSt) : (modSq s p f).boost = s.boost := rfl
@[simp] theorem modSq_tg (s : State) (p : Fin 2) (f : SqSt → SqSt) : (modSq s p f).tg = s.tg := rfl
@[simp] theorem modSq_se_slices (s : State) (p : Fin 2) (f : SqSt → SqSt) : (modSq s p f).se.slices = s.se.slices := rfl
@[simp] theorem modSq_se_roles (s : State) (p : Fin 2) (f : SqSt → SqSt) : (modSq s p f).se.roles = s.se.roles := rfl
@[simp] theorem modSq_se_spare (s : State) (p : Fin 2) (f : SqSt → SqSt) : (modSq s p f).se.spare = s.se.spare := rfl
@[simp] theorem modSq_se_rotations (s : State) (p : Fin 2) (f : SqSt → SqSt) : (modSq s p f).se.rotations = s.se.rotations := rfl
@[simp] theorem modSq_se_rotNext (s : State) (p : Fin 2) (f : SqSt → SqSt) : (modSq s p f).se.rotNext = s.se.rotNext := rfl
@[simp] theorem modSq_se_rotDue (s : State) (p : Fin 2) (f : SqSt → SqSt) : (modSq s p f).se.rotDue = s.se.rotDue := rfl
@[simp] theorem modSq_se_refSt (s : State) (p : Fin 2) (f : SqSt → SqSt) : (modSq s p f).se.refSt = s.se.refSt := rfl
@[simp] theorem modSq_se_refOff (s : State) (p : Fin 2) (f : SqSt → SqSt) : (modSq s p f).se.refOff = s.se.refOff := rfl
@[simp] theorem modSq_se_refState (s : State) (p : Fin 2) (f : SqSt → SqSt) : (modSq s p f).se.refState = s.se.refState := rfl
@[simp] theorem modSq_se_refEv (s : State) (p : Fin 2) (f : SqSt → SqSt) : (modSq s p f).se.refEv = s.se.refEv := rfl
@[simp] theorem modSq_se_trigOverruns (s : State) (p : Fin 2) (f : SqSt → SqSt) : (modSq s p f).se.trigOverruns = s.se.trigOverruns := rfl
@[simp] theorem modSq_se_edges (s : State) (p : Fin 2) (f : SqSt → SqSt) : (modSq s p f).se.edges = s.se.edges := rfl
@[simp] theorem modSq_se_pinDue (s : State) (p : Fin 2) (f : SqSt → SqSt) : (modSq s p f).se.pinDue = s.se.pinDue := rfl
@[simp] theorem modSq_se_sqs (s : State) (p : Fin 2) (f : SqSt → SqSt) : (modSq s p f).se.sqs = upd s.se.sqs p f := rfl
@[simp] theorem modSq_se_urgs (s : State) (p : Fin 2) (f : SqSt → SqSt) : (modSq s p f).se.urgs = s.se.urgs := rfl
@[simp] theorem modSq_se_filts (s : State) (p : Fin 2) (f : SqSt → SqSt) : (modSq s p f).se.filts = s.se.filts := rfl
@[simp] theorem modSq_se_queue (s : State) (p : Fin 2) (f : SqSt → SqSt) : (modSq s p f).se.queue = s.se.queue := rfl
@[simp] theorem modSq_se_lost (s : State) (p : Fin 2) (f : SqSt → SqSt) : (modSq s p f).se.lost = s.se.lost := rfl
@[simp] theorem modSq_se_lostNext (s : State) (p : Fin 2) (f : SqSt → SqSt) : (modSq s p f).se.lostNext = s.se.lostNext := rfl
@[simp] theorem modSq_se_lostRun (s : State) (p : Fin 2) (f : SqSt → SqSt) : (modSq s p f).se.lostRun = s.se.lostRun := rfl
@[simp] theorem modSq_se_wmRaised (s : State) (p : Fin 2) (f : SqSt → SqSt) : (modSq s p f).se.wmRaised = s.se.wmRaised := rfl
@[simp] theorem modSq_se_dmaWr (s : State) (p : Fin 2) (f : SqSt → SqSt) : (modSq s p f).se.dmaWr = s.se.dmaWr := rfl
@[simp] theorem modSq_se_dmaStall (s : State) (p : Fin 2) (f : SqSt → SqSt) : (modSq s p f).se.dmaStall = s.se.dmaStall := rfl
@[simp] theorem modSq_se_capState (s : State) (p : Fin 2) (f : SqSt → SqSt) : (modSq s p f).se.capState = s.se.capState := rfl
@[simp] theorem modSq_se_capTrig (s : State) (p : Fin 2) (f : SqSt → SqSt) : (modSq s p f).se.capTrig = s.se.capTrig := rfl
@[simp] theorem modSq_se_capSt0 (s : State) (p : Fin 2) (f : SqSt → SqSt) : (modSq s p f).se.capSt0 = s.se.capSt0 := rfl
@[simp] theorem modSq_se_capCount (s : State) (p : Fin 2) (f : SqSt → SqSt) : (modSq s p f).se.capCount = s.se.capCount := rfl
@[simp] theorem modSq_se_capN (s : State) (p : Fin 2) (f : SqSt → SqSt) : (modSq s p f).se.capN = s.se.capN := rfl
@[simp] theorem modSq_se_temps (s : State) (p : Fin 2) (f : SqSt → SqSt) : (modSq s p f).se.temps = s.se.temps := rfl
@[simp] theorem modSq_se_trigs (s : State) (p : Fin 2) (f : SqSt → SqSt) : (modSq s p f).se.trigs = s.se.trigs := rfl
@[simp] theorem modSq_se_words (s : State) (p : Fin 2) (f : SqSt → SqSt) : (modSq s p f).se.words = s.se.words := rfl
@[simp] theorem modSq_se_opts (s : State) (p : Fin 2) (f : SqSt → SqSt) : (modSq s p f).se.opts = s.se.opts := rfl
@[simp] theorem modSq_usb (s : State) (p : Fin 2) (f : SqSt → SqSt) : (modSq s p f).usb = s.usb := rfl
@[simp] theorem modSq_cb (s : State) (p : Fin 2) (f : SqSt → SqSt) : (modSq s p f).cb = s.cb := rfl
@[simp] theorem modSq_net (s : State) (p : Fin 2) (f : SqSt → SqSt) : (modSq s p f).net = s.net := rfl
@[simp] theorem modSq_uarts (s : State) (p : Fin 2) (f : SqSt → SqSt) : (modSq s p f).uarts = s.uarts := rfl
@[simp] theorem modSq_pw (s : State) (p : Fin 2) (f : SqSt → SqSt) : (modSq s p f).pw = s.pw := rfl
@[simp] theorem modSq_boot (s : State) (p : Fin 2) (f : SqSt → SqSt) : (modSq s p f).boot = s.boot := rfl
@[simp] theorem modSq_app (s : State) (p : Fin 2) (f : SqSt → SqSt) : (modSq s p f).app = s.app := rfl
@[simp] theorem modSq_ctl (s : State) (p : Fin 2) (f : SqSt → SqSt) : (modSq s p f).ctl = s.ctl := rfl
@[simp] theorem modSq_ledger (s : State) (p : Fin 2) (f : SqSt → SqSt) : (modSq s p f).ledger = s.ledger := rfl
@[simp] theorem modSq_pdo (s : State) (p : Fin 2) (f : SqSt → SqSt) : (modSq s p f).pdo = s.pdo := rfl
@[simp] theorem modSq_rm (s : State) (p : Fin 2) (f : SqSt → SqSt) : (modSq s p f).rm = s.rm := rfl
@[simp] theorem modSq_tl (s : State) (p : Fin 2) (f : SqSt → SqSt) : (modSq s p f).tl = s.tl := rfl
@[simp] theorem modSq_sn (s : State) (p : Fin 2) (f : SqSt → SqSt) : (modSq s p f).sn = s.sn := rfl
@[simp] theorem modSq_turns (s : State) (p : Fin 2) (f : SqSt → SqSt) : (modSq s p f).turns = s.turns := rfl
@[simp] theorem modSq_free (s : State) (p : Fin 2) (f : SqSt → SqSt) : (modSq s p f).free = s.free := rfl
@[simp] theorem modSq_pending (s : State) (p : Fin 2) (f : SqSt → SqSt) : (modSq s p f).pending = s.pending := rfl

/-! `modUrg` changes se.urgs alone. -/

@[simp] theorem modUrg_md (s : State) (u : Fin 8) (f : UrgSt → UrgSt) : (modUrg s u f).md = s.md := rfl
@[simp] theorem modUrg_tu (s : State) (u : Fin 8) (f : UrgSt → UrgSt) : (modUrg s u f).tu = s.tu := rfl
@[simp] theorem modUrg_msu (s : State) (u : Fin 8) (f : UrgSt → UrgSt) : (modUrg s u f).msu = s.msu := rfl
@[simp] theorem modUrg_heads (s : State) (u : Fin 8) (f : UrgSt → UrgSt) : (modUrg s u f).heads = s.heads := rfl
@[simp] theorem modUrg_en (s : State) (u : Fin 8) (f : UrgSt → UrgSt) : (modUrg s u f).en = s.en := rfl
@[simp] theorem modUrg_vl (s : State) (u : Fin 8) (f : UrgSt → UrgSt) : (modUrg s u f).vl = s.vl := rfl
@[simp] theorem modUrg_rb (s : State) (u : Fin 8) (f : UrgSt → UrgSt) : (modUrg s u f).rb = s.rb := rfl
@[simp] theorem modUrg_media (s : State) (u : Fin 8) (f : UrgSt → UrgSt) : (modUrg s u f).media = s.media := rfl
@[simp] theorem modUrg_opts (s : State) (u : Fin 8) (f : UrgSt → UrgSt) : (modUrg s u f).opts = s.opts := rfl
@[simp] theorem modUrg_supply (s : State) (u : Fin 8) (f : UrgSt → UrgSt) : (modUrg s u f).supply = s.supply := rfl
@[simp] theorem modUrg_govs (s : State) (u : Fin 8) (f : UrgSt → UrgSt) : (modUrg s u f).govs = s.govs := rfl
@[simp] theorem modUrg_cut (s : State) (u : Fin 8) (f : UrgSt → UrgSt) : (modUrg s u f).cut = s.cut := rfl
@[simp] theorem modUrg_axes (s : State) (u : Fin 8) (f : UrgSt → UrgSt) : (modUrg s u f).axes = s.axes := rfl
@[simp] theorem modUrg_img (s : State) (u : Fin 8) (f : UrgSt → UrgSt) : (modUrg s u f).img = s.img := rfl
@[simp] theorem modUrg_sols (s : State) (u : Fin 8) (f : UrgSt → UrgSt) : (modUrg s u f).sols = s.sols := rfl
@[simp] theorem modUrg_banks (s : State) (u : Fin 8) (f : UrgSt → UrgSt) : (modUrg s u f).banks = s.banks := rfl
@[simp] theorem modUrg_boost (s : State) (u : Fin 8) (f : UrgSt → UrgSt) : (modUrg s u f).boost = s.boost := rfl
@[simp] theorem modUrg_tg (s : State) (u : Fin 8) (f : UrgSt → UrgSt) : (modUrg s u f).tg = s.tg := rfl
@[simp] theorem modUrg_se_slices (s : State) (u : Fin 8) (f : UrgSt → UrgSt) : (modUrg s u f).se.slices = s.se.slices := rfl
@[simp] theorem modUrg_se_roles (s : State) (u : Fin 8) (f : UrgSt → UrgSt) : (modUrg s u f).se.roles = s.se.roles := rfl
@[simp] theorem modUrg_se_spare (s : State) (u : Fin 8) (f : UrgSt → UrgSt) : (modUrg s u f).se.spare = s.se.spare := rfl
@[simp] theorem modUrg_se_rotations (s : State) (u : Fin 8) (f : UrgSt → UrgSt) : (modUrg s u f).se.rotations = s.se.rotations := rfl
@[simp] theorem modUrg_se_rotNext (s : State) (u : Fin 8) (f : UrgSt → UrgSt) : (modUrg s u f).se.rotNext = s.se.rotNext := rfl
@[simp] theorem modUrg_se_rotDue (s : State) (u : Fin 8) (f : UrgSt → UrgSt) : (modUrg s u f).se.rotDue = s.se.rotDue := rfl
@[simp] theorem modUrg_se_refSt (s : State) (u : Fin 8) (f : UrgSt → UrgSt) : (modUrg s u f).se.refSt = s.se.refSt := rfl
@[simp] theorem modUrg_se_refOff (s : State) (u : Fin 8) (f : UrgSt → UrgSt) : (modUrg s u f).se.refOff = s.se.refOff := rfl
@[simp] theorem modUrg_se_refState (s : State) (u : Fin 8) (f : UrgSt → UrgSt) : (modUrg s u f).se.refState = s.se.refState := rfl
@[simp] theorem modUrg_se_refEv (s : State) (u : Fin 8) (f : UrgSt → UrgSt) : (modUrg s u f).se.refEv = s.se.refEv := rfl
@[simp] theorem modUrg_se_trigOverruns (s : State) (u : Fin 8) (f : UrgSt → UrgSt) : (modUrg s u f).se.trigOverruns = s.se.trigOverruns := rfl
@[simp] theorem modUrg_se_edges (s : State) (u : Fin 8) (f : UrgSt → UrgSt) : (modUrg s u f).se.edges = s.se.edges := rfl
@[simp] theorem modUrg_se_pinDue (s : State) (u : Fin 8) (f : UrgSt → UrgSt) : (modUrg s u f).se.pinDue = s.se.pinDue := rfl
@[simp] theorem modUrg_se_sqs (s : State) (u : Fin 8) (f : UrgSt → UrgSt) : (modUrg s u f).se.sqs = s.se.sqs := rfl
@[simp] theorem modUrg_se_urgs (s : State) (u : Fin 8) (f : UrgSt → UrgSt) : (modUrg s u f).se.urgs = upd s.se.urgs u f := rfl
@[simp] theorem modUrg_se_filts (s : State) (u : Fin 8) (f : UrgSt → UrgSt) : (modUrg s u f).se.filts = s.se.filts := rfl
@[simp] theorem modUrg_se_queue (s : State) (u : Fin 8) (f : UrgSt → UrgSt) : (modUrg s u f).se.queue = s.se.queue := rfl
@[simp] theorem modUrg_se_lost (s : State) (u : Fin 8) (f : UrgSt → UrgSt) : (modUrg s u f).se.lost = s.se.lost := rfl
@[simp] theorem modUrg_se_lostNext (s : State) (u : Fin 8) (f : UrgSt → UrgSt) : (modUrg s u f).se.lostNext = s.se.lostNext := rfl
@[simp] theorem modUrg_se_lostRun (s : State) (u : Fin 8) (f : UrgSt → UrgSt) : (modUrg s u f).se.lostRun = s.se.lostRun := rfl
@[simp] theorem modUrg_se_wmRaised (s : State) (u : Fin 8) (f : UrgSt → UrgSt) : (modUrg s u f).se.wmRaised = s.se.wmRaised := rfl
@[simp] theorem modUrg_se_dmaWr (s : State) (u : Fin 8) (f : UrgSt → UrgSt) : (modUrg s u f).se.dmaWr = s.se.dmaWr := rfl
@[simp] theorem modUrg_se_dmaStall (s : State) (u : Fin 8) (f : UrgSt → UrgSt) : (modUrg s u f).se.dmaStall = s.se.dmaStall := rfl
@[simp] theorem modUrg_se_capState (s : State) (u : Fin 8) (f : UrgSt → UrgSt) : (modUrg s u f).se.capState = s.se.capState := rfl
@[simp] theorem modUrg_se_capTrig (s : State) (u : Fin 8) (f : UrgSt → UrgSt) : (modUrg s u f).se.capTrig = s.se.capTrig := rfl
@[simp] theorem modUrg_se_capSt0 (s : State) (u : Fin 8) (f : UrgSt → UrgSt) : (modUrg s u f).se.capSt0 = s.se.capSt0 := rfl
@[simp] theorem modUrg_se_capCount (s : State) (u : Fin 8) (f : UrgSt → UrgSt) : (modUrg s u f).se.capCount = s.se.capCount := rfl
@[simp] theorem modUrg_se_capN (s : State) (u : Fin 8) (f : UrgSt → UrgSt) : (modUrg s u f).se.capN = s.se.capN := rfl
@[simp] theorem modUrg_se_temps (s : State) (u : Fin 8) (f : UrgSt → UrgSt) : (modUrg s u f).se.temps = s.se.temps := rfl
@[simp] theorem modUrg_se_trigs (s : State) (u : Fin 8) (f : UrgSt → UrgSt) : (modUrg s u f).se.trigs = s.se.trigs := rfl
@[simp] theorem modUrg_se_words (s : State) (u : Fin 8) (f : UrgSt → UrgSt) : (modUrg s u f).se.words = s.se.words := rfl
@[simp] theorem modUrg_se_opts (s : State) (u : Fin 8) (f : UrgSt → UrgSt) : (modUrg s u f).se.opts = s.se.opts := rfl
@[simp] theorem modUrg_usb (s : State) (u : Fin 8) (f : UrgSt → UrgSt) : (modUrg s u f).usb = s.usb := rfl
@[simp] theorem modUrg_cb (s : State) (u : Fin 8) (f : UrgSt → UrgSt) : (modUrg s u f).cb = s.cb := rfl
@[simp] theorem modUrg_net (s : State) (u : Fin 8) (f : UrgSt → UrgSt) : (modUrg s u f).net = s.net := rfl
@[simp] theorem modUrg_uarts (s : State) (u : Fin 8) (f : UrgSt → UrgSt) : (modUrg s u f).uarts = s.uarts := rfl
@[simp] theorem modUrg_pw (s : State) (u : Fin 8) (f : UrgSt → UrgSt) : (modUrg s u f).pw = s.pw := rfl
@[simp] theorem modUrg_boot (s : State) (u : Fin 8) (f : UrgSt → UrgSt) : (modUrg s u f).boot = s.boot := rfl
@[simp] theorem modUrg_app (s : State) (u : Fin 8) (f : UrgSt → UrgSt) : (modUrg s u f).app = s.app := rfl
@[simp] theorem modUrg_ctl (s : State) (u : Fin 8) (f : UrgSt → UrgSt) : (modUrg s u f).ctl = s.ctl := rfl
@[simp] theorem modUrg_ledger (s : State) (u : Fin 8) (f : UrgSt → UrgSt) : (modUrg s u f).ledger = s.ledger := rfl
@[simp] theorem modUrg_pdo (s : State) (u : Fin 8) (f : UrgSt → UrgSt) : (modUrg s u f).pdo = s.pdo := rfl
@[simp] theorem modUrg_rm (s : State) (u : Fin 8) (f : UrgSt → UrgSt) : (modUrg s u f).rm = s.rm := rfl
@[simp] theorem modUrg_tl (s : State) (u : Fin 8) (f : UrgSt → UrgSt) : (modUrg s u f).tl = s.tl := rfl
@[simp] theorem modUrg_sn (s : State) (u : Fin 8) (f : UrgSt → UrgSt) : (modUrg s u f).sn = s.sn := rfl
@[simp] theorem modUrg_turns (s : State) (u : Fin 8) (f : UrgSt → UrgSt) : (modUrg s u f).turns = s.turns := rfl
@[simp] theorem modUrg_free (s : State) (u : Fin 8) (f : UrgSt → UrgSt) : (modUrg s u f).free = s.free := rfl
@[simp] theorem modUrg_pending (s : State) (u : Fin 8) (f : UrgSt → UrgSt) : (modUrg s u f).pending = s.pending := rfl

/-! `modFilt` changes se.filts alone. -/

@[simp] theorem modFilt_md (s : State) (k : Fin 16) (f : FiltSt → FiltSt) : (modFilt s k f).md = s.md := rfl
@[simp] theorem modFilt_tu (s : State) (k : Fin 16) (f : FiltSt → FiltSt) : (modFilt s k f).tu = s.tu := rfl
@[simp] theorem modFilt_msu (s : State) (k : Fin 16) (f : FiltSt → FiltSt) : (modFilt s k f).msu = s.msu := rfl
@[simp] theorem modFilt_heads (s : State) (k : Fin 16) (f : FiltSt → FiltSt) : (modFilt s k f).heads = s.heads := rfl
@[simp] theorem modFilt_en (s : State) (k : Fin 16) (f : FiltSt → FiltSt) : (modFilt s k f).en = s.en := rfl
@[simp] theorem modFilt_vl (s : State) (k : Fin 16) (f : FiltSt → FiltSt) : (modFilt s k f).vl = s.vl := rfl
@[simp] theorem modFilt_rb (s : State) (k : Fin 16) (f : FiltSt → FiltSt) : (modFilt s k f).rb = s.rb := rfl
@[simp] theorem modFilt_media (s : State) (k : Fin 16) (f : FiltSt → FiltSt) : (modFilt s k f).media = s.media := rfl
@[simp] theorem modFilt_opts (s : State) (k : Fin 16) (f : FiltSt → FiltSt) : (modFilt s k f).opts = s.opts := rfl
@[simp] theorem modFilt_supply (s : State) (k : Fin 16) (f : FiltSt → FiltSt) : (modFilt s k f).supply = s.supply := rfl
@[simp] theorem modFilt_govs (s : State) (k : Fin 16) (f : FiltSt → FiltSt) : (modFilt s k f).govs = s.govs := rfl
@[simp] theorem modFilt_cut (s : State) (k : Fin 16) (f : FiltSt → FiltSt) : (modFilt s k f).cut = s.cut := rfl
@[simp] theorem modFilt_axes (s : State) (k : Fin 16) (f : FiltSt → FiltSt) : (modFilt s k f).axes = s.axes := rfl
@[simp] theorem modFilt_img (s : State) (k : Fin 16) (f : FiltSt → FiltSt) : (modFilt s k f).img = s.img := rfl
@[simp] theorem modFilt_sols (s : State) (k : Fin 16) (f : FiltSt → FiltSt) : (modFilt s k f).sols = s.sols := rfl
@[simp] theorem modFilt_banks (s : State) (k : Fin 16) (f : FiltSt → FiltSt) : (modFilt s k f).banks = s.banks := rfl
@[simp] theorem modFilt_boost (s : State) (k : Fin 16) (f : FiltSt → FiltSt) : (modFilt s k f).boost = s.boost := rfl
@[simp] theorem modFilt_tg (s : State) (k : Fin 16) (f : FiltSt → FiltSt) : (modFilt s k f).tg = s.tg := rfl
@[simp] theorem modFilt_se_slices (s : State) (k : Fin 16) (f : FiltSt → FiltSt) : (modFilt s k f).se.slices = s.se.slices := rfl
@[simp] theorem modFilt_se_roles (s : State) (k : Fin 16) (f : FiltSt → FiltSt) : (modFilt s k f).se.roles = s.se.roles := rfl
@[simp] theorem modFilt_se_spare (s : State) (k : Fin 16) (f : FiltSt → FiltSt) : (modFilt s k f).se.spare = s.se.spare := rfl
@[simp] theorem modFilt_se_rotations (s : State) (k : Fin 16) (f : FiltSt → FiltSt) : (modFilt s k f).se.rotations = s.se.rotations := rfl
@[simp] theorem modFilt_se_rotNext (s : State) (k : Fin 16) (f : FiltSt → FiltSt) : (modFilt s k f).se.rotNext = s.se.rotNext := rfl
@[simp] theorem modFilt_se_rotDue (s : State) (k : Fin 16) (f : FiltSt → FiltSt) : (modFilt s k f).se.rotDue = s.se.rotDue := rfl
@[simp] theorem modFilt_se_refSt (s : State) (k : Fin 16) (f : FiltSt → FiltSt) : (modFilt s k f).se.refSt = s.se.refSt := rfl
@[simp] theorem modFilt_se_refOff (s : State) (k : Fin 16) (f : FiltSt → FiltSt) : (modFilt s k f).se.refOff = s.se.refOff := rfl
@[simp] theorem modFilt_se_refState (s : State) (k : Fin 16) (f : FiltSt → FiltSt) : (modFilt s k f).se.refState = s.se.refState := rfl
@[simp] theorem modFilt_se_refEv (s : State) (k : Fin 16) (f : FiltSt → FiltSt) : (modFilt s k f).se.refEv = s.se.refEv := rfl
@[simp] theorem modFilt_se_trigOverruns (s : State) (k : Fin 16) (f : FiltSt → FiltSt) : (modFilt s k f).se.trigOverruns = s.se.trigOverruns := rfl
@[simp] theorem modFilt_se_edges (s : State) (k : Fin 16) (f : FiltSt → FiltSt) : (modFilt s k f).se.edges = s.se.edges := rfl
@[simp] theorem modFilt_se_pinDue (s : State) (k : Fin 16) (f : FiltSt → FiltSt) : (modFilt s k f).se.pinDue = s.se.pinDue := rfl
@[simp] theorem modFilt_se_sqs (s : State) (k : Fin 16) (f : FiltSt → FiltSt) : (modFilt s k f).se.sqs = s.se.sqs := rfl
@[simp] theorem modFilt_se_urgs (s : State) (k : Fin 16) (f : FiltSt → FiltSt) : (modFilt s k f).se.urgs = s.se.urgs := rfl
@[simp] theorem modFilt_se_filts (s : State) (k : Fin 16) (f : FiltSt → FiltSt) : (modFilt s k f).se.filts = upd s.se.filts k f := rfl
@[simp] theorem modFilt_se_queue (s : State) (k : Fin 16) (f : FiltSt → FiltSt) : (modFilt s k f).se.queue = s.se.queue := rfl
@[simp] theorem modFilt_se_lost (s : State) (k : Fin 16) (f : FiltSt → FiltSt) : (modFilt s k f).se.lost = s.se.lost := rfl
@[simp] theorem modFilt_se_lostNext (s : State) (k : Fin 16) (f : FiltSt → FiltSt) : (modFilt s k f).se.lostNext = s.se.lostNext := rfl
@[simp] theorem modFilt_se_lostRun (s : State) (k : Fin 16) (f : FiltSt → FiltSt) : (modFilt s k f).se.lostRun = s.se.lostRun := rfl
@[simp] theorem modFilt_se_wmRaised (s : State) (k : Fin 16) (f : FiltSt → FiltSt) : (modFilt s k f).se.wmRaised = s.se.wmRaised := rfl
@[simp] theorem modFilt_se_dmaWr (s : State) (k : Fin 16) (f : FiltSt → FiltSt) : (modFilt s k f).se.dmaWr = s.se.dmaWr := rfl
@[simp] theorem modFilt_se_dmaStall (s : State) (k : Fin 16) (f : FiltSt → FiltSt) : (modFilt s k f).se.dmaStall = s.se.dmaStall := rfl
@[simp] theorem modFilt_se_capState (s : State) (k : Fin 16) (f : FiltSt → FiltSt) : (modFilt s k f).se.capState = s.se.capState := rfl
@[simp] theorem modFilt_se_capTrig (s : State) (k : Fin 16) (f : FiltSt → FiltSt) : (modFilt s k f).se.capTrig = s.se.capTrig := rfl
@[simp] theorem modFilt_se_capSt0 (s : State) (k : Fin 16) (f : FiltSt → FiltSt) : (modFilt s k f).se.capSt0 = s.se.capSt0 := rfl
@[simp] theorem modFilt_se_capCount (s : State) (k : Fin 16) (f : FiltSt → FiltSt) : (modFilt s k f).se.capCount = s.se.capCount := rfl
@[simp] theorem modFilt_se_capN (s : State) (k : Fin 16) (f : FiltSt → FiltSt) : (modFilt s k f).se.capN = s.se.capN := rfl
@[simp] theorem modFilt_se_temps (s : State) (k : Fin 16) (f : FiltSt → FiltSt) : (modFilt s k f).se.temps = s.se.temps := rfl
@[simp] theorem modFilt_se_trigs (s : State) (k : Fin 16) (f : FiltSt → FiltSt) : (modFilt s k f).se.trigs = s.se.trigs := rfl
@[simp] theorem modFilt_se_words (s : State) (k : Fin 16) (f : FiltSt → FiltSt) : (modFilt s k f).se.words = s.se.words := rfl
@[simp] theorem modFilt_se_opts (s : State) (k : Fin 16) (f : FiltSt → FiltSt) : (modFilt s k f).se.opts = s.se.opts := rfl
@[simp] theorem modFilt_usb (s : State) (k : Fin 16) (f : FiltSt → FiltSt) : (modFilt s k f).usb = s.usb := rfl
@[simp] theorem modFilt_cb (s : State) (k : Fin 16) (f : FiltSt → FiltSt) : (modFilt s k f).cb = s.cb := rfl
@[simp] theorem modFilt_net (s : State) (k : Fin 16) (f : FiltSt → FiltSt) : (modFilt s k f).net = s.net := rfl
@[simp] theorem modFilt_uarts (s : State) (k : Fin 16) (f : FiltSt → FiltSt) : (modFilt s k f).uarts = s.uarts := rfl
@[simp] theorem modFilt_pw (s : State) (k : Fin 16) (f : FiltSt → FiltSt) : (modFilt s k f).pw = s.pw := rfl
@[simp] theorem modFilt_boot (s : State) (k : Fin 16) (f : FiltSt → FiltSt) : (modFilt s k f).boot = s.boot := rfl
@[simp] theorem modFilt_app (s : State) (k : Fin 16) (f : FiltSt → FiltSt) : (modFilt s k f).app = s.app := rfl
@[simp] theorem modFilt_ctl (s : State) (k : Fin 16) (f : FiltSt → FiltSt) : (modFilt s k f).ctl = s.ctl := rfl
@[simp] theorem modFilt_ledger (s : State) (k : Fin 16) (f : FiltSt → FiltSt) : (modFilt s k f).ledger = s.ledger := rfl
@[simp] theorem modFilt_pdo (s : State) (k : Fin 16) (f : FiltSt → FiltSt) : (modFilt s k f).pdo = s.pdo := rfl
@[simp] theorem modFilt_rm (s : State) (k : Fin 16) (f : FiltSt → FiltSt) : (modFilt s k f).rm = s.rm := rfl
@[simp] theorem modFilt_tl (s : State) (k : Fin 16) (f : FiltSt → FiltSt) : (modFilt s k f).tl = s.tl := rfl
@[simp] theorem modFilt_sn (s : State) (k : Fin 16) (f : FiltSt → FiltSt) : (modFilt s k f).sn = s.sn := rfl
@[simp] theorem modFilt_turns (s : State) (k : Fin 16) (f : FiltSt → FiltSt) : (modFilt s k f).turns = s.turns := rfl
@[simp] theorem modFilt_free (s : State) (k : Fin 16) (f : FiltSt → FiltSt) : (modFilt s k f).free = s.free := rfl
@[simp] theorem modFilt_pending (s : State) (k : Fin 16) (f : FiltSt → FiltSt) : (modFilt s k f).pending = s.pending := rfl

/-! `modStaging` changes ctl.staging alone. -/

@[simp] theorem modStaging_md (s : State) (p : Path) (f : Staging → Staging) : (modStaging s p f).md = s.md := rfl
@[simp] theorem modStaging_tu (s : State) (p : Path) (f : Staging → Staging) : (modStaging s p f).tu = s.tu := rfl
@[simp] theorem modStaging_msu (s : State) (p : Path) (f : Staging → Staging) : (modStaging s p f).msu = s.msu := rfl
@[simp] theorem modStaging_heads (s : State) (p : Path) (f : Staging → Staging) : (modStaging s p f).heads = s.heads := rfl
@[simp] theorem modStaging_en (s : State) (p : Path) (f : Staging → Staging) : (modStaging s p f).en = s.en := rfl
@[simp] theorem modStaging_vl (s : State) (p : Path) (f : Staging → Staging) : (modStaging s p f).vl = s.vl := rfl
@[simp] theorem modStaging_rb (s : State) (p : Path) (f : Staging → Staging) : (modStaging s p f).rb = s.rb := rfl
@[simp] theorem modStaging_media (s : State) (p : Path) (f : Staging → Staging) : (modStaging s p f).media = s.media := rfl
@[simp] theorem modStaging_opts (s : State) (p : Path) (f : Staging → Staging) : (modStaging s p f).opts = s.opts := rfl
@[simp] theorem modStaging_supply (s : State) (p : Path) (f : Staging → Staging) : (modStaging s p f).supply = s.supply := rfl
@[simp] theorem modStaging_govs (s : State) (p : Path) (f : Staging → Staging) : (modStaging s p f).govs = s.govs := rfl
@[simp] theorem modStaging_cut (s : State) (p : Path) (f : Staging → Staging) : (modStaging s p f).cut = s.cut := rfl
@[simp] theorem modStaging_axes (s : State) (p : Path) (f : Staging → Staging) : (modStaging s p f).axes = s.axes := rfl
@[simp] theorem modStaging_img (s : State) (p : Path) (f : Staging → Staging) : (modStaging s p f).img = s.img := rfl
@[simp] theorem modStaging_sols (s : State) (p : Path) (f : Staging → Staging) : (modStaging s p f).sols = s.sols := rfl
@[simp] theorem modStaging_banks (s : State) (p : Path) (f : Staging → Staging) : (modStaging s p f).banks = s.banks := rfl
@[simp] theorem modStaging_boost (s : State) (p : Path) (f : Staging → Staging) : (modStaging s p f).boost = s.boost := rfl
@[simp] theorem modStaging_tg (s : State) (p : Path) (f : Staging → Staging) : (modStaging s p f).tg = s.tg := rfl
@[simp] theorem modStaging_se (s : State) (p : Path) (f : Staging → Staging) : (modStaging s p f).se = s.se := rfl
@[simp] theorem modStaging_usb (s : State) (p : Path) (f : Staging → Staging) : (modStaging s p f).usb = s.usb := rfl
@[simp] theorem modStaging_cb (s : State) (p : Path) (f : Staging → Staging) : (modStaging s p f).cb = s.cb := rfl
@[simp] theorem modStaging_net (s : State) (p : Path) (f : Staging → Staging) : (modStaging s p f).net = s.net := rfl
@[simp] theorem modStaging_uarts (s : State) (p : Path) (f : Staging → Staging) : (modStaging s p f).uarts = s.uarts := rfl
@[simp] theorem modStaging_pw (s : State) (p : Path) (f : Staging → Staging) : (modStaging s p f).pw = s.pw := rfl
@[simp] theorem modStaging_boot (s : State) (p : Path) (f : Staging → Staging) : (modStaging s p f).boot = s.boot := rfl
@[simp] theorem modStaging_app (s : State) (p : Path) (f : Staging → Staging) : (modStaging s p f).app = s.app := rfl
@[simp] theorem modStaging_ctl_dict (s : State) (p : Path) (f : Staging → Staging) : (modStaging s p f).ctl.dict = s.ctl.dict := rfl
@[simp] theorem modStaging_ctl_doms (s : State) (p : Path) (f : Staging → Staging) : (modStaging s p f).ctl.doms = s.ctl.doms := rfl
@[simp] theorem modStaging_ctl_staging (s : State) (p : Path) (f : Staging → Staging) : (modStaging s p f).ctl.staging = upd s.ctl.staging p.idx f := rfl
@[simp] theorem modStaging_ctl_epoch (s : State) (p : Path) (f : Staging → Staging) : (modStaging s p f).ctl.epoch = s.ctl.epoch := rfl
@[simp] theorem modStaging_ctl_epochs (s : State) (p : Path) (f : Staging → Staging) : (modStaging s p f).ctl.epochs = s.ctl.epochs := rfl
@[simp] theorem modStaging_ctl_lastEpochSt (s : State) (p : Path) (f : Staging → Staging) : (modStaging s p f).ctl.lastEpochSt = s.ctl.lastEpochSt := rfl
@[simp] theorem modStaging_ctl_rejects (s : State) (p : Path) (f : Staging → Staging) : (modStaging s p f).ctl.rejects = s.ctl.rejects := rfl
@[simp] theorem modStaging_ctl_lastReject (s : State) (p : Path) (f : Staging → Staging) : (modStaging s p f).ctl.lastReject = s.ctl.lastReject := rfl
@[simp] theorem modStaging_ctl_claims (s : State) (p : Path) (f : Staging → Staging) : (modStaging s p f).ctl.claims = s.ctl.claims := rfl
@[simp] theorem modStaging_ctl_preimg (s : State) (p : Path) (f : Staging → Staging) : (modStaging s p f).ctl.preimg = s.ctl.preimg := rfl
@[simp] theorem modStaging_ctl_preimgDom (s : State) (p : Path) (f : Staging → Staging) : (modStaging s p f).ctl.preimgDom = s.ctl.preimgDom := rfl
@[simp] theorem modStaging_ctl_tiesLost (s : State) (p : Path) (f : Staging → Staging) : (modStaging s p f).ctl.tiesLost = s.ctl.tiesLost := rfl
@[simp] theorem modStaging_ctl_lastTie (s : State) (p : Path) (f : Staging → Staging) : (modStaging s p f).ctl.lastTie = s.ctl.lastTie := rfl
@[simp] theorem modStaging_ctl_lastLoser (s : State) (p : Path) (f : Staging → Staging) : (modStaging s p f).ctl.lastLoser = s.ctl.lastLoser := rfl
@[simp] theorem modStaging_ctl_tickSt (s : State) (p : Path) (f : Staging → Staging) : (modStaging s p f).ctl.tickSt = s.ctl.tickSt := rfl
@[simp] theorem modStaging_ctl_tick (s : State) (p : Path) (f : Staging → Staging) : (modStaging s p f).ctl.tick = s.ctl.tick := rfl
@[simp] theorem modStaging_ctl_storeState (s : State) (p : Path) (f : Staging → Staging) : (modStaging s p f).ctl.storeState = s.ctl.storeState := rfl
@[simp] theorem modStaging_ctl_storeBy (s : State) (p : Path) (f : Staging → Staging) : (modStaging s p f).ctl.storeBy = s.ctl.storeBy := rfl
@[simp] theorem modStaging_ctl_loadedLayout (s : State) (p : Path) (f : Staging → Staging) : (modStaging s p f).ctl.loadedLayout = s.ctl.loadedLayout := rfl
@[simp] theorem modStaging_ctl_dropped (s : State) (p : Path) (f : Staging → Staging) : (modStaging s p f).ctl.dropped = s.ctl.dropped := rfl
@[simp] theorem modStaging_ctl_defaulted (s : State) (p : Path) (f : Staging → Staging) : (modStaging s p f).ctl.defaulted = s.ctl.defaulted := rfl
@[simp] theorem modStaging_ctl_stores (s : State) (p : Path) (f : Staging → Staging) : (modStaging s p f).ctl.stores = s.ctl.stores := rfl
@[simp] theorem modStaging_ctl_source (s : State) (p : Path) (f : Staging → Staging) : (modStaging s p f).ctl.source = s.ctl.source := rfl
@[simp] theorem modStaging_ctl_slots (s : State) (p : Path) (f : Staging → Staging) : (modStaging s p f).ctl.slots = s.ctl.slots := rfl
@[simp] theorem modStaging_ctl_xfers (s : State) (p : Path) (f : Staging → Staging) : (modStaging s p f).ctl.xfers = s.ctl.xfers := rfl
@[simp] theorem modStaging_ctl_status (s : State) (p : Path) (f : Staging → Staging) : (modStaging s p f).ctl.status = s.ctl.status := rfl
@[simp] theorem modStaging_ctl_result (s : State) (p : Path) (f : Staging → Staging) : (modStaging s p f).ctl.result = s.ctl.result := rfl
@[simp] theorem modStaging_ctl_cobSet (s : State) (p : Path) (f : Staging → Staging) : (modStaging s p f).ctl.cobSet = s.ctl.cobSet := rfl
@[simp] theorem modStaging_ctl_storeTo (s : State) (p : Path) (f : Staging → Staging) : (modStaging s p f).ctl.storeTo = s.ctl.storeTo := rfl
@[simp] theorem modStaging_ledger (s : State) (p : Path) (f : Staging → Staging) : (modStaging s p f).ledger = s.ledger := rfl
@[simp] theorem modStaging_pdo (s : State) (p : Path) (f : Staging → Staging) : (modStaging s p f).pdo = s.pdo := rfl
@[simp] theorem modStaging_rm (s : State) (p : Path) (f : Staging → Staging) : (modStaging s p f).rm = s.rm := rfl
@[simp] theorem modStaging_tl (s : State) (p : Path) (f : Staging → Staging) : (modStaging s p f).tl = s.tl := rfl
@[simp] theorem modStaging_sn (s : State) (p : Path) (f : Staging → Staging) : (modStaging s p f).sn = s.sn := rfl
@[simp] theorem modStaging_turns (s : State) (p : Path) (f : Staging → Staging) : (modStaging s p f).turns = s.turns := rfl
@[simp] theorem modStaging_free (s : State) (p : Path) (f : Staging → Staging) : (modStaging s p f).free = s.free := rfl
@[simp] theorem modStaging_pending (s : State) (p : Path) (f : Staging → Staging) : (modStaging s p f).pending = s.pending := rfl

/-! `answer` changes ctl.status alone. -/

@[simp] theorem answer_md (s : State) (p : Path) (v : Nat) : (answer s p v).md = s.md := rfl
@[simp] theorem answer_tu (s : State) (p : Path) (v : Nat) : (answer s p v).tu = s.tu := rfl
@[simp] theorem answer_msu (s : State) (p : Path) (v : Nat) : (answer s p v).msu = s.msu := rfl
@[simp] theorem answer_heads (s : State) (p : Path) (v : Nat) : (answer s p v).heads = s.heads := rfl
@[simp] theorem answer_en (s : State) (p : Path) (v : Nat) : (answer s p v).en = s.en := rfl
@[simp] theorem answer_vl (s : State) (p : Path) (v : Nat) : (answer s p v).vl = s.vl := rfl
@[simp] theorem answer_rb (s : State) (p : Path) (v : Nat) : (answer s p v).rb = s.rb := rfl
@[simp] theorem answer_media (s : State) (p : Path) (v : Nat) : (answer s p v).media = s.media := rfl
@[simp] theorem answer_opts (s : State) (p : Path) (v : Nat) : (answer s p v).opts = s.opts := rfl
@[simp] theorem answer_supply (s : State) (p : Path) (v : Nat) : (answer s p v).supply = s.supply := rfl
@[simp] theorem answer_govs (s : State) (p : Path) (v : Nat) : (answer s p v).govs = s.govs := rfl
@[simp] theorem answer_cut (s : State) (p : Path) (v : Nat) : (answer s p v).cut = s.cut := rfl
@[simp] theorem answer_axes (s : State) (p : Path) (v : Nat) : (answer s p v).axes = s.axes := rfl
@[simp] theorem answer_img (s : State) (p : Path) (v : Nat) : (answer s p v).img = s.img := rfl
@[simp] theorem answer_sols (s : State) (p : Path) (v : Nat) : (answer s p v).sols = s.sols := rfl
@[simp] theorem answer_banks (s : State) (p : Path) (v : Nat) : (answer s p v).banks = s.banks := rfl
@[simp] theorem answer_boost (s : State) (p : Path) (v : Nat) : (answer s p v).boost = s.boost := rfl
@[simp] theorem answer_tg (s : State) (p : Path) (v : Nat) : (answer s p v).tg = s.tg := rfl
@[simp] theorem answer_se (s : State) (p : Path) (v : Nat) : (answer s p v).se = s.se := rfl
@[simp] theorem answer_usb (s : State) (p : Path) (v : Nat) : (answer s p v).usb = s.usb := rfl
@[simp] theorem answer_cb (s : State) (p : Path) (v : Nat) : (answer s p v).cb = s.cb := rfl
@[simp] theorem answer_net (s : State) (p : Path) (v : Nat) : (answer s p v).net = s.net := rfl
@[simp] theorem answer_uarts (s : State) (p : Path) (v : Nat) : (answer s p v).uarts = s.uarts := rfl
@[simp] theorem answer_pw (s : State) (p : Path) (v : Nat) : (answer s p v).pw = s.pw := rfl
@[simp] theorem answer_boot (s : State) (p : Path) (v : Nat) : (answer s p v).boot = s.boot := rfl
@[simp] theorem answer_app (s : State) (p : Path) (v : Nat) : (answer s p v).app = s.app := rfl
@[simp] theorem answer_ctl_dict (s : State) (p : Path) (v : Nat) : (answer s p v).ctl.dict = s.ctl.dict := rfl
@[simp] theorem answer_ctl_doms (s : State) (p : Path) (v : Nat) : (answer s p v).ctl.doms = s.ctl.doms := rfl
@[simp] theorem answer_ctl_staging (s : State) (p : Path) (v : Nat) : (answer s p v).ctl.staging = s.ctl.staging := rfl
@[simp] theorem answer_ctl_epoch (s : State) (p : Path) (v : Nat) : (answer s p v).ctl.epoch = s.ctl.epoch := rfl
@[simp] theorem answer_ctl_epochs (s : State) (p : Path) (v : Nat) : (answer s p v).ctl.epochs = s.ctl.epochs := rfl
@[simp] theorem answer_ctl_lastEpochSt (s : State) (p : Path) (v : Nat) : (answer s p v).ctl.lastEpochSt = s.ctl.lastEpochSt := rfl
@[simp] theorem answer_ctl_rejects (s : State) (p : Path) (v : Nat) : (answer s p v).ctl.rejects = s.ctl.rejects := rfl
@[simp] theorem answer_ctl_lastReject (s : State) (p : Path) (v : Nat) : (answer s p v).ctl.lastReject = s.ctl.lastReject := rfl
@[simp] theorem answer_ctl_claims (s : State) (p : Path) (v : Nat) : (answer s p v).ctl.claims = s.ctl.claims := rfl
@[simp] theorem answer_ctl_preimg (s : State) (p : Path) (v : Nat) : (answer s p v).ctl.preimg = s.ctl.preimg := rfl
@[simp] theorem answer_ctl_preimgDom (s : State) (p : Path) (v : Nat) : (answer s p v).ctl.preimgDom = s.ctl.preimgDom := rfl
@[simp] theorem answer_ctl_tiesLost (s : State) (p : Path) (v : Nat) : (answer s p v).ctl.tiesLost = s.ctl.tiesLost := rfl
@[simp] theorem answer_ctl_lastTie (s : State) (p : Path) (v : Nat) : (answer s p v).ctl.lastTie = s.ctl.lastTie := rfl
@[simp] theorem answer_ctl_lastLoser (s : State) (p : Path) (v : Nat) : (answer s p v).ctl.lastLoser = s.ctl.lastLoser := rfl
@[simp] theorem answer_ctl_tickSt (s : State) (p : Path) (v : Nat) : (answer s p v).ctl.tickSt = s.ctl.tickSt := rfl
@[simp] theorem answer_ctl_tick (s : State) (p : Path) (v : Nat) : (answer s p v).ctl.tick = s.ctl.tick := rfl
@[simp] theorem answer_ctl_storeState (s : State) (p : Path) (v : Nat) : (answer s p v).ctl.storeState = s.ctl.storeState := rfl
@[simp] theorem answer_ctl_storeBy (s : State) (p : Path) (v : Nat) : (answer s p v).ctl.storeBy = s.ctl.storeBy := rfl
@[simp] theorem answer_ctl_loadedLayout (s : State) (p : Path) (v : Nat) : (answer s p v).ctl.loadedLayout = s.ctl.loadedLayout := rfl
@[simp] theorem answer_ctl_dropped (s : State) (p : Path) (v : Nat) : (answer s p v).ctl.dropped = s.ctl.dropped := rfl
@[simp] theorem answer_ctl_defaulted (s : State) (p : Path) (v : Nat) : (answer s p v).ctl.defaulted = s.ctl.defaulted := rfl
@[simp] theorem answer_ctl_stores (s : State) (p : Path) (v : Nat) : (answer s p v).ctl.stores = s.ctl.stores := rfl
@[simp] theorem answer_ctl_source (s : State) (p : Path) (v : Nat) : (answer s p v).ctl.source = s.ctl.source := rfl
@[simp] theorem answer_ctl_slots (s : State) (p : Path) (v : Nat) : (answer s p v).ctl.slots = s.ctl.slots := rfl
@[simp] theorem answer_ctl_xfers (s : State) (p : Path) (v : Nat) : (answer s p v).ctl.xfers = s.ctl.xfers := rfl
@[simp] theorem answer_ctl_status (s : State) (p : Path) (v : Nat) : (answer s p v).ctl.status = upd s.ctl.status p.idx (fun _ => v) := rfl
@[simp] theorem answer_ctl_result (s : State) (p : Path) (v : Nat) : (answer s p v).ctl.result = s.ctl.result := rfl
@[simp] theorem answer_ctl_cobSet (s : State) (p : Path) (v : Nat) : (answer s p v).ctl.cobSet = s.ctl.cobSet := rfl
@[simp] theorem answer_ctl_storeTo (s : State) (p : Path) (v : Nat) : (answer s p v).ctl.storeTo = s.ctl.storeTo := rfl
@[simp] theorem answer_ledger (s : State) (p : Path) (v : Nat) : (answer s p v).ledger = s.ledger := rfl
@[simp] theorem answer_pdo (s : State) (p : Path) (v : Nat) : (answer s p v).pdo = s.pdo := rfl
@[simp] theorem answer_rm (s : State) (p : Path) (v : Nat) : (answer s p v).rm = s.rm := rfl
@[simp] theorem answer_tl (s : State) (p : Path) (v : Nat) : (answer s p v).tl = s.tl := rfl
@[simp] theorem answer_sn (s : State) (p : Path) (v : Nat) : (answer s p v).sn = s.sn := rfl
@[simp] theorem answer_turns (s : State) (p : Path) (v : Nat) : (answer s p v).turns = s.turns := rfl
@[simp] theorem answer_free (s : State) (p : Path) (v : Nat) : (answer s p v).free = s.free := rfl
@[simp] theorem answer_pending (s : State) (p : Path) (v : Nat) : (answer s p v).pending = s.pending := rfl

/-! `setObjK` changes ctl.dict alone. -/

@[simp] theorem setObjK_md (s : State) (k : Nat) (v : Int) : (setObjK s k v).md = s.md := rfl
@[simp] theorem setObjK_tu (s : State) (k : Nat) (v : Int) : (setObjK s k v).tu = s.tu := rfl
@[simp] theorem setObjK_msu (s : State) (k : Nat) (v : Int) : (setObjK s k v).msu = s.msu := rfl
@[simp] theorem setObjK_heads (s : State) (k : Nat) (v : Int) : (setObjK s k v).heads = s.heads := rfl
@[simp] theorem setObjK_en (s : State) (k : Nat) (v : Int) : (setObjK s k v).en = s.en := rfl
@[simp] theorem setObjK_vl (s : State) (k : Nat) (v : Int) : (setObjK s k v).vl = s.vl := rfl
@[simp] theorem setObjK_rb (s : State) (k : Nat) (v : Int) : (setObjK s k v).rb = s.rb := rfl
@[simp] theorem setObjK_media (s : State) (k : Nat) (v : Int) : (setObjK s k v).media = s.media := rfl
@[simp] theorem setObjK_opts (s : State) (k : Nat) (v : Int) : (setObjK s k v).opts = s.opts := rfl
@[simp] theorem setObjK_supply (s : State) (k : Nat) (v : Int) : (setObjK s k v).supply = s.supply := rfl
@[simp] theorem setObjK_govs (s : State) (k : Nat) (v : Int) : (setObjK s k v).govs = s.govs := rfl
@[simp] theorem setObjK_cut (s : State) (k : Nat) (v : Int) : (setObjK s k v).cut = s.cut := rfl
@[simp] theorem setObjK_axes (s : State) (k : Nat) (v : Int) : (setObjK s k v).axes = s.axes := rfl
@[simp] theorem setObjK_img (s : State) (k : Nat) (v : Int) : (setObjK s k v).img = s.img := rfl
@[simp] theorem setObjK_sols (s : State) (k : Nat) (v : Int) : (setObjK s k v).sols = s.sols := rfl
@[simp] theorem setObjK_banks (s : State) (k : Nat) (v : Int) : (setObjK s k v).banks = s.banks := rfl
@[simp] theorem setObjK_boost (s : State) (k : Nat) (v : Int) : (setObjK s k v).boost = s.boost := rfl
@[simp] theorem setObjK_tg (s : State) (k : Nat) (v : Int) : (setObjK s k v).tg = s.tg := rfl
@[simp] theorem setObjK_se (s : State) (k : Nat) (v : Int) : (setObjK s k v).se = s.se := rfl
@[simp] theorem setObjK_usb (s : State) (k : Nat) (v : Int) : (setObjK s k v).usb = s.usb := rfl
@[simp] theorem setObjK_cb (s : State) (k : Nat) (v : Int) : (setObjK s k v).cb = s.cb := rfl
@[simp] theorem setObjK_net (s : State) (k : Nat) (v : Int) : (setObjK s k v).net = s.net := rfl
@[simp] theorem setObjK_uarts (s : State) (k : Nat) (v : Int) : (setObjK s k v).uarts = s.uarts := rfl
@[simp] theorem setObjK_pw (s : State) (k : Nat) (v : Int) : (setObjK s k v).pw = s.pw := rfl
@[simp] theorem setObjK_boot (s : State) (k : Nat) (v : Int) : (setObjK s k v).boot = s.boot := rfl
@[simp] theorem setObjK_app (s : State) (k : Nat) (v : Int) : (setObjK s k v).app = s.app := rfl
@[simp] theorem setObjK_ctl_dict (s : State) (k : Nat) (v : Int) : (setObjK s k v).ctl.dict = SMap.put objDefault s.ctl.dict k v := rfl
@[simp] theorem setObjK_ctl_doms (s : State) (k : Nat) (v : Int) : (setObjK s k v).ctl.doms = s.ctl.doms := rfl
@[simp] theorem setObjK_ctl_staging (s : State) (k : Nat) (v : Int) : (setObjK s k v).ctl.staging = s.ctl.staging := rfl
@[simp] theorem setObjK_ctl_epoch (s : State) (k : Nat) (v : Int) : (setObjK s k v).ctl.epoch = s.ctl.epoch := rfl
@[simp] theorem setObjK_ctl_epochs (s : State) (k : Nat) (v : Int) : (setObjK s k v).ctl.epochs = s.ctl.epochs := rfl
@[simp] theorem setObjK_ctl_lastEpochSt (s : State) (k : Nat) (v : Int) : (setObjK s k v).ctl.lastEpochSt = s.ctl.lastEpochSt := rfl
@[simp] theorem setObjK_ctl_rejects (s : State) (k : Nat) (v : Int) : (setObjK s k v).ctl.rejects = s.ctl.rejects := rfl
@[simp] theorem setObjK_ctl_lastReject (s : State) (k : Nat) (v : Int) : (setObjK s k v).ctl.lastReject = s.ctl.lastReject := rfl
@[simp] theorem setObjK_ctl_claims (s : State) (k : Nat) (v : Int) : (setObjK s k v).ctl.claims = s.ctl.claims := rfl
@[simp] theorem setObjK_ctl_preimg (s : State) (k : Nat) (v : Int) : (setObjK s k v).ctl.preimg = s.ctl.preimg := rfl
@[simp] theorem setObjK_ctl_preimgDom (s : State) (k : Nat) (v : Int) : (setObjK s k v).ctl.preimgDom = s.ctl.preimgDom := rfl
@[simp] theorem setObjK_ctl_tiesLost (s : State) (k : Nat) (v : Int) : (setObjK s k v).ctl.tiesLost = s.ctl.tiesLost := rfl
@[simp] theorem setObjK_ctl_lastTie (s : State) (k : Nat) (v : Int) : (setObjK s k v).ctl.lastTie = s.ctl.lastTie := rfl
@[simp] theorem setObjK_ctl_lastLoser (s : State) (k : Nat) (v : Int) : (setObjK s k v).ctl.lastLoser = s.ctl.lastLoser := rfl
@[simp] theorem setObjK_ctl_tickSt (s : State) (k : Nat) (v : Int) : (setObjK s k v).ctl.tickSt = s.ctl.tickSt := rfl
@[simp] theorem setObjK_ctl_tick (s : State) (k : Nat) (v : Int) : (setObjK s k v).ctl.tick = s.ctl.tick := rfl
@[simp] theorem setObjK_ctl_storeState (s : State) (k : Nat) (v : Int) : (setObjK s k v).ctl.storeState = s.ctl.storeState := rfl
@[simp] theorem setObjK_ctl_storeBy (s : State) (k : Nat) (v : Int) : (setObjK s k v).ctl.storeBy = s.ctl.storeBy := rfl
@[simp] theorem setObjK_ctl_loadedLayout (s : State) (k : Nat) (v : Int) : (setObjK s k v).ctl.loadedLayout = s.ctl.loadedLayout := rfl
@[simp] theorem setObjK_ctl_dropped (s : State) (k : Nat) (v : Int) : (setObjK s k v).ctl.dropped = s.ctl.dropped := rfl
@[simp] theorem setObjK_ctl_defaulted (s : State) (k : Nat) (v : Int) : (setObjK s k v).ctl.defaulted = s.ctl.defaulted := rfl
@[simp] theorem setObjK_ctl_stores (s : State) (k : Nat) (v : Int) : (setObjK s k v).ctl.stores = s.ctl.stores := rfl
@[simp] theorem setObjK_ctl_source (s : State) (k : Nat) (v : Int) : (setObjK s k v).ctl.source = s.ctl.source := rfl
@[simp] theorem setObjK_ctl_slots (s : State) (k : Nat) (v : Int) : (setObjK s k v).ctl.slots = s.ctl.slots := rfl
@[simp] theorem setObjK_ctl_xfers (s : State) (k : Nat) (v : Int) : (setObjK s k v).ctl.xfers = s.ctl.xfers := rfl
@[simp] theorem setObjK_ctl_status (s : State) (k : Nat) (v : Int) : (setObjK s k v).ctl.status = s.ctl.status := rfl
@[simp] theorem setObjK_ctl_result (s : State) (k : Nat) (v : Int) : (setObjK s k v).ctl.result = s.ctl.result := rfl
@[simp] theorem setObjK_ctl_cobSet (s : State) (k : Nat) (v : Int) : (setObjK s k v).ctl.cobSet = s.ctl.cobSet := rfl
@[simp] theorem setObjK_ctl_storeTo (s : State) (k : Nat) (v : Int) : (setObjK s k v).ctl.storeTo = s.ctl.storeTo := rfl
@[simp] theorem setObjK_ledger (s : State) (k : Nat) (v : Int) : (setObjK s k v).ledger = s.ledger := rfl
@[simp] theorem setObjK_pdo (s : State) (k : Nat) (v : Int) : (setObjK s k v).pdo = s.pdo := rfl
@[simp] theorem setObjK_rm (s : State) (k : Nat) (v : Int) : (setObjK s k v).rm = s.rm := rfl
@[simp] theorem setObjK_tl (s : State) (k : Nat) (v : Int) : (setObjK s k v).tl = s.tl := rfl
@[simp] theorem setObjK_sn (s : State) (k : Nat) (v : Int) : (setObjK s k v).sn = s.sn := rfl
@[simp] theorem setObjK_turns (s : State) (k : Nat) (v : Int) : (setObjK s k v).turns = s.turns := rfl
@[simp] theorem setObjK_free (s : State) (k : Nat) (v : Int) : (setObjK s k v).free = s.free := rfl
@[simp] theorem setObjK_pending (s : State) (k : Nat) (v : Int) : (setObjK s k v).pending = s.pending := rfl

/-! `setObj` changes ctl.dict alone. -/

@[simp] theorem setObj_md (s : State) (idx sub : Nat) (v : Int) : (setObj s idx sub v).md = s.md := rfl
@[simp] theorem setObj_tu (s : State) (idx sub : Nat) (v : Int) : (setObj s idx sub v).tu = s.tu := rfl
@[simp] theorem setObj_msu (s : State) (idx sub : Nat) (v : Int) : (setObj s idx sub v).msu = s.msu := rfl
@[simp] theorem setObj_heads (s : State) (idx sub : Nat) (v : Int) : (setObj s idx sub v).heads = s.heads := rfl
@[simp] theorem setObj_en (s : State) (idx sub : Nat) (v : Int) : (setObj s idx sub v).en = s.en := rfl
@[simp] theorem setObj_vl (s : State) (idx sub : Nat) (v : Int) : (setObj s idx sub v).vl = s.vl := rfl
@[simp] theorem setObj_rb (s : State) (idx sub : Nat) (v : Int) : (setObj s idx sub v).rb = s.rb := rfl
@[simp] theorem setObj_media (s : State) (idx sub : Nat) (v : Int) : (setObj s idx sub v).media = s.media := rfl
@[simp] theorem setObj_opts (s : State) (idx sub : Nat) (v : Int) : (setObj s idx sub v).opts = s.opts := rfl
@[simp] theorem setObj_supply (s : State) (idx sub : Nat) (v : Int) : (setObj s idx sub v).supply = s.supply := rfl
@[simp] theorem setObj_govs (s : State) (idx sub : Nat) (v : Int) : (setObj s idx sub v).govs = s.govs := rfl
@[simp] theorem setObj_cut (s : State) (idx sub : Nat) (v : Int) : (setObj s idx sub v).cut = s.cut := rfl
@[simp] theorem setObj_axes (s : State) (idx sub : Nat) (v : Int) : (setObj s idx sub v).axes = s.axes := rfl
@[simp] theorem setObj_img (s : State) (idx sub : Nat) (v : Int) : (setObj s idx sub v).img = s.img := rfl
@[simp] theorem setObj_sols (s : State) (idx sub : Nat) (v : Int) : (setObj s idx sub v).sols = s.sols := rfl
@[simp] theorem setObj_banks (s : State) (idx sub : Nat) (v : Int) : (setObj s idx sub v).banks = s.banks := rfl
@[simp] theorem setObj_boost (s : State) (idx sub : Nat) (v : Int) : (setObj s idx sub v).boost = s.boost := rfl
@[simp] theorem setObj_tg (s : State) (idx sub : Nat) (v : Int) : (setObj s idx sub v).tg = s.tg := rfl
@[simp] theorem setObj_se (s : State) (idx sub : Nat) (v : Int) : (setObj s idx sub v).se = s.se := rfl
@[simp] theorem setObj_usb (s : State) (idx sub : Nat) (v : Int) : (setObj s idx sub v).usb = s.usb := rfl
@[simp] theorem setObj_cb (s : State) (idx sub : Nat) (v : Int) : (setObj s idx sub v).cb = s.cb := rfl
@[simp] theorem setObj_net (s : State) (idx sub : Nat) (v : Int) : (setObj s idx sub v).net = s.net := rfl
@[simp] theorem setObj_uarts (s : State) (idx sub : Nat) (v : Int) : (setObj s idx sub v).uarts = s.uarts := rfl
@[simp] theorem setObj_pw (s : State) (idx sub : Nat) (v : Int) : (setObj s idx sub v).pw = s.pw := rfl
@[simp] theorem setObj_boot (s : State) (idx sub : Nat) (v : Int) : (setObj s idx sub v).boot = s.boot := rfl
@[simp] theorem setObj_app (s : State) (idx sub : Nat) (v : Int) : (setObj s idx sub v).app = s.app := rfl
@[simp] theorem setObj_ctl_dict (s : State) (idx sub : Nat) (v : Int) : (setObj s idx sub v).ctl.dict = SMap.put objDefault s.ctl.dict (okey idx sub) v := rfl
@[simp] theorem setObj_ctl_doms (s : State) (idx sub : Nat) (v : Int) : (setObj s idx sub v).ctl.doms = s.ctl.doms := rfl
@[simp] theorem setObj_ctl_staging (s : State) (idx sub : Nat) (v : Int) : (setObj s idx sub v).ctl.staging = s.ctl.staging := rfl
@[simp] theorem setObj_ctl_epoch (s : State) (idx sub : Nat) (v : Int) : (setObj s idx sub v).ctl.epoch = s.ctl.epoch := rfl
@[simp] theorem setObj_ctl_epochs (s : State) (idx sub : Nat) (v : Int) : (setObj s idx sub v).ctl.epochs = s.ctl.epochs := rfl
@[simp] theorem setObj_ctl_lastEpochSt (s : State) (idx sub : Nat) (v : Int) : (setObj s idx sub v).ctl.lastEpochSt = s.ctl.lastEpochSt := rfl
@[simp] theorem setObj_ctl_rejects (s : State) (idx sub : Nat) (v : Int) : (setObj s idx sub v).ctl.rejects = s.ctl.rejects := rfl
@[simp] theorem setObj_ctl_lastReject (s : State) (idx sub : Nat) (v : Int) : (setObj s idx sub v).ctl.lastReject = s.ctl.lastReject := rfl
@[simp] theorem setObj_ctl_claims (s : State) (idx sub : Nat) (v : Int) : (setObj s idx sub v).ctl.claims = s.ctl.claims := rfl
@[simp] theorem setObj_ctl_preimg (s : State) (idx sub : Nat) (v : Int) : (setObj s idx sub v).ctl.preimg = s.ctl.preimg := rfl
@[simp] theorem setObj_ctl_preimgDom (s : State) (idx sub : Nat) (v : Int) : (setObj s idx sub v).ctl.preimgDom = s.ctl.preimgDom := rfl
@[simp] theorem setObj_ctl_tiesLost (s : State) (idx sub : Nat) (v : Int) : (setObj s idx sub v).ctl.tiesLost = s.ctl.tiesLost := rfl
@[simp] theorem setObj_ctl_lastTie (s : State) (idx sub : Nat) (v : Int) : (setObj s idx sub v).ctl.lastTie = s.ctl.lastTie := rfl
@[simp] theorem setObj_ctl_lastLoser (s : State) (idx sub : Nat) (v : Int) : (setObj s idx sub v).ctl.lastLoser = s.ctl.lastLoser := rfl
@[simp] theorem setObj_ctl_tickSt (s : State) (idx sub : Nat) (v : Int) : (setObj s idx sub v).ctl.tickSt = s.ctl.tickSt := rfl
@[simp] theorem setObj_ctl_tick (s : State) (idx sub : Nat) (v : Int) : (setObj s idx sub v).ctl.tick = s.ctl.tick := rfl
@[simp] theorem setObj_ctl_storeState (s : State) (idx sub : Nat) (v : Int) : (setObj s idx sub v).ctl.storeState = s.ctl.storeState := rfl
@[simp] theorem setObj_ctl_storeBy (s : State) (idx sub : Nat) (v : Int) : (setObj s idx sub v).ctl.storeBy = s.ctl.storeBy := rfl
@[simp] theorem setObj_ctl_loadedLayout (s : State) (idx sub : Nat) (v : Int) : (setObj s idx sub v).ctl.loadedLayout = s.ctl.loadedLayout := rfl
@[simp] theorem setObj_ctl_dropped (s : State) (idx sub : Nat) (v : Int) : (setObj s idx sub v).ctl.dropped = s.ctl.dropped := rfl
@[simp] theorem setObj_ctl_defaulted (s : State) (idx sub : Nat) (v : Int) : (setObj s idx sub v).ctl.defaulted = s.ctl.defaulted := rfl
@[simp] theorem setObj_ctl_stores (s : State) (idx sub : Nat) (v : Int) : (setObj s idx sub v).ctl.stores = s.ctl.stores := rfl
@[simp] theorem setObj_ctl_source (s : State) (idx sub : Nat) (v : Int) : (setObj s idx sub v).ctl.source = s.ctl.source := rfl
@[simp] theorem setObj_ctl_slots (s : State) (idx sub : Nat) (v : Int) : (setObj s idx sub v).ctl.slots = s.ctl.slots := rfl
@[simp] theorem setObj_ctl_xfers (s : State) (idx sub : Nat) (v : Int) : (setObj s idx sub v).ctl.xfers = s.ctl.xfers := rfl
@[simp] theorem setObj_ctl_status (s : State) (idx sub : Nat) (v : Int) : (setObj s idx sub v).ctl.status = s.ctl.status := rfl
@[simp] theorem setObj_ctl_result (s : State) (idx sub : Nat) (v : Int) : (setObj s idx sub v).ctl.result = s.ctl.result := rfl
@[simp] theorem setObj_ctl_cobSet (s : State) (idx sub : Nat) (v : Int) : (setObj s idx sub v).ctl.cobSet = s.ctl.cobSet := rfl
@[simp] theorem setObj_ctl_storeTo (s : State) (idx sub : Nat) (v : Int) : (setObj s idx sub v).ctl.storeTo = s.ctl.storeTo := rfl
@[simp] theorem setObj_ledger (s : State) (idx sub : Nat) (v : Int) : (setObj s idx sub v).ledger = s.ledger := rfl
@[simp] theorem setObj_pdo (s : State) (idx sub : Nat) (v : Int) : (setObj s idx sub v).pdo = s.pdo := rfl
@[simp] theorem setObj_rm (s : State) (idx sub : Nat) (v : Int) : (setObj s idx sub v).rm = s.rm := rfl
@[simp] theorem setObj_tl (s : State) (idx sub : Nat) (v : Int) : (setObj s idx sub v).tl = s.tl := rfl
@[simp] theorem setObj_sn (s : State) (idx sub : Nat) (v : Int) : (setObj s idx sub v).sn = s.sn := rfl
@[simp] theorem setObj_turns (s : State) (idx sub : Nat) (v : Int) : (setObj s idx sub v).turns = s.turns := rfl
@[simp] theorem setObj_free (s : State) (idx sub : Nat) (v : Int) : (setObj s idx sub v).free = s.free := rfl
@[simp] theorem setObj_pending (s : State) (idx sub : Nat) (v : Int) : (setObj s idx sub v).pending = s.pending := rfl

/-! `setDom` changes ctl.doms alone. -/

@[simp] theorem setDom_md (s : State) (idx : Nat) (bs : List Byte) : (setDom s idx bs).md = s.md := rfl
@[simp] theorem setDom_tu (s : State) (idx : Nat) (bs : List Byte) : (setDom s idx bs).tu = s.tu := rfl
@[simp] theorem setDom_msu (s : State) (idx : Nat) (bs : List Byte) : (setDom s idx bs).msu = s.msu := rfl
@[simp] theorem setDom_heads (s : State) (idx : Nat) (bs : List Byte) : (setDom s idx bs).heads = s.heads := rfl
@[simp] theorem setDom_en (s : State) (idx : Nat) (bs : List Byte) : (setDom s idx bs).en = s.en := rfl
@[simp] theorem setDom_vl (s : State) (idx : Nat) (bs : List Byte) : (setDom s idx bs).vl = s.vl := rfl
@[simp] theorem setDom_rb (s : State) (idx : Nat) (bs : List Byte) : (setDom s idx bs).rb = s.rb := rfl
@[simp] theorem setDom_media (s : State) (idx : Nat) (bs : List Byte) : (setDom s idx bs).media = s.media := rfl
@[simp] theorem setDom_opts (s : State) (idx : Nat) (bs : List Byte) : (setDom s idx bs).opts = s.opts := rfl
@[simp] theorem setDom_supply (s : State) (idx : Nat) (bs : List Byte) : (setDom s idx bs).supply = s.supply := rfl
@[simp] theorem setDom_govs (s : State) (idx : Nat) (bs : List Byte) : (setDom s idx bs).govs = s.govs := rfl
@[simp] theorem setDom_cut (s : State) (idx : Nat) (bs : List Byte) : (setDom s idx bs).cut = s.cut := rfl
@[simp] theorem setDom_axes (s : State) (idx : Nat) (bs : List Byte) : (setDom s idx bs).axes = s.axes := rfl
@[simp] theorem setDom_img (s : State) (idx : Nat) (bs : List Byte) : (setDom s idx bs).img = s.img := rfl
@[simp] theorem setDom_sols (s : State) (idx : Nat) (bs : List Byte) : (setDom s idx bs).sols = s.sols := rfl
@[simp] theorem setDom_banks (s : State) (idx : Nat) (bs : List Byte) : (setDom s idx bs).banks = s.banks := rfl
@[simp] theorem setDom_boost (s : State) (idx : Nat) (bs : List Byte) : (setDom s idx bs).boost = s.boost := rfl
@[simp] theorem setDom_tg (s : State) (idx : Nat) (bs : List Byte) : (setDom s idx bs).tg = s.tg := rfl
@[simp] theorem setDom_se (s : State) (idx : Nat) (bs : List Byte) : (setDom s idx bs).se = s.se := rfl
@[simp] theorem setDom_usb (s : State) (idx : Nat) (bs : List Byte) : (setDom s idx bs).usb = s.usb := rfl
@[simp] theorem setDom_cb (s : State) (idx : Nat) (bs : List Byte) : (setDom s idx bs).cb = s.cb := rfl
@[simp] theorem setDom_net (s : State) (idx : Nat) (bs : List Byte) : (setDom s idx bs).net = s.net := rfl
@[simp] theorem setDom_uarts (s : State) (idx : Nat) (bs : List Byte) : (setDom s idx bs).uarts = s.uarts := rfl
@[simp] theorem setDom_pw (s : State) (idx : Nat) (bs : List Byte) : (setDom s idx bs).pw = s.pw := rfl
@[simp] theorem setDom_boot (s : State) (idx : Nat) (bs : List Byte) : (setDom s idx bs).boot = s.boot := rfl
@[simp] theorem setDom_app (s : State) (idx : Nat) (bs : List Byte) : (setDom s idx bs).app = s.app := rfl
@[simp] theorem setDom_ctl_dict (s : State) (idx : Nat) (bs : List Byte) : (setDom s idx bs).ctl.dict = s.ctl.dict := rfl
@[simp] theorem setDom_ctl_doms (s : State) (idx : Nat) (bs : List Byte) : (setDom s idx bs).ctl.doms = SMap.put domDefault s.ctl.doms idx (domKept idx bs) := rfl
@[simp] theorem setDom_ctl_staging (s : State) (idx : Nat) (bs : List Byte) : (setDom s idx bs).ctl.staging = s.ctl.staging := rfl
@[simp] theorem setDom_ctl_epoch (s : State) (idx : Nat) (bs : List Byte) : (setDom s idx bs).ctl.epoch = s.ctl.epoch := rfl
@[simp] theorem setDom_ctl_epochs (s : State) (idx : Nat) (bs : List Byte) : (setDom s idx bs).ctl.epochs = s.ctl.epochs := rfl
@[simp] theorem setDom_ctl_lastEpochSt (s : State) (idx : Nat) (bs : List Byte) : (setDom s idx bs).ctl.lastEpochSt = s.ctl.lastEpochSt := rfl
@[simp] theorem setDom_ctl_rejects (s : State) (idx : Nat) (bs : List Byte) : (setDom s idx bs).ctl.rejects = s.ctl.rejects := rfl
@[simp] theorem setDom_ctl_lastReject (s : State) (idx : Nat) (bs : List Byte) : (setDom s idx bs).ctl.lastReject = s.ctl.lastReject := rfl
@[simp] theorem setDom_ctl_claims (s : State) (idx : Nat) (bs : List Byte) : (setDom s idx bs).ctl.claims = s.ctl.claims := rfl
@[simp] theorem setDom_ctl_preimg (s : State) (idx : Nat) (bs : List Byte) : (setDom s idx bs).ctl.preimg = s.ctl.preimg := rfl
@[simp] theorem setDom_ctl_preimgDom (s : State) (idx : Nat) (bs : List Byte) : (setDom s idx bs).ctl.preimgDom = s.ctl.preimgDom := rfl
@[simp] theorem setDom_ctl_tiesLost (s : State) (idx : Nat) (bs : List Byte) : (setDom s idx bs).ctl.tiesLost = s.ctl.tiesLost := rfl
@[simp] theorem setDom_ctl_lastTie (s : State) (idx : Nat) (bs : List Byte) : (setDom s idx bs).ctl.lastTie = s.ctl.lastTie := rfl
@[simp] theorem setDom_ctl_lastLoser (s : State) (idx : Nat) (bs : List Byte) : (setDom s idx bs).ctl.lastLoser = s.ctl.lastLoser := rfl
@[simp] theorem setDom_ctl_tickSt (s : State) (idx : Nat) (bs : List Byte) : (setDom s idx bs).ctl.tickSt = s.ctl.tickSt := rfl
@[simp] theorem setDom_ctl_tick (s : State) (idx : Nat) (bs : List Byte) : (setDom s idx bs).ctl.tick = s.ctl.tick := rfl
@[simp] theorem setDom_ctl_storeState (s : State) (idx : Nat) (bs : List Byte) : (setDom s idx bs).ctl.storeState = s.ctl.storeState := rfl
@[simp] theorem setDom_ctl_storeBy (s : State) (idx : Nat) (bs : List Byte) : (setDom s idx bs).ctl.storeBy = s.ctl.storeBy := rfl
@[simp] theorem setDom_ctl_loadedLayout (s : State) (idx : Nat) (bs : List Byte) : (setDom s idx bs).ctl.loadedLayout = s.ctl.loadedLayout := rfl
@[simp] theorem setDom_ctl_dropped (s : State) (idx : Nat) (bs : List Byte) : (setDom s idx bs).ctl.dropped = s.ctl.dropped := rfl
@[simp] theorem setDom_ctl_defaulted (s : State) (idx : Nat) (bs : List Byte) : (setDom s idx bs).ctl.defaulted = s.ctl.defaulted := rfl
@[simp] theorem setDom_ctl_stores (s : State) (idx : Nat) (bs : List Byte) : (setDom s idx bs).ctl.stores = s.ctl.stores := rfl
@[simp] theorem setDom_ctl_source (s : State) (idx : Nat) (bs : List Byte) : (setDom s idx bs).ctl.source = s.ctl.source := rfl
@[simp] theorem setDom_ctl_slots (s : State) (idx : Nat) (bs : List Byte) : (setDom s idx bs).ctl.slots = s.ctl.slots := rfl
@[simp] theorem setDom_ctl_xfers (s : State) (idx : Nat) (bs : List Byte) : (setDom s idx bs).ctl.xfers = s.ctl.xfers := rfl
@[simp] theorem setDom_ctl_status (s : State) (idx : Nat) (bs : List Byte) : (setDom s idx bs).ctl.status = s.ctl.status := rfl
@[simp] theorem setDom_ctl_result (s : State) (idx : Nat) (bs : List Byte) : (setDom s idx bs).ctl.result = s.ctl.result := rfl
@[simp] theorem setDom_ctl_cobSet (s : State) (idx : Nat) (bs : List Byte) : (setDom s idx bs).ctl.cobSet = s.ctl.cobSet := rfl
@[simp] theorem setDom_ctl_storeTo (s : State) (idx : Nat) (bs : List Byte) : (setDom s idx bs).ctl.storeTo = s.ctl.storeTo := rfl
@[simp] theorem setDom_ledger (s : State) (idx : Nat) (bs : List Byte) : (setDom s idx bs).ledger = s.ledger := rfl
@[simp] theorem setDom_pdo (s : State) (idx : Nat) (bs : List Byte) : (setDom s idx bs).pdo = s.pdo := rfl
@[simp] theorem setDom_rm (s : State) (idx : Nat) (bs : List Byte) : (setDom s idx bs).rm = s.rm := rfl
@[simp] theorem setDom_tl (s : State) (idx : Nat) (bs : List Byte) : (setDom s idx bs).tl = s.tl := rfl
@[simp] theorem setDom_sn (s : State) (idx : Nat) (bs : List Byte) : (setDom s idx bs).sn = s.sn := rfl
@[simp] theorem setDom_turns (s : State) (idx : Nat) (bs : List Byte) : (setDom s idx bs).turns = s.turns := rfl
@[simp] theorem setDom_free (s : State) (idx : Nat) (bs : List Byte) : (setDom s idx bs).free = s.free := rfl
@[simp] theorem setDom_pending (s : State) (idx : Nat) (bs : List Byte) : (setDom s idx bs).pending = s.pending := rfl

/-! `raise` changes rm.raised alone. -/

@[simp] theorem raise_md (s : State) (ev d1 d2 : Nat) : (raise s ev d1 d2).md = s.md := rfl
@[simp] theorem raise_tu (s : State) (ev d1 d2 : Nat) : (raise s ev d1 d2).tu = s.tu := rfl
@[simp] theorem raise_msu (s : State) (ev d1 d2 : Nat) : (raise s ev d1 d2).msu = s.msu := rfl
@[simp] theorem raise_heads (s : State) (ev d1 d2 : Nat) : (raise s ev d1 d2).heads = s.heads := rfl
@[simp] theorem raise_en (s : State) (ev d1 d2 : Nat) : (raise s ev d1 d2).en = s.en := rfl
@[simp] theorem raise_vl (s : State) (ev d1 d2 : Nat) : (raise s ev d1 d2).vl = s.vl := rfl
@[simp] theorem raise_rb (s : State) (ev d1 d2 : Nat) : (raise s ev d1 d2).rb = s.rb := rfl
@[simp] theorem raise_media (s : State) (ev d1 d2 : Nat) : (raise s ev d1 d2).media = s.media := rfl
@[simp] theorem raise_opts (s : State) (ev d1 d2 : Nat) : (raise s ev d1 d2).opts = s.opts := rfl
@[simp] theorem raise_supply (s : State) (ev d1 d2 : Nat) : (raise s ev d1 d2).supply = s.supply := rfl
@[simp] theorem raise_govs (s : State) (ev d1 d2 : Nat) : (raise s ev d1 d2).govs = s.govs := rfl
@[simp] theorem raise_cut (s : State) (ev d1 d2 : Nat) : (raise s ev d1 d2).cut = s.cut := rfl
@[simp] theorem raise_axes (s : State) (ev d1 d2 : Nat) : (raise s ev d1 d2).axes = s.axes := rfl
@[simp] theorem raise_img (s : State) (ev d1 d2 : Nat) : (raise s ev d1 d2).img = s.img := rfl
@[simp] theorem raise_sols (s : State) (ev d1 d2 : Nat) : (raise s ev d1 d2).sols = s.sols := rfl
@[simp] theorem raise_banks (s : State) (ev d1 d2 : Nat) : (raise s ev d1 d2).banks = s.banks := rfl
@[simp] theorem raise_boost (s : State) (ev d1 d2 : Nat) : (raise s ev d1 d2).boost = s.boost := rfl
@[simp] theorem raise_tg (s : State) (ev d1 d2 : Nat) : (raise s ev d1 d2).tg = s.tg := rfl
@[simp] theorem raise_se (s : State) (ev d1 d2 : Nat) : (raise s ev d1 d2).se = s.se := rfl
@[simp] theorem raise_usb (s : State) (ev d1 d2 : Nat) : (raise s ev d1 d2).usb = s.usb := rfl
@[simp] theorem raise_cb (s : State) (ev d1 d2 : Nat) : (raise s ev d1 d2).cb = s.cb := rfl
@[simp] theorem raise_net (s : State) (ev d1 d2 : Nat) : (raise s ev d1 d2).net = s.net := rfl
@[simp] theorem raise_uarts (s : State) (ev d1 d2 : Nat) : (raise s ev d1 d2).uarts = s.uarts := rfl
@[simp] theorem raise_pw (s : State) (ev d1 d2 : Nat) : (raise s ev d1 d2).pw = s.pw := rfl
@[simp] theorem raise_boot (s : State) (ev d1 d2 : Nat) : (raise s ev d1 d2).boot = s.boot := rfl
@[simp] theorem raise_app (s : State) (ev d1 d2 : Nat) : (raise s ev d1 d2).app = s.app := rfl
@[simp] theorem raise_ctl (s : State) (ev d1 d2 : Nat) : (raise s ev d1 d2).ctl = s.ctl := rfl
@[simp] theorem raise_ledger (s : State) (ev d1 d2 : Nat) : (raise s ev d1 d2).ledger = s.ledger := rfl
@[simp] theorem raise_pdo (s : State) (ev d1 d2 : Nat) : (raise s ev d1 d2).pdo = s.pdo := rfl
@[simp] theorem raise_rm_recs (s : State) (ev d1 d2 : Nat) : (raise s ev d1 d2).rm.recs = s.rm.recs := rfl
@[simp] theorem raise_rm_sel (s : State) (ev d1 d2 : Nat) : (raise s ev d1 d2).rm.sel = s.rm.sel := rfl
@[simp] theorem raise_rm_lastEvent (s : State) (ev d1 d2 : Nat) : (raise s ev d1 d2).rm.lastEvent = s.rm.lastEvent := rfl
@[simp] theorem raise_rm_table (s : State) (ev d1 d2 : Nat) : (raise s ev d1 d2).rm.table = s.rm.table := rfl
@[simp] theorem raise_rm_raised (s : State) (ev d1 d2 : Nat) : (raise s ev d1 d2).rm.raised = s.rm.raised ++ [⟨ev, wrap 32 d1, wrap 32 d2⟩] := rfl
@[simp] theorem raise_rm_held (s : State) (ev d1 d2 : Nat) : (raise s ev d1 d2).rm.held = s.rm.held := rfl
@[simp] theorem raise_rm_app (s : State) (ev d1 d2 : Nat) : (raise s ev d1 d2).rm.app = s.rm.app := rfl
@[simp] theorem raise_rm_fabric (s : State) (ev d1 d2 : Nat) : (raise s ev d1 d2).rm.fabric = s.rm.fabric := rfl
@[simp] theorem raise_rm_cutDue (s : State) (ev d1 d2 : Nat) : (raise s ev d1 d2).rm.cutDue = s.rm.cutDue := rfl
@[simp] theorem raise_rm_cyc (s : State) (ev d1 d2 : Nat) : (raise s ev d1 d2).rm.cyc = s.rm.cyc := rfl
@[simp] theorem raise_tl (s : State) (ev d1 d2 : Nat) : (raise s ev d1 d2).tl = s.tl := rfl
@[simp] theorem raise_sn (s : State) (ev d1 d2 : Nat) : (raise s ev d1 d2).sn = s.sn := rfl
@[simp] theorem raise_turns (s : State) (ev d1 d2 : Nat) : (raise s ev d1 d2).turns = s.turns := rfl
@[simp] theorem raise_free (s : State) (ev d1 d2 : Nat) : (raise s ev d1 d2).free = s.free := rfl
@[simp] theorem raise_pending (s : State) (ev d1 d2 : Nat) : (raise s ev d1 d2).pending = s.pending := rfl

/-! `setEvEntry` changes rm.table alone. -/

@[simp] theorem setEvEntry_md (s : State) (e v : Nat) : (setEvEntry s e v).md = s.md := rfl
@[simp] theorem setEvEntry_tu (s : State) (e v : Nat) : (setEvEntry s e v).tu = s.tu := rfl
@[simp] theorem setEvEntry_msu (s : State) (e v : Nat) : (setEvEntry s e v).msu = s.msu := rfl
@[simp] theorem setEvEntry_heads (s : State) (e v : Nat) : (setEvEntry s e v).heads = s.heads := rfl
@[simp] theorem setEvEntry_en (s : State) (e v : Nat) : (setEvEntry s e v).en = s.en := rfl
@[simp] theorem setEvEntry_vl (s : State) (e v : Nat) : (setEvEntry s e v).vl = s.vl := rfl
@[simp] theorem setEvEntry_rb (s : State) (e v : Nat) : (setEvEntry s e v).rb = s.rb := rfl
@[simp] theorem setEvEntry_media (s : State) (e v : Nat) : (setEvEntry s e v).media = s.media := rfl
@[simp] theorem setEvEntry_opts (s : State) (e v : Nat) : (setEvEntry s e v).opts = s.opts := rfl
@[simp] theorem setEvEntry_supply (s : State) (e v : Nat) : (setEvEntry s e v).supply = s.supply := rfl
@[simp] theorem setEvEntry_govs (s : State) (e v : Nat) : (setEvEntry s e v).govs = s.govs := rfl
@[simp] theorem setEvEntry_cut (s : State) (e v : Nat) : (setEvEntry s e v).cut = s.cut := rfl
@[simp] theorem setEvEntry_axes (s : State) (e v : Nat) : (setEvEntry s e v).axes = s.axes := rfl
@[simp] theorem setEvEntry_img (s : State) (e v : Nat) : (setEvEntry s e v).img = s.img := rfl
@[simp] theorem setEvEntry_sols (s : State) (e v : Nat) : (setEvEntry s e v).sols = s.sols := rfl
@[simp] theorem setEvEntry_banks (s : State) (e v : Nat) : (setEvEntry s e v).banks = s.banks := rfl
@[simp] theorem setEvEntry_boost (s : State) (e v : Nat) : (setEvEntry s e v).boost = s.boost := rfl
@[simp] theorem setEvEntry_tg (s : State) (e v : Nat) : (setEvEntry s e v).tg = s.tg := rfl
@[simp] theorem setEvEntry_se (s : State) (e v : Nat) : (setEvEntry s e v).se = s.se := rfl
@[simp] theorem setEvEntry_usb (s : State) (e v : Nat) : (setEvEntry s e v).usb = s.usb := rfl
@[simp] theorem setEvEntry_cb (s : State) (e v : Nat) : (setEvEntry s e v).cb = s.cb := rfl
@[simp] theorem setEvEntry_net (s : State) (e v : Nat) : (setEvEntry s e v).net = s.net := rfl
@[simp] theorem setEvEntry_uarts (s : State) (e v : Nat) : (setEvEntry s e v).uarts = s.uarts := rfl
@[simp] theorem setEvEntry_pw (s : State) (e v : Nat) : (setEvEntry s e v).pw = s.pw := rfl
@[simp] theorem setEvEntry_boot (s : State) (e v : Nat) : (setEvEntry s e v).boot = s.boot := rfl
@[simp] theorem setEvEntry_app (s : State) (e v : Nat) : (setEvEntry s e v).app = s.app := rfl
@[simp] theorem setEvEntry_ctl (s : State) (e v : Nat) : (setEvEntry s e v).ctl = s.ctl := rfl
@[simp] theorem setEvEntry_ledger (s : State) (e v : Nat) : (setEvEntry s e v).ledger = s.ledger := rfl
@[simp] theorem setEvEntry_pdo (s : State) (e v : Nat) : (setEvEntry s e v).pdo = s.pdo := rfl
@[simp] theorem setEvEntry_rm_recs (s : State) (e v : Nat) : (setEvEntry s e v).rm.recs = s.rm.recs := rfl
@[simp] theorem setEvEntry_rm_sel (s : State) (e v : Nat) : (setEvEntry s e v).rm.sel = s.rm.sel := rfl
@[simp] theorem setEvEntry_rm_lastEvent (s : State) (e v : Nat) : (setEvEntry s e v).rm.lastEvent = s.rm.lastEvent := rfl
@[simp] theorem setEvEntry_rm_table (s : State) (e v : Nat) : (setEvEntry s e v).rm.table = SMap.put evDefault s.rm.table e v := rfl
@[simp] theorem setEvEntry_rm_raised (s : State) (e v : Nat) : (setEvEntry s e v).rm.raised = s.rm.raised := rfl
@[simp] theorem setEvEntry_rm_held (s : State) (e v : Nat) : (setEvEntry s e v).rm.held = s.rm.held := rfl
@[simp] theorem setEvEntry_rm_app (s : State) (e v : Nat) : (setEvEntry s e v).rm.app = s.rm.app := rfl
@[simp] theorem setEvEntry_rm_fabric (s : State) (e v : Nat) : (setEvEntry s e v).rm.fabric = s.rm.fabric := rfl
@[simp] theorem setEvEntry_rm_cutDue (s : State) (e v : Nat) : (setEvEntry s e v).rm.cutDue = s.rm.cutDue := rfl
@[simp] theorem setEvEntry_rm_cyc (s : State) (e v : Nat) : (setEvEntry s e v).rm.cyc = s.rm.cyc := rfl
@[simp] theorem setEvEntry_tl (s : State) (e v : Nat) : (setEvEntry s e v).tl = s.tl := rfl
@[simp] theorem setEvEntry_sn (s : State) (e v : Nat) : (setEvEntry s e v).sn = s.sn := rfl
@[simp] theorem setEvEntry_turns (s : State) (e v : Nat) : (setEvEntry s e v).turns = s.turns := rfl
@[simp] theorem setEvEntry_free (s : State) (e v : Nat) : (setEvEntry s e v).free = s.free := rfl
@[simp] theorem setEvEntry_pending (s : State) (e v : Nat) : (setEvEntry s e v).pending = s.pending := rfl

/-! `takeFree` changes free alone. -/

@[simp] theorem takeFree_md (s : State) : (takeFree s).md = s.md := rfl
@[simp] theorem takeFree_tu (s : State) : (takeFree s).tu = s.tu := rfl
@[simp] theorem takeFree_msu (s : State) : (takeFree s).msu = s.msu := rfl
@[simp] theorem takeFree_heads (s : State) : (takeFree s).heads = s.heads := rfl
@[simp] theorem takeFree_en (s : State) : (takeFree s).en = s.en := rfl
@[simp] theorem takeFree_vl (s : State) : (takeFree s).vl = s.vl := rfl
@[simp] theorem takeFree_rb (s : State) : (takeFree s).rb = s.rb := rfl
@[simp] theorem takeFree_media (s : State) : (takeFree s).media = s.media := rfl
@[simp] theorem takeFree_opts (s : State) : (takeFree s).opts = s.opts := rfl
@[simp] theorem takeFree_supply (s : State) : (takeFree s).supply = s.supply := rfl
@[simp] theorem takeFree_govs (s : State) : (takeFree s).govs = s.govs := rfl
@[simp] theorem takeFree_cut (s : State) : (takeFree s).cut = s.cut := rfl
@[simp] theorem takeFree_axes (s : State) : (takeFree s).axes = s.axes := rfl
@[simp] theorem takeFree_img (s : State) : (takeFree s).img = s.img := rfl
@[simp] theorem takeFree_sols (s : State) : (takeFree s).sols = s.sols := rfl
@[simp] theorem takeFree_banks (s : State) : (takeFree s).banks = s.banks := rfl
@[simp] theorem takeFree_boost (s : State) : (takeFree s).boost = s.boost := rfl
@[simp] theorem takeFree_tg (s : State) : (takeFree s).tg = s.tg := rfl
@[simp] theorem takeFree_se (s : State) : (takeFree s).se = s.se := rfl
@[simp] theorem takeFree_usb (s : State) : (takeFree s).usb = s.usb := rfl
@[simp] theorem takeFree_cb (s : State) : (takeFree s).cb = s.cb := rfl
@[simp] theorem takeFree_net (s : State) : (takeFree s).net = s.net := rfl
@[simp] theorem takeFree_uarts (s : State) : (takeFree s).uarts = s.uarts := rfl
@[simp] theorem takeFree_pw (s : State) : (takeFree s).pw = s.pw := rfl
@[simp] theorem takeFree_boot (s : State) : (takeFree s).boot = s.boot := rfl
@[simp] theorem takeFree_app (s : State) : (takeFree s).app = s.app := rfl
@[simp] theorem takeFree_ctl (s : State) : (takeFree s).ctl = s.ctl := rfl
@[simp] theorem takeFree_ledger (s : State) : (takeFree s).ledger = s.ledger := rfl
@[simp] theorem takeFree_pdo (s : State) : (takeFree s).pdo = s.pdo := rfl
@[simp] theorem takeFree_rm (s : State) : (takeFree s).rm = s.rm := rfl
@[simp] theorem takeFree_tl (s : State) : (takeFree s).tl = s.tl := rfl
@[simp] theorem takeFree_sn (s : State) : (takeFree s).sn = s.sn := rfl
@[simp] theorem takeFree_turns (s : State) : (takeFree s).turns = s.turns := rfl
@[simp] theorem takeFree_free (s : State) : (takeFree s).free = s.free + 1 := rfl
@[simp] theorem takeFree_pending (s : State) : (takeFree s).pending = s.pending := rfl

/-! `touch` changes the claims and the time of the last access on C alone. -/

@[simp] theorem touch_md (s : State) (p : Path) : (touch s p).md = s.md := rfl
@[simp] theorem touch_tu (s : State) (p : Path) : (touch s p).tu = s.tu := rfl
@[simp] theorem touch_msu (s : State) (p : Path) : (touch s p).msu = s.msu := rfl
@[simp] theorem touch_heads (s : State) (p : Path) : (touch s p).heads = s.heads := rfl
@[simp] theorem touch_en (s : State) (p : Path) : (touch s p).en = s.en := rfl
@[simp] theorem touch_vl (s : State) (p : Path) : (touch s p).vl = s.vl := rfl
@[simp] theorem touch_rb (s : State) (p : Path) : (touch s p).rb = s.rb := rfl
@[simp] theorem touch_media (s : State) (p : Path) : (touch s p).media = s.media := rfl
@[simp] theorem touch_opts (s : State) (p : Path) : (touch s p).opts = s.opts := rfl
@[simp] theorem touch_supply (s : State) (p : Path) : (touch s p).supply = s.supply := rfl
@[simp] theorem touch_govs (s : State) (p : Path) : (touch s p).govs = s.govs := rfl
@[simp] theorem touch_cut (s : State) (p : Path) : (touch s p).cut = s.cut := rfl
@[simp] theorem touch_axes (s : State) (p : Path) : (touch s p).axes = s.axes := rfl
@[simp] theorem touch_img (s : State) (p : Path) : (touch s p).img = s.img := rfl
@[simp] theorem touch_sols (s : State) (p : Path) : (touch s p).sols = s.sols := rfl
@[simp] theorem touch_banks (s : State) (p : Path) : (touch s p).banks = s.banks := rfl
@[simp] theorem touch_boost (s : State) (p : Path) : (touch s p).boost = s.boost := rfl
@[simp] theorem touch_tg (s : State) (p : Path) : (touch s p).tg = s.tg := rfl
@[simp] theorem touch_se (s : State) (p : Path) : (touch s p).se = s.se := rfl
@[simp] theorem touch_usb (s : State) (p : Path) : (touch s p).usb = s.usb := rfl
@[simp] theorem touch_net (s : State) (p : Path) : (touch s p).net = s.net := rfl
@[simp] theorem touch_uarts (s : State) (p : Path) : (touch s p).uarts = s.uarts := rfl
@[simp] theorem touch_pw (s : State) (p : Path) : (touch s p).pw = s.pw := rfl
@[simp] theorem touch_boot (s : State) (p : Path) : (touch s p).boot = s.boot := rfl
@[simp] theorem touch_app (s : State) (p : Path) : (touch s p).app = s.app := rfl
@[simp] theorem touch_ledger (s : State) (p : Path) : (touch s p).ledger = s.ledger := rfl
@[simp] theorem touch_pdo (s : State) (p : Path) : (touch s p).pdo = s.pdo := rfl
@[simp] theorem touch_rm (s : State) (p : Path) : (touch s p).rm = s.rm := rfl
@[simp] theorem touch_tl (s : State) (p : Path) : (touch s p).tl = s.tl := rfl
@[simp] theorem touch_sn (s : State) (p : Path) : (touch s p).sn = s.sn := rfl
@[simp] theorem touch_turns (s : State) (p : Path) : (touch s p).turns = s.turns := rfl
@[simp] theorem touch_free (s : State) (p : Path) : (touch s p).free = s.free := rfl
@[simp] theorem touch_pending (s : State) (p : Path) : (touch s p).pending = s.pending := rfl
@[simp] theorem touch_ctl_dict (s : State) (p : Path) : (touch s p).ctl.dict = s.ctl.dict := rfl
@[simp] theorem touch_ctl_doms (s : State) (p : Path) : (touch s p).ctl.doms = s.ctl.doms := rfl
@[simp] theorem touch_ctl_staging (s : State) (p : Path) : (touch s p).ctl.staging = s.ctl.staging := rfl
@[simp] theorem touch_ctl_epoch (s : State) (p : Path) : (touch s p).ctl.epoch = s.ctl.epoch := rfl
@[simp] theorem touch_ctl_epochs (s : State) (p : Path) : (touch s p).ctl.epochs = s.ctl.epochs := rfl
@[simp] theorem touch_ctl_lastEpochSt (s : State) (p : Path) : (touch s p).ctl.lastEpochSt = s.ctl.lastEpochSt := rfl
@[simp] theorem touch_ctl_rejects (s : State) (p : Path) : (touch s p).ctl.rejects = s.ctl.rejects := rfl
@[simp] theorem touch_ctl_lastReject (s : State) (p : Path) : (touch s p).ctl.lastReject = s.ctl.lastReject := rfl
@[simp] theorem touch_ctl_preimg (s : State) (p : Path) : (touch s p).ctl.preimg = s.ctl.preimg := rfl
@[simp] theorem touch_ctl_preimgDom (s : State) (p : Path) : (touch s p).ctl.preimgDom = s.ctl.preimgDom := rfl
@[simp] theorem touch_ctl_tiesLost (s : State) (p : Path) : (touch s p).ctl.tiesLost = s.ctl.tiesLost := rfl
@[simp] theorem touch_ctl_lastTie (s : State) (p : Path) : (touch s p).ctl.lastTie = s.ctl.lastTie := rfl
@[simp] theorem touch_ctl_lastLoser (s : State) (p : Path) : (touch s p).ctl.lastLoser = s.ctl.lastLoser := rfl
@[simp] theorem touch_ctl_tickSt (s : State) (p : Path) : (touch s p).ctl.tickSt = s.ctl.tickSt := rfl
@[simp] theorem touch_ctl_tick (s : State) (p : Path) : (touch s p).ctl.tick = s.ctl.tick := rfl
@[simp] theorem touch_ctl_storeState (s : State) (p : Path) : (touch s p).ctl.storeState = s.ctl.storeState := rfl
@[simp] theorem touch_ctl_storeBy (s : State) (p : Path) : (touch s p).ctl.storeBy = s.ctl.storeBy := rfl
@[simp] theorem touch_ctl_loadedLayout (s : State) (p : Path) : (touch s p).ctl.loadedLayout = s.ctl.loadedLayout := rfl
@[simp] theorem touch_ctl_dropped (s : State) (p : Path) : (touch s p).ctl.dropped = s.ctl.dropped := rfl
@[simp] theorem touch_ctl_defaulted (s : State) (p : Path) : (touch s p).ctl.defaulted = s.ctl.defaulted := rfl
@[simp] theorem touch_ctl_stores (s : State) (p : Path) : (touch s p).ctl.stores = s.ctl.stores := rfl
@[simp] theorem touch_ctl_source (s : State) (p : Path) : (touch s p).ctl.source = s.ctl.source := rfl
@[simp] theorem touch_ctl_slots (s : State) (p : Path) : (touch s p).ctl.slots = s.ctl.slots := rfl
@[simp] theorem touch_ctl_xfers (s : State) (p : Path) : (touch s p).ctl.xfers = s.ctl.xfers := rfl
@[simp] theorem touch_ctl_status (s : State) (p : Path) : (touch s p).ctl.status = s.ctl.status := rfl
@[simp] theorem touch_ctl_result (s : State) (p : Path) : (touch s p).ctl.result = s.ctl.result := rfl
@[simp] theorem touch_ctl_cobSet (s : State) (p : Path) : (touch s p).ctl.cobSet = s.ctl.cobSet := rfl
@[simp] theorem touch_ctl_storeTo (s : State) (p : Path) : (touch s p).ctl.storeTo = s.ctl.storeTo := rfl
@[simp] theorem touch_cb_ioLevel (s : State) (p : Path) : (touch s p).cb.ioLevel = s.cb.ioLevel := rfl
@[simp] theorem touch_cb_recordErrs (s : State) (p : Path) : (touch s p).cb.recordErrs = s.cb.recordErrs := rfl
@[simp] theorem touch_cb_underruns (s : State) (p : Path) : (touch s p).cb.underruns = s.cb.underruns := rfl
@[simp] theorem touch_cb_inp (s : State) (p : Path) : (touch s p).cb.inp = s.cb.inp := rfl
@[simp] theorem touch_cb_outOff (s : State) (p : Path) : (touch s p).cb.outOff = s.cb.outOff := rfl
@[simp] theorem touch_cb_q (s : State) (p : Path) : (touch s p).cb.q = s.cb.q := rfl
@[simp] theorem touch_cb_evOff (s : State) (p : Path) : (touch s p).cb.evOff = s.cb.evOff := rfl
@[simp] theorem touch_cb_fifo (s : State) (p : Path) : (touch s p).cb.fifo = s.cb.fifo := rfl
@[simp] theorem touch_cb_dropped (s : State) (p : Path) : (touch s p).cb.dropped = s.cb.dropped := rfl
@[simp] theorem touch_cb_dropRun (s : State) (p : Path) : (touch s p).cb.dropRun = s.cb.dropRun := rfl
@[simp] theorem touch_cb_refused (s : State) (p : Path) : (touch s p).cb.refused = s.cb.refused := rfl
@[simp] theorem touch_cb_lastRefused (s : State) (p : Path) : (touch s p).cb.lastRefused = s.cb.lastRefused := rfl
@[simp] theorem touch_cb_processed (s : State) (p : Path) : (touch s p).cb.processed = s.cb.processed := rfl
@[simp] theorem touch_cb_refusedSeen (s : State) (p : Path) : (touch s p).cb.refusedSeen = s.cb.refusedSeen := rfl
@[simp] theorem touch_cb_pwIndex (s : State) (p : Path) : (touch s p).cb.pwIndex = s.cb.pwIndex := rfl
@[simp] theorem touch_cb_pwSub (s : State) (p : Path) : (touch s p).cb.pwSub = s.cb.pwSub := rfl
@[simp] theorem touch_cb_pwLen (s : State) (p : Path) : (touch s p).cb.pwLen = s.cb.pwLen := rfl
@[simp] theorem touch_cb_pwVal (s : State) (p : Path) : (touch s p).cb.pwVal = s.cb.pwVal := rfl
@[simp] theorem touch_cb_mb (s : State) (p : Path) : (touch s p).cb.mb = s.cb.mb := rfl
@[simp] theorem touch_cb_mirror (s : State) (p : Path) : (touch s p).cb.mirror = s.cb.mirror := rfl
@[simp] theorem touch_cb_word (s : State) (p : Path) : (touch s p).cb.word = s.cb.word := rfl
@[simp] theorem touch_cb_rstLow (s : State) (p : Path) : (touch s p).cb.rstLow = s.cb.rstLow := rfl
@[simp] theorem now_touch (s : State) (p : Path) : now (touch s p) = now s := rfl
@[simp] theorem objK_touch (s : State) (p : Path) (k : Nat) : objK (touch s p) k = objK s k := rfl
@[simp] theorem obj_touch (s : State) (p : Path) (idx sub : Nat) : obj (touch s p) idx sub = obj s idx sub := rfl
@[simp] theorem objN_touch (s : State) (p : Path) (idx sub : Nat) : objN (touch s p) idx sub = objN s idx sub := rfl
@[simp] theorem inRun_touch (s : State) (p : Path) : inRun (touch s p) = inRun s := rfl
@[simp] theorem controlLive_touch (s : State) (p : Path) : controlLive (touch s p) = controlLive s := rfl
@[simp] theorem dictLive_touch (s : State) (p : Path) : dictLive (touch s p) = dictLive s := rfl
@[simp] theorem clockRuns_touch (s : State) (p : Path) : clockRuns (touch s p) = clockRuns s := rfl
@[simp] theorem outputCut_touch (s : State) (p : Path) : outputCut (touch s p) = outputCut s := rfl
@[simp] theorem dom_touch (s : State) (p : Path) (idx : Nat) : dom (touch s p) idx = dom s idx := rfl
@[simp] theorem wmAt_touch (s : State) (p : Path) (e : Nat) : wmAt (touch s p) e = wmAt s e := rfl
@[simp] theorem evEntry_touch (s : State) (p : Path) (e : Nat) : evEntry (touch s p) e = evEntry s e := rfl

end Sys2Proof.Machine
end

