-- ==== Sys2Proof/Laws/Write.lean ====
section
/-!
SUPPORT. Write.lean: what a write of one object does, by its verdict (R335): taken at once, staged, refused.
-/

namespace Sys2Proof.Machine

open Sys2Proof

/-- With no epoch accepted the dictionary is as it stands. -/
theorem epochFirst_none {s : State} (h : s.ctl.epoch = none) : epochFirst s = s := by
  unfold epochFirst; rw [h]

/-- A write that passes and is no staged one: its command's verdict decides. -/
theorem writeNum_passes {s u : State} {p : Path} {k : Nat} {v : Int} {seen : List Nat} {d : Nat} (h : Passes s p k v)
    (hc : clsOf k ≠ .staged) (hk : plainKey k) (ha : applyWrite (touch s p) p k (dataValue k (numData k v)) seen = (u, d)) :
    (writeNum s p k v seen).1 =
      if vRefused d then answer u p (vStatus d) else answer (noteTick u p k false none) p (vStatus d) := by
  obtain ⟨hl, he, hj, ht⟩ := h
  unfold writeNum writeTx
  rw [epochFirst_none he]
  simp only [hl, hj, hk.1, Bool.not_true, Bool.false_eq_true, if_false, ne_eq, not_true_eq_false]
  unfold acceptWrite
  have tk : ∀ n, tieKey k n = some k := by intro n; unfold tieKey; rw [if_neg hk.2.2, if_neg (by simp [hk.1, hk.2.1])]
  simp only [tk, ht, if_neg hc, ha]
  split <;> rfl

/-- A write whose command accepts it is taken. -/
theorem writeNum_taken {s u : State} {p : Path} {k : Nat} {v : Int} {seen : List Nat} (h : Passes s p k v)
    (hc : clsOf k ≠ .staged) (hk : plainKey k) (ha : applyWrite (touch s p) p k (dataValue k (numData k v)) seen = (u, 0)) :
    (writeNum s p k v seen).1 = taken u p k := by
  rw [writeNum_passes h hc hk ha]; rfl

/-- A write that its command refuses leaves what the command left, and the status. -/
theorem writeNum_turnedAway {s u : State} {p : Path} {k : Nat} {v : Int} {seen : List Nat} {d : Nat} (h : Passes s p k v)
    (hc : clsOf k ≠ .staged) (hk : plainKey k) (ha : applyWrite (touch s p) p k (dataValue k (numData k v)) seen = (u, d))
    (hd : vRefused d = true) : (writeNum s p k v seen).1 = answer u p (vStatus d) := by
  rw [writeNum_passes h hc hk ha, if_pos hd]

/-- A STAGED write that passes enters its path's set. -/
theorem writeNum_staged {s : State} {p : Path} {k : Nat} {v : Int} {seen : List Nat} (h : Passes s p k v)
    (hc : clsOf k = .staged) (hk : plainKey k) :
    (writeNum s p k v seen).1 =
      answer (modStaging (noteTick (touch s p) p k true ((stagingOf (touch s p) p).vals.lookup k)) p
        (fun g => stagePut g k (dataValue k (numData k v)))) p 0x26 := by
  obtain ⟨hl, he, hj, ht⟩ := h
  unfold writeNum writeTx
  rw [epochFirst_none he]
  simp only [hl, hj, hk.1, Bool.not_true, Bool.false_eq_true, if_false, ne_eq, not_true_eq_false]
  unfold acceptWrite
  have tk : ∀ n, tieKey k n = some k := by intro n; unfold tieKey; rw [if_neg hk.2.2, if_neg (by simp [hk.1, hk.2.1])]
  simp only [tk, ht, if_pos hc]
  rfl

end Sys2Proof.Machine
end

