-- ==== Sys2Proof/Laws/Exec.lean ====
section
/-!
SUPPORT. Exec.lean: what a command answers, once for each of the four ways a meaning is built: at every time, where a condition
of the cycle holds, on the live control plane alone (R28), and as a write of one number on a path (R335).
-/

namespace Sys2Proof.Machine

open Sys2Proof

/-- A command whose condition holds has its effect. -/
theorem doWhen_next {s u : State} {f : State → State} {c : Bool} (hc : c = true) (h : f s = u) :
    doWhen c f s = .next (finish s u) := by
  unfold doWhen done; rw [if_pos hc, h]

/-- A command whose condition does not hold has none. -/
theorem doWhen_idle {s : State} {f : State → State} {c : Bool} (hc : c = false) : doWhen c f s = .next (finish s s) := by
  unfold doWhen done; rw [hc]; rfl

/-- A command of the control plane has its effect while the plane is live. -/
theorem doLive_next {s u : State} {f : State → State} {c : Bool} (hl : controlLive s = true) (hc : c = true) (h : f s = u) :
    doLive c f s = .next (finish s u) := doWhen_next (by rw [hl, hc]; rfl) h

/-- It has none while the plane is not live. -/
theorem doLive_idle {s : State} {f : State → State} {c : Bool} (hl : controlLive s = false) :
    doLive c f s = .next (finish s s) := doWhen_idle (by rw [hl]; rfl)

/-- A write that its command takes, `w` being the value its data spells. -/
theorem doWrite_taken {s u : State} {p : Path} {k : Nat} {v : Int} {seen : List Nat} (h : Passes s p k v)
    (hc : clsOf k ≠ .staged) (hk : plainKey k) (w : Int) (hw : dataValue k (numData k v) = w)
    (ha : applyWrite (touch s p) p k w seen = (u, 0)) : doWrite p k v seen s = .next (finish s (taken u p k)) := by
  unfold doWrite done; subst hw; rw [writeNum_taken h hc hk ha]

/-- A write that its command turns away. -/
theorem doWrite_turnedAway {s u : State} {p : Path} {k : Nat} {v : Int} {seen : List Nat} {d : Nat} (h : Passes s p k v)
    (hc : clsOf k ≠ .staged) (hk : plainKey k) (w : Int) (hw : dataValue k (numData k v) = w)
    (ha : applyWrite (touch s p) p k w seen = (u, d)) (hd : vRefused d = true) :
    doWrite p k v seen s = .next (finish s (answer u p (vStatus d))) := by
  unfold doWrite done; subst hw; rw [writeNum_turnedAway h hc hk ha hd]

/-- Whatever a command does, it answers a next state: what its own work leaves, with what follows every command. -/
theorem done_next (b s : State) : done b s = .next (finish b s) := rfl

end Sys2Proof.Machine
end

