-- ==== Sys2Proof/Laws/Finish.lean ====
section
/-!
SUPPORT. Finish.lean: what the follow-up of every command leaves of the domains and of the queues of DOZE.
-/

namespace Sys2Proof.Machine

open Sys2Proof

/-- `domainsFollow` in one equation. -/
theorem domainsFollow_eq (s : State) : domainsFollow s =
    if onMaskNow s = s.pw.onMask then s else modPw s (fun w =>
      { w with onMask := onMaskNow s,
               switches := bump 32 (w.switches + popCount 56 (Nat.xor (onMaskNow s) s.pw.onMask) - 1) }) := rfl

/-- The domains that are on do not hang on ON_MASK and DOMAIN_SWITCHES. -/
theorem onMaskNow_modPw (s : State) (m n : Nat → Nat) :
    onMaskNow (modPw s (fun w => { w with onMask := m w.onMask, switches := n w.switches })) = onMaskNow s := rfl

/-- After it ON_MASK shows the domains. -/
theorem domainsFollow_shown (s : State) : DomainsShown (domainsFollow s) := by
  rw [domainsFollow_eq]
  by_cases h : onMaskNow s = s.pw.onMask
  · rw [if_pos h]; exact h.symm
  · rw [if_neg h]
    exact (onMaskNow_modPw s (fun _ => onMaskNow s)
      (fun n => bump 32 (n + popCount 56 (Nat.xor (onMaskNow s) s.pw.onMask) - 1))).symm

/-- It leaves alone whether DOZE is being entered. -/
theorem dozeEntering_domainsFollow (s : State) : dozeEntering (domainsFollow s) = dozeEntering s := by
  unfold domainsFollow; simp only; split <;> rfl

/-- It leaves alone whether ST is with the keeper. -/
theorem dozeOff_domainsFollow (s : State) : dozeOff (domainsFollow s) = dozeOff s := by
  unfold domainsFollow; simp only; split <;> rfl

/-- After `dozeQueues` the queues of DOZE are empty. -/
theorem dozeQueues_empty (s : State) : DozeQueuesEmpty (dozeQueues s) := by
  unfold dozeQueues
  split
  · intro _; exact ⟨rfl, rfl, rfl, rfl⟩
  · next h => intro h2; exact absurd h2 (by simpa using h)

/-- `domainsFollow` keeps them empty. -/
theorem domainsFollow_doze {s : State} (h : DozeQueuesEmpty s) : DozeQueuesEmpty (domainsFollow s) := by
  intro hd
  rw [dozeEntering_domainsFollow, dozeOff_domainsFollow] at hd
  have := h hd
  unfold domainsFollow; simp only; split <;> exact this

/-- The domains that are on do not hang on the queue of commands. -/
theorem onMaskNow_pending (s : State) (p : List Instr) : onMaskNow { s with pending := p } = onMaskNow s := rfl

/-- The invariant does not hang on the queue of commands. -/
theorem inv_pending {s : State} (p : List Instr) (h : Inv s) : Inv { s with pending := p } := by
  refine ⟨?_, h.2⟩
  unfold DomainsShown
  rw [onMaskNow_pending]
  exact h.1

/-- The invariant holds after the follow-up of every command. -/
theorem finish_inv (b s : State) : Inv (finish b s) := by
  unfold finish
  exact inv_pending b.pending ⟨domainsFollow_shown _, domainsFollow_doze (dozeQueues_empty _)⟩

/-- The follow-up of a command leaves the queue as the command found it. -/
theorem finish_pending (b s : State) : (finish b s).pending = b.pending := by
  unfold finish
  rfl

/-- An update of nothing but the follow-up's own state leaves the units alone: with this, `UnitsSame` chains. -/
theorem UnitsSame.trans {s t u : State} (h : UnitsSame s t) (k : UnitsSame t u) : UnitsSame s u := Eq.trans k h

/-- Nothing changes in no change. -/
theorem UnitsSame.refl (s : State) : UnitsSame s s := rfl

/-- What holds of each element's effect holds of all in order. -/
theorem UnitsSame.all {α : Type} {f : State → α → State} (hf : ∀ s x, UnitsSame s (f s x)) (xs : List α) (s : State) :
    UnitsSame s (applyAll f s xs) := by
  unfold applyAll
  induction xs generalizing s with
  | nil => exact UnitsSame.refl s
  | cons x r ih => exact (hf s x).trans (ih _)

end Sys2Proof.Machine
end

