-- ==== Sys2Proof/WellFormed.lean ====
section
/-!
DEFINITION. WellFormed.lean: what a command that comes from outside can carry: every operand lies in the width of the field,
register or reading it stands for. A meaning answers for any operands; these bounds say which ones a link, a pin or a sensor
can bring (DESIGN CHOICE, assumption log 3).
-/

namespace Sys2Proof

/-- The command's operands lie in their ranges. -/
def Instr.wellFormed (i : Instr) : Bool :=
  match i with
  | .powerOn kind volts hz _ _ => decide (kind < 4) && decide (volts < 0x10000) && decide (hz < 0x10000)
  | .bootComplete bad _ => bad.all (fun b => b < 16)
  | .bootWatchdog => true
  | .modeReqStandby _ => true
  | .modeReqRun _ => true
  | .modeReqDoze _ => true
  | .modeReqService _ => true
  | .runReached ra rb va vb boost _ bad => decide (ra < 0x100000000) && decide (rb < 0x100000000) && decide (va < 0x10000) && decide (vb < 0x10000) && decide (boost < 0x10000) && bad.all (fun b => b < 16)
  | .runEntryTimeout ra rb va vb boost => decide (ra < 0x100000000) && decide (rb < 0x100000000) && decide (va < 0x10000) && decide (vb < 0x10000) && decide (boost < 0x10000)
  | .standbyReached va vb boost => decide (va < 0x10000) && decide (vb < 0x10000) && decide (boost < 0x10000)
  | .lockoutClear _ => true
  | .serviceClaim _ => true
  | .dozeHandover => true
  | .dozeAbort _ => true
  | .keeperTick => true
  | .wakeRecognised _ => true
  | .wakeComplete _ _ => true
  | .servoBoundary rails i p => rails.length == 10 && decide (i < 0x10000) && decide (p < 0x100000000)
  | .encEdge _ _ => true
  | .edgeTimeout _ => true
  | .laneDirCommit _ => true
  | .lineEvent _ va vb df0 df1 => decide (va < 0x10000) && decide (vb < 0x10000) && decide (df0 < 4096) && decide (df1 < 4096)
  | .waymarkFire _ => true
  | .waymarkRearm _ => true
  | .waymarkStFire _ => true
  | .waymarkWrite _ _ v => decide (v < 0x10000000000000000)
  | .waymarkEnable _ ctrl => decide (ctrl < 0x100000000)
  | .pairMinimumEnd _ => true
  | .waymarkDisableAll _ => true
  | .waymarkArmAll _ => true
  | .waymarkImageWrite _ _ => true
  | .encIndex _ => true
  | .rehomeReq _ _ => true
  | .tcWrap _ => true
  | .tcMatchA _ => true
  | .tcMatchB _ => true
  | .tcOneshotPark _ => true
  | .trigDeliver _ => true
  | .gioContention _ => true
  | .captureAccept _ _ => true
  | .debugHalt => true
  | .debugResume => true
  | .flagsW1cWrite _ _ v => decide (v < 256)
  | .headIdCheck _ r => decide (r < 0x100000000)
  | .lineCommit _ => true
  | .sliceTrainEnd _ => true
  | .rasterFlush _ mask => (1 ≤ mask && mask ≤ 3)
  | .recomputeLatch _ => true
  | .thermRead _ code => decide (code < 4096)
  | .modelUpdate _ => true
  | .measStart _ _ raws => raws.all (fun c => c < 0x10000)
  | .measAbort _ _ => true
  | .measDone _ dvs => dvs.all (fun v => v < 0x10000)
  | .mediaSample codes => codes.all (fun c => c < 4096)
  | .labelMissing => true
  | .supplySample codes => codes.all (fun c => c < 4096)
  | .outReserveReached => true
  | .govRelease _ _ => true
  | .cutCmdFull _ => true
  | .cutCmdPartial _ => true
  | .cutCmdHome _ => true
  | .cutDriveStart => true
  | .cutEndReached => true
  | .cutEndTimeout => true
  | .cutPartialEnd => true
  | .cutHomeReached => true
  | .cutHomeTimeout => true
  | .cutDone => true
  | .cutShort => true
  | .cutClear _ _ => true
  | .axGo _ => true
  | .axGoAlt _ => true
  | .axStop _ => true
  | .axQstop _ => true
  | .regChangeover _ => true
  | .axStandstill _ => true
  | .axShort _ phase kind => decide (phase < 2) && decide (kind < 256)
  | .axClear _ _ _ => true
  | .axOpenLoad _ phase => decide (phase < 2)
  | .sysTempRead values => values.all (fun v => v < 0x10000)
  | .imgTrainEnd _ _ => true
  | .imgWithdrawn _ => true
  | .lineFinal _ => true
  | .docEnd _ => true
  | .calBlack _ _ => true
  | .calWhite _ _ => true
  | .calAlign _ _ => true
  | .calBarEdges _ _ => true
  | .calLineTrigger _ _ => true
  | .solOn _ mask => (1 ≤ mask && mask < 256)
  | .solOff _ mask => (1 ≤ mask && mask < 256)
  | .solPulse _ mask => (1 ≤ mask && mask < 256)
  | .peakStart _ v => decide (v < 0x10000)
  | .peakCurrentReached _ => true
  | .peakDwellEnd _ => true
  | .ttpMaxExpire _ i => decide (i < 0x10000)
  | .holdMaxExpire _ => true
  | .pulseEnd _ => true
  | .minOnEnd _ => true
  | .decayEnd _ i va vb => decide (i < 0x10000) && decide (va < 0x10000) && decide (vb < 0x10000)
  | .peakQueueTimeout _ => true
  | .propUpdate is => is.length == 8
  | .boostClamp v => decide (v < 0x20000)
  | .boostLow v => decide (v < 0x20000)
  | .solModelUpdate i2s => i2s.length == 8
  | .resWindowStart _ => true
  | .resWindowEnd _ v i => decide (v < 0x20000) && decide (i < 0x10000)
  | .solOcTrip _ => true
  | .solOcRetryDue _ => true
  | .solShortGnd _ => true
  | .solHsShort _ => true
  | .solCoupled _ _ => true
  | .solClear _ mask => decide (mask < 256)
  | .bankClear _ mask low => decide (mask < 4) && decide (low < 4)
  | .rColdNomWrite _ _ v => decide (v < 0x100000000)
  | .seRotationDue => true
  | .roleHandover => true
  | .sliceCalDone _ _ _ => true
  | .sliceClear _ mask => decide (mask < 16)
  | .refEnWrite _ _ => true
  | .refSettled => true
  | .trigSw _ => true
  | .trigPinEdge _ _ => true
  | .sqStart _ => true
  | .sqStop _ => true
  | .sqDelayEnd _ => true
  | .conversionDone c => (match c with | .seq _ raw => raw < 0x10000 | .urgent _ raw => raw < 0x10000 | .opt => true)
  | .urgentStart _ => true
  | .capArm _ => true
  | .capAbort _ raws => raws.all (fun c => c < 0x10000)
  | .captureStart => true
  | .captureDone raws => raws.all (fun c => c < 0x10000)
  | .filterPace _ => true
  | .queuePop _ => true
  | .queueFlush _ => true
  | .dmaMove => true
  | .objectWrite _ idx sub _ => decide (idx < 0x10000) && decide (sub < 256)
  | .commitOwn _ => true
  | .commitAll _ => true
  | .commitDiscard _ => true
  | .commitEpoch => true
  | .claim _ g => decide (g < 24)
  | .claimRelease _ g => (g < 24 || g == 255)
  | .claimLeaseExpire _ => true
  | .storeAll _ => true
  | .storeDone _ => true
  | .restoreAll _ => true
  | .jobSubmit _ => true
  | .jobAbort _ => true
  | .jobEnd _ => true
  | .jobRelease _ => true
  | .ledgerClear _ => true
  | .jobArm => true
  | .rpdoReceive _ bs => decide (bs.length ≤ 64)
  | .syncReceive => true
  | .tpdoChangeTest _ => true
  | .tpdoEventTimer _ => true
  | .tpdoInhibitEnd _ => true
  | .pdoCobIdWrite _ _ _ v => decide (v < 0x100000000)
  | .pdoMapWrite _ _ _ sub v => decide (sub ≤ 64) && decide (v < 0x100000000)
  | .vbusValid => true
  | .vbusInvalid => true
  | .usbReset _ => true
  | .usbSetConfiguration v => decide (v < 256)
  | .usbSetRemoteWake => true
  | .usbClearRemoteWake => true
  | .usbReadObject idx sub wLength => decide (idx < 0x10000) && decide (sub < 256) && decide (wLength < 0x10000)
  | .usbWriteObject idx sub _ => decide (idx < 0x10000) && decide (sub < 256)
  | .usbGetResult => true
  | .usbDomainOpen idx sub _ total => decide (idx < 0x10000) && decide (sub < 256) && decide (total < 0x100000000)
  | .usbDomainPut bs => (1 ≤ bs.length && bs.length ≤ 4096)
  | .usbDomainGet wLength => decide (wLength ≤ 4096)
  | .usbDomainAbort => true
  | .usbBadRequest => true
  | .domainTimeout _ => true
  | .usbSuspend => true
  | .remoteWakeDriveK => true
  | .remoteWakeRelease => true
  | .remoteWakeSample _ => true
  | .remoteWakeRetry => true
  | .usbHostResume => true
  | .usbResumeEnd => true
  | .eventInToken => true
  | .bulkOutPacket bs => decide (bs.length ≤ 512)
  | .rasterAccept _ => true
  | .bulkInAck _ => true
  | .usbClearHalt => true
  | .dfuDnload bs => decide (bs.length ≤ 4096)
  | .dfuManifest _ => true
  | .dfuGetstatus => true
  | .dfuUpload => true
  | .dfuDetach => true
  | .mirrorRead a => (a < 0x800 && a % 2 == 0)
  | .doorbellWrite _ word => decide (word < 0x10000)
  | .pwGo idx sub len v => decide (idx < 0x10000) && decide (sub < 256) && (1 ≤ len && len ≤ 8) && decide (v < 0x10000000000000000)
  | .postedDrain => true
  | .mbRead idx sub => decide (idx < 0x10000) && decide (sub < 256)
  | .mbWrite idx sub bs => decide (idx < 0x10000) && decide (sub < 256) && decide (bs.length ≤ 2032)
  | .mbOpenRead idx sub => decide (idx < 0x10000) && decide (sub < 256)
  | .mbOpenWrite idx sub total => decide (idx < 0x10000) && decide (sub < 256) && decide (total < 0x100000000)
  | .mbSegment off len bs => decide (off < 0x100000000) && decide (len ≤ 2032) && decide (bs.length ≤ 2032)
  | .mbAbort => true
  | .mbStreamReset => true
  | .mbRequestDone => true
  | .cbInWrite word => decide (word < 0x10000)
  | .cbOutRead => true
  | .cbEventRead => true
  | .cbReset => true
  | .nmtStart node => decide (node < 128)
  | .nmtStop node => decide (node < 128)
  | .nmtEnterPreop node => decide (node < 128)
  | .nmtResetNode node => decide (node < 128)
  | .nmtResetComm node => decide (node < 128)
  | .nmtBootup => true
  | .usdoDownloadInit client idx sub total _ => decide (client < 128) && decide (idx < 0x10000) && decide (sub < 256) && decide (total < 0x100000000)
  | .usdoDownloadSegment client bs => decide (client < 128) && decide (bs.length ≤ 64)
  | .usdoUploadInit client idx sub _ => decide (client < 128) && decide (idx < 0x10000) && decide (sub < 256)
  | .usdoUploadSegment client _ => decide (client < 128)
  | .usdoClientAbort client => decide (client < 128)
  | .usdoTimeout client => decide (client < 128)
  | .canBusOff tec rec_ => decide (tec < 0x10000) && decide (rec_ < 0x10000)
  | .canRecovered => true
  | .heartbeatSend => true
  | .heartbeatReceive node => decide (node < 128)
  | .hbTimeout _ => true
  | .emcySend => true
  | .lrCall _ v => decide (v < 256)
  | .lrCallReceive node round => decide (node < 128) && decide (round < 256)
  | .lrAnswerReceive node round reason => decide (node < 128) && decide (round < 256) && decide (reason < 10)
  | .lrAnswerWindowEnd => true
  | .lrVetoReceive node round => decide (node < 128) && decide (round < 256)
  | .lrCommitReceive node round => decide (node < 128) && decide (round < 256)
  | .lrAbortReceive node round reason => decide (node < 128) && decide (round < 256) && decide (reason < 10)
  | .lrWaitTimeout => true
  | .lrWakeReceive node => decide (node < 128)
  | .lrCurtainEnd => true
  | .canWake f => (match f with | .frame id dlc payload => id < 2048 && dlc ≤ 8 && payload.length ≤ 8 | _ => true)
  | .uartRxChar _ samples => samples.all (fun k => k < 4)
  | .uartTxStart _ _ => true
  | .uartTxDone _ => true
  | .uartStartEdgeWake _ => true
  | .eventClearFlag _ => true
  | .eventClearAll _ => true
  | .coverAssert => true
  | .coverDeassert => true
  | .coverRelease => true
  | .haltAssert _ => true
  | .headOtAssert _ => true
  | .headOtDeassert _ => true
  | .vhOvAssert _ mV => decide (mV < 0x10000)
  | .vhOvDeassert _ => true
  | .snRelease _ => true
  | .tlClear _ => true
  | .railUv rail mV => decide (rail < 10) && decide (mV < 0x10000)
  | .railOv rail mV => decide (rail < 10) && decide (mV < 0x10000)
  | .avsUpdate counts => counts.length == 8
  | .powerFail cause _ => (1 ≤ cause && cause ≤ 4)
  | .inputDip _ => true
  | .powerLost => true
  | .recoveryWakeExit => true
  | .systemImageWrite _ _ => true
  | .appImageWrite _ _ => true
  | .slotCmdInvalidate _ => true
  | .rollbackCommit _ => true
  | .keyAdd _ => true
  | .keyRevoke _ _ => true
  | .appStart _ => true
  | .appStop _ => true
  | .appEnableWrite _ v => decide (v < 256)
  | .appWdogExpire => true
  | .appTrap pc cause => decide (pc < 0x100000000) && decide (cause < 0x100000000)
  | .appAccessFault addr => decide (addr < 0x100000000)
  | .apiDictRead idx sub buf size => decide (idx < 0x10000) && decide (sub < 256) && decide (buf < 0x100000000) && decide (size < 0x100000000)
  | .apiDictWrite idx sub buf len => decide (idx < 0x10000) && decide (sub < 256) && decide (buf < 0x100000000) && decide (len < 0x100000000)
  | .apiDomainOpen idx dir total => decide (idx < 0x10000) && decide (dir < 0x100000000) && decide (total < 0x100000000)
  | .apiDomainSegment buf len off => decide (buf < 0x100000000) && decide (len < 0x100000000) && decide (off < 0x100000000)
  | .apiDomainAbort => true
  | .apiEventGet buf most => decide (buf < 0x100000000) && decide (most < 0x100000000)
  | .apiWait lo hi => decide (lo < 0x100000000) && decide (hi < 0x100000000)
  | .apiWaitWake => true
  | .apiWdogKick => true
  | .apiUartPut port ch => decide (port < 0x100000000) && decide (ch < 0x100000000)
  | .apiUartGet port => decide (port < 0x100000000)
  | .apiExit => true
  | .apiUnknown code => !([0x01, 0x02, 0x03, 0x04, 0x05, 0x08, 0x09, 0x0A, 0x10, 0x11, 0x1F] : List Nat).contains code
  | .debugUnlock _ => true
  | .debugLock _ => true
  | .cutReverseDrive => true
  | .lockoutFloorsReached va vb boost => decide (va < 0x10000) && decide (vb < 0x10000) && decide (boost < 0x10000)
  | .usbSetAddress => true
  | .errorPassive tec rec_ => decide (tec < 0x10000) && decide (rec_ < 0x10000)
  | .uartBreakEnd _ => true

end Sys2Proof
end

