-- ==== Sys2Proof/Tests/Slice0.lean ====
section
/-!
SUPPORT. Slice0.lean: the model's own tests. Expected results are the spec's worked examples and tables, or hand calculation from
its rules. The theorems `wit_…` show, for every clause of a statement that has hypotheses, a state and operands that meet them.
-/

open Sys2Proof Sys2Proof.Machine

namespace Sys2Proof.Tests

set_option Elab.async false

/-- The state after reset, with the supply on, in a mode. -/
abbrev inMode (m : Mode) : State :=
  { State.reset with md := { State.reset.md with mode := m }, pw := { State.reset.pw with on := true, present := true } }
/-- STANDBY. -/
abbrev sb : State := inMode .standby
/-- RUN. -/
abbrev rn : State := { inMode .run with pw := { (inMode .run).pw with stagesOn := true } }
/-- The same at another ST. -/
abbrev atST (t : Nat) (s : State) : State := { s with tu := { s.tu with st := t } }

/-- SERVICE, the session held on H. -/
abbrev svc : State := setClaim (inMode .service) 0 ⟨some .h, 0⟩


/-! Witnesses of the statements' hypotheses. -/

theorem wit_StepTakesFront : ({ sb with pending := [.keeperTick, .dmaMove] } : State).pending = .keeperTick :: [.dmaMove] ∧ sb.pending = [] := by
  decide +kernel
theorem wit_StepKeepsInv : Inv State.reset ∧ (∃ t, step State.reset = .next t) := ⟨by unfold Machine.Inv DomainsShown DozeQueuesEmpty; decide +kernel, _, rfl⟩
theorem wit_FollowLeavesUnits : (finish sb sb).md.mode = sb.md.mode ∧ ¬ (pfStep sb = 6 ∧ sb.pw.present = true) := by decide +kernel
theorem wit_QueueDrains : ({ sb with pending := [.keeperTick, .dmaMove] } : State).pending = [.keeperTick] ++ [.dmaMove] ∧
    [Instr.keeperTick] ≠ [] := by decide +kernel
theorem wit_NotLiveNoEffect : controlLive State.reset = false := by decide +kernel
theorem wit_KeeperPeriod : dozeOff { inMode .doze with md := { (inMode .doze).md with trans := none } } = true ∧ dozeOff sb = false := by
  decide +kernel
theorem wit_UrgentWaitsForCapture : ({ rn with se := { rn.se with capState := 2 } } : State).se.capState = 2 := by decide +kernel
theorem wit_ServiceOnlyFromOtherPath : (inMode .service).md.mode = .service ∧ sessionPath (inMode .service) ≠ some .h ∧
    dictLive (inMode .service) = true ∧ (inMode .service).ctl.epoch = none ∧
    clsOf (okey 0x2E02 9) = .serviceOnly ∧ checkExists (okey 0x2E02 9) = 0 := by decide +kernel
theorem wit_Run8Decodes : (0x7F : Byte).toNat ≤ 0x7F ∧ (List.replicate 128 (1 : Byte)).length = (0x7F : Byte).toNat + 1 ∧
    ([] : List Byte).length ≤ 0 ∧ 0x81 ≤ (0x81 : Byte).toNat ∧ 0x81 ≤ (0xFF : Byte).toNat := by decide +kernel

theorem wit_PowerOnStartsBoot : (modPw sb (fun w => { w with on := false })).pw.on = false ∧ (inMode .boot).md.mode = .boot ∧ chosenSlot State.reset ≠ none ∧
    chosenSlot { State.reset with boot := { State.reset.boot with slots := Vector.replicate 2 SysSlot.blank } } = none := by decide +kernel
theorem wit_BootCompletes :
    ((inMode .boot).md.mode = .boot ∧ (inMode .boot).pw.on = true ∧ (inMode .boot).pw.pf = none ∧ (inMode .boot).boot.recLow = false ∧
      chosenSlot (inMode .boot) = some 0) ∧ (modPw (inMode .boot) (fun w => { w with pf := some ⟨3, 0, 3, 0⟩ })).pw.pf ≠ none ∧
    (modBoot (inMode .boot) (fun b => { b with recLow := true })).boot.recLow = true := by decide +kernel
theorem wit_BootWatchdogAndWakeExit :
    ((inMode .boot).md.mode = .boot ∧ (inMode .boot).pw.on = true ∧ 240000000 ≤ now (atST 240000000 (inMode .boot)) - State.reset.boot.start ∧
      chosenSlot (inMode .boot) = some 0 ∧ (inMode .boot).pw.pf = none) ∧
    ((inMode .recovery).md.mode = .recovery ∧ (inMode .recovery).pw.on = true ∧ (inMode .recovery).pw.pf = none) := by decide +kernel

/-- The DFU interface in a state. -/
abbrev dfuIn (n : Nat) (data : List Byte) : State :=
  modBoot (modUsb (inMode .recovery) (fun u => { u with state := 4 })) (fun b => { b with dfu := ⟨n, 0, data, false⟩ })
theorem wit_DfuRequests : dfuLive (dfuIn 2 []) = true ∧ (dfuIn 2 []).boot.dfu.state = 2 ∧ (dfuIn 5 [1]).boot.dfu.state = 5 ∧
    dfuLive (dfuIn 5 [1]) = true ∧ ([1] : List Byte) ≠ [] ∧ dfuLive (dfuIn 7 [1]) = true ∧ (dfuIn 7 [1]).boot.dfu.state = 7 ∧
    dfuFilling (modBoot (dfuIn 7 [1]) (fun b => { b with slots := upd b.slots 1 (fun x => { x with incomplete := true }) })) = some 1 := by decide +kernel

/-- A state in which a job waits. -/
abbrev oneJob (s : State) (st : Nat) : State := modJob s 0 (fun j => { j with state := st, kind := 1, dir := 1 })
/-- A state with a transition under way. -/
abbrev going (s : State) (t : Transition) : State := { s with md := { s.md with trans := some t } }

theorem wit_ModeRequests :
    (Passes rn .h (okey 0x2000 1) 1 ∧ rn.md.trans = none ∧ rn.pw.pf = none ∧ rn.md.mode = .run) ∧
    (Passes (going sb ⟨.standby, .run, 0, 0, none⟩) .c (okey 0x2000 1) 1 ∧ Mode.run ≠ .standby) ∧
    (Passes sb .n (okey 0x2000 1) 2 ∧ sb.md.trans = none ∧ sb.pw.pf = none ∧ sb.md.mode = .standby) ∧
    (Passes rn .h (okey 0x2000 1) 2 ∧ rn.md.mode ≠ .standby) ∧
    (Passes sb .h (okey 0x2000 1) 3 ∧ ledgerIdle sb = true) ∧ (Passes rn .h (okey 0x2000 1) 3 ∧ ledgerIdle rn = true) ∧
    (Passes (oneJob sb 1) .h (okey 0x2000 1) 3 ∧ ledgerIdle (oneJob sb 1) = false) ∧ Passes sb .h (okey 0x2000 1) 4 := by decide +kernel
theorem wit_RunReached :
    (dozeOff (going sb ⟨.standby, .run, 0, 0, none⟩) = false ∧
      shortRail (headsEntry (modMd (going sb ⟨.standby, .run, 0, 0, none⟩) (fun d => { d with mode := .run })) 0 0) 20000 20000 48000 = none) ∧
    (0 + 40000000 ≤ now (atST 40000000 sb) ∧ (shortRail (headIdCheck (headIdCheck (modMd (going sb ⟨.standby, .run, 0, 0, none⟩)
      (fun d => { d with mode := .run })) 0 0) 1 0) 0 0 0).isSome = true) := by decide +kernel
theorem wit_FloorsReached :
    (floorsMet (going rn ⟨.run, .standby, 0, 0, none⟩) 0 0 0 = true ∧ inRun rn = true) ∧
    (floorsMet (going rn ⟨.run, .standby, 0, 0, some .h⟩) 0 0 0 = true ∧ ledgerIdle (modeTo (stagesOff (modMd
      (floorsRead (going rn ⟨.run, .standby, 0, 0, some .h⟩) 0 0 0) (fun d => { d with trans := none }))) .standby 0) = true) ∧
    (floorsMet (oneJob (going rn ⟨.run, .standby, 0, 0, some .h⟩) 1) 0 0 0 = true ∧
      ledgerIdle (oneJob (going rn ⟨.run, .standby, 0, 0, some .h⟩) 1) = false) ∧
    (floorsMet (inMode .lockout) 0 0 0 = true ∧ (inMode .lockout).md.floorsReached = false) := by decide +kernel
theorem wit_DozeCommands :
    (dozeEntering (going (inMode .doze) ⟨.standby, .doze, 0, 0, none⟩) = true ∧ sb.pw.pf = none) ∧
    dozeOff (inMode .doze) = true ∧ (dozing (inMode .doze) = true ∧ (lowestWake (wakeMask (inMode .doze) true)).isSome = true) ∧
    (lowestWake (wakeMask (going (inMode .doze) ⟨.standby, .doze, 0, 0, none⟩) true)).isSome = true := by decide +kernel
theorem wit_WakeCompletes :
    dozeOff (going (inMode .doze) ⟨.doze, .standby, 0, 1, none⟩) = true ∧ dozeOff (going (inMode .doze) ⟨.doze, .run, 0, 1, none⟩) = true ∧
    (inMode .doze).tu.keeperAhead ≤ now (atST 5 (inMode .doze)) := by decide +kernel
theorem wit_LockoutClears :
    (Passes (inMode .lockout) .h (okey 0x2000 4) 1 ∧ lockCauses (touch (inMode .lockout) .h) = []) ∧
    (Passes { inMode .lockout with sn := { (inMode .lockout).sn with monFail := true } } .h (okey 0x2000 4) 1 ∧
      lockCauses (touch { inMode .lockout with sn := { (inMode .lockout).sn with monFail := true } } .h) ≠ []) ∧
    Passes rn .h (okey 0x2000 4) 1 := by decide +kernel

/-- Lane 0 follows encoder channel 0. -/
abbrev encSt : State := setObj sb 0x2100 1 1
/-- Generator 0 on, its lane moving in a direction at a position. -/
abbrev genSt (d : Dir) (pos : Int) : State := modLane (setObj sb 0x2110 1 1) 0 (fun l => { l with dir := d, pos := pos })
/-- The index of channel 0 has been seen at 0; its count now. -/
abbrev idxSt (c : Int) : State := modEnc (setObj sb 0x2150 2 1) 0 (fun e => { e with cRef := some 0, c := c })

theorem wit_EncoderEdges : controlLive encSt = true ∧ encInverted encSt 0 = false ∧ encInverted (setObj encSt 0x2100 8 1) 0 = true ∧
    laneSource encSt 0 = 1 ∧ laneEnc encSt 0 = 0 ∧
    laneCfg encSt 0 12 ≤ (now (atST (laneCfg encSt 0 12).toNat encSt) : Int) - encSt.msu.encs[(0 : Fin 4)].te0 ∧
    (modEnc encSt 0 (fun e => { e with held := true })).msu.encs[laneEnc encSt 0].held = true := by decide +kernel
theorem wit_EncoderIndex :
    (objN (setObj sb 0x2150 2 1) (0x2150 + (0 : Fin 4).val) 2 = 1 ∧ (setObj sb 0x2150 2 1).msu.encs[(0 : Fin 4)].cRef = none) ∧
    (objN (setObj (setObj encSt 0x2150 2 2) 0x2150 7 1) 0x2150 2 = 2 ∧ objB (setObj (setObj encSt 0x2150 2 2) 0x2150 7 1) 0x2150 7 = true ∧
      encLane encSt 0 = some 0) ∧
    (encLane (idxSt 2) 0 = none ∧ 2 = (idxSt 2).msu.encs[(0 : Fin 4)].c -
      (0 + roundDiv ((idxSt 2).msu.encs[(0 : Fin 4)].c - 0) (obj (idxSt 2) 0x2150 1) * obj (idxSt 2) 0x2150 1)) ∧
    (3 = (idxSt 3).msu.encs[(0 : Fin 4)].c -
      (0 + roundDiv ((idxSt 3).msu.encs[(0 : Fin 4)].c - 0) (obj (idxSt 3) 0x2150 1) * obj (idxSt 3) 0x2150 1)) ∧
    Passes (idxSt 3) .h (okey 0x2150 7) 1 := by decide +kernel
theorem wit_DirectionCommits : controlLive (genSt .none 2560) = true ∧ laneSource (genSt .none 2560) 0 ≠ 0 ∧
    (genSt .none 2560).msu.lanes[(0 : Fin 4)].dir ≠ .fwd ∧
    (genSt .none 2560).msu.lanes[(0 : Fin 4)].ext + laneCfg (genSt .none 2560) 0 11 ≤ (genSt .none 2560).msu.lanes[(0 : Fin 4)].pos ∧
    (genSt .fwd (-2560)).msu.lanes[(0 : Fin 4)].pos ≤ (genSt .fwd (-2560)).msu.lanes[(0 : Fin 4)].ext - laneCfg (genSt .fwd (-2560)) 0 11 ∧
    0 < laneCfg (genSt .fwd (-2560)) 0 11 := by decide +kernel
/-- Generators 0 and 3 of lane 0 are both due. -/
abbrev genTwo : State := setObj (genSt .fwd 0) 0x2113 1 1
theorem wit_LineEvents :
    (turnDue genTwo (.lineEvent 3 0 0 0 0) = true ∧ turnWaits genTwo (.lineEvent 3 0 0 0 0) = true ∧ (lineDue genTwo 3).isSome = true) ∧
    (genSt .fwd 0).turns = [] ∧ turnWaits (genSt .fwd 0) (.lineEvent 0 24000 24000 0 0) = false ∧
    turnWaits (genSt .rev 0) (.lineEvent 0 24000 24000 0 0) = false ∧
    (lineDue (setObj (genSt .fwd 0) 0x2110 7 2) 0 = some (0, .fwd) ∧ dirsAllow (setObj (genSt .fwd 0) 0x2110 7 2) 0 .fwd = false ∧
      dueFwd (genSt .fwd 0) 0 1 > (genSt .fwd 0).msu.lanes[genLane 0].pos) ∧
    (lineDue (setObj (genSt .rev 0) 0x2110 7 1) 0 = some (0, .rev) ∧ dirsAllow (setObj (genSt .rev 0) 0x2110 7 1) 0 .rev = false ∧
      (genSt .rev 0).msu.lanes[genLane 0].pos > dueRev (genSt .rev 0) 0 (-1)) ∧
    (lineDue (genSt .fwd 0) 0 = some (0, .fwd) ∧ dirsAllow (genSt .fwd 0) 0 .fwd = true ∧ gateAtLine (genSt .fwd 0) 0 = true) ∧
    (lineDue (genSt .rev 0) 0 = some (0, .rev) ∧ dirsAllow (genSt .rev 0) 0 .rev = true ∧ gateAtLine (genSt .rev 0) 0 = true) ∧
    controlLive (genSt .fwd 0) = true := by decide +kernel
theorem wit_FirstLineIsLeast : 0 < genCfg sb 0 2 ∧ 0 < genCfg sb 0 3 ∧ 0 < dueFwd sb 0 1 ∧ dueRev sb 0 (-1) < 0 := by decide +kernel

/-- An armed entry at 0, keyed to lane 0 or to ST. -/
abbrev wmE (key dir : Nat) (evt : Bool) : Waymark :=
  { Waymark.reset with en := true, armed := true, dir := dir, key := key, evt := evt, op := 0 }
/-- Entry 1023 in the table; lane 0 has moved from `a` to `b` in cycle 5. -/
abbrev wmSt (w : Waymark) (a b : Int) : State := modLane (setWm (atST 5 rn) 1023 w) 0 (fun l => { l with prev := a, pos := b })

theorem wit_WaymarksFire :
    (firesNow (wmSt (wmE 0 3 true) (-1) 0) (wmAt (wmSt (wmE 0 3 true) (-1) 0) 1023) = 1 ∧ (wmE 0 3 true).op = 0 ∧ (wmE 0 3 true).key < 4) ∧
    firesNow (wmSt (wmE 0 3 true) 1 0) (wmAt (wmSt (wmE 0 3 true) 1 0) 1023) = 2 ∧
    (firesNow (wmSt { wmE 4 1 false with since := 4 } 0 0) { wmE 4 1 false with since := 4 } = 3 ∧ (0 : Nat) < 4) ∧
    (firesNow (wmSt (wmE 4 1 false) 0 0) (wmE 4 1 false) = 3 ∧ (wmE 4 1 false).since ≤ (wmE 4 1 false).target) ∧
    (turnWaits (wmSt (wmE 0 3 true) (-1) 0) (.waymarkFire 1023) = false ∧ turnWaits (wmSt (wmE 0 3 true) 1 0) (.waymarkFire 1023) = false ∧
      turnWaits (wmSt { wmE 4 1 false with since := 4 } 0 0) (.waymarkStFire 1023) = false ∧
      turnWaits (wmSt (wmE 4 1 false) 0 0) (.waymarkStFire 1023) = false) ∧
    rearmsNow (wmSt { wmE 0 1 false with armed := false, rearm := 1 } 0 (-1)) { wmE 0 1 false with armed := false, rearm := 1 } = true := by
  decide +kernel
theorem wit_WaymarkConditions : controlLive rn = true ∧ (wmE 0 3 true).key < 4 ∧ 4 ≤ (wmE 4 1 false).key ∧
    (wmE 0 1 true).pair = false ∧ (wmE 0 1 true).dir = 1 ∧ (wmE 0 2 true).dir = 2 := by decide +kernel
theorem wit_WaymarkWrites : (2 ^ 64 - 1 < 2 ^ 64 ∧ Passes rn .h (okey 0x2140 2) ((2 ^ 64 - 1 : Nat) : Int)) ∧
    Passes rn .c (okey 0x2140 4) ((2 ^ 32 - 1 : Nat) : Int) ∧ Passes rn .a (okey 0x2140 3) ((2 ^ 31 - 1 : Nat) : Int) ∧
    (bit (2 ^ 32 - 1) 31 = true ∧ Passes rn .n (okey 0x2140 3) ((2 ^ 32 - 1 : Nat) : Int)) := by decide +kernel
theorem wit_WaymarkEnables : (wmAt (wmSt (wmE 0 1 true) 0 0) 1023).pair = false ∧
    entryReason { wmE 0 1 true with en := true, armed := false, fires := 0, lastDir := 0 } = 0 ∧
    entryReason { wmE 0 0 true with en := true, armed := false, fires := 0, lastDir := 0 } = 1 := by decide +kernel
theorem wit_WaymarkTable : Passes rn .h (okey 0x2141 3) 1 ∧ Passes rn .h (okey 0x2141 3) 2 ∧
    judgeOpen (touch sb .h) .h 0x5100 0 true (List.replicate (domLen 0x5100) (0 : Byte)).length = 0 ∧
    (({ rn with msu := { rn.msu with holds := [⟨1023, 1, 0, 0⟩] } } : State).msu.holds.find?
      (fun x => x.start == (1023 : Fin 1024).val && decide (x.due ≤ now rn))).isSome = true := by decide +kernel

/-- Timer channel 16 runs, its compares as given, at tick `t` of its frame. -/
abbrev tcSt (a b t : Nat) : State := modTc (atST 1000 rn) 16 (fun x => { x with run := true, opened := true, frame := 10, cmpA := a, cmpB := b, k := t })

theorem wit_TimerCompares : (controlLive (tcSt 5 7 5) = true ∧ restartDue (tcSt 5 7 5) 16 = false) ∧
    restartDue (setWm (modTc (atST 5 rn) 16 (fun x => { x with run := true })) 0
      { wmE 4 1 false with op := 1, tgt := 0x02, inp := 16 }) 16 = true ∧
    tcHitA (tcSt 5 7 5) 16 = true ∧ (tcSt 5 7 5).tu.tcs[(16 : Fin 32)].aSt ≠ some (now (tcSt 5 7 5)) ∧ tcHitB (tcSt 5 7 7) 16 = true ∧
    (tcHitA (tcSt 5 5 5) 16 = true ∧ tcHitB (tcSt 5 5 5) 16 = true) ∧ tcWrapDue (tcSt 5 7 0) 16 = true ∧
    (modTc rn 16 (fun x => { x with parkDue := true })).tu.tcs[(16 : Fin 32)].parkDue = true := by decide +kernel
theorem wit_TimerEventsAndTriggers :
    (0 &&& (tcCfgN rn 16 7 % 8) = 0) ∧ 7 &&& (tcCfgN (setObj rn 0x2220 7 7) 16 7 % 8) ≠ 0 ∧ rn.tu.tcs[(16 : Fin 32)].evSt ≠ some (now rn) ∧
    tcCfgN rn 16 8 ≠ 1 ∧ (tcCfgN (setObj rn 0x2220 8 1) 16 8 = 1 ∧ rn.tu.tcs[(16 : Fin 32)].delay.length < 4) ∧
    4 ≤ (modTc (setObj rn 0x2220 8 1) 16 (fun x => { x with delay := [1, 2, 3, 4] })).tu.tcs[(16 : Fin 32)].delay.length := by decide +kernel
theorem wit_TimerDeliveries :
    (controlLive rn = true ∧ now rn ∈ (modTc rn 16 (fun x => { x with delay := [0, 5] })).tu.tcs[(16 : Fin 32)].delay) ∧
    now (atST 1 rn) ∉ (modTc rn 16 (fun x => { x with delay := [0, 5] })).tu.tcs[(16 : Fin 32)].delay ∧
    (gioDriver (setObj rn 0x2220 11 3) 3 = some 16 ∧ gioDriven (setObj rn 0x2220 11 3) 16 = false ∧
      gioChange { atST 20 (setObj rn 0x2220 11 3) with tu := { (atST 20 rn).tu with gioDrv := [(3, false, 0)] } } 3 false + 20 ≤ 20) ∧ (16 ≤ (16 : Fin 32).val ∧ Passes rn .h (okey (0x2210 + (16 : Fin 32).val) 12) ((255 : Nat) : Int)) ∧
    Passes rn .h (okey (0x2240 + (7 : Fin 8).val) 8) ((3 : Nat) : Int) := by decide +kernel
theorem wit_CapturesAndHalt : (capCfg (setObj rn 0x2240 1 1) 0 1 = 1 ∧ capMay (atST 20000 (setObj rn 0x2240 1 1)) 0 = true ∧
      rn.tu.caps[(0 : Fin 8)].tookSt ≠ some (now rn) ∧ controlLive rn = true ∧
      rn.tu.caps[(0 : Fin 8)].level ≠ true ∧ capCfg (setObj rn 0x2240 3 1) 0 3 = 1 ∧ capCfg (setObj rn 0x2240 3 2) 0 3 = 2 ∧
      capCfg (setObj rn 0x2240 3 3) 0 3 = 3 ∧ rn.tu.caps[(0 : Fin 8)].presc + 1 < capCfg (setObj rn 0x2240 6 4) 0 6 ∧
      capCfg rn 0 6 ≤ rn.tu.caps[(0 : Fin 8)].presc + 1 ∧ capCfg rn 0 10 = 0) ∧
    (modBoot rn (fun b => { b with debugOn := true })).boot.debugOn = true ∧ (modApp rn (fun a => { a with state := 2 })).app.state = 2 ∧
    rn.tu.halted = false ∧ ({ rn with tu := { rn.tu with halted := true } } : State).tu.halted = true ∧
    (gioDriver (setObj rn 0x2220 11 0) (capCfg (setObj rn 0x2220 11 0) 0 2)).isSome = true ∧
    tcCfg (setObj rn 0x2220 10 1) 16 10 ≠ 0 := by decide +kernel

/-- A train of one slice, latched at 1, its first strobe at 10. -/
abbrev train0 (c : Bool) : Train :=
  { entry := 0, rsn := 0, index := 0, dir := .fwd, lc := ⟨1, 10, 10, [1], false⟩, todo := [], issues := [⟨1, 1, 1, 1, [(1, 10, 10)], 10, 1, 1⟩],
    ready := 1, firstStb := 10, committed := c, truncated := false, elig := true, vh := 24000, rot := 0, period := none, splits := 0,
    splitInfo := 0, splitEv := false, cutBy := none, recomputed := none, entered := false }
/-- Port A with the train, in cycle 10. -/
abbrev trainSt (c : Bool) : State := modHead { atST 10 rn with sn := { rn.sn with vhLow := Vector.replicate 2 false } } 0 (fun x => { x with train := some (train0 c) })
/-- Port A READY in SERVICE, a measurement in some state. -/
abbrev measSt (m : Nat) : State := modVl (modHead svc 0 (fun x => { x with state := 1 })) 0 (fun v => { v with measState := m })

theorem wit_HeadIdentification : (controlLive sb = true ∧ sysReads (setObj sb 0x2900 1 0) = false) ∧
    (sysReads rn = true ∧ headCfg (setObj rn 0x2300 1 0) 0 1 = 0) ∧ (headCfg rn 0 1 ≠ 0 ∧ (24000 : Nat) ≤ 24000 ∧
      headCfg rn 0 15 ≤ 24000 ∧ 24000 ≤ headCfg rn 0 16) ∧ (24000 < 24001 ∧ rn.heads[(0 : Fin 2)].state ≠ 3) ∧
    (99 < headCfg (setObj rn 0x2300 15 100) 0 15 ∧ rn.heads[(0 : Fin 2)].state ≠ 4) := by decide +kernel
theorem wit_LineTrains : (controlLive (trainSt false) = true ∧ (trainSt false).heads[(0 : Fin 2)].train = some (train0 false) ∧
      (train0 false).firstStb ≤ now (trainSt false) ∧ (trainSt false).en[(0 : Fin 2)].thermFault = false ∧ strobesHeld (trainSt false) 0 = false ∧
      (train0 false).issues ≠ [] ∧ (train0 false).committed = false ∧ (train0 false).entered = false) ∧
    strobesHeld { trainSt false with sn := { (trainSt false).sn with coverLow := true } } 0 = true ∧
    (modEn (trainSt false) 0 (fun e => { e with thermFault := true })).en[(0 : Fin 2)].thermFault = true ∧
    (issuesEnd (train0 true).issues (now (trainSt true)) ≤ now (trainSt true) ∧ (train0 true).todo = [] ∧ (train0 true).period = none) := by decide +kernel
/-- A line of one dot that is being recomputed since cycle 0. -/
abbrev rec0 : Recompute := ⟨0, 0, 0, .fwd, 1, ⟨1, 10, 10, [1], false⟩, true, 0, 24000, 1, none⟩
/-- Port A with it, at a time. -/
abbrev recSt (t : Nat) : State := modHead (atST t rn) 0 (fun x => { x with recomp := some rec0 })
theorem wit_RasterFlushes : Passes rn .h (okey 0x2320 8) 1 ∧ Passes rn .h (okey 0x2320 8) 2 ∧ Passes rn .h (okey 0x2320 8) 3 := by decide +kernel
theorem wit_HeadTemperature :
    ((recSt 0).heads[(0 : Fin 2)].recomp = some rec0 ∧ recomputeFrom (recSt 8000) 0 rec0 ≤ now (recSt 8000) ∧ now (recSt 8000) ≤ rec0.startSt + 8000 ∧
      (recSt 8000).heads[(0 : Fin 2)].train = none ∧ lcSlots rec0.lc ≠ []) ∧ now (recSt 0) < recomputeFrom (recSt 0) 0 rec0 ∧
    (16 ≤ 16 ∧ (4080 : Nat) ≤ 4080) ∧ (sysReads rn = true ∧ (15 < 16 ∨ 4080 < 15) ∧ rn.en[(0 : Fin 2)].thermFault = false) ∧
    (rn.heads[(0 : Fin 2)].train = none ∧ rn.en[(0 : Fin 2)].stLast + 200000 ≤ now (atST 200000 rn)) ∧
    (headTemp (modelStep (atST 200000 rn) 0 (atST 200000 rn).en[(0 : Fin 2)].tInt (firedEnergy (atST 200000 rn) 0 0 0) (200000 - 0)) -
      (atST 200000 rn).en[(0 : Fin 2)].tTherm ≤ enCfg rn 0 10 ∧
     (atST 200000 rn).en[(0 : Fin 2)].tTherm - headTemp (modelStep (atST 200000 rn) 0 (atST 200000 rn).en[(0 : Fin 2)].tInt
      (firedEnergy (atST 200000 rn) 0 0 0) (200000 - 0)) ≤ enCfg rn 0 10 ∧
     headTemp (modelStep (atST 200000 rn) 0 (atST 200000 rn).en[(0 : Fin 2)].tInt (firedEnergy (atST 200000 rn) 0 0 0) (200000 - 0)) <
      enCfg rn 0 11) := by decide +kernel
theorem wit_ResistanceMeasurement :
    (Passes (measSt 0) .h (okey 0x2403 1) 1 ∧ measAllowed (measSt 0) 0 = true ∧ capRuns (measSt 0) = false) ∧
    (Passes svc .h (okey 0x2403 1) 1 ∧ measAllowed svc 0 = false) ∧
    (Passes (measSt 1) .h (okey 0x2403 1) 2 ∧ (measSt 1).vl[(0 : Fin 2)].measState = 1 ∧ controlLive (measSt 1) = true) ∧
    measOver (measSt 1) 0 = false ∧
    (measSt 1).vl[(0 : Fin 2)].measSt + headDots (measSt 1) 0 * (max 1 (measSt 1).vl[(0 : Fin 2)].measRep * measPulse (measSt 1) 0) ≤
      now (atST (headDots (measSt 1) 0 * (max 1 (measSt 1).vl[(0 : Fin 2)].measRep * measPulse (measSt 1) 0)) (measSt 1)) := by decide +kernel

/-- The media lane has moved from `a` to `b`. -/
abbrev laneAt (a b : Int) : State := modLane rn 0 (fun l => { l with prev := a, pos := b })

theorem wit_MediaSampling : (controlLive rn = true ∧ ledsOn rn = true ∧ sysReads rn = true ∧ gridCrossed (laneAt 16383 16384) ≠ [] ∧
      (laneAt 16383 16384).media.sampleSt ≠ some (now (laneAt 16383 16384))) ∧ gridCrossed rn = [] ∧ rn.supply.stoppedSt = none ∧
    ({ atST 199999 rn with supply := { rn.supply with stoppedSt := some 0 } } : State).supply.stoppedSt = some 0 ∧ now (atST 199999 rn) < 0 + 200000 ∧
    0 + 200000 ≤ now (atST 200000 rn) ∧
    (modMedia rn (fun m => { m with sampleSt := some 0 })).media.sampleSt = some (now rn) ∧ laneStopped rn (mediaLane rn) = true ∧
    (optCfg (setObj (setObj rn 0x2510 1 7) 0x250F 1 1) 7 1 = 1 ∧ classifies (setObj rn 0x2510 1 7) 7 = false ∧ supplies (setObj rn 0x2510 1 7) 7 = true ∧
      optCfg (setObj rn 0x250F 3 0) 7 3 = 0) ∧ (classifies rn 5 = false ∧ supplies rn 5 = false) := by decide +kernel
theorem wit_GridCrossing : 0 < mediaCfg rn 5 ∧ laneSource rn (mediaLane rn) ≠ 0 ∧ gridCrossed (laneAt 16383 32768) = [16384, 32768] ∧
    gridCrossed (laneAt 16384 0) = [0] := by decide +kernel
theorem wit_IndexJudged : rn.media.cand = none ∧ (modMedia rn (fun m => { m with indexState := 1 })).media.indexState = 1 ∧
    ((modMedia rn (fun m => { m with indexState := 2 })).media.indexState = 2 ∧ mediaExpected rn - mediaCfg rn 7 ≤ 9984000 ∧
      9984000 ≤ mediaExpected rn + mediaCfg rn 7) ∧ (9983999 < mediaExpected rn - mediaCfg rn 7 ∧ 0 ≤ mediaCfg rn 7 ∧ mediaCfg rn 15 = 0) := by
  decide +kernel
theorem wit_MediaHaltsAndReleases :
    (controlLive rn = true ∧ labelPassed (modMedia (laneAt 10751999 10752000) (fun m => { m with indexState := 2 })) = true ∧
      ((inc8 rn.media.missingRun : Nat) : Int) ≤ mediaCfg rn 16) ∧
    (mediaCfg rn 16 < ((inc8 (modMedia rn (fun m => { m with missingRun := 1 })).media.missingRun : Nat) : Int)) ∧
    (({ rn with supply := { rn.supply with reserveFrom := some 0 } } : State).supply.reserveFrom = some 0 ∧
      laneStopped rn (mediaLane rn) = true) ∧ Passes rn .h (okey (0x2520 + 8 * (1 : Fin 2).val) 5) 1 := by decide +kernel

/-- Axis 3 with a part of its state changed. -/
abbrev ax3 (f : AxisSt → AxisSt) : State := modAxis rn 3 f

theorem wit_AxisCommandsWait : (controlLive rn = true ∧ rn.axes[(3 : Fin 4)].pend = none) ∧
    ((ax3 (fun x => { x with pend := some .stop })).axes[(3 : Fin 4)].pend = some .stop ∧ axRank .go < axRank .stop ∧
      axRank .stop < axRank .qstop) := by decide +kernel
theorem wit_ServoBoundaries : controlLive (atST 5000 rn) = true ∧ now (atST 5000 rn) % 5000 = 0 ∧ (atST 5000 rn).pw.servoSt = none ∧
    (modPw (atST 5000 rn) (fun w => { w with servoSt := some 5000 })).pw.servoSt = some (now (atST 5000 rn)) ∧ now (atST 5001 rn) % 5000 ≠ 0 := by
  decide +kernel
theorem wit_TollgateBounds : objN rn 0x2D02 2 < objN rn 0x2D02 3 := by decide +kernel
theorem wit_AxisMovesBegin : (goReason rn 3 = 0 ∧ axCfg rn 3 2 3 ≠ 1) ∧ goReason sb 3 = 2 ∧
    (goReason (setObj rn 0x260B 3 1) 3 = 0 ∧ axCfg (setObj rn 0x260B 3 1) 3 2 3 = 1) ∧
    ((ax3 (fun x => { x with moving := true, state := 2 })).axes[(3 : Fin 4)].moving = true ∧ rn.axes[(3 : Fin 4)].stop = none) ∧
    (ax3 (fun x => { x with stop := some .qstop })).axes[(3 : Fin 4)].stop = some .qstop ∧
    (rn.axes[(3 : Fin 4)].moving = false ∧ rn.axes[(3 : Fin 4)].v = 0 ∧ rn.axes[(3 : Fin 4)].a = 0) := by decide +kernel
theorem wit_AxisEvents :
    (ax3 (fun x => { x with regAt := some true })).axes[(3 : Fin 4)].regAt = some true ∧
    ((ax3 (fun x => { x with regAt := some false })).axes[(3 : Fin 4)].regAt = some false ∧
      reach128 rn.axes[(3 : Fin 4)].sp0 (axisMicrostep rn 3) = false ∧ reach128 0 128 = true ∧ reach128 129 128 = true) ∧ axConducts rn 3 = true ∧
    ((atST (axCfgN rn 3 0 12) (ax3 (fun x => { x with restSt := some 0 }))).axes[(3 : Fin 4)].restSt = some 0 ∧ axEnergised rn 3 = true ∧
      0 + axCfgN rn 3 0 12 ≤ now (atST (axCfgN rn 3 0 12) rn)) ∧
    controlLive rn = true ∧ Passes rn .h (okey (0x2608 + (3 : Fin 4).val) 5) 1 ∧
    ((ax3 (fun x => { x with strong := true })).axes[(3 : Fin 4)].strong = true ∧ rn.axes[(3 : Fin 4)].openLoad = false ∧
      axPeak (ax3 (fun x => { x with strong := true })) 3 < 4 * (coilTarget (ax3 (fun x => { x with strong := true })) 3 (Fin.ofNat 2 0)).natAbs) ∧
    sysReads rn = true := by decide +kernel

/-- A document under way on port 0. -/
abbrev doc0 (mode : Nat) (d : Dir) (ending : Bool) : ImgDoc :=
  { entry := 0, act := 0, key := 1, dir := d, mode := mode, havg := 0, depth := 8, slots := [], times := [], train := 0, n1 := some 0, maxLsn := 0,
    p0 := some 0, kept := 0, lastSent := -1, confirmAt := -1, flags := 0, ending := ending, satSeen := false, dfRun := 0, winLo := none,
    winHi := 0 }
/-- Port 0 with the document, its lane at a position. -/
abbrev docSt (d : ImgDoc) (l : Dir) (pos : Int) (f : ImgPort → ImgPort) : State :=
  modLane (modPort rn 0 (fun x => f { x with cur := some d })) (Fin.ofNat 4 (imgCfg rn 0 4 / 4)) (fun x => { x with dir := l, pos := pos })

theorem wit_ImageLines : controlLive rn = true ∧
    ((docSt (doc0 0 .fwd false) .fwd 0 (fun x => { x with trains := [⟨0, some 7, []⟩] })).img.ports[(0 : Fin 2)].trains = ⟨0, some 7, []⟩ :: [] ∧
      7 ≤ now (atST 7 rn) ∧ now (atST 6 rn) < 7) ∧
    ((docSt (doc0 0 .fwd false) .fwd 0 (fun x => { x with trig := some 2 })).img.ports[(0 : Fin 2)].trig = some 2 ∧
      (docSt (doc0 0 .fwd false) .fwd 0 (fun x => { x with trig := some 2 })).img.ports[(0 : Fin 2)].cur = some (doc0 0 .fwd false) ∧
      rn.img.ports[(0 : Fin 2)].late = none) ∧
    ((doc0 0 .fwd false).p0 = some 0 ∧ (doc0 0 .fwd false).ending = false ∧ Dir.rev ≠ (doc0 0 .fwd false).dir ∧
      (docSt (doc0 0 .fwd false) .rev (-1) id).msu.lanes[Fin.ofNat 4 (imgCfg (docSt (doc0 0 .fwd false) .rev (-1) id) 0 4 / 4)].dir = .rev ∧
      docSign (doc0 0 .fwd false) *
        ((docSt (doc0 0 .fwd false) .rev (-1) id).msu.lanes[Fin.ofNat 4 (imgCfg (docSt (doc0 0 .fwd false) .rev (-1) id) 0 4 / 4)].pos - 0) < 0) := by
  decide +kernel
theorem wit_ImageDocuments : controlLive rn = true ∧
    ((docSt (doc0 0 .fwd false) .fwd 0 (fun x => { x with finalMark := 63 })).img.ports[(0 : Fin 2)].cur = some (doc0 0 .fwd false) ∧
      (imgCfg (docSt (doc0 0 .fwd false) .fwd 0 (fun x => { x with finalMark := 63 })) 0 10 : Int) ≤
        finalNow (docSt (doc0 0 .fwd false) .fwd 0 (fun x => { x with finalMark := 63 })) 0 (doc0 0 .fwd false) - (-1)) ∧
    ((-1 : Int) < finalNow (docSt (doc0 0 .fwd false) .fwd 0 (fun x => { x with finalMark := 63 })) 0 (doc0 0 .fwd false) ∧
      (makeRoom (modPort (docSt (doc0 0 .fwd false) .fwd 0 (fun x => { x with finalMark := 63 })) 0 (fun x => { x with finalMark := 63 }))
        0 1 16).isSome = true) ∧
    (finalNow (docSt (doc0 0 .fwd false) .fwd 0 (fun x => { x with finalMark := 62 })) 0 (doc0 0 .fwd false) - (-1) < imgCfg rn 0 10) ∧
    (rn.img.ports[(0 : Fin 2)].trig = none ∧ rn.img.ports[(0 : Fin 2)].endReq = false ∧
      (docSt (doc0 0 .fwd false) .fwd 0 (fun x => { x with finalReq := true })).img.ports[(0 : Fin 2)].finalReq = true) ∧
    ((doc0 0 .fwd true).ending = true ∧ rn.img.ports[(0 : Fin 2)].trains = [] ∧ (doc0 0 .fwd true).mode = 0) := by decide +kernel
theorem wit_Calibration :
    ((inRun rn && !(jobsOfKind rn ((0 : Fin 2).val + 3)).any (fun e => jobLive rn.ledger.jobs[e])) = true ∧
      Passes rn .h (okey 0x2704 4) 1 ∧ Passes rn .h (okey 0x2704 4) 2 ∧ Passes rn .h (okey 0x2704 4) 3 ∧ Passes rn .h (okey 0x2704 4) 4) ∧
    ((inRun sb && !(jobsOfKind sb ((0 : Fin 2).val + 3)).any (fun e => jobLive sb.ledger.jobs[e])) = false ∧ Passes sb .h (okey 0x2704 4) 1 ∧
      Passes sb .h (okey 0x2704 4) 2) ∧
    ((modPort rn 0 (fun x => { x with calState := 1, calCmd := 1, calLeft := 2 })).img.ports[(0 : Fin 2)].calLeft = 2 ∧
      controlLive rn = true ∧ inRun rn = true ∧ rn.img.ports[(0 : Fin 2)].calSum = [] ∧ rn.img.ports[(0 : Fin 2)].calAt ≤ now (atST 39999 rn) ∧
      now (atST 39999 rn) < rn.img.ports[(0 : Fin 2)].calAt + 40000) ∧ inRun sb = false ∧
    now rn < (modPort rn 0 (fun x => { x with calAt := 1 })).img.ports[(0 : Fin 2)].calAt := by decide +kernel

/-- The cutter in a phase, a cycle of kind 2 under way. -/
abbrev cutSt (ph : CutPhase) (f : CutSt → CutSt) : State :=
  modCut (atST 100000000 rn) (fun x => f { x with phase := ph, active := some ⟨2, 0⟩, phaseSt := 0 })

theorem wit_CutterDrives : controlLive rn = true ∧ (cutSt .waiting id).cut.active = some ⟨2, 0⟩ ∧
    (cutAtStop (cutSt .waiting id) ⟨2, 0⟩ = true ∧ (cutSt .waiting id).msu.lanes[mediaLane rn].pos ≤ 0) ∧
    (cutAtStop (modLane (cutSt .waiting id) 0 (fun l => { l with pos := 1 })) ⟨2, 0⟩ = true ∧
      0 < (modLane (cutSt .waiting id) 0 (fun l => { l with pos := 1 })).msu.lanes[mediaLane rn].pos) ∧
    objN rn 0x2540 7 ≤ now (cutSt .forward id) - (cutSt .forward id).cut.phaseSt ∧
    objN rn 0x2540 8 ≤ now (cutSt .braking id) - (cutSt .braking id).cut.phaseSt ∧
    (cutSt .returning (fun x => { x with forwardOk := true })).cut.forwardOk = true ∧ (cutSt .finalBrake id).cut.queued = none := by decide +kernel
theorem wit_CutterFaults : controlLive rn = true ∧
    (objN rn 0x2540 5 ≤ now (cutSt .forward id) - (cutSt .forward id).cut.phaseSt ∧
      (cutSt .forward id).cut.attempt < objN (setObj rn 0x2540 9 1) 0x2540 9) ∧
    objN rn 0x2540 9 ≤ (cutSt .forward (fun x => { x with attempt := 2 })).cut.attempt ∧
    ((cutSt .returning id).cut.active.isSome = true ∧ (cutSt .returning id).cut.forwardOk = false) ∧
    objN rn 0x2540 6 ≤ now (cutSt .homing id) - (cutSt .homing id).cut.phaseSt ∧ cutDriven (cutSt .forward id).cut = true := by decide +kernel
theorem wit_CutterRequests : inRun rn = true ∧ rn.msu.lanes[mediaLane rn].dir ≠ .rev ∧
    (Passes (modCut rn (fun x => { x with state := 0 })) .h (okey 0x2541 2) 1 ∧ rn.cut.phase = .idle) ∧
    Passes (modCut rn (fun x => { x with state := 0 })) .h (okey 0x2541 2) 2 ∧
    (Passes (cutSt .forward (fun x => { x with state := 2 })) .h (okey 0x2541 2) 1 ∧ (cutSt .forward id).cut.queued = none) ∧
    (Passes rn .h (okey 0x2541 2) 3 ∧ outputCut rn = false ∧ rn.cut.tripped = false ∧ rn.cut.homeSw = false) ∧ Passes rn .h (okey 0x2541 3) 1 ∧
    outputCut { rn with sn := { rn.sn with haltLatch := true } } = true := by decide +kernel

/-- Channel 7 with a part of its state changed. -/
abbrev sol7 (t : Nat) (f : SolSt → SolSt) : State := modSol (atST t rn) 7 f

theorem wit_SolenoidWrites : Passes rn .h (okey 0x2838 1) ((0x1FF : Nat) : Int) ∧ Passes rn .h (okey 0x2838 1) ((0x201 : Nat) : Int) ∧
    Passes rn .h (okey 0x2838 1) ((0x380 : Nat) : Int) ∧ Passes rn .h (okey 0x2838 2) ((255 : Nat) : Int) ∧
    Passes rn .h (okey 0x2838 3) ((3 : Nat) : Int) ∧ (bit 3 1 && bit 2 1) = true ∧ (bit 1 1 && bit 3 1) = false ∧
    Passes sb .h (okey (0x2810 + (7 : Fin 8).val) 1) ((20000 : Nat) : Int) := by decide +kernel
theorem wit_SolenoidChannel : ((sol7 0 (fun x => { x with asks := [.on] })).sols[(7 : Fin 8)].asks = [.on] ∧
      (sol7 0 (fun x => { x with asks := [.pulse] })).sols[(7 : Fin 8)].asks = [.pulse] ∧
      .off false ∈ (sol7 0 (fun x => { x with asks := [.on, .off false] })).sols[(7 : Fin 8)].asks ∧ 128 < 256 ∧ bit 128 (7 : Fin 8).val = true) ∧
    solRefuse sb 7 = 1 ∧ (solRefuse rn 7 = 0 ∧ (sol7 0 (fun x => { x with state := 3 })).sols[(7 : Fin 8)].state = 3) ∧
    rn.sols[(7 : Fin 8)].state = 0 ∧ (now (sol7 39999 id) < (sol7 39999 id).sols[(7 : Fin 8)].onSt + 40000 ∧
      (sol7 40000 id).sols[(7 : Fin 8)].onSt + 40000 ≤ now (sol7 40000 id)) := by decide +kernel
theorem wit_SolenoidPeaks : controlLive rn = true ∧ (sol7 0 (fun x => { x with state := 2 })).sols[(7 : Fin 8)].state = 2 ∧
    (sol7 0 (fun x => { x with state := 2, reached := some 0 })).sols[(7 : Fin 8)].reached = some 0 ∧
    ((sol7 200000 (fun x => { x with state := 2 })).sols[(7 : Fin 8)].reached = none ∧ 200000 - 0 ≤ solCfg rn 7 8 ∧ solCfg rn 7 7 ≤ 200000 - 0) ∧
    (0 + solCfg rn 7 3 ≤ now (sol7 100000000 id)) ∧ (0 + solCfg rn 7 8 ≤ now (sol7 100000000 id) ∧ solCfg rn 7 9 = 0) ∧
    ((({ rn with banks := upd rn.banks 1 (fun b => { b with queue := [(0, 7)] }) } : State).banks[chBank 7].queue.find? (fun q => q.2 = 7)) =
      some (0, 7) ∧ 0 + objN rn (0x2820 + (chBank 7).val) 1 ≤ now (sol7 1000000000 id)) := by decide +kernel
theorem wit_SolenoidEnds : controlLive rn = true ∧
    (solCfg (setObj rn 0x2807 5 50000) 7 5 ≠ 0 ∧ 0 + solCfg (setObj rn 0x2807 5 50000) 7 5 ≤ now (sol7 50000 id) ∧ 0 + 40000 ≤ now (sol7 50000 id)) ∧
    (sol7 5 (fun x => { x with pulseOff := some 5 })).sols[(7 : Fin 8)].pulseOff = some 5 ∧
    (sol7 5 (fun x => { x with minOff := some 5 })).sols[(7 : Fin 8)].minOff = some 5 ∧
    (sol7 5 (fun x => { x with state := 5 })).sols[(7 : Fin 8)].state = 5 := by decide +kernel
theorem wit_SolenoidUpdates : controlLive rn = true ∧ (rn.boost.propSt = none ∧ rn.boost.modelSt = none) ∧
    (({ atST 999 rn with boost := { rn.boost with propSt := some 0 } } : State).boost.propSt = some 0 ∧ now (atST 999 rn) < 0 + 1000 ∧
      0 + 1000 ≤ now (atST 1000 rn)) ∧ 0 + 200000 ≤ now (atST 200000 rn) ∧
    ((serveBanks (setBoost { atST 2000000 rn with boost := { rn.boost with lowSince := some 0 }, banks := upd rn.banks 1 (fun b =>
        { b with queue := [(0, 7)] }) } 0)).boost.lowSince = some 0 ∧ rn.boost.lowRaised = false ∧ 0 + 2000000 ≤ now (atST 2000000 rn)) ∧
    ((sol7 400000 (fun x => { x with state := 3 })).sols[(7 : Fin 8)].winDone = false ∧ rn.sols[(7 : Fin 8)].winSt = none ∧ bankHs (sol7 400000 (fun x => { x with state := 3 })) 1 = 1 ∧
      (sol7 400000 id).sols[(7 : Fin 8)].holdSt + 400000 ≤ now (sol7 400000 id)) ∧
    ((sol7 200000 (fun x => { x with winSt := some 0, winBad := true })).sols[(7 : Fin 8)].winBad = true ∧ 0 + 200000 ≤ now (sol7 200000 id)) ∧
    (((tdivS ((rMod rn 7 - rMod rn 7) * 1000) (rMod rn 7)).natAbs : Int) ≤ solTh rn 7 10 ∧ solTh (setObj rn 0x2817 11 0) 7 11 = 0 ∧
      (sol7 200000 (fun x => { x with winSt := some 0, winBad := false })).sols[(7 : Fin 8)].winBad = false ∧
      ((rMod rn 7).toNat : Int) = rMod rn 7 ∧ rMod rn 7 * 1000 / 1000 = rMod rn 7) := by decide +kernel
theorem wit_SolenoidFaults : controlLive rn = true ∧ (sol7 0 (fun x => { x with state := 3, cmd := true })).sols[(7 : Fin 8)].cmd = true ∧
    ((sol7 0 (fun x => { x with state := 6, asks := [.retry] })).sols[(7 : Fin 8)].asks = [.retry] ∧
      solRefuse (modSol (sol7 0 (fun x => { x with state := 6, asks := [.retry] })) 7 (fun x => { x with asks := [] })) 7 = 0) ∧ inc8 rn.sols[(7 : Fin 8)].ocTrips < 4 ∧
    4 ≤ inc8 (sol7 0 (fun x => { x with ocTrips := 3 })).sols[(7 : Fin 8)].ocTrips ∧
    (sol7 9 (fun x => { x with state := 6, retryAt := some 9 })).sols[(7 : Fin 8)].retryAt = some 9 ∧ solRefuse rn 7 = 0 ∧
    (solState rn 7 = 0 ∧ rn.sols[(7 : Fin 8)].shortGnd = false) ∧ bankHs rn 1 ≠ 0 ∧
    ((sol7 20000 (fun x => { x with state := 3 })).sols[(7 : Fin 8)].state = 3 ∧ now (sol7 20000 id) ≤ 0 + 20000 ∧ solState rn 6 = 0) := by
  decide +kernel

/-- RUN with a part of the Sense Engine changed. -/
abbrev seSt (t : Nat) (f : SeSt → SeSt) : State := modSe (atST t rn) f
/-- Sequencer 1 with a part of its state changed. -/
abbrev sq1 (t : Nat) (f : SqSt → SqSt) : State := modSq (atST t rn) 1 f
/-- An urgent conversion of slot 7. -/
abbrev urg7 : UrgentRun := ⟨7, 0, 200, 0, 0, none⟩
/-- A result. -/
abbrev res0 : SeResult := ⟨1, 2, 3, false, 0, 4⟩

theorem wit_SliceRoles :
    (controlLive rn = true ∧ rn.se.rotNext ≤ now rn) ∧
    ((0 : Fin 3).val = rn.se.rotations % 3 ∧ rn.se.spare = some 3 ∧ rn.se.roles[(0 : Fin 3)] = some 0 ∧
      (modSlice (seSt 0 (fun e => { e with rotDue := true })) 3 (fun x => { x with state := 2 })).se.slices[(3 : Fin 4)].state = 2 ∧
      (seSt 0 (fun e => { e with rotDue := true })).se.rotDue = true ∧ capRuns rn = false ∧ atBoundary rn (Fin.ofNat 2 0) = true) ∧ refOn rn = true ∧
    (rn.se.slices[(3 : Fin 4)].state = 1 ∧ tdivS (49152 * 32768) (((917504 / 16 : Nat) : Int) - ((131072 / 16 : Nat) : Int)) = 32768 ∧
      8192 - fdiv (((131072 / 16 : Nat) : Int) * 32768) 32768 = 0) ∧
    tdivS (49152 * 32768) (((933888 / 16 : Nat) : Int) - ((114688 / 16 : Nat) : Int)) < 32113 ∧
    Passes rn .h (okey 0x2900 6) ((15 : Nat) : Int) := by decide +kernel
theorem wit_ReferenceBuffer : Passes sb .h (okey 0x2900 1) (b2n true) ∧ Passes sb .h (okey 0x2900 1) (b2n false) ∧
    refOn (setObj rn 0x2900 1 0) = false ∧ refOn rn = true ∧
    ((seSt 400000 (fun e => { e with refSt := some 0, refState := 1 })).se.refSt = some 0 ∧ 0 + 400000 ≤ now (seSt 400000 id) ∧
      now (seSt 399999 id) < 0 + 400000) := by decide +kernel
theorem wit_SenseTriggers : Passes rn .h (okey 0x2900 7) 1 ∧ (pinSelected (setObj rn 0x290B 1 1) 3 true = true ∧ pinSelected (setObj rn 0x290B 1 1) 3 false = false) ∧
    (objN (setObj rn 0x2911 3 1) (0x2910 + (1 : Fin 2).val) 3 = 1 ∧ (sq1 0 (fun x => { x with phase := .waiting })).se.sqs[(1 : Fin 2)].phase = .waiting ∧
      refOn rn = true) ∧
    ((sq1 0 (fun x => { x with phase := .active 0, latched := some 1 })).se.sqs[(1 : Fin 2)].latched = some 1 ∧ rn.se.sqs[(1 : Fin 2)].latched = none ∧
      (sq1 0 (fun x => { x with phase := .active 0 })).se.sqs[(1 : Fin 2)].stopAt = false) ∧
    (urgCfg (setObj (setObj rn 0x291F 1 1) 0x291F 2 9) 7 1 ≠ 0 ∧ urgCfg (setObj (setObj rn 0x291F 1 1) 0x291F 2 9) 7 2 = 9 ∧
      rn.se.urgs[(7 : Fin 8)].pend = none) ∧
    (objN (setObj rn 0x2940 3 9) 0x2940 3 = 9 ∧ (seSt 0 (fun e => { e with capState := 2 })).se.capState = 2) ∧ controlLive rn = true ∧
    (modSe rn (fun e => { e with urgs := upd e.urgs 7 (fun u => { u with pend := some 0 }) })).se.urgs[(7 : Fin 8)].pend = some 0 ∧
    ((sq1 0 (fun x => { x with phase := .active 0, latched := some 1, lostRun := true })).se.sqs[(1 : Fin 2)].lostRun = true) := by decide +kernel
theorem wit_Sequencers : controlLive rn = true ∧ objN rn (0x2910 + (1 : Fin 2).val) 1 = 0 ∧
    (seSt 0 (fun e => { e with roles := upd e.roles 1 (fun _ => none) })).se.roles[roleOf 1] = none ∧
    ((sq1 0 (fun x => { x with starts := true })).se.sqs[(1 : Fin 2)].starts = true ∧ (sq1 0 (fun x => { x with starts := true })).se.sqs[(1 : Fin 2)].stops = false ∧
      (sq1 0 (fun x => { x with starts := true, stops := true })).se.sqs[(1 : Fin 2)].stops = true ∧ rn.se.sqs[(1 : Fin 2)].stopAt = false) ∧
    objN (setObj rn 0x2911 1 1) 0x2911 1 = 1 ∧ (atBoundary rn 1 = true ∧ atBoundary (sq1 20 (fun x => { x with urgent := some { urg7 with len := 10 } })) 1 = false ∧
      atBoundary (sq1 101 (fun x => { x with phase := .active 0, table := leBytes 4 0x00016400 })) 1 = false) ∧
    ((sq1 100000 (fun x => { x with phase := .active 0, table := leBytes 4 0x00016400 })).se.roles[roleOf 1] = some 1 ∧
      0 + sqAcq (sq1 100000 (fun x => { x with phase := .active 0, table := leBytes 4 0x00016400 })).se.sqs[(1 : Fin 2)] + 40 ≤ 100000 ∧
      (0 : Nat) < bits (sqNow (sq1 0 (fun x => { x with phase := .active 0, table := leBytes 4 0x00016400 })).se.sqs[(1 : Fin 2)]) 23 16 ∧
      refOn rn = true ∧ rn.se.sqs[(1 : Fin 2)].urgent = none) ∧
    ((sq1 7 (fun x => { x with phase := .delay 7 })).se.sqs[(1 : Fin 2)].phase = .delay 7 ∧ capRuns rn = false ∧ capWants rn = false) := by decide +kernel
/-- Slot 7 of sequencer 0 pends since cycle 0. -/
abbrev up7 : State := setObj (modSe (atST 2 rn) (fun e => { e with urgs := upd e.urgs 7 (fun u => { u with pend := some 0 }) })) 0x291F 1 1
theorem wit_UrgentSlots : controlLive rn = true ∧
    (up7.se.sqs[(0 : Fin 2)].urgent = none ∧ capRuns up7 = false ∧ capTakes up7 = false ∧ atBoundary up7 0 = true ∧ (sqSlice up7 0).isSome = true ∧
      refOn up7 = true ∧ up7.se.urgs[(7 : Fin 8)].pend = some 0 ∧ (urgPending up7 0).filter
        (fun u => match up7.se.urgs[u].pend with | some t => decide (t + 2 ≤ now up7) | none => false) = 7 :: []) ∧
    ((seSt 401 (fun e => { e with opts := [(0, 3)] })).se.opts = (0, 3) :: [] ∧ 400 < now (seSt 401 id) - 0 ∧ now (seSt 400 id) - 0 ≤ 400 ∧ rn.se.opts = []) ∧
    ((sq1 240 (fun x => { x with urgent := some urg7 })).se.sqs[(1 : Fin 2)].urgent = some urg7 ∧ rn.se.roles[roleOf 1] = some 1 ∧
      urg7.acq + urg7.len + 40 ≤ now (sq1 240 id)) ∧ sysReads rn = true := by decide +kernel
theorem wit_CaptureRuns : Passes rn .h (okey 0x2940 4) 1 ∧ (rn.se.capState = 0 ∧ 3 ≤ seHealthy rn) ∧
    seHealthy (seSt 0 (fun e => { e with slices := Vector.replicate 4 ⟨3, 0, 32768, 0, true, false⟩ })) < 3 ∧ Passes rn .h (okey 0x2940 4) 2 ∧
    (seSt 0 (fun e => { e with capState := 1 })).se.capState = 1 ∧
    ((seSt 2 (fun e => { e with capState := 1, capTrig := some 0 })).se.capTrig = some 0 ∧ 0 + 2 ≤ now (seSt 2 id) ∧ sysCapture rn = false ∧
      atBoundary rn 0 = true ∧ atBoundary rn 1 = true ∧ rn.se.sqs[(0 : Fin 2)].urgent = none ∧ rn.se.sqs[(1 : Fin 2)].urgent = none ∧ refOn rn = true ∧
      (sqSlice rn 0).isSome = true ∧ (sqSlice rn 1).isSome = true ∧ controlLive rn = true) ∧
    (seSt 40 (fun e => { e with capState := 2, capN := 1 })).se.capN ≤ capTaken (seSt 40 (fun e => { e with capState := 2, capN := 1 })) := by decide +kernel
theorem wit_ResultQueue : controlLive rn = true ∧
    (filtPace (setObj rn 0x292F 4 500) 15 ≠ 0 ∧ (modFilt rn 15 (fun x => { x with latest := some res0, fresh := true })).se.filts[(15 : Fin 16)].paceAt ≤ now rn) ∧
    (rn.se.queue.length < 1024 ∧ (seSt 0 (fun e => { e with refEv := true, wmRaised := true })).se.wmRaised = true) ∧
    1024 ≤ (seSt 0 (fun e => { e with queue := List.replicate 1024 0 })).se.queue.length ∧
    (dictLive rn = true ∧ judgeRead (touch (setObj rn 0x2930 1 0x48) .h) .h (okey 0x2930 2) = 0) ∧ Passes rn .h (okey 0x2930 11) 1 ∧
    ((seSt 0 (fun e => { e with queue := [7] })).se.queue = 7 :: [] ∧ objN (setObj rn 0x2930 8 16) 0x2930 8 = 16 ∧ (rn.se.dmaWr + 8) % 16 ≠ objN rn 0x2930 10) ∧
    (rn.se.dmaWr + 8) % 16 = objN (setObj rn 0x2930 10 8) 0x2930 10 := by decide +kernel

/-- A path has staged one value. -/
abbrev staged (k : Nat) (v : Int) : State := modStaging rn .h (fun g => stagePut g k v)
/-- The epoch that takes H's set has been accepted. -/
abbrev epochSt (k : Nat) (v : Int) : State :=
  let s := staged k v
  { s with ctl := { s.ctl with epoch := some ⟨2, 0, [.h]⟩ } }

theorem wit_ObjectWrites : dictLive (inMode .boot) = false ∧
    (dictLive rn = true ∧ rn.ctl.epoch = none ∧ okey 0x2100 11 ≠ okey 0x2002 1 ∧ judgeWrite (touch rn .h) .h (okey 0xFFFF 0) [] = 0x21) ∧
    (judgeWrite (touch rn .h) .h (okey 0x2B00 1) [0] = 0 ∧ plainKey (okey 0x2B00 1) ∧ tieWinner (touch rn .h) .h (okey 0x2B00 1) = none ∧
      clsOf (okey 0x2B00 1) = .staged) ∧
    (judgeWrite (touch rn .h) .h (okey 0x2220 7) [7] = 0 ∧ plainKey (okey 0x2220 7) ∧ clsOf (okey 0x2220 7) ≠ .staged ∧
      okey 0x2220 7 ≠ okey 0x1010 1 ∧ okey 0x2220 7 ≠ okey 0x1011 1 ∧ (command (touch rn .h) .h (okey 0x2220 7) 7 []).isNone = true) := by decide +kernel
theorem wit_WriteChecksInOrder : indexExists (okey 0xFFFF 0 / 256) = false ∧ checkExists (okey 0x2001 99) ≠ 0 ∧
    (checkExists (okey 0x2001 2) = 0 ∧ checkWriteRight rn .h (okey 0x2001 2) 0 ≠ 0) ∧
    (checkExists (okey 0x2001 1) = 0 ∧ checkWriteRight rn .h (okey 0x2001 1) 1 = 0 ∧ checkLength (okey 0x2001 1) [] ≠ 0) ∧
    (checkLength (okey 0x2220 7) [7] = 0 ∧ checkWriteRight rn .h (okey 0x2220 7) 7 = 0 ∧
      claimLets (setClaim rn ((groupOf 0x2220).getD 0) ⟨some .c, 0⟩) .h (okey 0x2220 7 / 256) = false) ∧
    (checkWriteRight rn .h (okey 0x2900 1) 1 = 0 ∧ checkLength (okey 0x2900 1) [1] = 0 ∧ checkClaim rn .h (okey 0x2900 1) 1 = 0 ∧
      modeLets rn .h (clsOf (okey 0x2900 1)) = false) ∧ modeLets rn .h (clsOf (okey 0x2220 7)) = true := by decide +kernel
theorem wit_CommitGate : Passes rn .h (okey 0x2001 1) 1 ∧ Passes rn .h (okey 0x2001 1) 2 ∧ Passes rn .h (okey 0x2001 1) 3 ∧
    (controlLive (epochSt (okey 0x2B00 1) 0) = true ∧ (epochKeys (epochSt (okey 0x2B00 1) 0) (maskPaths 2)).find? (fun k =>
      !crossOk (epochSt (okey 0x2B00 1) 0) ((activeView (epochSt (okey 0x2B00 1) 0)).over
        (epochVals (epochSt (okey 0x2B00 1) 0) (maskPaths 2) (epochKeys (epochSt (okey 0x2B00 1) 0) (maskPaths 2)))
        (epochDoms (epochSt (okey 0x2B00 1) 0) (maskPaths 2) (epochKeys (epochSt (okey 0x2B00 1) 0) (maskPaths 2)))) k) = none) ∧
    ((epochKeys (epochSt (okey 0x2D02 2) 9999999) (maskPaths 2)).find? (fun k =>
      !crossOk (epochSt (okey 0x2D02 2) 9999999) ((activeView (epochSt (okey 0x2D02 2) 9999999)).over
        (epochVals (epochSt (okey 0x2D02 2) 9999999) (maskPaths 2) (epochKeys (epochSt (okey 0x2D02 2) 9999999) (maskPaths 2)))
        (epochDoms (epochSt (okey 0x2D02 2) 9999999) (maskPaths 2) (epochKeys (epochSt (okey 0x2D02 2) 9999999) (maskPaths 2)))) k) =
          some (okey 0x2D02 2)) := by decide +kernel
theorem wit_ClaimCommands : (1 ≤ 23 ∧ 23 < 24 ∧ Passes rn .h (okey 0x2002 1) ((23 : Nat) : Int) ∧ tickWrites (touch rn .h) = []) ∧
    (holder (setClaim rn 23 ⟨some .c, 0⟩) 23 = some .c ∧ Path.c ≠ .h ∧ checkWriteRight (touch rn .h) .h (okey 0x2002 1) 23 = 0) ∧
    (sb.md.mode = .standby ∧ sb.md.trans = none ∧ sb.pw.pf = none ∧ holder sb 0 = none ∧ Passes sb .h (okey 0x2002 1) ((0 : Nat) : Int)) ∧
    (Passes rn .h (okey 0x2002 2) ((255 : Nat) : Int)) ∧ checkWriteRight (touch rn .h) .h (okey 0x2002 2) 23 = 0 ∧
    (holder (setClaim rn 23 ⟨some .h, 0⟩) 23 = some .h ∧
      leaseOver (setClaim (atST 2000000000 (setObj rn 0x2002 3 10000)) 23 ⟨some .h, 0⟩) (23 : Fin 24).val = true) := by decide +kernel
theorem wit_StoredSet : (Passes sb .h (okey 0x1010 1) 0x65766173 ∧ sb.ctl.storeState ≠ 1 ∧ currentSlot sb = none ∧
      (currentSlot { sb with ctl := { sb.ctl with slots := Vector.replicate 2 ⟨true, 0, 0, [], []⟩ } }) = some 0) ∧
    (controlLive sb = true ∧ ({ sb with ctl := { sb.ctl with storeState := 1, storeBy := some .h } } : State).ctl.storeBy = some .h) ∧
    Passes sb .h (okey 0x1011 1) 0x64616F6C := by decide +kernel

/-- Entry 0, a print entry for port A that meets the checks of SUBMIT, in a state. -/
abbrev jobSt (st : Nat) : State := modJob rn 0 (fun j => { j with state := st, kind := 1, dir := 1, lane := jobUnitLane rn { j with kind := 1 } })

theorem wit_LedgerCommands : jobSel rn .h = 0 ∧
    (Passes (jobSt 0) .h (okey 0x2020 10) 1 ∧ submitOk (jobSt 0) 0 (jobUnitLane (jobSt 0) (jobSt 0).ledger.jobs[(0 : Fin 64)]) = true) ∧
    (Passes rn .h (okey 0x2020 10) 1 ∧ submitOk rn 0 (jobUnitLane rn rn.ledger.jobs[(0 : Fin 64)]) = false) ∧
    (Passes (jobSt 1) .h (okey 0x2020 10) 2 ∧ Passes (jobSt 3) .h (okey 0x2020 10) 2) ∧
    (Passes (jobSt 2) .h (okey 0x2020 10) 3 ∧ Passes (jobSt 3) .h (okey 0x2020 10) 3) ∧
    (Passes (jobSt 4) .h (okey 0x2020 10) 4 ∧ Passes (jobSt 5) .h (okey 0x2020 10) 4) ∧ Passes rn .h (okey 0x2021 5) 1 := by decide +kernel
theorem wit_LedgerCommandsOutOfState : dictLive rn = true ∧ rn.ctl.epoch = none ∧ (jobSt 1).ledger.jobs[jobSel (jobSt 1) .h].state ≠ 0 ∧
    (rn.ledger.jobs[jobSel rn .h].state = 0 ∧ 4 ≤ (jobSt 4).ledger.jobs[jobSel (jobSt 4) .h].state) ∧
    ((jobSt 1).ledger.jobs[jobSel (jobSt 1) .h].state ≠ 2 ∧ (jobSt 1).ledger.jobs[jobSel (jobSt 1) .h].state ≠ 3 ∧
      (jobSt 1).ledger.jobs[jobSel (jobSt 1) .h].state ≠ 4 ∧ (jobSt 1).ledger.jobs[jobSel (jobSt 1) .h].state ≠ 5) := by decide +kernel
theorem wit_LedgerArms : controlLive rn = true ∧ runOpen rn = true ∧ runOpen sb = false ∧
    ((jobSt 1).ledger.jobs[(0 : Fin 64)].state = 1 ∧ (jobSt 1).ledger.jobs[(0 : Fin 64)].kind = 1) ∧ rn.ledger.jobs[(63 : Fin 64)].state ≠ 1 := by
  decide +kernel

/-- OPERATIONAL in STANDBY. -/
abbrev opSt : State := modNet sb (fun n => { n with busState := 0, nmt := 5 })
/-- RPDO1 and TPDO1 are valid, RPDO1 with one entry of 1 byte, their types as given. -/
abbrev pdoSt (t : Nat) : State :=
  setObj (setObj (setObj (setObj (setObj (setObj (setObj opSt 0x1600 2 0) 0x1400 1 0x201) 0x1400 2 t) 0x1600 0 1) 0x1600 1 0x2B000108) 0x1800 1 0x181) 0x1800 2 t

theorem wit_RpdosReceived : pdoLive rn = false ∧
    (pdoLive (pdoSt 1) = true ∧ rpdoValid (pdoSt 1) 0 = true ∧ ([] : List Byte).length < sumN ((rpdoEntries (pdoSt 1) 0).map entryBytes)) ∧
    (sumN ((rpdoEntries (pdoSt 240) 0).map entryBytes) ≤ ([1] : List Byte).length ∧ objN (pdoSt 240) (0x1400 + (0 : Fin 4).val) 2 ≤ 240) ∧
    240 < objN (pdoSt 255) (0x1400 + (0 : Fin 4).val) 2 := by decide +kernel
theorem wit_TpdosSent : (canLive (modNet rn (fun n => { n with busState := 0 })) = true ∧ (modNet rn (fun n => { n with busState := 0 })).net.nmt ≠ 5) ∧
    (pdoLive (pdoSt 255) = true ∧ tpdoEvent (pdoSt 255) 0 = true ∧ tpdoFree (pdoSt 255) 0 = true ∧
      tpdoPayload (modTpdo (pdoSt 255) 0 (fun t => { t with sent := [7] })) 0 ≠ [7]) ∧
    tpdoFree (modTpdo (setObj (pdoSt 255) 0x1800 3 10) 0 (fun t => { t with sentSt := some 0 })) 0 = false ∧ pdoLive rn = false ∧
    (objN (setObj (pdoSt 255) 0x1800 5 1) (0x1800 + (0 : Fin 4).val) 5 ≠ 0 ∧
      0 + objN (setObj (pdoSt 255) 0x1800 5 1) (0x1800 + (0 : Fin 4).val) 5 * 200000 ≤ now (atST 200000 (pdoSt 255))) ∧
    (modTpdo (pdoSt 255) 0 (fun t => { t with due := true })).pdo.tpdos[(0 : Fin 4)].due = true ∧
    ({ pdoSt 255 with pdo := { (pdoSt 255).pdo with asks := [.sync] } } : State).pdo.asks = [.sync] ∧
    (tpdoTests (pdoSt 255) 0 = true ∧ tpdoTests (atST 20000 (modTpdo (pdoSt 255) 0 (fun t => { t with testSt := some 0 }))) 0 = true ∧
      tpdoTests (atST 19999 (modTpdo (pdoSt 255) 0 (fun t => { t with testSt := some 0 }))) 0 = false) ∧
    tpdoPayload (modTpdo (pdoSt 255) 0 (fun t => { t with sent := tpdoPayload (pdoSt 255) 0 })) 0 =
      (modTpdo (pdoSt 255) 0 (fun t => { t with sent := tpdoPayload (pdoSt 255) 0 })).pdo.tpdos[(0 : Fin 4)].sent := by decide +kernel
theorem wit_PdoParameters : Passes sb .h (okey 0x1400 1) ((0x80000201 : Nat) : Int) ∧ Passes sb .h (okey 0x1A03 1) ((0x10010008 : Nat) : Int) ∧
    Passes sb .h (okey 0x1803 2) ((255 : Nat) : Int) ∧
    (pdoInvalid (pdoSt 1) 0x1600 = false ∧ checkWriteRight (touch (pdoSt 1) .h) .h (okey 0x1600 1) (leNat (numData (okey 0x1600 1) 0x2B000108)) = 0 ∧
      claimLets (pdoSt 1) .h (okey 0x1600 1 / 256) = true ∧ modeLets (pdoSt 1) .h (clsOf (okey 0x1600 1)) = true ∧
      dictLive (pdoSt 1) = true ∧ (pdoSt 1).ctl.epoch = none) := by decide +kernel

/-- Configured, in STANDBY, with a part of the link changed. -/
abbrev uc (f : UsbSt → UsbSt) : State := modUsb sb (fun u => f { u with vbus := true, state := 4 })
/-- A transfer under way on path H. -/
abbrev xf (x : DomXfer) : State := setXfer sb .h (some x)
/-- A table read. -/
abbrev rdX : DomXfer := ⟨0x5900, false, 4, [1, 2, 3, 4], 0, 0⟩
/-- A table written. -/
abbrev wrX : DomXfer := ⟨0x5900, true, 4, [1, 2], 2, 0⟩
/-- An event record that waits. -/
abbrev evr : EvtRec := ⟨1, 3, false, 0, 0, 0, 0⟩
/-- Suspended, remote wake enabled, an event of the least priority of 3 waiting. -/
abbrev su (t : Nat) (f : UsbSt → UsbSt) : State :=
  atST t (modUsb (setObj sb 0x2A00 1 3) (fun u => f { u with state := 5, prev := 4, remoteEn := true, q := { u.q with recs := [evr] } }))
/-- A record of the carriage stream. -/
abbrev car : CarRec := ⟨0, [1, 2, 3, 4], false, false, some .h⟩
/-- Records of the stream are ready. -/
abbrev carSt (rs : List CarRec) : State := { uc id with img := { (uc id).img with recs := rs } }
/-- A raster record that waits. -/
abbrev rw0 : RasterWait := ⟨0, 4, [(0, [1])]⟩

theorem wit_UsbLink : (sb.pw.on = true ∧ sb.usb.vbus = false ∧ pullupMode sb = true ∧ sb.usb.state = 0 ∧ objN sb 0x2D08 2 = 0) ∧
    ((uc id).usb.state ≠ 0 ∧ (uc id).md.mode ≠ .recovery) ∧ (uc (fun u => { u with state := 2 })).usb.state = 2 ∧
    (uc (fun u => { u with state := 3 })).usb.state = 3 ∧ (uc id).usb.state = 4 := by decide +kernel
theorem wit_UsbRequests : usbLive (uc id) = true ∧
    (judgeRead (uc id) .h (okey 0x2B00 1) = 0 ∧ 0 < (readData (uc id) .h (okey 0x2B00 1)).length ∧
      (readData (uc id) .h (okey 0x2B00 1)).length ≤ 64) := by decide +kernel
theorem wit_DomainTransfers : (dictLive sb = true ∧ sb.ctl.epoch = none ∧ sb.ctl.xfers[Path.h.idx] = none) ∧
    judgeOpen (touch sb .h) .h 0x5400 0 false 0 = 0 ∧ judgeOpen (touch sb .h) .h 0x5B00 0 true 2048 = 0 ∧
    judgeOpen (touch sb .h) .h 0x5001 77 false 0 ≠ 0 ∧
    ((xf wrX).ctl.xfers[Path.h.idx] = some wrX ∧ (wrX.data ++ [3]).length < wrX.total ∧ wrX.total < (wrX.data ++ [3, 4, 5]).length) ∧
    (xf rdX).ctl.xfers[Path.h.idx] = some rdX ∧
    (rdX.lastSt + 200000000 ≤ now (atST 200000000 (xf rdX)) ∧ now (atST 199999999 (xf rdX)) < rdX.lastSt + 200000000) := by decide +kernel
theorem wit_SuspendAndWake : ((uc id).usb.state ≠ 0 ∧ (uc id).usb.state ≠ 5) ∧
    (remoteWakeDue (su 1000000 id) = true ∧ (su 1000000 id).usb.rw = .idle ∧ (su 1000000 id).usb.hostK = false ∧
      (su 1000000 id).usb.idleSt + 1000000 ≤ now (su 1000000 id)) ∧ (uc id).usb.remoteEn = false ∧
    ((su 380000 (fun u => { u with rw := .driving 0 })).usb.rw = .driving 0 ∧ 0 + 380000 ≤ now (su 380000 id)) ∧
    ((su 1800 (fun u => { u with rw := .released 0 })).usb.rw = .released 0 ∧ 0 + 1800 ≤ now (su 1800 id)) ∧
    ((su 2000000 (fun u => { u with rw := .awaitK 0, attempts := 0 })).usb.rw = .awaitK 0 ∧
      (su 2000000 (fun u => { u with rw := .awaitK 0, attempts := 0 })).usb.attempts ≤ objN (su 0 id) 0x2A00 3 ∧
      objN (su 0 id) 0x2A00 3 < (su 2000000 (fun u => { u with rw := .awaitK 0, attempts := 11 })).usb.attempts) ∧
    ((su 0 id).usb.state = 5 ∧ (su 0 (fun u => { u with hostK := true })).usb.hostK = true) := by decide +kernel
theorem wit_UsbEndpoints : usbLive (uc id) = true ∧
    ((uc id).usb.inp.halted = false ∧ inSpace (uc (fun u => { u with inp := { u.inp with waits := [⟨0, 4194304, []⟩] } })) < ([1] : List Byte).length) ∧
    ([1] : List Byte).length ≤ inSpace (uc id) ∧
    acceptable (uc (fun u => { u with inp := { u.inp with waits := [rw0] } }))
      (uc (fun u => { u with inp := { u.inp with waits := [rw0] } })).usb.inp.waits [] = some rw0 ∧
    acceptable (modCb (uc id) (fun c => { c with inp := { c.inp with waits := [rw0] } }))
      (modCb (uc id) (fun c => { c with inp := { c.inp with waits := [rw0] } })).cb.inp.waits [] = some rw0 ∧
    acceptable (uc id) (uc id).usb.inp.waits [] = none ∧
    (bulkRecs (carSt [car, car]) = car :: [car] ∧ (carSt [car, car]).usb.inOff + (bulkPacket (carSt [{ car with bytes := List.replicate 600 0 }])).length <
        (List.replicate 600 (0 : Byte)).length ∧
      bulkRecs (carSt [{ car with bytes := List.replicate 600 0 }]) = { car with bytes := List.replicate 600 0 } :: []) ∧
    (bulkRecs (carSt [car]) = [car] ∧ bulkPacket (carSt [car]) ≠ [] ∧
      car.bytes.length ≤ (carSt [car]).usb.inOff + (bulkPacket (carSt [car])).length) ∧
    (bulkRecs (uc id) = [] ∧ (uc (fun u => { u with inFull := true })).usb.inFull = true ∧ (uc id).usb.inFull = false ∧ false ≠ bulkLast (carSt [car])) := by
  decide +kernel

/-- The companion bus in RUN, with a part of its state changed. -/
abbrev cc (t : Nat) (f : CbSt → CbSt) : State := modCb (atST t rn) f
/-- The same with the mailbox changed. -/
abbrev mb (f : MailSt → MailSt) : State := cc 0 (fun c => { c with mb := f c.mb })

theorem wit_MirrorReads : cbPowered rn = true ∧ mirrorFresh rn 4 = true ∧ rn.cb.mirror.prev = none ∧
    (mirrorFresh (cc 1 (fun c => { c with mirror := ⟨some 4, 0, [1, 2], some [3, 4]⟩ })) 6 = false ∧
      now (cc 1 id) ≤ 0 + objN (cc 1 id) 0x2A10 3) ∧ mirrorFresh (cc 1 (fun c => { c with mirror := ⟨some 4, 0, [1, 2], some [3, 4]⟩ })) 4 = true ∧
    (cc 1 (fun c => { c with mirror := ⟨some 4, 0, [1, 2], some [3, 4]⟩ })).cb.mirror.last = some [3, 4] := by decide +kernel
theorem wit_PostedWrites : cbPowered rn = true ∧ controlLive rn = true ∧ (cbPowered (inMode .boot) = true ∧ controlLive (inMode .boot) = false) ∧
    rn.cb.fifo = [] ∧ (objN (setObj rn 0x2A10 7 0x2B000100) 0x2A10 (4 + (3 : Fin 16).val) ≠ 0 ∧
      (objRow (objN (setObj rn 0x2A10 7 0x2B000100) 0x2A10 (4 + (3 : Fin 16).val) / 256)).isSome = true ∧ rn.cb.fifo.length < 32) ∧
    objN rn 0x2A10 (4 + (2 : Fin 16).val) = 0 ∧ 32 ≤ (cc 0 (fun c => { c with fifo := List.replicate 32 (0, []) })).cb.fifo.length ∧
    ((cc 0 (fun c => { c with fifo := [(okey 0x2B00 1, [0])] })).cb.fifo = (okey 0x2B00 1, [0]) :: [] ∧ dictLive rn = true) := by decide +kernel
theorem wit_MailboxRequests : (cbPowered rn = true ∧ dictLive rn = true) ∧ (mb (fun m => { m with busy := true })).cb.mb.busy = true ∧
    rn.cb.mb.busy = false ∧ (judgeRead (touch rn .c) .c (okey 0x2B00 1) = 0 ∧ okey 0x2B00 1 ≠ okey 0x2930 2) ∧ rn.ctl.xfers[Path.c.idx] = none ∧
    ((mb (fun m => { m with busy := true, late := some 0 })).cb.mb.late = some 0 ∧ (mb (fun m => { m with busy := true, late := some 0 })).cb.mb.busy = true) ∧
    rn.cb.mb.late = none := by decide +kernel
theorem wit_CompanionPorts : (cbPowered rn = true ∧ controlLive rn = true) ∧ (cbPowered (inMode .boot) = true ∧ controlLive (inMode .boot) = false) ∧ (rn.cb.inp.halted = false ∧ inSpace rn ≠ 0 ∧ inSpace (cc 0 (fun c => { c with inp := { c.inp with waits := [⟨0, 4194304, []⟩] } })) = 0) ∧
    (cc 0 (fun c => { c with inp := { c.inp with halted := true } })).cb.inp.halted = true ∧ nextRec rn .c = none ∧
    (nextRec { rn with img := { rn.img with recs := [⟨0, [1, 2, 3, 4], false, false, some .c⟩] } } .c = some ⟨0, [1, 2, 3, 4], false, false, some .c⟩ ∧
      2 * ((0 : Nat) + 1) < paddedLen ⟨0, [1, 2, 3, 4], false, false, some .c⟩ ∧ paddedLen ⟨0, [1, 2, 3, 4], false, false, some .c⟩ ≤ 2 * (1 + 1)) ∧
    rn.cb.q.recs = [] ∧ ((cc 0 (fun c => { c with evOff := 7, q := { c.q with recs := [⟨1, 3, false, 0, 0, 0, 0⟩] } })).cb.q.recs = ⟨1, 3, false, 0, 0, 0, 0⟩ :: [] ∧
      (cc 0 (fun c => { c with evOff := 7 })).cb.evOff = 7 ∧ rn.cb.evOff ≠ 7) := by decide +kernel

/-- A node in RUN in an NMT state, with a part of its state changed. -/
abbrev nn (t nmt : Nat) (f : NetSt → NetSt) : State := modNet (atST t rn) (fun n => f { n with nmt := nmt })
/-- A session of client 9 that takes 4 bytes. -/
abbrev se9 (wr : Bool) : UsdoSess := ⟨9, okey 0x2B00 1, wr, 4, [1, 2], 0, 0⟩

theorem wit_NmtCommands : (nmtMine (nn 0 5 id) 0 = true ∧ (nn 0 5 id).net.nmt ≠ 0) ∧ ((3 : Nat) ≠ 0 ∧ 3 ≠ (nn 0 5 id).net.nodeAct) ∧
    (canLive rn = true ∧ rn.net.nmt = 0) ∧ (nn 0 5 id).net.nmt ≠ 4 := by decide +kernel
theorem wit_BusErrors : canLive (nn 0 5 id) = true ∧ objN (setObj (nn 0 5 id) 0x1029 1 2) 0x1029 1 = 2 ∧
    (objN (nn 0 5 id) 0x1029 1 = 0 ∧ (nn 0 5 id).net.nmt = 5) ∧ objN (setObj (nn 0 5 id) 0x1029 1 1) 0x1029 1 = 1 ∧
    (nn 0 5 (fun n => { n with busState := 2 })).net.busState = 2 ∧ (nn 0 5 id).net.busState ≠ 2 := by decide +kernel
theorem wit_HeartbeatAndEmcy : (canLive (setObj (nn 200000 5 id) 0x1017 0 1) = true ∧ (nn 200000 5 id).net.nmt ≠ 0 ∧
      objN (setObj (nn 200000 5 id) 0x1017 0 1) 0x1017 0 ≠ 0 ∧
      (nn 200000 5 id).net.hbSt + objN (setObj (nn 200000 5 id) 0x1017 0 1) 0x1017 0 * 200000 ≤ now (setObj (nn 200000 5 id) 0x1017 0 1)) ∧
    rn.net.nmt = 0 ∧ objN (setObj rn 0x1017 0 0) 0x1017 0 = 0 ∧
    ((setObj (nn 200000 5 (fun n => { n with hb := upd n.hb 0 (fun _ => some 0) })) 0x1016 1 0x90001).net.hb[(0 : Fin 4)] = some 0 ∧
      hbTime (setObj (nn 200000 5 id) 0x1016 1 0x90001) 0 ≠ 0 ∧ 0 + hbTime (setObj (nn 200000 5 id) 0x1016 1 0x90001) 0 ≤ 200000) ∧
    ((nn 0 5 (fun n => { n with emcyQ := [[0]] })).net.emcyQ = [0] :: [] ∧ usdoLive (nn 0 5 (fun n => { n with emcyQ := [[0]] })) = true ∧
      emcyFree (nn 0 5 (fun n => { n with emcyQ := [[0]] })) = true) ∧ rn.net.emcyQ = [] := by decide +kernel
theorem wit_UsdoSessions : usdoLive (nn 0 5 id) = true ∧
    usdoRoom (nn 0 5 (fun n => { n with usdo := List.replicate 4 (se9 true) })) 8 = false ∧
    (usdoFind (nn 0 5 id) 9 = none ∧ usdoRoom (nn 0 5 id) 9 = true ∧ keyIsDom (okey 0x2B00 1) = false) ∧
    (4 ≤ ([1, 2, 3, 4] : List Byte).length ∧ ([1] : List Byte).length < 4) ∧
    (usdoFind (nn 0 5 (fun n => { n with usdo := [se9 true] })) 9 = some (se9 true) ∧ (se9 true).wr = true ∧ keyIsDom (se9 true).key = false ∧
      (se9 true).total ≤ ((se9 true).data ++ [3, 4]).length) ∧
    (usdoExpire (nn 0 5 id) = nn 0 5 id ∧ usdoExpire (nn 0 5 (fun n => { n with usdo := [se9 true] })) = nn 0 5 (fun n => { n with usdo := [se9 true] }) ∧
      usdoRoom (nn 0 5 (fun n => { n with usdo := List.replicate 4 (se9 true) })) 9 = true) ∧
    (judgeRead (touch (nn 0 5 id) .n) .n (okey 0x2B00 1) = 0 ∧ (readTx (nn 0 5 id) .n (okey 0x2B00 1)).2.2.length ≤ 64) ∧
    judgeRead (touch (nn 0 5 id) .n) .n (okey 0xFFFF 0) ≠ 0 ∧ keyIsDom (okey 0xFFFF 0) = false ∧
    (usdoFind (nn 0 5 (fun n => { n with usdo := [se9 false] })) 9 = some (se9 false) ∧ (se9 false).wr = false) ∧
    (se9 true).lastSt + 200000000 ≤ now (nn 200000000 5 id) := by decide +kernel

/-- A node of the Last Ride in STANDBY, with its role and a part of its state. -/
abbrev lr (t role : Nat) (f : LrSt → LrSt) : State := modLr (modNet (atST t (setObj sb 0x2A48 1 role)) (fun n => { n with nmt := 5 })) f
/-- The master of a round whose only other member is node 3. -/
abbrev ms (t : Nat) (f : LrSt → LrSt) : State := setObj (lr t 2 (fun l => f { l with state := 2, master := true })) 0x2A48 5 8

theorem wit_LastRideReadiness : (objN (inMode .run) 0x2A48 2 = 1 ∧ (inMode .run).md.mode ≠ .standby) ∧
    (sb.md.mode = .standby ∧ ledgerIdle { sb with ledger := { sb.ledger with jobs := upd sb.ledger.jobs 0 (fun j => { j with state := 1 }) } } = false) ∧
    (ledgerIdle sb = true ∧ sb.md.trans = none ∧ sb.md.held = false ∧ sb.net.lr.evSince = false ∧ hostActive sb = false ∧ sb.usb.state ≠ 4) ∧
    ({ sb with md := { sb.md with held := true } } : State).md.held = true ∧
    (lr 0 1 (fun l => { l with evSince := true })).net.lr.evSince = true ∧
    (hostActive (modUsb sb (fun u => { u with state := 4 })) = true ∧ (modUsb sb (fun u => { u with state := 4 })).usb.state = 4) ∧
    (modCb sb (fun c => { c with rstLow := true })).cb.rstLow = true := by decide +kernel
theorem wit_LastRideMaster : (Passes (lr 0 2 id) .h (okey 0x2A48 8) 1 ∧ objN (lr 0 2 id) 0x2A48 1 = 2 ∧ lrLive (lr 0 2 id) = true ∧
      (lr 0 2 id).net.lr.state = 0) ∧
    lrBusy (modLr (touch (lr 0 2 id) .h) (fun l => { l with evSince := false, localWake := false })) = 0 ∧
    lrBusy (modLr (touch (setObj (lr 0 2 id) 0x2A48 2 1) .c) (fun l => { l with evSince := false, localWake := false })) = 5 ∧
    (lrPart (ms 0 id) = true ∧ (ms 0 id).net.lr.state = 2 ∧ (ms 0 id).net.lr.master = true ∧ 3 ∈ lrMembers (ms 0 id) ∧
      (ms 0 id).net.lr.answers.lookup 3 = none ∧ (ms 0 (fun l => { l with answers := [(3, 0)] })).net.lr.answers.lookup 3 ≠ none) ∧
    ((ms 10000000 id).net.lr.commitSent = false ∧ (ms 10000000 id).net.lr.startSt + 10000000 ≤ now (ms 10000000 id) ∧
      (ms 10000000 (fun l => { l with veto := some 3 })).net.lr.veto = some 3 ∧
      lrFailing (ms 10000000 id) = some (3, 7) ∧ (ms 10000000 id).net.lr.veto = none ∧
      lrFailing (ms 10000000 (fun l => { l with answers := [(3, 0)] })) = none ∧
      lrBusy (ms 10000000 (fun l => { l with answers := [(3, 0)] })) = 0) ∧
    (ms 0 (fun l => { l with commitSent := true })).net.lr.commitSent = true := by decide +kernel
theorem wit_LastRideParticipant : (lrPart (lr 0 1 id) = true ∧ objN (lr 0 1 id) 0x2A48 1 = 1) ∧
    ((lr 0 1 id).net.lr.state ≠ 3 ∧ (lr 0 1 id).net.lr.state ≠ 4 ∧ 2 ≠ objN (lr 0 1 id) 0x2A48 3) ∧
    lrBusy (lrBegin (lr 0 1 id) (wrap 8 7) 1 false) = 0 ∧
    lrBusy (lrBegin (modUsb (lr 0 1 id) (fun u => { u with state := 4 })) (wrap 8 7) 1 false) ≠ 0 ∧
    ((lr 20000000 1 (fun l => { l with state := 1, ready := true })).net.lr.state = 1 ∧
      (lr 20000000 1 (fun l => { l with state := 1, ready := true })).net.lr.ready = true ∧
      (lr 20000000 1 id).net.lr.startSt + 20000000 ≤ now (lr 20000000 1 id)) := by decide +kernel
theorem wit_LastRideCurtain : (lrPart (lr 0 1 (fun l => { l with state := 1 })) = true ∧ (lr 0 1 (fun l => { l with state := 1 })).net.lr.state = 1 ∧
      (lr 0 1 id).net.lr.master = false) ∧
    (lrPart (ms 0 (fun l => { l with commitSent := true })) = true ∧ (ms 0 id).net.lr.state = 2 ∧ (ms 0 id).net.lr.master = true ∧
      (ms 0 (fun l => { l with commitSent := true })).net.lr.commitSent = true) ∧
    (lrPart (lr 3980000 1 (fun l => { l with state := 3 })) = true ∧ (lr 3980000 1 (fun l => { l with state := 3 })).net.lr.state = 3 ∧
      (lr 3980000 1 id).net.lr.startSt + 3980000 ≤ now (lr 3980000 1 id) ∧ objN (setObj (lr 3980000 1 id) 0x2A48 2 0) 0x2A48 2 ≠ 1) ∧
    ((modNet sb (fun n => { n with busState := 3 })).net.busState = 3 ∧ wakeCauseOf sb .errors = some 3 ∧ sb.md.mode ≠ .doze ∧
      (inMode .doze).md.mode = .doze) ∧
    wakeCauseOf (setObj sb 0x2A4A 1 1) .pattern = none := by decide +kernel

/-- Port 0 enabled in STANDBY, with a part of its state changed. -/
abbrev ua (f : UartSt → UartSt) : State := modUart (modApp (setObj sb 0x2A60 1 1) (fun a => { a with state := 2 })) 0 f

theorem wit_UartFrames : uartCfg sb 0 3 = 8 ∧ uartCfg sb 0 4 = 0 ∧ uartCfg sb 0 5 = 1 := by decide +kernel
theorem wit_UartReceives : (ua id).uarts[(0 : Fin 2)].rxHold = none ∧
    (ua (fun u => { u with rxHold := some 65 })).uarts[(0 : Fin 2)].rxHold = some 65 ∧
    (dictLive (ua id) = true ∧ (ua id).uarts[(0 : Fin 2)].breakWait = false ∧ uartCfg (ua id) 0 7 ≠ 1 ∧ uartActive (ua id) 0 = true ∧
      sampleHigh (([0, 3] : List Nat).headD 3) = false) ∧
    (ua (fun u => { u with breakWait := true })).uarts[(0 : Fin 2)].breakWait = true ∧
    (uartCfg (setObj (inMode .doze) 0x2A60 7 1) 0 7 = 1 ∧ (inMode .doze).md.mode = .doze) ∧
    (uartCfg (setObj sb 0x2A60 7 1) 0 7 = 1 ∧ sb.md.mode ≠ .doze ∧ dictLive (setObj sb 0x2A60 7 1) = true) ∧
    (uartCfg (inMode .doze) 0 7 ≠ 1 ∧ (inMode .boot).md.mode ≠ .doze ∧ dictLive (inMode .boot) = false) := by decide +kernel
theorem wit_UartTransmits : (uartActive (ua id) 0 = true ∧ (ua (fun u => { u with txHold := some 65 })).uarts[(0 : Fin 2)].txHold = some 65 ∧
      (ua id).uarts[(0 : Fin 2)].txShift = none ∧ uartCfg (ua id) 0 6 = 0) ∧
    uartCfg (setObj (ua id) 0x2A60 6 1) 0 6 ≠ 0 ∧ (ua (fun u => { u with txShift := some 65 })).uarts[(0 : Fin 2)].txShift = some 65 ∧
    uartActive sb 0 = false := by decide +kernel

/-- The Safety Net with a part of its state changed. -/
abbrev sn (t : Nat) (f : SnSt → SnSt) : State := modSn (atST t sb) f

theorem wit_FlagsAndLog : Passes sb .h (okey 0x2B01 4) 1 ∧ Passes sb .h (okey 0x2B01 9) 1 ∧ Passes sb .h (okey 0x2C00 1) 1 := by decide +kernel
theorem wit_SafetyInputs : (sb.pw.on = true ∧ (sn 0 (fun n => { n with coverLow := false })).sn.coverLow = false) ∧ (sn 0 (fun n => { n with coverLow := true })).sn.coverLow = true ∧
    ((sn 9 (fun n => { n with coverDue := some 9 })).sn.coverDue = some 9 ∧ 9 ≤ now (sn 9 id) ∧ now (sn 8 id) < 9) ∧
    sb.sn.haltLow = false ∧ (sn 0 (fun n => { n with haltLow := true })).sn.haltLow = true ∧ sb.sn.ot[(1 : Fin 2)] = false ∧
    sb.sn.ov[(0 : Fin 2)] = false := by decide +kernel
theorem wit_CutsAndRelease : (sn 0 (fun n => { n with coverLow := true })).sn.coverLow = true ∧
    (sn 0 (fun n => { n with haltLow := true, haltLatch := true })).sn.haltLatch = true ∧
    (sn 0 (fun n => { n with otLatch := upd n.otLatch 1 (fun _ => true) })).sn.otLatch[(1 : Fin 2)] = true ∧
    (sn 0 (fun n => { n with ovLatch := upd n.ovLatch 1 (fun _ => true) })).sn.ovLatch[(1 : Fin 2)] = true ∧
    (Passes (sn 0 (fun n => { n with haltLow := true, haltLatch := true })) .h (okey 0x2C11 1) 1 ∧
      latchHeld (sn 0 (fun n => { n with haltLow := true, haltLatch := true })) = true) ∧
    latchHeld (sn 0 (fun n => { n with haltLatch := true })) = false := by decide +kernel
theorem wit_RaisesInOrder : ∀ x ∈ (noteRaise sb ⟨1, 0, 0⟩).rm.cyc, x.st = now (noteRaise sb ⟨1, 0, 0⟩) := by decide +kernel
theorem wit_RouteQueues : (EvQueue.reset.recs.length < 16 ∧ 0 ≤ EvQueue.reset.recs.length) ∧ sb.tl.ring.length < 4096 := by decide +kernel
/-- A full log. -/
theorem wit_RouteQueues_full (x : TlEntry) : ({ sb.tl with ring := List.replicate 4096 x } : TlSt).ring.length = 4096 := by
  simp only [List.length_replicate]

/-- STANDBY with a part of the power controller changed. -/
abbrev pws (f : PwSt → PwSt) : State := modPw sb f
/-- STANDBY with AVS on or off. -/
abbrev avs (en : Int) : State := setObj sb 0x2D01 1 en
/-- A power-down sequence that runs. -/
abbrev pfRun : PfRun := ⟨3, 0, 3, 0⟩

theorem wit_RailFaults : (sb.pw.on = true ∧ (0 : Nat) ≤ 9) ∧ railUv sb 3 ≤ railSet sb 3 ∧ (17999 < railUv sb 0 ∧ railOff sb 0 = false ∧ sb.pw.pf = none ∧ sb.pw.present = true) ∧
    (railOff sb 8 = false ∧ railOff sb 9 = false ∧ 0 < railUv sb 8 ∧ 0 < railUv sb 9) ∧ (railOff sb 1 = true ∧ 0 < railUv sb 1) ∧
    ((3 : Nat) ≠ 1 ∧ 3 ≠ 2 ∧ 11 * railSet sb 3 < 10 * 600000) ∧ 10 * 0 ≤ 11 * railSet sb 3 := by decide +kernel
theorem wit_AvsSteps : controlLive sb = true ∧ (dueAfter (none : Option ST) 200000 0 = true ∧ dueAfter (some 0) 200000 199999 = false ∧
      dueAfter (some 0) 200000 200000 = true) ∧ (0 = [0].foldl min 65535 ∧ 0 < objN sb 0x2D01 6 * 15 / 16) ∧
    (objN (avs 1) 0x2D01 6 * 15 / 16 ≤ [objN sb 0x2D01 6 - objN sb 0x2D01 7 - 1].foldl min 65535 ∧ objN (avs 1) 0x2D01 1 = 1 ∧ objN (avs 1) 0x2D01 2 = 0 ∧
      [objN sb 0x2D01 6 - objN sb 0x2D01 7 - 1].foldl min 65535 + objN (avs 1) 0x2D01 7 < objN (avs 1) 0x2D01 6) ∧
    (objN (avs 1) 0x2D01 6 + objN (avs 1) 0x2D01 7 < [65535].foldl min 65535 ∧ objN sb 0x2D01 6 * 15 / 16 ≤ [65535].foldl min 65535) ∧
    [objN sb 0x2D01 6].foldl min 65535 = objN sb 0x2D01 6 ∧ objN (avs 0) 0x2D01 1 ≠ 1 := by decide +kernel
theorem wit_PowerDown : (sb.pw.on = true ∧ sb.pw.pf = none ∧ dozeOff sb = false) ∧ (pws (fun w => { w with on := false })).pw.on = false ∧
    (pws (fun w => { w with pf := some pfRun })).pw.pf.isSome = true ∧ (dozeOff (inMode .doze) = true ∧ (inMode .doze).md.trans = none ∧
      (going (inMode .doze) ⟨.standby, .doze, 0, 0, none⟩).md.trans.isSome = true) ∧ (5000 ≤ 5999 ∧ (5999 : Nat) < 6000) ∧ (4999 : Nat) < 5000 := by decide +kernel

/-- STANDBY with a part of the boot state changed. -/
abbrev bt (f : BootSt → BootSt) : State := modBoot svc f
/-- A key slot in a state. -/
abbrev keySt (k : Fin 4) (st : Nat) : State := bt (fun b => { b with keys := upd b.keys k (fun x => { x with state := st }) })
/-- NEW_KEY holds the generator of P-256. -/
abbrev newKey (s : State) : State :=
  setObj (setObj (setObj (setObj (setObj (setObj (setObj (setObj s
    0x2E02 1 0xF4A13945D898C296) 0x2E02 2 0x77037D812DEB33A0) 0x2E02 3 0xF8BCE6E563A440F2) 0x2E02 4 0x6B17D1F2E12C4247)
    0x2E02 5 0xCBB6406837BF51F5) 0x2E02 6 0x2BCE33576B315ECE) 0x2E02 7 0x8EE7EB4A7C0F9E16) 0x2E02 8 0x4FE342E2FE1A7F9B
/-- The application runs; the watchdog's time. -/
abbrev ap (t : Nat) : State := modApp (setObj (atST t sb) 0x2E01 3 100) (fun a => { a with state := 2 })

theorem wit_ImageWrites : (dictLive svc = true ∧ svc.ctl.epoch = none) ∧ judgeOpen (touch sb .h) .h 0x5E00 0 true 16 ≠ 0 ∧
    judgeOpen (touch sb .h) .h 0x5E01 0 true 16 ≠ 0 ∧
    judgeOpen (touch svc .h) .h 0x5E00 0 true (List.replicate 64 (0 : Byte)).length = 0 ∧
    judgeOpen (touch svc .h) .h 0x5E01 0 true (List.replicate 64 (0 : Byte)).length = 0 := by decide +kernel
theorem wit_SlotsAndKeys : Passes svc .h (okey 0x2E00 5) 1 ∧ (Passes svc .h (okey 0x2E02 11) 1 ∧
      svc.boot.slots[svc.boot.running].rollback ≤ svc.boot.rollback) ∧
    (bt (fun b => { b with slots := updN b.slots b.running.val (fun x => { x with rollback := 5 }) })).boot.rollback <
      (bt (fun b => { b with slots := updN b.slots b.running.val (fun x => { x with rollback := 5 }) })).boot.slots[svc.boot.running].rollback ∧
    (Passes (newKey svc) .h (okey 0x2E02 9) 1 ∧ (allFin 4).find? (fun k => (newKey svc).boot.keys[k].state == 0) = some 0 ∧
      (∀ j : Fin 4, (newKey svc).boot.keys[j].state ≠ 1) ∧ onCurve (quad (newKey svc) 0x2E02 1) (quad (newKey svc) 0x2E02 5) = true) ∧
    ((keySt 2 1).boot.keys[(2 : Fin 4)].state = 1 ∧ Passes (keySt 2 1) .h (okey 0x2E02 9) 1) ∧
    onCurve (quad svc 0x2E02 1) (quad svc 0x2E02 5) = false ∧
    Passes (keySt 2 1) .h (okey 0x2E02 9) ((2 + (2 : Fin 4).val : Nat) : Int) := by decide +kernel
theorem wit_ApplicationStartStop : Passes svc .h (okey 0x2E01 2) 2 ∧ Passes svc .h (okey 0x2E01 2) 1 ∧ Passes svc .h (okey 0x2E01 1) ((0 : Nat) : Int) ∧
    Passes svc .h (okey 0x2E01 1) ((1 : Nat) : Int) ∧
    (100 = objN (ap 20000000) 0x2E01 3 ∧ (ap 20000000).app.state = 2 ∧ (ap 20000000).tu.halted = false ∧
      (ap 20000000).app.kickSt + (ap 20000000).app.haltTicks + 100 * 200000 ≤ now (ap 20000000) ∧
      now (ap 19999999) < (ap 20000000).app.kickSt + (ap 20000000).app.haltTicks + 100 * 200000) ∧
    (sb.app.state ≠ 2 ∧ sb.boot.stageValid = false ∧ sb.boot.appNor = []) ∧ (bt (fun b => { b with appNor := [0] })).boot.appNor ≠ [] ∧
    (appRegion 0x7FFFFFFF = false ∧ appRegion 0x90000000 = true) := by decide +kernel
theorem wit_DebugAccess : Passes svc .h (okey 0x2E03 13) 1 ∧ Passes svc .h (okey 0x2E03 13) 2 ∧ (bt (fun b => { b with debugOn := true })).boot.debugOn = true ∧
    svc.boot.debugOn = false ∧ (8 ≤ (bt (fun b => { b with debugRefused := 8 })).boot.debugRefused ∧ dictLive svc = true ∧ svc.ctl.epoch = none) := by decide +kernel

/-- The application runs, at a time. -/
abbrev al (t : Nat) : State := modApp (atST t sb) (fun a => { a with state := 2 })
/-- The mailbox address the calls use. -/
abbrev mbx : Nat := 0x90000000
/-- The application blocks in WAIT until cycle 9. -/
abbrev wt (t : Nat) (q : List EvtRec) : State := modRm (modApp (al t) (fun a => { a with waiting := some 9 })) (fun m => { m with app := { m.app with recs := q } })

theorem wit_ApiDictionary : apiLive (al 0) = true ∧ apiLive sb = false ∧
    (judgeRead (al 0) .a (okey 0x2B00 1) = 0 ∧ (readData (al 0) .a (okey 0x2B00 1)).length ≤ 8 ∧
      inMailbox mbx (readData (al 0) .a (okey 0x2B00 1)).length = true ∧ (readTx (al 0) .a (okey 0x2B00 1)).2.1 = 0) ∧
    0 < (readData (al 0) .a (okey 0x2B00 1)).length ∧ inMailbox 0 (readData (al 0) .a (okey 0x2B00 1)).length = false ∧
    (judgeRead (al 0) .a (okey 0xFFFF 0) ≠ 0 ∧ (readTx (al 0) .a (okey 0xFFFF 0)).2.1 ≠ 0 ∧ (readTx (al 0) .a (okey 0xFFFF 0)).2.1 ≠ vLate) ∧
    inMailbox 0 1 = false ∧ (inMailbox mbx 1 = true ∧ (writeTx (al 0) .a (okey 0x2B00 1) (bufBytes (al 0) mbx 1) []).2 ≠ vLate) := by decide +kernel
theorem wit_ApiDomains : (1 < 2 ∧ (0 : Nat) ≤ 1) ∧ (domOpen (al 0) .a 0x5400 0 (0 == 1) 0).2 ≠ vLate ∧
    (inMailbox mbx 1 = true ∧ (al 0).ctl.xfers[Path.a.idx] = none) ∧
    ((setXfer (al 0) .a (some ⟨0x5900, true, 4, [1], 1, 0⟩)).ctl.xfers[Path.a.idx] = some ⟨0x5900, true, 4, [1], 1, 0⟩ ∧ now (al 199999999) < 0 + 200000000 ∧
      vRefused (domPut (setXfer (al 0) .a (some ⟨0x5900, true, 4, [1], 1, 0⟩)) .a
        (bufBytes (setXfer (al 0) .a (some ⟨0x5900, true, 4, [1], 1, 0⟩)) mbx 1)).2 = false ∧
      (domPut (setXfer (al 0) .a (some ⟨0x5900, true, 4, [1], 1, 0⟩)) .a
        (bufBytes (setXfer (al 0) .a (some ⟨0x5900, true, 4, [1], 1, 0⟩)) mbx 1)).2 ≠ vLate) ∧
    (domAbort (al 0) .a).2 ≠ vLate := by decide +kernel
theorem wit_ApiCalls : ((al 0).rm.app.recs.take 1 = [] ∧ inMailbox mbx (16 * 0) = true) ∧
    ((wt 0 [⟨1, 3, false, 0, 0, 0, 0⟩]).rm.app.recs ≠ [] ∧ (al 9).rm.app.recs = [] ∧ 9 ≤ now (al 9) ∧ now (al 8) < 9) ∧
    (al 0).uarts[(1 : Fin 2)].txHold = none ∧ (modUart (al 0) 1 (fun u => { u with txHold := some 3 })).uarts[(1 : Fin 2)].txHold = some 3 ∧
    99 ∉ apiCodes ∧ (objN (setObj (al 0) 0x2E01 3 0) 0x2E01 3 = 0 ∧ objN (ap 19999999) 0x2E01 3 ≠ 0 ∧ apiLive (ap 20000000) = true ∧
      now (ap 19999999) < (ap 0).app.kickSt + (ap 0).app.haltTicks + objN (ap 0) 0x2E01 3 * 200000 ∧
      (ap 0).app.kickSt + (ap 0).app.haltTicks + objN (ap 0) 0x2E01 3 * 200000 ≤ now (ap 20000000)) := by decide +kernel
theorem wit_ApiWaitEnds : (wt 0 []).app.waiting = some 9 ∧ (wt 0 []).tu.halted = false ∧ (wt 0 [⟨1, 3, false, 0, 0, 0, 0⟩]).rm.app.recs ≠ [] ∧
    ((wt 9 []).rm.app.recs = [] ∧ 9 ≤ now (wt 9 []) ∧ now (wt 8 []) < 9) := by decide +kernel

/-! Witnesses of the completion statements, clause by clause; the free values they mention (a slot's check, a signature) are named there, not assumed. -/

theorem wit_ModesComplete :
    ((modPw sb (fun w => { w with on := false })).pw.on = false ∧ (inMode .boot).md.mode = .boot ∧ (inMode .boot).pw.on = true ∧
      (inMode .boot).pw.pf = none ∧ (inMode .boot).boot.recLow = false ∧ chosenSlot (inMode .boot) = some 0 ∧
      240000000 ≤ now (atST 240000000 (inMode .boot)) - State.reset.boot.start ∧ (inMode .recovery).md.mode = .recovery) ∧
    (rn.pw.pf = none ∧ rn.md.trans = none ∧ Passes rn .h (okey 0x2000 1) 1 ∧ sb.md.trans = none ∧ Passes sb .h (okey 0x2000 1) 2 ∧
      Passes sb .h (okey 0x2000 1) 3 ∧ ledgerIdle sb = true ∧ Passes sb .h (okey 0x2000 1) 4) ∧
    (dozeOff (going sb ⟨.standby, .run, 0, 0, none⟩) = false ∧
      shortRail (headsEntry (modMd (going sb ⟨.standby, .run, 0, 0, none⟩) (fun d => { d with mode := .run })) 0 0) 20000 20000 48000 = none) ∧
    (0 + 40000000 ≤ now (atST 40000000 (going sb ⟨.standby, .run, 0, 0, none⟩)) ∧ (shortRail (headIdCheck (headIdCheck
      (modMd (atST 40000000 (going sb ⟨.standby, .run, 0, 0, none⟩)) (fun d => { d with mode := .run })) 0 0) 1 0) 0 0 0).isSome = true) ∧
    (floorsMet (going rn ⟨.run, .standby, 0, 0, none⟩) 0 0 0 = true ∧ inRun rn = true) ∧
    (floorsMet (inMode .lockout) 0 0 0 = true ∧ (inMode .lockout).md.floorsReached = false ∧ Passes (inMode .lockout) .h (okey 0x2000 4) 1 ∧
      lockCauses (touch (inMode .lockout) .h) = []) ∧
    (holder sb 0 = none ∧ Passes sb .h (okey 0x2002 1) 0 ∧ tickWrites (touch sb .h) = []) ∧
    (dozeEntering (going (inMode .doze) ⟨.standby, .doze, 0, 0, none⟩) = true ∧ (inMode .doze).app.state ≠ 2 ∧
      (lowestWake (wakeMask (going (inMode .doze) ⟨.standby, .doze, 0, 0, none⟩) true)).isSome = true) ∧
    (dozeOff (inMode .doze) = true ∧ dozing (inMode .doze) = true ∧ (lowestWake (wakeMask (inMode .doze) true)).isSome = true ∧
      dozeOff (going (inMode .doze) ⟨.doze, .standby, 0, 1, none⟩) = true) ∧
    (dfuLive (dfuIn 5 [1]) = true ∧ (dfuIn 5 [1]).boot.dfu.state = 5 ∧ (dfuIn 7 [1]).boot.dfu.state = 7 ∧
      dfuFilling (modBoot (dfuIn 7 [1]) (fun b => { b with slots := upd b.slots 1 (fun x => { x with incomplete := true }) })) = some 1) := by decide +kernel
theorem wit_MotionSyncComplete :
    (controlLive encSt = true ∧ encInverted encSt 0 = false ∧ laneSource encSt 0 = 1 ∧
      laneCfg encSt 0 12 ≤ (now (atST (laneCfg encSt 0 12).toNat encSt) : Int) - encSt.msu.encs[laneEnc encSt 0].te0) ∧
    (laneSource (genSt .none 2560) 0 ≠ 0 ∧ (genSt .none 2560).msu.lanes[(0 : Fin 4)].dir ≠ .fwd ∧
      (genSt .none 2560).msu.lanes[(0 : Fin 4)].ext + laneCfg (genSt .none 2560) 0 11 ≤ (genSt .none 2560).msu.lanes[(0 : Fin 4)].pos) ∧
    (turnWaits (genSt .fwd 0) (.lineEvent 0 24000 24000 0 0) = false ∧ lineDue (genSt .fwd 0) 0 = some (0, .fwd) ∧ gateAtLine (genSt .fwd 0) 0 = true ∧
      dirsAllow (genSt .fwd 0) 0 .fwd = true ∧ dueFwd (genSt .fwd 0) 0 1 > (genSt .fwd 0).msu.lanes[genLane 0].pos) ∧
    (firesNow (wmSt (wmE 0 3 true) (-1) 0) (wmAt (wmSt (wmE 0 3 true) (-1) 0) 1023) = 1 ∧ (wmE 0 3 true).op = 0 ∧ (wmE 0 3 true).key < 4 ∧
      (wmE 0 3 true).evt = true ∧ turnWaits (wmSt (wmE 0 3 true) (-1) 0) (.waymarkFire 1023) = false) ∧
    rearmsNow (wmSt { wmE 0 1 false with armed := false, rearm := 1 } 0 (-1)) (wmAt (wmSt { wmE 0 1 false with armed := false, rearm := 1 } 0 (-1)) 1023) = true ∧
    (firesNow (wmSt (wmE 4 1 false) 0 0) (wmAt (wmSt (wmE 4 1 false) 0 0) 1023) = 3 ∧ (wmE 4 1 false).key = 4 ∧ (wmE 4 1 false).evt = false ∧
      (wmE 4 1 false).since ≤ (wmE 4 1 false).target ∧ turnWaits (wmSt (wmE 4 1 false) 0 0) (.waymarkStFire 1023) = false) ∧
    (atN 0 rn.msu.wmSel Path.h.idx.val = 0 ∧ Passes rn .h (okey 0x2140 4) ((2 ^ 32 - 1 : Nat) : Int) ∧ bit (2 ^ 32 - 1) 31 = true ∧
      Passes rn .h (okey 0x2140 3) ((2 ^ 32 - 1 : Nat) : Int)) ∧
    (({ rn with msu := { rn.msu with holds := [⟨1023, 1, 0, 0⟩] } } : State).msu.holds.find?
      (fun x => x.start == (1023 : Fin 1024).val && decide (x.due ≤ now rn))).isSome = true ∧
    (Passes rn .h (okey 0x2141 3) 1 ∧ Passes rn .h (okey 0x2141 3) 2 ∧ dictLive sb = true ∧ sb.ctl.epoch = none ∧
      judgeOpen (touch sb .h) .h 0x5100 0 true (List.replicate (domLen 0x5100) (0 : Byte)).length = 0) ∧
    (objN (setObj sb 0x2150 2 1) (0x2150 + (0 : Fin 4).val) 2 ≠ 0 ∧ sb.msu.encs[(0 : Fin 4)].cRef = none ∧ encLane (setObj sb 0x2150 2 1) 0 = none) ∧
    Passes sb .h (okey 0x2150 7) 1 := by decide +kernel
theorem wit_TimersComplete : (controlLive (tcSt 5 7 5) = true ∧ restartDue (tcSt 5 7 5) 16 = false ∧ tcHitA (tcSt 5 7 5) 16 = true ∧
      (tcSt 5 7 5).tu.tcs[(16 : Fin 32)].aSt ≠ some (now (tcSt 5 7 5)) ∧ tcHitB (tcSt 5 7 7) 16 = true ∧
      (tcSt 5 7 7).tu.tcs[(16 : Fin 32)].bSt ≠ some (now (tcSt 5 7 7)) ∧ tcWrapDue (tcSt 5 7 0) 16 = true ∧
      (modTc rn 16 (fun x => { x with parkDue := true })).tu.tcs[(16 : Fin 32)].parkDue = true) ∧
    now rn ∈ (modTc rn 16 (fun x => { x with delay := [0, 5] })).tu.tcs[(16 : Fin 32)].delay ∧
    (gioDriver (setObj rn 0x2220 11 3) 3 = some 16 ∧ gioDriven (setObj rn 0x2220 11 3) 16 = false ∧
      gioChange { atST 20 (setObj rn 0x2220 11 3) with tu := { (atST 20 rn).tu with gioDrv := [(3, false, 0)] } } 3 false + 20 ≤ 20) ∧
    (capCfg (setObj (setObj (atST 20000 rn) 0x2240 1 1) 0x2240 3 1) 0 1 = 1 ∧
      capMay (modCap (setObj (setObj (atST 20000 rn) 0x2240 1 1) 0x2240 3 1) 0 (fun x => { x with level := true })) 0 = true ∧
      capCfg (setObj (setObj (atST 20000 rn) 0x2240 1 1) 0x2240 3 1) 0 3 = 1) ∧
    ((modApp (modBoot rn (fun b => { b with debugOn := true })) (fun a => { a with state := 2 })).boot.debugOn = true ∧
      (modApp (modBoot rn (fun b => { b with debugOn := true })) (fun a => { a with state := 2 })).app.state = 2 ∧ rn.tu.halted = false ∧
      ({ rn with tu := { rn.tu with halted := true } } : State).tu.halted = true) ∧
    Passes rn .h (okey (0x2240 + (7 : Fin 8).val) 8) ((255 : Nat) : Int) := by decide +kernel
theorem wit_HeadsComplete : (controlLive rn = true ∧ sysReads rn = true ∧ headCfg (setObj rn 0x2300 1 0) 0 1 = 0) ∧
    ((trainSt false).heads[(0 : Fin 2)].train = some (train0 false) ∧ (train0 false).committed = false ∧ (train0 false).issues ≠ [] ∧
      (train0 false).firstStb ≤ now (trainSt false) ∧ (trainSt false).en[(0 : Fin 2)].thermFault = false ∧ strobesHeld (trainSt false) 0 = false) ∧
    ((train0 true).committed = true ∧ (train0 true).todo = [] ∧ (train0 true).issues ≠ [] ∧
      issuesEnd (train0 true).issues (now (trainSt true)) ≤ now (trainSt true)) ∧ Passes rn .h (okey 0x2320 8) 1 ∧
    ((recSt 8000).heads[(0 : Fin 2)].recomp = some rec0 ∧ recomputeFrom (recSt 8000) 0 rec0 ≤ now (recSt 8000) ∧ now (recSt 8000) ≤ rec0.startSt + 8000 ∧
      (recSt 8000).heads[(0 : Fin 2)].train = none ∧ lcSlots rec0.lc ≠ []) ∧
    ((16 : Nat) ≤ 4080 ∧ rn.en[(0 : Fin 2)].thermFault = false) ∧
    (rn.heads[(0 : Fin 2)].train = none ∧ (modEn (atST 200000 rn) 0 (fun e => { e with thermFault := true })).en[(0 : Fin 2)].stLast + 200000 ≤ 200000 ∧
      (modEn (atST 200000 rn) 0 (fun e => { e with thermFault := true })).en[(0 : Fin 2)].thermFault = true) ∧
    (Passes (measSt 0) .h (okey 0x2403 1) 1 ∧ measAllowed (measSt 0) 0 = true ∧ capRuns (measSt 0) = false ∧
      Passes (measSt 1) .h (okey 0x2403 1) 2 ∧ (measSt 1).vl[(0 : Fin 2)].measState = 1 ∧ controlLive (measSt 1) = true) ∧
    (measSt 1).vl[(0 : Fin 2)].measSt + headDots (measSt 1) 0 * (max 1 (measSt 1).vl[(0 : Fin 2)].measRep * measPulse (measSt 1) 0) ≤
      now (atST (headDots (measSt 1) 0 * (max 1 (measSt 1).vl[(0 : Fin 2)].measRep * measPulse (measSt 1) 0)) (measSt 1)) := by decide +kernel
theorem wit_MediaComplete : (controlLive rn = true ∧ ledsOn rn = true ∧ sysReads rn = true ∧ gridCrossed (laneAt 16383 16384) ≠ [] ∧
      (laneAt 16383 16384).media.sampleSt ≠ some (now (laneAt 16383 16384))) ∧
    (labelPassed (modMedia (laneAt 10751999 10752000) (fun m => { m with indexState := 2 })) = true ∧
      ((inc8 rn.media.missingRun : Nat) : Int) ≤ mediaCfg rn 16) ∧
    (laneStopped rn (mediaLane rn) = true ∧ rn.supply.stoppedSt = none) ∧
    ({ rn with supply := { rn.supply with reserveFrom := some 0 } } : State).supply.reserveFrom = some 0 ∧
    Passes rn .h (okey (0x2520 + 8 * (1 : Fin 2).val) 5) 1 ∧
    (inRun rn = true ∧ rn.msu.lanes[mediaLane rn].dir ≠ .rev ∧ Passes (modCut rn (fun x => { x with state := 0 })) .h (okey 0x2541 2) 1 ∧
      Passes (modCut rn (fun x => { x with state := 0 })) .h (okey 0x2541 2) 2 ∧ rn.cut.phase = .idle ∧ Passes rn .h (okey 0x2541 2) 3 ∧
      outputCut rn = false ∧ rn.cut.tripped = false ∧ rn.cut.homeSw = false ∧ Passes rn .h (okey 0x2541 3) 1) ∧
    ((cutSt .waiting id).cut.active = some ⟨2, 0⟩ ∧ cutAtStop (cutSt .waiting id) ⟨2, 0⟩ = true ∧
      (cutSt .waiting id).msu.lanes[mediaLane (cutSt .waiting id)].pos ≤ 0 ∧
      objN rn 0x2540 7 ≤ now (cutSt .forward id) - (cutSt .forward id).cut.phaseSt ∧
      objN rn 0x2540 8 ≤ now (cutSt .braking id) - (cutSt .braking id).cut.phaseSt ∧
      (cutSt .returning (fun x => { x with forwardOk := true })).cut.forwardOk = true ∧ (cutSt .finalBrake id).cut.queued = none) ∧
    (objN rn 0x2540 5 ≤ now (cutSt .forward id) - (cutSt .forward id).cut.phaseSt ∧
      (cutSt .forward id).cut.attempt < objN (setObj rn 0x2540 9 1) 0x2540 9 ∧
      objN rn 0x2540 6 ≤ now (cutSt .homing id) - (cutSt .homing id).cut.phaseSt ∧ cutDriven (cutSt .forward id).cut = true) := by decide +kernel
theorem wit_AxesAndImagesComplete : (controlLive (atST 5000 rn) = true ∧ now (atST 5000 rn) % 5000 = 0 ∧ (atST 5000 rn).pw.servoSt = none) ∧
    rn.axes[(3 : Fin 4)].pend = none ∧ (ax3 (fun x => { x with regAt := some true })).axes[(3 : Fin 4)].regAt = some true ∧
    ((atST (axCfgN rn 3 0 12) (ax3 (fun x => { x with restSt := some 0 }))).axes[(3 : Fin 4)].restSt = some 0 ∧
      axEnergised (atST (axCfgN rn 3 0 12) (ax3 (fun x => { x with restSt := some 0 }))) 3 = true ∧ 0 + axCfgN rn 3 0 12 ≤ now (atST (axCfgN rn 3 0 12) rn)) ∧
    axConducts rn 3 = true ∧ Passes rn .h (okey (0x2608 + (3 : Fin 4).val) 5) 1 ∧
    (axEnergised (ax3 (fun x => { x with strong := true })) 3 = true ∧ rn.axes[(3 : Fin 4)].openLoad = false ∧
      axPeak (ax3 (fun x => { x with strong := true })) 3 < 4 * (coilTarget (ax3 (fun x => { x with strong := true })) 3 (Fin.ofNat 2 0)).natAbs) ∧
    sysReads rn = true ∧
    ((docSt (doc0 0 .fwd false) .fwd 0 (fun x => { x with trains := [⟨0, some 7, []⟩] })).img.ports[(0 : Fin 2)].trains = ⟨0, some 7, []⟩ :: [] ∧
      7 ≤ now (atST 7 rn)) ∧
    ((docSt (doc0 0 .fwd false) .rev (-1) id).img.ports[(0 : Fin 2)].cur = some (doc0 0 .fwd false) ∧ (doc0 0 .fwd false).p0 = some 0 ∧
      (docSt (doc0 0 .fwd false) .rev (-1) id).msu.lanes[Fin.ofNat 4 (imgCfg (docSt (doc0 0 .fwd false) .rev (-1) id) 0 4 / 4)].dir ≠ (doc0 0 .fwd false).dir ∧
      docSign (doc0 0 .fwd false) *
        ((docSt (doc0 0 .fwd false) .rev (-1) id).msu.lanes[Fin.ofNat 4 (imgCfg (docSt (doc0 0 .fwd false) .rev (-1) id) 0 4 / 4)].pos - 0) < 0 ∧
      (doc0 0 .fwd true).ending = true ∧ rn.img.ports[(0 : Fin 2)].trains = []) ∧
    ((inRun rn && !(jobsOfKind rn ((1 : Fin 2).val + 3)).any (fun e => jobLive rn.ledger.jobs[e])) = true ∧
      Passes rn .h (okey (0x2704 + 16 * (1 : Fin 2).val) 4) 1 ∧ Passes rn .h (okey (0x2704 + 16 * (1 : Fin 2).val) 4) 2 ∧
      Passes rn .h (okey (0x2704 + 16 * (1 : Fin 2).val) 4) 3 ∧ Passes rn .h (okey (0x2704 + 16 * (1 : Fin 2).val) 4) 4) ∧
    (1 < (modPort rn 0 (fun x => { x with calState := 1, calCmd := 1, calLeft := 2 })).img.ports[(0 : Fin 2)].calLeft ∧
      rn.img.ports[(0 : Fin 2)].calSum = [] ∧ rn.img.ports[(0 : Fin 2)].calAt ≤ now rn ∧ now rn < rn.img.ports[(0 : Fin 2)].calAt + 40000) := by decide +kernel
theorem wit_SolenoidsComplete : controlLive rn = true ∧ Passes rn .h (okey 0x2838 1) ((0x1FF : Nat) : Int) ∧
    Passes rn .h (okey 0x2838 1) ((0x201 : Nat) : Int) ∧ Passes rn .h (okey 0x2838 1) ((0x380 : Nat) : Int) ∧ Passes rn .h (okey 0x2838 2) ((255 : Nat) : Int) ∧
    (Passes rn .h (okey 0x2838 3) ((3 : Nat) : Int) ∧ ∀ b : Fin 2, (bit 3 b.val && bit 0 b.val) = false) ∧
    (controlLive sb = true ∧ Passes sb .h (okey (0x2810 + (7 : Fin 8).val) 1) ((20000 : Nat) : Int)) ∧
    ((sol7 200000 (fun x => { x with state := 2 })).sols[(7 : Fin 8)].state = 2 ∧ rn.sols[(7 : Fin 8)].reached = none ∧ 200000 - 0 ≤ solCfg rn 7 8 ∧
      solCfg rn 7 7 ≤ 200000 - 0) ∧
    ((sol7 100000000 (fun x => { x with state := 2, reached := some 0 })).sols[(7 : Fin 8)].reached = some 0 ∧ 0 + solCfg rn 7 3 ≤ 100000000) ∧
    ((sol7 100000000 (fun x => { x with state := 2 })).sols[(7 : Fin 8)].peakSt + solCfg rn 7 8 ≤ 100000000 ∧ solCfg rn 7 9 = 0) ∧
    ((({ rn with banks := upd rn.banks 1 (fun b => { b with queue := [(0, 7)] }) } : State).banks[chBank 7].queue.find? (fun q => q.2 = 7)) =
      some (0, 7) ∧ 0 + objN rn (0x2820 + (chBank 7).val) 1 ≤ now (sol7 1000000000 id)) ∧
    (solCfg (setObj rn 0x2807 5 50000) 7 5 ≠ 0 ∧ 0 + solCfg (setObj rn 0x2807 5 50000) 7 5 ≤ now (sol7 50000 id) ∧ 0 + 40000 ≤ now (sol7 50000 id)) ∧
    (sol7 5 (fun x => { x with pulseOff := some 5 })).sols[(7 : Fin 8)].pulseOff = some 5 ∧
    (sol7 5 (fun x => { x with minOff := some 5 })).sols[(7 : Fin 8)].minOff = some 5 ∧
    ((sol7 5 (fun x => { x with state := 5 })).sols[(7 : Fin 8)].state = 5 ∧ (49 : Nat) < 50) ∧ (rn.boost.propSt = none ∧ rn.boost.modelSt = none) ∧
    ((serveBanks (setBoost { atST 2000000 rn with boost := { rn.boost with lowSince := some 0 }, banks := upd rn.banks 1 (fun b =>
        { b with queue := [(0, 7)] }) } 0)).boost.lowSince = some 0 ∧
      (serveBanks (setBoost { atST 2000000 rn with boost := { rn.boost with lowSince := some 0 }, banks := upd rn.banks 1 (fun b =>
        { b with queue := [(0, 7)] }) } 0)).boost.lowRaised = false ∧ 0 + 2000000 ≤ now (atST 2000000 rn)) ∧
    ((sol7 400000 (fun x => { x with state := 3 })).sols[(7 : Fin 8)].winDone = false ∧ rn.sols[(7 : Fin 8)].winSt = none ∧
      bankHs (sol7 400000 (fun x => { x with state := 3 })) (chBank 7) = 1 ∧ (sol7 400000 id).sols[(7 : Fin 8)].holdSt + 400000 ≤ now (sol7 400000 id)) ∧
    ((sol7 200000 (fun x => { x with winSt := some 0, winBad := true })).sols[(7 : Fin 8)].winBad = true ∧ 0 + 200000 ≤ now (sol7 200000 id)) ∧
    ((sol7 0 (fun x => { x with state := 3, cmd := true })).sols[(7 : Fin 8)].cmd = true ∧ inc8 rn.sols[(7 : Fin 8)].ocTrips < 4) ∧
    (sol7 9 (fun x => { x with state := 6, retryAt := some 9 })).sols[(7 : Fin 8)].retryAt = some 9 ∧
    (solState rn 7 = 0 ∧ rn.sols[(7 : Fin 8)].shortGnd = false) ∧ bankHs rn 1 ≠ 0 ∧
    ((sol7 20000 (fun x => { x with state := 3 })).sols[(7 : Fin 8)].state = 3 ∧ now (sol7 20000 id) ≤ 0 + 20000 ∧
      solState (sol7 20000 (fun x => { x with state := 3 })) 6 = 0) := by and_intros <;> decide +kernel
theorem wit_SenseComplete : (controlLive rn = true ∧ rn.se.rotNext ≤ now rn) ∧
    ((0 : Fin 3).val = rn.se.rotations % 3 ∧ rn.se.spare = some 3 ∧ rn.se.roles[(0 : Fin 3)] = some 0 ∧
      (modSlice (seSt 0 (fun e => { e with rotDue := true })) 3 (fun x => { x with state := 2 })).se.slices[(3 : Fin 4)].state = 2 ∧
      (seSt 0 (fun e => { e with rotDue := true })).se.rotDue = true ∧ capRuns rn = false ∧ atBoundary rn (Fin.ofNat 2 0) = true) ∧
    (refOn rn = true ∧ rn.se.slices[(3 : Fin 4)].state = 1 ∧ tdivS (49152 * 32768) (((917504 / 16 : Nat) : Int) - ((131072 / 16 : Nat) : Int)) = 32768 ∧
      8192 - fdiv (((131072 / 16 : Nat) : Int) * 32768) 32768 = 0) ∧
    Passes rn .h (okey 0x2900 6) ((15 : Nat) : Int) ∧ Passes sb .h (okey 0x2900 1) (b2n true) ∧
    ((seSt 400000 (fun e => { e with refSt := some 0, refState := 1 })).se.refSt = some 0 ∧ 0 + 400000 ≤ now (seSt 400000 id)) ∧
    Passes rn .h (okey 0x2900 7) 1 ∧ pinSelected (setObj rn 0x290B 1 1) 3 true = true ∧ objN rn (0x2910 + (1 : Fin 2).val) 1 = 0 ∧
    objN (setObj rn 0x2911 1 1) (0x2910 + (1 : Fin 2).val) 1 = 1 ∧
    ((sq1 7 (fun x => { x with phase := .delay 7 })).se.sqs[(1 : Fin 2)].phase = .delay 7 ∧ rn.se.sqs[(1 : Fin 2)].urgent = none ∧ capWants rn = false) ∧
    ((sq1 100000 (fun x => { x with phase := .active 0, table := leBytes 4 0x00016400 })).se.roles[roleOf 1] = some 1 ∧
      0 + sqAcq (sq1 100000 (fun x => { x with phase := .active 0, table := leBytes 4 0x00016400 })).se.sqs[(1 : Fin 2)] + 40 ≤ 100000 ∧
      (sq1 0 (fun x => { x with phase := .active 0 })).se.sqs[(1 : Fin 2)].stopAt = false ∧
      (0 : Nat) < bits (sqNow (sq1 0 (fun x => { x with phase := .active 0, table := leBytes 4 0x00016400 })).se.sqs[(1 : Fin 2)]) 23 16) ∧
    (up7.se.sqs[(0 : Fin 2)].urgent = none ∧ capRuns up7 = false ∧ capTakes up7 = false ∧ atBoundary up7 0 = true ∧ (sqSlice up7 0).isSome = true ∧
      refOn up7 = true ∧ up7.se.urgs[(7 : Fin 8)].pend = some 0 ∧ (urgPending up7 0).filter
        (fun u => match up7.se.urgs[u].pend with | some t => decide (t + 2 ≤ now up7) | none => false) = 7 :: []) ∧
    (Passes rn .h (okey 0x2940 4) 1 ∧ Passes rn .h (okey 0x2940 4) 2) ∧
    ((seSt 2 (fun e => { e with capState := 1, capTrig := some 0 })).se.capTrig = some 0 ∧ 0 + 2 ≤ now (seSt 2 id) ∧ sysCapture rn = false ∧
      atBoundary rn 0 = true ∧ atBoundary rn 1 = true ∧ rn.se.sqs[(0 : Fin 2)].urgent = none ∧ 3 ≤ seHealthy rn ∧
      (sqSlice rn 0).isSome = true ∧ (sqSlice rn 1).isSome = true) ∧
    (seSt 40 (fun e => { e with capState := 2, capN := 1 })).se.capN ≤ capTaken (seSt 40 (fun e => { e with capState := 2, capN := 1 })) ∧
    (filtPace (setObj rn 0x292F 4 500) 15 ≠ 0 ∧ (modFilt rn 15 (fun x => { x with latest := some res0, fresh := true })).se.filts[(15 : Fin 16)].paceAt ≤ now rn) ∧
    (dictLive rn = true ∧ judgeRead (touch rn .h) .h (okey 0x2930 2) = 0 ∧ Passes rn .h (okey 0x2930 11) 1) ∧
    (objN (setObj rn 0x2930 6 1) 0x2930 6 = 1 ∧ (seSt 0 (fun e => { e with queue := [7] })).se.queue = [7] ∧
      (dmaWord (setObj (setObj (seSt 0 (fun e => { e with queue := [7] })) 0x2930 6 1) 0x2930 8 16)).isSome = true) := by and_intros <;> decide +kernel
theorem wit_DictionaryComplete :
    (judgeWrite (touch rn .h) .h (okey 0x2B00 1) [0] = 0 ∧ plainKey (okey 0x2B00 1) ∧ tieWinner (touch rn .h) .h (okey 0x2B00 1) = none ∧
      clsOf (okey 0x2B00 1) = .staged ∧ dictLive rn = true ∧ rn.ctl.epoch = none) ∧
    (Passes rn .h (okey 0x2001 1) 1 ∧ Passes rn .h (okey 0x2001 1) 2 ∧ Passes rn .h (okey 0x2001 1) 3) ∧
    (controlLive (epochSt (okey 0x2B00 1) 0) = true ∧ (epochKeys (epochSt (okey 0x2B00 1) 0) (maskPaths 2)).find? (fun k =>
      !crossOk (epochSt (okey 0x2B00 1) 0) ((activeView (epochSt (okey 0x2B00 1) 0)).over
        (epochVals (epochSt (okey 0x2B00 1) 0) (maskPaths 2) (epochKeys (epochSt (okey 0x2B00 1) 0) (maskPaths 2)))
        (epochDoms (epochSt (okey 0x2B00 1) 0) (maskPaths 2) (epochKeys (epochSt (okey 0x2B00 1) 0) (maskPaths 2)))) k) = none) ∧
    (Passes rn .h (okey 0x2002 1) ((23 : Nat) : Int) ∧ tickWrites (touch rn .h) = [] ∧ Passes rn .h (okey 0x2002 2) ((255 : Nat) : Int)) ∧
    (leaseOver (setClaim (atST 2000000000 (setObj rn 0x2002 3 10000)) 23 ⟨some .h, 0⟩) (23 : Fin 24).val = true ∧
      holder (setClaim (atST 2000000000 (setObj rn 0x2002 3 10000)) 23 ⟨some .h, 0⟩) (23 : Fin 24).val = some .h) ∧
    (Passes sb .h (okey 0x1010 1) 0x65766173 ∧ sb.ctl.storeState ≠ 1 ∧ controlLive sb = true ∧
      ({ sb with ctl := { sb.ctl with storeState := 1, storeBy := some .h } } : State).ctl.storeBy = some .h ∧ Passes sb .h (okey 0x1011 1) 0x64616F6C) ∧
    (jobSel (jobSt 0) .h = 0 ∧ Passes (jobSt 0) .h (okey 0x2020 10) 1 ∧ submitOk (jobSt 0) 0 (jobUnitLane (jobSt 0) (jobSt 0).ledger.jobs[(0 : Fin 64)]) = true ∧
      Passes (jobSt 3) .h (okey 0x2020 10) 2 ∧ Passes (jobSt 3) .h (okey 0x2020 10) 3 ∧ (jobSt 3).ledger.jobs[(0 : Fin 64)].state = 3 ∧
      Passes (jobSt 4) .h (okey 0x2020 10) 4 ∧ Passes rn .h (okey 0x2021 5) 1 ∧ controlLive rn = true ∧ runOpen rn = true) ∧
    (pdoLive (pdoSt 255) = true ∧ rpdoValid (pdoSt 255) 0 = true ∧ sumN ((rpdoEntries (pdoSt 255) 0).map entryBytes) ≤ ([1] : List Byte).length ∧
      240 < objN (pdoSt 255) (0x1400 + (0 : Fin 4).val) 2) ∧
    (Passes sb .h (okey 0x1400 1) ((0x80000201 : Nat) : Int) ∧ Passes sb .h (okey 0x1A03 1) ((0x10010008 : Nat) : Int)) := by and_intros <;> decide +kernel
theorem wit_UsbComplete : (sb.pw.on = true ∧ sb.usb.vbus = false ∧ pullupMode sb = true ∧ sb.usb.state = 0 ∧ objN sb 0x2D08 2 = 0) ∧
    ((uc id).usb.state = 4 ∧ (uc id).md.mode ≠ .recovery ∧ (uc (fun u => { u with state := 2 })).usb.state = 2) ∧
    (usbLive (uc id) = true ∧ judgeRead (uc id) .h (okey 0x2B00 1) = 0 ∧ (readData (uc id) .h (okey 0x2B00 1)).length ≤ 64) ∧
    ([1] : List Byte).length ≤ inSpace (uc id) ∧
    (usbLive (carSt [car]) = true ∧ bulkRecs (carSt [car]) = [car] ∧ bulkPacket (carSt [car]) ≠ [] ∧
      car.bytes.length ≤ (carSt [car]).usb.inOff + (bulkPacket (carSt [car])).length) ∧
    acceptable (uc (fun u => { u with inp := { u.inp with waits := [rw0] } }))
      (uc (fun u => { u with inp := { u.inp with waits := [rw0] } })).usb.inp.waits [] = some rw0 ∧
    ((atST 200000000 (xf rdX)).ctl.xfers[Path.h.idx] = some rdX ∧ rdX.lastSt + 200000000 ≤ now (atST 200000000 (xf rdX))) ∧
    (remoteWakeDue (su 1000000 id) = true ∧ (su 1000000 id).usb.rw = .idle ∧ (su 1000000 id).usb.hostK = false ∧
      (su 1000000 id).usb.idleSt + 1000000 ≤ now (su 1000000 id) ∧ (su 1000000 id).usb.state = 5) ∧
    ((su 380000 (fun u => { u with rw := .driving 0 })).usb.rw = .driving 0 ∧ 0 + 380000 ≤ now (su 380000 id)) ∧
    ((su 1800 (fun u => { u with rw := .released 0 })).usb.rw = .released 0 ∧ 0 + 1800 ≤ now (su 1800 id)) ∧
    ((su 2000000 (fun u => { u with rw := .awaitK 0, attempts := 0 })).usb.rw = .awaitK 0 ∧
      (su 2000000 (fun u => { u with rw := .awaitK 0, attempts := 0 })).usb.attempts ≤ objN (su 0 id) 0x2A00 3) ∧
    (su 0 (fun u => { u with hostK := true })).usb.hostK = true := by decide +kernel
theorem wit_CompanionComplete : (cbPowered rn = true ∧ dictLive rn = true ∧ controlLive rn = true ∧
      mirrorFresh (cc 1 (fun c => { c with mirror := ⟨some 4, 0, [1, 2], some [3, 4]⟩ })) 6 = false) ∧
    (cc 0 (fun c => { c with fifo := [(okey 0x2B00 1, [0])] })).cb.fifo = (okey 0x2B00 1, [0]) :: [] ∧
    (objN (setObj rn 0x2A10 7 0x2B000100) 0x2A10 (4 + (3 : Fin 16).val) ≠ 0 ∧
      (objRow (objN (setObj rn 0x2A10 7 0x2B000100) 0x2A10 (4 + (3 : Fin 16).val) / 256)).isSome = true ∧ rn.cb.fifo.length < 32) ∧
    (rn.cb.inp.halted = false ∧ inSpace rn ≠ 0) ∧
    nextRec { rn with img := { rn.img with recs := [⟨0, [1, 2, 3, 4], false, false, some .c⟩] } } .c = some ⟨0, [1, 2, 3, 4], false, false, some .c⟩ ∧
    (cc 0 (fun c => { c with q := { c.q with recs := [⟨1, 3, false, 0, 0, 0, 0⟩] } })).cb.q.recs = ⟨1, 3, false, 0, 0, 0, 0⟩ :: [] ∧
    (rn.cb.mb.busy = false ∧ judgeRead (touch rn .c) .c (okey 0x2B00 1) = 0 ∧ okey 0x2B00 1 ≠ okey 0x2930 2) ∧
    ((setXfer rn .c (some wrX)).ctl.xfers[Path.c.idx] = some wrX ∧ now rn < wrX.lastSt + 200000000 ∧ wrX.wr = true) ∧
    ((mb (fun m => { m with busy := true, late := some 0 })).cb.mb.late = some 0 ∧ (mb (fun m => { m with busy := true, late := some 0 })).cb.mb.busy = true) := by decide +kernel
theorem wit_NetworkComplete : (nmtMine (nn 0 5 id) 0 = true ∧ (nn 0 5 id).net.nmt ≠ 0) ∧ (canLive rn = true ∧ rn.net.nmt = 0) ∧
    (canLive (setObj (nn 200000 5 id) 0x1017 0 1) = true ∧ objN (setObj (nn 200000 5 id) 0x1017 0 1) 0x1017 0 ≠ 0 ∧
      (nn 200000 5 id).net.hbSt + objN (setObj (nn 200000 5 id) 0x1017 0 1) 0x1017 0 * 200000 ≤ now (setObj (nn 200000 5 id) 0x1017 0 1)) ∧
    ((setObj (nn 200000 5 (fun n => { n with hb := upd n.hb 0 (fun _ => some 0) })) 0x1016 1 0x90001).net.hb[(0 : Fin 4)] = some 0 ∧
      hbTime (setObj (nn 200000 5 id) 0x1016 1 0x90001) 0 ≠ 0 ∧ 0 + hbTime (setObj (nn 200000 5 id) 0x1016 1 0x90001) 0 ≤ 200000) ∧
    (nn 0 5 (fun n => { n with busState := 2 })).net.busState = 2 ∧
    ((nn 0 5 (fun n => { n with emcyQ := [[0]] })).net.emcyQ = [0] :: [] ∧ usdoLive (nn 0 5 (fun n => { n with emcyQ := [[0]] })) = true ∧
      emcyFree (nn 0 5 (fun n => { n with emcyQ := [[0]] })) = true) ∧
    (usdoLive (nn 0 5 id) = true ∧ usdoExpire (nn 0 5 id) = nn 0 5 id ∧ usdoRoom (nn 0 5 id) 9 = true ∧ usdoFind (nn 0 5 id) 9 = none ∧
      keyIsDom (okey 0x2B00 1) = false ∧ judgeRead (touch (nn 0 5 id) .n) .n (okey 0x2B00 1) = 0 ∧ (readTx (nn 0 5 id) .n (okey 0x2B00 1)).2.2.length ≤ 64) ∧
    (usdoExpire (nn 0 5 (fun n => { n with usdo := [se9 true] })) = nn 0 5 (fun n => { n with usdo := [se9 true] }) ∧
      usdoFind (nn 0 5 (fun n => { n with usdo := [se9 true] })) 9 = some (se9 true) ∧ (se9 true).total ≤ ((se9 true).data ++ [3, 4]).length) ∧
    (usdoExpire (nn 0 5 (fun n => { n with usdo := [se9 false] })) = nn 0 5 (fun n => { n with usdo := [se9 false] }) ∧
      usdoFind (nn 0 5 (fun n => { n with usdo := [se9 false] })) 9 = some (se9 false) ∧ (se9 false).lastSt + 200000000 ≤ now (nn 200000000 5 id)) ∧
    (Passes (lr 0 2 id) .h (okey 0x2A48 8) 1 ∧ objN (lr 0 2 id) 0x2A48 1 = 2 ∧ lrLive (lr 0 2 id) = true ∧ (lr 0 2 id).net.lr.state = 0 ∧
      lrBusy (modLr (touch (lr 0 2 id) .h) (fun l => { l with evSince := false, localWake := false })) = 0) ∧
    (lrPart (lr 0 1 id) = true ∧ objN (lr 0 1 id) 0x2A48 1 = 1 ∧ (lr 0 1 id).net.lr.state = 0 ∧ lrBusy (lrBegin (lr 0 1 id) (wrap 8 7) 1 false) = 0) ∧
    (lrPart (ms 0 id) = true ∧ (ms 0 id).net.lr.state = 2 ∧ (ms 0 id).net.lr.master = true ∧ 3 ∈ lrMembers (ms 0 id) ∧
      (ms 0 id).net.lr.answers.lookup 3 = none) ∧
    ((ms 10000000 id).net.lr.commitSent = false ∧ (ms 10000000 id).net.lr.startSt + 10000000 ≤ now (ms 10000000 id) ∧ (ms 10000000 id).net.lr.veto = none ∧
      lrFailing (ms 10000000 (fun l => { l with answers := [(3, 0)] })) = none ∧ lrBusy (ms 10000000 (fun l => { l with answers := [(3, 0)] })) = 0) ∧
    (lrPart (lr 3980000 1 (fun l => { l with state := 3 })) = true ∧ (lr 3980000 1 (fun l => { l with state := 3 })).net.lr.state = 3 ∧
      (lr 3980000 1 id).net.lr.startSt + 3980000 ≤ now (lr 3980000 1 id) ∧ objN (setObj (lr 3980000 1 id) 0x2A48 2 0) 0x2A48 2 ≠ 1) ∧
    ((lr 20000000 1 (fun l => { l with state := 1, ready := true })).net.lr.state = 1 ∧ (lr 20000000 1 id).net.lr.master = false ∧
      (lr 20000000 1 (fun l => { l with state := 1, ready := true })).net.lr.ready = true ∧
      (lr 20000000 1 id).net.lr.startSt + 20000000 ≤ now (lr 20000000 1 id)) ∧
    ((modNet sb (fun n => { n with busState := 3 })).net.busState = 3 ∧ wakeCauseOf sb .errors = some 3 ∧ sb.md.mode ≠ .doze) ∧
    (dictLive (ua id) = true ∧ (ua id).uarts[(0 : Fin 2)].breakWait = false ∧ uartCfg (ua id) 0 7 ≠ 1 ∧ uartActive (ua id) 0 = true ∧
      sampleHigh (([0, 3] : List Nat).headD 3) = false) ∧
    ((ua (fun u => { u with txHold := some 65 })).uarts[(0 : Fin 2)].txHold = some 65 ∧ (ua id).uarts[(0 : Fin 2)].txShift = none ∧
      uartCfg (ua id) 0 6 = 0 ∧ (ua (fun u => { u with txShift := some 65 })).uarts[(0 : Fin 2)].txShift = some 65) ∧
    (uartCfg (setObj (inMode .doze) 0x2A60 7 1) 0 7 = 1 ∧ (inMode .doze).md.mode = .doze) := by and_intros <;> decide +kernel
theorem wit_SafetyComplete : (Passes sb .h (okey 0x2B01 4) 1 ∧ Passes sb .h (okey 0x2B01 9) 1) ∧
    (sb.pw.on = true ∧ (sn 0 (fun n => { n with coverLow := false })).sn.coverLow = false ∧ (sn 0 (fun n => { n with coverLow := true })).sn.coverLow = true ∧
      sb.sn.haltLow = false ∧ sb.sn.ot[(1 : Fin 2)] = false ∧ sb.sn.ov[(0 : Fin 2)] = false) ∧
    ((sn 9 (fun n => { n with coverDue := some 9 })).sn.coverDue = some 9 ∧ 9 ≤ now (sn 9 id)) ∧
    (Passes (sn 0 (fun n => { n with haltLatch := true })) .h (okey 0x2C11 1) 1 ∧ latchHeld (sn 0 (fun n => { n with haltLatch := true })) = false) ∧
    Passes sb .h (okey 0x2C00 1) 1 ∧ (sb.pw.pf = none ∧ 0 < railUv sb 9) ∧ 11 * railSet sb 3 < 10 * 600000 ∧
    (controlLive sb = true ∧ sb.pw.avsSt = none ∧ objN (avs 0) 0x2D01 6 * 15 / 16 ≤ [65535].foldl min 65535 ∧ objN (avs 0) 0x2D01 1 ≠ 1) ∧
    (dozeOff sb = false ∧ 5000 ≤ 5999 ∧ (5999 : Nat) < 6000) := by decide +kernel
theorem wit_ApplicationComplete : (dictLive svc = true ∧ svc.ctl.epoch = none ∧
      judgeOpen (touch svc .h) .h 0x5E00 0 true (List.replicate 64 (0 : Byte)).length = 0 ∧
      judgeOpen (touch svc .h) .h 0x5E01 0 true (List.replicate 64 (0 : Byte)).length = 0) ∧ Passes svc .h (okey 0x2E00 5) 1 ∧
    (Passes (bt (fun b => { b with slots := updN b.slots b.running.val (fun x => { x with rollback := 5 }) })) .h (okey 0x2E02 11) 1 ∧
      svc.boot.rollback < (bt (fun b => { b with slots := updN b.slots b.running.val (fun x => { x with rollback := 5 }) })).boot.slots[svc.boot.running].rollback) ∧
    (Passes (newKey svc) .h (okey 0x2E02 9) 1 ∧ (allFin 4).find? (fun k => (newKey svc).boot.keys[k].state == 0) = some 0 ∧
      (∀ j : Fin 4, (newKey svc).boot.keys[j].state ≠ 1) ∧ onCurve (quad (newKey svc) 0x2E02 1) (quad (newKey svc) 0x2E02 5) = true) ∧
    Passes svc .h (okey 0x2E02 9) ((2 + (3 : Fin 4).val : Nat) : Int) ∧ Passes svc .h (okey 0x2E01 2) 2 ∧ Passes svc .h (okey 0x2E01 2) 1 ∧
    Passes svc .h (okey 0x2E01 1) ((1 : Nat) : Int) ∧
    ((ap 20000000).app.state = 2 ∧ objN (ap 20000000) 0x2E01 3 = 100 ∧ (ap 20000000).tu.halted = false ∧
      (ap 20000000).app.kickSt + (ap 20000000).app.haltTicks + 100 * 200000 ≤ now (ap 20000000) ∧ appRegion 0x7FFFFFFF = false) ∧
    (apiLive (al 0) = true ∧ judgeRead (al 0) .a (okey 0x2B00 1) = 0 ∧ (readData (al 0) .a (okey 0x2B00 1)).length ≤ 8 ∧
      inMailbox mbx (readData (al 0) .a (okey 0x2B00 1)).length = true ∧ (readTx (al 0) .a (okey 0x2B00 1)).2.1 = 0 ∧
      inMailbox mbx 1 = true ∧ (writeTx (al 0) .a (okey 0x2B00 1) (bufBytes (al 0) mbx 1) []).2 ≠ vLate ∧
      (domOpen (al 0) .a 0x5400 0 (0 == 1) 0).2 ≠ vLate ∧ (domAbort (al 0) .a).2 ≠ vLate) ∧
    ((setXfer (al 0) .a (some ⟨0x5900, true, 4, [1], 1, 0⟩)).ctl.xfers[Path.a.idx] = some ⟨0x5900, true, 4, [1], 1, 0⟩ ∧ now (al 0) < 0 + 200000000 ∧
      vRefused (domPut (setXfer (al 0) .a (some ⟨0x5900, true, 4, [1], 1, 0⟩)) .a
        (bufBytes (setXfer (al 0) .a (some ⟨0x5900, true, 4, [1], 1, 0⟩)) mbx 1)).2 = false ∧
      (domPut (setXfer (al 0) .a (some ⟨0x5900, true, 4, [1], 1, 0⟩)) .a
        (bufBytes (setXfer (al 0) .a (some ⟨0x5900, true, 4, [1], 1, 0⟩)) mbx 1)).2 ≠ vLate) ∧
    ((al 0).rm.app.recs.take 1 = [] ∧ inMailbox mbx (16 * 0) = true) ∧ objN (setObj (al 0) 0x2E01 3 0) 0x2E01 3 = 0 ∧
    (al 0).uarts[(1 : Fin 2)].txHold = none ∧ 99 ∉ apiCodes ∧
    ((wt 0 [⟨1, 3, false, 0, 0, 0, 0⟩]).app.waiting = some 9 ∧ (wt 0 []).tu.halted = false ∧ (wt 0 [⟨1, 3, false, 0, 0, 0, 0⟩]).rm.app.recs ≠ []) ∧
    (Passes svc .h (okey 0x2E03 13) 1 ∧ Passes svc .h (okey 0x2E03 13) 2 ∧ (bt (fun b => { b with debugOn := true })).boot.debugOn = true) := by and_intros <;> decide +kernel

/-! The spec's worked cases, and the published values of SHA-256 and of P-256 that R483 and R501 name. -/

/-- FIPS 180-4: the digest of "abc". -/
theorem test_sha256_abc : sha256 [0x61, 0x62, 0x63] = 0xBA7816BF8F01CFEA414140DE5DAE2223B00361A396177A9CB410FF61F20015AD := by decide +kernel
/-- SEC 2 / FIPS 186-4: the abscissa of twice the generator of P-256. -/
theorem test_p256_double : (ptMul 256 2 (some (p256Gx, p256Gy))).map (fun q => q.1) =
    some 0x7CF27B188D034F7E8A52380304B51AC3C08969E277F21B35A60B48FC47669978 := by decide +kernel

/-- spec/00, case 1: −7 680 000 pu as INTEGER48. -/
theorem test_integer48 : toBits 48 (-7680000) = 0xFFFFFF8AD000 := by decide +kernel

/-- Lane 1 on ENC1 alone, with the three edges of spec/02, case 1, at a cycle. -/
abbrev interp (t : Nat) : State :=
  modEnc (setObj (atST t sb) 0x2101 1 1) 1 (fun e => { e with n := 3, k := 400000, c := 400000, d := 1, te0 := 1001667, te1 := 1000833, te2 := 1000000 })
/-- spec/02, case 1: the position 400 ticks after the edge, about the crossing of 256 000 500, and at the clamp. -/
theorem test_interpolation : encTerm (interp 1002067) 1 = 256000307 ∧ encTerm (interp 1002318) 1 = 256000499 ∧
    encTerm (interp 1002319) 1 = 256000500 ∧ encTerm (interp 1002567) 1 = 256000639 := by decide +kernel

/-- The grid of spec/02, case 2. -/
abbrev grid : State := setObj (setObj (setObj (setObj sb 0x2114 2 32512) 0x2114 3 3) 0x2114 4 5120000) 0x2114 5 (-384)
/-- spec/02, case 2: a 600 dpi grid does not drift. -/
theorem test_line_positions : linePos grid 4 1 = 5130837 ∧ linePos grid 4 2 = 5141674 ∧ linePos grid 4 3 = 5152512 ∧ dueFwd grid 4 3 = 5152128 := by decide +kernel

/-- spec/07, case 1: the profile of AX0 in Q32. -/
theorem test_profile_q32 : vToQ sb 0 20000 = 4398046511 ∧ vToQ sb 0 100000 = 21990232555 ∧ vToQ sb 0 400000 = 87960930222 ∧
    aToQ sb 0 8000000 = 43980465 ∧ aToQ sb 0 4000000 = 21990232 := by decide +kernel

/-- IMG0 with the three slots of spec/08, case 1. -/
abbrev img3 : State :=
  let s := setObj (setObj sb 0x2700 6 1) 0x2700 15 3
  let s := setObj (setObj (setObj s 0x2708 2 0) 0x2708 3 3000) 0x2708 4 7
  let s := setObj (setObj (setObj (setObj s 0x2709 1 2) 0x2709 2 3000) 0x2709 3 2000) 0x2709 4 8
  setObj (setObj (setObj (setObj s 0x270A 1 3) 0x270A 2 5000) 0x270A 3 8000) 0x270A 4 7
/-- spec/08, case 1: TRAIN of three slots, and the byte of the pixel that reads 36 000. -/
theorem test_image_train : trainTicks img3 0 = 25600 ∧ pixelBytes 0 36000 = [141] := by decide +kernel

/-- spec/09, case 2: R_MEAS 13 920 mΩ at T_WIND 960 moves R_LEARN to 12 001. -/
theorem test_resistance_tracking :
    (resTrack (modSol sb 5 (fun x => { x with tw := 960 * 4096, rLearn := 12000 })) 5 13920).sols[5].rLearn = 12001 := by decide +kernel

/-- spec/10, case 3: the calibration of SL3. -/
theorem test_slice_calibration : (calDone rn 3 131584 915456).se.slices[3].gain = 32875 ∧ (calDone rn 3 131584 915456).se.slices[3].offset = -58 := by decide +kernel
/-- spec/10, case 2: the notch of FL3. -/
theorem test_filter_notch : filtPace (setObj (setObj (setObj sb 0x2923 2 3) 0x2923 3 64) 0x2923 4 5000) 3 = 62500 ∧
    notchAct (setObj (setObj (setObj sb 0x2923 2 3) 0x2923 3 64) 0x2923 4 5000) 3 = 5000 := by decide +kernel

/-- The step takes the front command (the reset state's queue is empty, so the block ticks). -/
theorem test_step_front : (match step { State.reset with pending := [.keeperTick] } with | .next t => t.pending.length | _ => 9) = 0 := by decide +kernel

/-! Every check of WellFormed.lean refuses a command that breaks it and nothing else. -/

theorem test_wellFormed_refuses_1 : ([
    .powerOn 4 0 0 false false, .powerOn 0 0x10000 0 false false, .powerOn 0 0 0x10000 false false,
    .bootComplete (some 16) 0, .runReached 0 0 0 0 0 false (some 16), .runReached 0x100000000 0 0 0 0 false none,
    .runReached 0 0x100000000 0 0 0 false none, .runReached 0 0 0x10000 0 0 false none, .runReached 0 0 0 0x10000 0 false none,
    .runReached 0 0 0 0 0x10000 false none, .runEntryTimeout 0x100000000 0 0 0 0, .runEntryTimeout 0 0x100000000 0 0 0,
    .runEntryTimeout 0 0 0x10000 0 0, .runEntryTimeout 0 0 0 0x10000 0, .runEntryTimeout 0 0 0 0 0x10000,
    .standbyReached 0x10000 0 0, .standbyReached 0 0x10000 0, .standbyReached 0 0 0x10000,
    .servoBoundary [] 0 0, .servoBoundary (List.replicate 10 0) 0x10000 0, .servoBoundary (List.replicate 10 0) 0 0x100000000,
    .lineEvent 0 0x10000 0 0 0, .lineEvent 0 0 0x10000 0 0, .lineEvent 0 0 0 4096 0] : List Instr).all (fun i => !i.wellFormed) = true := by decide +kernel
theorem test_wellFormed_refuses_2 : ([
    .lineEvent 0 0 0 0 4096, .waymarkWrite .h .target 0x10000000000000000, .waymarkEnable .h 0x100000000,
    .flagsW1cWrite .h (.tc 0) 256, .headIdCheck 0 0x100000000, .rasterFlush .h 0,
    .rasterFlush .h 4, .thermRead 0 4096, .measStart .h 0 [0x10000],
    .measDone 0 [0x10000], .mediaSample [4096], .supplySample [4096],
    .axShort 0 2 0, .axShort 0 0 256, .axOpenLoad 0 2,
    .sysTempRead [0x10000], .solOn .h 0, .solOn .h 256,
    .solOff .h 0, .solOff .h 256, .solPulse .h 0,
    .solPulse .h 256, .peakStart 0 0x10000, .ttpMaxExpire 0 0x10000] : List Instr).all (fun i => !i.wellFormed) = true := by decide +kernel
theorem test_wellFormed_refuses_3 : ([
    .decayEnd 0 0x10000 0 0, .decayEnd 0 0 0x10000 0, .decayEnd 0 0 0 0x10000,
    .propUpdate [], .boostClamp 0x20000, .boostLow 0x20000,
    .solModelUpdate [], .resWindowEnd 0 0x20000 0, .resWindowEnd 0 0 0x10000,
    .solClear .h 256, .bankClear .h 4 0, .bankClear .h 0 4,
    .rColdNomWrite .h 0 0x100000000, .sliceClear .h 16, .conversionDone (.seq 0 65536),
    .conversionDone (.urgent 0 65536), .capAbort .h [0x10000],
    .captureDone [0x10000], .objectWrite .h 0x10000 0 [], .objectWrite .h 0 256 [],
    .claim .h 24, .claimRelease .h 24, .rpdoReceive 0 (List.replicate 65 0)] : List Instr).all (fun i => !i.wellFormed) = true := by decide +kernel
theorem test_wellFormed_refuses_4 : ([
    .pdoCobIdWrite .h false 0 0x100000000, .pdoMapWrite .h false 0 65 0, .pdoMapWrite .h false 0 0 0x100000000,
    .usbSetConfiguration 256, .usbReadObject 0x10000 0 0, .usbReadObject 0 256 0,
    .usbReadObject 0 0 0x10000, .usbWriteObject 0x10000 0 [], .usbWriteObject 0 256 [],
    .usbDomainOpen 0x10000 0 false 0, .usbDomainOpen 0 256 false 0, .usbDomainOpen 0 0 false 0x100000000,
    .usbDomainPut (List.replicate 4097 0), .usbDomainPut [], .usbDomainGet 4097,
    .bulkOutPacket (List.replicate 513 0), .dfuDnload (List.replicate 4097 0), .mirrorRead 0x800,
    .mirrorRead 3, .doorbellWrite 0 0x10000, .pwGo 0 0 0 0,
    .pwGo 0x10000 0 1 0, .pwGo 0 256 1 0, .pwGo 0 0 9 0] : List Instr).all (fun i => !i.wellFormed) = true := by decide +kernel
theorem test_wellFormed_refuses_5 : ([
    .pwGo 0 0 1 0x10000000000000000, .mbRead 0x10000 0, .mbRead 0 256,
    .mbWrite 0 0 (List.replicate 2033 0), .mbWrite 0x10000 0 [], .mbWrite 0 256 [],
    .mbOpenRead 0x10000 0, .mbOpenRead 0 256, .mbOpenWrite 0x10000 0 0,
    .mbOpenWrite 0 256 0, .mbOpenWrite 0 0 0x100000000, .mbSegment 0 0 (List.replicate 2033 0),
    .mbSegment 0x100000000 0 [], .mbSegment 0 2033 [], .cbInWrite 0x10000,
    .nmtStart 128, .nmtStop 128, .nmtEnterPreop 128,
    .nmtResetNode 128, .nmtResetComm 128, .usdoDownloadInit 128 0 0 0 [],
    .usdoDownloadInit 0 0x10000 0 0 [], .usdoDownloadInit 0 0 256 0 [], .usdoDownloadInit 0 0 0 0x100000000 []] : List Instr).all (fun i => !i.wellFormed) = true := by decide +kernel
theorem test_wellFormed_refuses_6 : ([
    .usdoDownloadSegment 0 (List.replicate 65 0), .usdoDownloadSegment 128 [], .usdoUploadInit 128 0 0 0,
    .usdoUploadInit 0 0x10000 0 0, .usdoUploadInit 0 0 256 0, .usdoUploadSegment 128 0,
    .usdoClientAbort 128, .usdoTimeout 128, .canBusOff 0x10000 0,
    .canBusOff 0 0x10000, .heartbeatReceive 128, .lrCall .h 256,
    .lrCallReceive 128 0, .lrCallReceive 0 256, .lrAnswerReceive 128 0 0,
    .lrAnswerReceive 0 256 0, .lrAnswerReceive 0 0 10, .lrVetoReceive 128 0,
    .lrVetoReceive 0 256, .lrCommitReceive 128 0, .lrCommitReceive 0 256,
    .lrAbortReceive 128 0 0, .lrAbortReceive 0 256 0, .lrAbortReceive 0 0 10] : List Instr).all (fun i => !i.wellFormed) = true := by decide +kernel
theorem test_wellFormed_refuses_7 : ([
    .lrWakeReceive 128, .canWake (.frame 2048 0 []), .canWake (.frame 0 9 []),
    .canWake (.frame 0 0 (List.replicate 9 0)), .uartRxChar 0 [4], .vhOvAssert 0 0x10000,
    .railUv 10 0, .railUv 0 0x10000, .railOv 10 0,
    .railOv 0 0x10000, .avsUpdate [], .powerFail 0 false,
    .powerFail 5 false, .appEnableWrite .h 256, .appTrap 0x100000000 0,
    .appTrap 0 0x100000000, .appAccessFault 0x100000000, .apiDictRead 0x10000 0 0 0,
    .apiDictRead 0 256 0 0, .apiDictRead 0 0 0x100000000 0, .apiDictRead 0 0 0 0x100000000,
    .apiDictWrite 0x10000 0 0 0, .apiDictWrite 0 256 0 0, .apiDictWrite 0 0 0x100000000 0] : List Instr).all (fun i => !i.wellFormed) = true := by decide +kernel
theorem test_wellFormed_refuses_8 : ([
    .apiDictWrite 0 0 0 0x100000000, .apiDomainOpen 0x10000 0 0, .apiDomainOpen 0 0x100000000 0,
    .apiDomainOpen 0 0 0x100000000, .apiDomainSegment 0x100000000 0 0, .apiDomainSegment 0 0x100000000 0,
    .apiDomainSegment 0 0 0x100000000, .apiEventGet 0x100000000 0, .apiEventGet 0 0x100000000,
    .apiWait 0x100000000 0, .apiWait 0 0x100000000, .apiUartPut 0x100000000 0,
    .apiUartPut 0 0x100000000, .apiUartGet 0x100000000, .apiUnknown 0x08,
    .lockoutFloorsReached 0x10000 0 0, .lockoutFloorsReached 0 0x10000 0, .lockoutFloorsReached 0 0 0x10000,
    .errorPassive 0x10000 0, .errorPassive 0 0x10000] : List Instr).all (fun i => !i.wellFormed) = true := by decide +kernel
theorem test_wellFormed_accepts : ([
    .powerOn 3 0xFFFF 0xFFFF false false, .mirrorRead 0x7FE, .claimRelease .h 255, .usbDomainPut [0], .pwGo 0 0 8 0, .canWake .errors,
    .apiUnknown 0x0B, .rpdoReceive 0 (List.replicate 64 0), .powerFail 4 true, .avsUpdate (List.replicate 8 0)] : List Instr).all
    Instr.wellFormed = true := by decide +kernel

end Sys2Proof.Tests
end

section
/-!
PROOF. The timer's deliveries, its captures and the debugger's halt: the laws of the commands TRIG_DELIVER, GIO_CONTENTION,
FLAGS_W1C_WRITE, CAPTURE_ACCEPT, DEBUG_HALT and DEBUG_RESUME, and of a frozen channel's tick (R10, R97, R98, R102, R104, R105).
-/

namespace Sys2Proof

/-- Two changes of one element are one change. -/
theorem upd_upd {α : Type} {n : Nat} (v : Vector α n) (i : Fin n) (f g : α → α) :
    upd (upd v i f) i g = upd v i (fun x => g (f x)) := by
  simp [upd]

end Sys2Proof

namespace Sys2Proof.Machine

open Sys2Proof

/-! One channel changed twice, and what it reads after a change. -/

theorem modCap_modCap (s : State) (m : Fin 8) (f g : Cap → Cap) :
    modCap (modCap s m f) m g = modCap s m (fun x => g (f x)) := by
  simp only [modCap, upd_upd]

theorem modCap_same (s : State) (m : Fin 8) (f : Cap → Cap) : (modCap s m f).tu.caps[m] = f s.tu.caps[m] :=
  upd_same _ m f

theorem modTc_same (s : State) (c : Fin 32) (f : Tc → Tc) : (modTc s c f).tu.tcs[c] = f s.tu.tcs[c] :=
  upd_same _ c f

/-! The meaning of each command. -/

theorem exec_trigDeliver (c : Fin 32) (s : State) : exec (.trigDeliver c) s = execTrigDeliver c s := rfl

theorem exec_gioContention (pin : Fin 16) (s : State) : exec (.gioContention pin) s = execGioContention pin s := rfl

theorem exec_flagsW1cWrite (p : Path) (u : FlagUnit) (v : Nat) (s : State) :
    exec (.flagsW1cWrite p u v) s = execFlagsW1cWrite p u v s := rfl

theorem exec_captureAccept (m : Fin 8) (lvl : Bool) (s : State) :
    exec (.captureAccept m lvl) s = execCaptureAccept m lvl s := rfl

theorem exec_debugHalt (s : State) : exec .debugHalt s = execDebugHalt s := rfl

theorem exec_debugResume (s : State) : exec .debugResume s = execDebugResume s := rfl

/-- Whether the plane is live or not, a command whose condition does not hold has no effect. -/
theorem doLive_notDue {s : State} {f : State → State} {c : Bool} (hc : c = false) : doLive c f s = .next (finish s s) :=
  doWhen_idle (by rw [hc, Bool.and_false])

/-! TRIG_DELIVER (R98). -/

theorem trigDue_iff {s : State} {c : Fin 32} : trigDue s c = true ↔ now s ∈ s.tu.tcs[c].delay := by
  simp [trigDue]

theorem exec_trigDeliver_due {s : State} {c : Fin 32} (hl : controlLive s = true) (h : now s ∈ s.tu.tcs[c].delay) :
    exec (.trigDeliver c) s = .next (finish s
      (seTrigger (modTc s c (fun x => { x with delay := x.delay.erase (now s) })) (0x10 + c.val))) :=
  (exec_trigDeliver c s).trans <| doLive_next hl (trigDue_iff.mpr h) rfl

theorem exec_trigDeliver_notDue {s : State} {c : Fin 32} (h : now s ∉ s.tu.tcs[c].delay) :
    exec (.trigDeliver c) s = .next (finish s s) :=
  (exec_trigDeliver c s).trans <| doLive_notDue (Bool.eq_false_iff.mpr (mt trigDue_iff.mp h))

/-! GIO_CONTENTION (R97). -/

/-- The pin's driver lets go: OUT_GIO reads 0xFF, and the pin shows the level that opposed it. -/
def gioReleased (s : State) (pin : Fin 16) (c : Fin 32) : State :=
  { setObj s (0x2210 + c.val) 11 0xFF with tu := { s.tu with
      gioIn := (if gioDriven s c then clrBit s.tu.gioIn pin.val else setBit s.tu.gioIn pin.val) } }

theorem gioContention_driven {s : State} {pin : Fin 16} {c : Fin 32} (h : gioDriver s pin.val = some c) :
    gioContention s pin = raise (gioReleased s pin c) 139 pin.val (b2n (gioDriven s c) + 256 * c.val) := by
  unfold gioContention
  rw [h]
  rfl

theorem gioChecked_driven {s : State} {pin : Fin 16} {c : Fin 32} (h : gioDriver s pin.val = some c) :
    gioChecked s pin = decide (gioChange s pin.val (gioDriven s c) + 20 ≤ now s) := by
  unfold gioChecked
  rw [h]

theorem exec_gioContention_stood {s : State} {pin : Fin 16} {c : Fin 32} (hl : controlLive s = true)
    (h : gioDriver s pin.val = some c) (hstood : gioChange s pin.val (gioDriven s c) + 20 ≤ now s) :
    exec (.gioContention pin) s =
      .next (finish s (raise (gioReleased s pin c) 139 pin.val (b2n (gioDriven s c) + 256 * c.val))) :=
  (exec_gioContention pin s).trans <|
    doLive_next hl ((gioChecked_driven h).trans (decide_eq_true hstood)) (gioContention_driven h)

/-! FLAGS_W1C_WRITE (R10): the objects, and the command a write of them is. -/

/-- FLAGS of channels 16 to 31 is an immediate UNSIGNED8. -/
theorem objRow_tcFlags : ∀ c : Fin 32, 16 ≤ c.val →
    (objRow (okey (0x2210 + c.val) 12)).map (fun r => (r.ty.signed, r.ty.bytes)) = some (false, 1) ∧
    clsOf (okey (0x2210 + c.val) 12) = .immediate := by decide

/-- FLAGS of a capture is an immediate UNSIGNED8. -/
theorem objRow_capFlags : ∀ m : Fin 8,
    (objRow (okey (0x2240 + m.val) 8)).map (fun r => (r.ty.signed, r.ty.bytes)) = some (false, 1) ∧
    clsOf (okey (0x2240 + m.val) 8) = .immediate := by decide

/-- A write to an object of the timer that is a command's is that command. -/
theorem applyWrite_timerCommand {s : State} {p : Path} {idx sub v : Nat} {seen : List Nat} {r : State × Nat}
    (hlo : 0x2210 ≤ idx) (hhi : idx ≤ 0x2247) (hsub : sub < 256) (h : command20 s p idx sub v seen = some r) :
    applyWrite s p (okey idx sub) v seen = r := by
  have hcmd : command s p (okey idx sub) v seen = some r := by
    have hi : okey idx sub / 256 = idx := by unfold okey; omega
    have hs : okey idx sub % 256 = sub := by unfold okey; omega
    unfold command
    simp only [hi, hs]
    rw [if_pos (by omega), h]
  have hne : ∀ i j, i < 0x2210 → j < 256 → okey idx sub ≠ okey i j := by unfold okey; omega
  simp only [applyWrite, hne, Nat.reduceLT, Int.toNat_natCast, hcmd, if_false]

/-- `within` as its two bounds. -/
theorem within_iff {a b idx : Nat} : within a b idx = true ↔ a ≤ idx ∧ idx ≤ b := by
  simp [within]

/-- Of the objects of the timer only FLAGS is a command's. -/
theorem command20_timer {s : State} {p : Path} {idx sub v : Nat} {seen : List Nat} (hlo : 0x2210 ≤ idx) (hhi : idx ≤ 0x2247) :
    command20 s p idx sub v seen =
      if within 0x2220 0x222F idx && sub = 12 then some (tcClearFlags s (Fin.ofNat 32 (idx - 0x2210)) v, 0)
      else if within 0x2240 0x2247 idx && sub = 8 then some (capClearFlags s (Fin.ofNat 8 (idx - 0x2240)) v, 0)
      else none := by
  have hne : ∀ i, i < 0x2210 ∨ 0x2247 < i → idx ≠ i := by omega
  simp only [command20, hne, Nat.reduceLT, true_or, or_true, decide_false, Bool.false_and,
    Bool.false_eq_true, if_false]

theorem command20_tcFlags (s : State) (p : Path) {c : Fin 32} (hc : 16 ≤ c.val) (v : Nat) (seen : List Nat) :
    command20 s p (0x2210 + c.val) 12 v seen = some (tcClearFlags s c v, 0) := by
  have hin : within 0x2220 0x222F (0x2210 + c.val) = true := within_iff.mpr (by omega)
  rw [command20_timer (by omega) (by omega)]
  simp [hin]

theorem command20_capFlags (s : State) (p : Path) (m : Fin 8) (v : Nat) (seen : List Nat) :
    command20 s p (0x2240 + m.val) 8 v seen = some (capClearFlags s m v, 0) := by
  have hin : within 0x2240 0x2247 (0x2240 + m.val) = true := within_iff.mpr (by omega)
  rw [command20_timer (by omega) (by omega)]
  simp [hin]

theorem exec_flagsW1cWrite_tc {s : State} {p : Path} {c : Fin 32} {v : Nat} (hv : v < 256) (hc : 16 ≤ c.val)
    (h : Passes s p (okey (0x2210 + c.val) 12) v) :
    exec (.flagsW1cWrite p (.tc c) v) s =
      .next (finish s (taken (tcClearFlags (touch s p) c v) p (okey (0x2210 + c.val) 12))) := by
  obtain ⟨hrow, hcls⟩ := objRow_tcFlags c hc
  exact (exec_flagsW1cWrite p (.tc c) v s).trans <|
    doWrite_taken h (by rw [hcls]; decide) (by unfold plainKey okey; omega) v (dataValue_unsigned hrow hv)
      (applyWrite_timerCommand (by omega) (by omega) (by decide) (command20_tcFlags _ p hc v []))

theorem exec_flagsW1cWrite_cap {s : State} {p : Path} {m : Fin 8} {v : Nat} (hv : v < 256)
    (h : Passes s p (okey (0x2240 + m.val) 8) v) :
    exec (.flagsW1cWrite p (.cap m) v) s =
      .next (finish s (taken (capClearFlags (touch s p) m v) p (okey (0x2240 + m.val) 8))) := by
  obtain ⟨hrow, hcls⟩ := objRow_capFlags m
  exact (exec_flagsW1cWrite p (.cap m) v s).trans <|
    doWrite_taken h (by rw [hcls]; decide) (by unfold plainKey okey; omega) v (dataValue_unsigned hrow hv)
      (applyWrite_timerCommand (by omega) (by omega) (by decide) (command20_capFlags _ p m v []))

/-! CAPTURE_ACCEPT (R104, R105). -/

/-- A pin that shows a level. -/
def pinShows (s : State) (pin : Nat) (lvl : Bool) : State :=
  { s with tu := { s.tu with gioIn := (if lvl then setBit s.tu.gioIn pin else clrBit s.tu.gioIn pin) } }

/-- A capture's filter takes a level: the ST of its pin transition is open within R106's bounds. -/
def levelTaken (s : State) (m : Fin 8) (lvl : Bool) : State :=
  takeFree (modCap s m (fun x => { x with level := lvl, firstSt := now s + 1, run := 0, pinSt := capPinSt s m lvl }))

theorem exec_captureAccept_shown {s : State} {m : Fin 8} {lvl : Bool} (hl : controlLive s = true) (hen : capCfg s m 1 = 1)
    (hmay : capMay s m = true) (hnew : s.tu.caps[m].level ≠ lvl) :
    exec (.captureAccept m lvl) s = .next (finish s (capAccept (pinShows s (capCfg s m 2) lvl) m lvl)) :=
  (exec_captureAccept m lvl s).trans <| doLive_next hl (by simp [hen, hmay, hnew, -Fin.getElem_fin]) rfl

/-- A transition that EDGE does not select does no more. -/
theorem capAccept_unselected {s : State} {m : Fin 8} {lvl : Bool} (h : capCfg s m 3 = if lvl then 2 else 1) :
    capAccept s m lvl = levelTaken s m lvl := by
  cases lvl <;> simp [capAccept, levelTaken, h]

/-- One before the PRESC-th advances the prescaler. -/
theorem capAccept_before {s : State} {m : Fin 8} {lvl : Bool} (h3 : capCfg s m 3 = 3)
    (hp : s.tu.caps[m].presc + 1 < capCfg s m 6) :
    capAccept s m lvl = modCap (levelTaken s m lvl) m (fun x => { x with presc := x.presc + 1 }) := by
  simp [capAccept, levelTaken, h3, hp, -Fin.getElem_fin]

/-- A capture without its event. -/
theorem capture_quiet {s : State} {m : Fin 8} {soft : Bool} (hev : capCfg s m 10 = 0)
    (ht : s.tu.caps[m].tookSt ≠ some (now s)) :
    capture s m soft = modCap s m (fun x =>
      { x with capSt := now s, ovr := x.ovr || x.new, new := true, count := inc32 x.count, tookSt := some (now s) }) := by
  simp [capture, hev, ht, -Fin.getElem_fin]

/-- The PRESC-th is captured, and the prescaler begins again. -/
theorem capAccept_presc {s : State} {m : Fin 8} {lvl : Bool} (h3 : capCfg s m 3 = 3)
    (hp : capCfg s m 6 ≤ s.tu.caps[m].presc + 1) :
    capAccept s m lvl = capture (modCap (levelTaken s m lvl) m (fun x => { x with presc := 0 })) m false := by
  simp [capAccept, levelTaken, h3, Nat.not_lt.mpr hp, -Fin.getElem_fin]

theorem levelTaken_same (s : State) (m : Fin 8) (lvl : Bool) : (levelTaken s m lvl).tu.caps[m] =
    { s.tu.caps[m] with level := lvl, firstSt := now s + 1, run := 0, pinSt := capPinSt s m lvl } :=
  modCap_same s m _

theorem capAccept_captures {s : State} {m : Fin 8} {lvl : Bool} (h3 : capCfg s m 3 = 3)
    (hp : capCfg s m 6 ≤ s.tu.caps[m].presc + 1) (hev : capCfg s m 10 = 0) (ht : s.tu.caps[m].tookSt ≠ some (now s)) :
    capAccept s m lvl = modCap (levelTaken s m lvl) m (fun x =>
      { x with presc := 0, capSt := now s, ovr := x.ovr || x.new, new := true, count := inc32 x.count,
               tookSt := some (now s) }) := by
  have ht' : (modCap (levelTaken s m lvl) m (fun x => { x with presc := 0 })).tu.caps[m].tookSt ≠ some (now s) := by
    rwa [modCap_same, levelTaken_same]
  rw [capAccept_presc h3 hp, capture_quiet (s := modCap (levelTaken s m lvl) m _) hev ht', modCap_modCap]
  rfl

theorem capMay_driven {s : State} {m : Fin 8} (h : (gioDriver s (capCfg s m 2)).isSome = true) :
    capMay s m = true ↔ now s % capCfg s m 5 = 0 ∧ s.tu.caps[m].run = capCfg s m 4 := by
  simp [capMay, capSamples, h]

/-! A channel frozen by the debugger's halt (R102). -/

/-- A frozen channel counts its PHASE_SLIP and stands. -/
theorem tcCount_frozen {s : State} {c : Fin 32} (h : tcFrozen s c = true) :
    tcCount s c = modTc s c (fun x => { x with slip := wrap 64 (x.slip + 1) }) := by
  simp [tcCount, h]

/-- So its tick leaves its position in the frame, OUT and its parking as they were. -/
theorem tcTick_frozen {s : State} {c : Fin 32} (hh : s.tu.halted = true) (hf : tcCfg s c 10 ≠ 0) :
    (tcTick s c).tu.tcs[c].slip = wrap 64 (s.tu.tcs[c].slip + 1) ∧ (tcTick s c).tu.tcs[c].k = s.tu.tcs[c].k ∧
    (tcTick s c).tu.tcs[c].out = s.tu.tcs[c].out ∧ (tcTick s c).tu.tcs[c].parked = s.tu.tcs[c].parked := by
  have hz : tcFrozen s c = true := by simp [tcFrozen, hh, hf]
  unfold tcTick
  split
  · have hz' : tcFrozen (modTc s c (tcNote s c)) c = true := hz
    simp only [tcCount_frozen hz', modTc_same]
    exact ⟨rfl, rfl, rfl, rfl⟩
  · simp only [tcCount_frozen hz, modTc_same, and_self]

/-! DEBUG_HALT and DEBUG_RESUME (R102, R500). -/

theorem exec_debugHalt_running {s : State} (hl : controlLive s = true) (hd : s.boot.debugOn = true) (ha : s.app.state = 2)
    (hh : s.tu.halted = false) :
    exec .debugHalt s = .next (finish s
      (modApp { s with tu := { s.tu with halted := true } } (fun a => { a with haltSt := now s }))) :=
  (exec_debugHalt s).trans <| doLive_next hl (by simp [hd, ha, hh]) rfl

theorem exec_debugResume_halted {s : State} (hl : controlLive s = true) (hd : s.boot.debugOn = true)
    (hh : s.tu.halted = true) :
    exec .debugResume s = .next (finish s (modApp { s with tu := { s.tu with halted := false } }
      (fun a => { a with haltTicks := a.haltTicks + (now s - a.haltSt) }))) :=
  (exec_debugResume s).trans <| doLive_next hl (by simp [hd, hh]) rfl

/-! The obligation. -/

theorem timerDeliveries : Claims.TimerDeliveries := fun _ =>
  ⟨fun _ hl h => exec_trigDeliver_due hl h,
   fun _ h => exec_trigDeliver_notDue h,
   fun pin c hl h hstood => ⟨gioReleased _ pin c, exec_gioContention_stood hl h hstood, rfl⟩,
   fun _ _ _ hv hc h => exec_flagsW1cWrite_tc hv hc h,
   fun _ _ _ hv h => exec_flagsW1cWrite_cap hv h⟩

theorem capturesAndHalt : Claims.CapturesAndHalt := by
  intro s hl
  refine ⟨?_, exec_debugHalt_running hl, exec_debugResume_halted hl, fun _ h => capMay_driven h,
    fun _ hh hf => tcTick_frozen hh hf⟩
  intro m lvl u hen hmay hnew hu
  have hu' : u = levelTaken (pinShows s (capCfg s m 2) lvl) m lvl := hu
  rw [exec_captureAccept_shown hl hen hmay hnew, hu']
  refine ⟨?_, ?_, ?_, ?_⟩
  · rintro h3 rfl
    rw [capAccept_unselected (s := pinShows s _ _) (lvl := false) h3]
  · rintro h3 rfl
    rw [capAccept_unselected (s := pinShows s _ _) (lvl := true) h3]
  · intro h3 hp
    rw [capAccept_before (s := pinShows s _ _) h3 hp]
  · intro h3 hp hev ht
    rw [capAccept_captures (s := pinShows s _ _) h3 hp hev ht]
    rfl

end Sys2Proof.Machine

/-- Settles O23: each command by its law above; a capture by what its accepted level does to the prescaler. -/
theorem timerOutputs : Obligations.TimerOutputs := ⟨Sys2Proof.Machine.timerDeliveries, Sys2Proof.Machine.capturesAndHalt⟩
end

section
/-!
PROOF. What a command answers, for the proofs of whole units: a write that is a command, the claims, and the commands of
start-up, of the modes and of DFU (R29–R40, R335, R347, R348, R469–R473, R485–R489).
-/

namespace Sys2Proof.Machine

open Sys2Proof

/-- A number that an object outside the Commit Gate, the claims and the stored set takes at once, as it stands. -/
abbrev TakesNumber (k n : Nat) : Prop :=
  clsOf k ≠ .staged ∧ (plainKey k ∧ k ≠ okey 0x1010 1 ∧ k ≠ okey 0x1011 1) ∧ dataValue k (numData k n) = n

theorem applyWrite_command {s : State} {p : Path} {k n : Nat} {seen : List Nat} {r : State × Nat}
    (hk : plainKey k ∧ k ≠ okey 0x1010 1 ∧ k ≠ okey 0x1011 1) (h : command s p k n seen = some r) :
    applyWrite s p k n seen = r := by
  obtain ⟨⟨h1, h2, h3⟩, h4, h5⟩ := hk
  simp only [applyWrite, h1, h2, h3, h4, h5, if_false, Int.toNat_natCast, h]

/-- A write that is a command, which accepts it. -/
theorem doWrite_command {s u : State} {p : Path} {k n : Nat} {seen : List Nat} (h : Passes s p k n) (hk : TakesNumber k n)
    (ha : command (touch s p) p k n seen = some (u, 0)) :
    doWrite p k n seen s = .next (finish s (taken u p k)) :=
  doWrite_taken h hk.1 hk.2.1.1 n hk.2.2 (applyWrite_command hk.2.1 ha)

/-- A write that is a command, which turns it away. -/
theorem doWrite_command_turnedAway {s u : State} {p : Path} {k n d : Nat} {seen : List Nat} (h : Passes s p k n)
    (hk : TakesNumber k n) (ha : command (touch s p) p k n seen = some (u, d)) (hd : vRefused d = true) :
    doWrite p k n seen s = .next (finish s (answer u p (vStatus d))) :=
  doWrite_turnedAway h hk.1 hk.2.1.1 n hk.2.2 (applyWrite_command hk.2.1 ha) hd

/-- What an effect leaves the same on every element, it leaves the same on all in order. -/
theorem applyAll_keeps {α β : Type} {f : State → α → State} (φ : State → β) (h : ∀ s x, φ (f s x) = φ s) (xs : List α) (s : State) :
    φ (applyAll f s xs) = φ s := by
  unfold applyAll
  induction xs generalizing s with
  | nil => rfl
  | cons x r ih => exact (ih _).trans (h s x)

/-- What a command answers, where its own work leaves `t`. -/
theorem next_congr {s u t : State} (h : u = t) : (Host.Outcome.next (finish s u) : Out) = .next (finish s t) := by rw [h]

/-- The same where a condition of the cycle holds. -/
theorem next_when {s u t : State} {c : Bool} (hc : c = true) (h : u = t) :
    (Host.Outcome.next (finish s (if c then u else s)) : Out) = .next (finish s t) := by rw [hc, h]; rfl

/-- The same on the live control plane. -/
theorem next_live {s u t : State} {c : Bool} (hl : controlLive s = true) (hc : c = true) (h : u = t) :
    (Host.Outcome.next (finish s (if controlLive s && c then u else s)) : Out) = .next (finish s t) := by
  rw [hl, hc, h]; rfl

/-! modes -/

theorem command_modeReq (s : State) (p : Path) (v : Nat) (seen : List Nat) :
    command s p (okey 0x2000 1) v seen = some (modeRequest s p v) := rfl

theorem command_lockoutClear (s : State) (p : Path) (seen : List Nat) :
    command s p (okey 0x2000 4) 1 seen = some (lockoutClear s p) := rfl

section ModeRequests
variable {s : State} {p : Path}

theorem modeRequest_standby_of_run (ht : s.md.trans = none) (hm : s.md.mode = .run) (hf : s.pw.pf = none) :
    modeRequest s p 1 = (leaveRun s 0 none, 0) := by
  simp [modeRequest, ht, hm, hf]

theorem modeRequest_standby_held {t : Transition} (ht : s.md.trans = some t) (hg : t.target ≠ .standby) :
    modeRequest s p 1 = (modMd s (fun d => { d with held := true }), 0) := by
  simp only [modeRequest, ht]
  cases hh : s.md.held
  · simp [hg]
  · simp only [Bool.or_true, if_true, Prod.mk.injEq, and_true]
    unfold modMd; rw [← hh]

theorem modeRequest_run_of_standby (ht : s.md.trans = none) (hm : s.md.mode = .standby) (hf : s.pw.pf = none) :
    modeRequest s p 2 = (startRun s .run 0, 0) := by
  simp [modeRequest, ht, hm, hf]

theorem modeRequest_run_refused (hm : s.md.mode ≠ .standby) : modeRequest s p 2 = modeRefuse s p 2 := by
  simp [modeRequest, hm]

theorem modeRequest_doze_of_standby (ht : s.md.trans = none) (hm : s.md.mode = .standby) (hf : s.pw.pf = none)
    (hi : ledgerIdle s = true) : modeRequest s p 3 = (startDoze s 0, 0) := by
  simp [modeRequest, ht, hm, hf, hi]

theorem modeRequest_doze_of_run (ht : s.md.trans = none) (hm : s.md.mode = .run) (hf : s.pw.pf = none)
    (hi : ledgerIdle s = true) : modeRequest s p 3 = (leaveRun s 0 (some p), 0) := by
  simp [modeRequest, ht, hm, hf, hi]

theorem modeRequest_doze_refused (hi : ledgerIdle s = false) : modeRequest s p 3 = modeRefuse s p 3 := by
  simp [modeRequest, hi]

end ModeRequests


/-! What the parts of a transition leave alone. -/

@[simp] theorem noteDiscard_md (p : Path) (n why : Nat) (s : State) : (noteDiscard p n why s).md = s.md := by
  unfold noteDiscard; split <;> rfl
@[simp] theorem noteDiscard_tu (p : Path) (n why : Nat) (s : State) : (noteDiscard p n why s).tu = s.tu := by
  unfold noteDiscard; split <;> rfl
@[simp] theorem noteDiscard_ctl (p : Path) (n why : Nat) (s : State) : (noteDiscard p n why s).ctl = s.ctl := by
  unfold noteDiscard; split <;> rfl
@[simp] theorem discardGroup_md (g : Nat) (p : Path) (s : State) (q : Path) : (discardGroup g p s q).md = s.md := by
  unfold discardGroup; split
  · rfl
  · exact noteDiscard_md ..
@[simp] theorem discardGroup_tu (g : Nat) (p : Path) (s : State) (q : Path) : (discardGroup g p s q).tu = s.tu := by
  unfold discardGroup; split
  · rfl
  · exact noteDiscard_tu ..
theorem discardGroup_keeps_ctl {β : Type} (φ : CtlSt → β) (hφ : ∀ c v, φ { c with staging := v } = φ c) (g : Nat) (p : Path)
    (s : State) (q : Path) : φ (discardGroup g p s q).ctl = φ s.ctl := by
  unfold discardGroup; split
  · rfl
  · exact (congrArg φ (noteDiscard_ctl ..)).trans (hφ ..)

theorem claimGrant_md (s : State) (p : Path) (g : Nat) : (claimGrant s p g).md = s.md :=
  applyAll_keeps (·.md) (fun s q => discardGroup_md g p s q) _ _
theorem claimGrant_tu (s : State) (p : Path) (g : Nat) : (claimGrant s p g).tu = s.tu :=
  applyAll_keeps (·.tu) (fun s q => discardGroup_tu g p s q) _ _
theorem claimGrant_claims (s : State) (p : Path) (g : Nat) :
    (claimGrant s p g).ctl.claims = updN s.ctl.claims g (fun _ => ⟨some p, now s⟩) :=
  applyAll_keeps (·.ctl.claims) (fun s q => discardGroup_keeps_ctl (·.claims) (fun _ _ => rfl) g p s q) _ _
theorem claimGrant_tick (s : State) (p : Path) (g : Nat) : tickWrites (claimGrant s p g) = tickWrites s := by
  have h1 : (claimGrant s p g).ctl.tick = s.ctl.tick :=
    applyAll_keeps (·.ctl.tick) (fun s q => discardGroup_keeps_ctl (·.tick) (fun _ _ => rfl) g p s q) _ _
  have h2 : (claimGrant s p g).ctl.tickSt = s.ctl.tickSt :=
    applyAll_keeps (·.ctl.tickSt) (fun s q => discardGroup_keeps_ctl (·.tickSt) (fun _ _ => rfl) g p s q) _ _
  unfold tickWrites now
  rw [h1, h2, claimGrant_tu]

theorem holder_claimGrant (s : State) (p : Path) {g : Nat} (hg : g < 24) : holder (claimGrant s p g) g = some p := by
  unfold holder
  rw [claimGrant_claims]
  simp [atN, updN, hg]

theorem noteTick_alone {s : State} {p : Path} {k : Nat} {b : Bool} {o : Option Int} (h : tickWrites s = []) :
    noteTick s p k b o = { s with ctl := { s.ctl with tickSt := now s, tick := [⟨k, p, b, o, none⟩] } } := by
  unfold noteTick noteWrite
  simp [h, applyAll]

theorem objRow_claims : ∀ sub : Fin 3, 1 ≤ sub.val →
    (objRow (okey 0x2002 sub.val)).map (fun r => (r.ty.signed, r.ty.bytes)) = some (false, 1) ∧
    clsOf (okey 0x2002 sub.val) ≠ .staged := by decide

/-- CLAIM and RELEASE, alone in their cycle. -/
theorem writeNum_claims {s u : State} {p : Path} {sub : Fin 3} {g d : Nat} (hs : 1 ≤ sub.val)
    (h : Passes s p (okey 0x2002 sub.val) g) (hg : g < 256) (ht : tickWrites (touch s p) = [])
    (ha : applyWrite (touch s p) p (okey 0x2002 sub.val) g [] = (u, d)) (hd : vRefused d = false) :
    (writeNum s p (okey 0x2002 sub.val) g []).1 =
      answer (noteTick u p (claimKey (okey 0x2002 sub.val) g) false none) p (vStatus d) := by
  obtain ⟨hl, he, hj, -⟩ := h
  obtain ⟨hrow, hcls⟩ := objRow_claims sub hs
  have hv := dataValue_unsigned hrow (n := g) (by simpa using hg)
  have htie : ∀ n, claimTie (touch s p) p n = none := by intro n; simp [claimTie, ht]
  have hwin : ∀ k, tieWinner (touch s p) p k = none := by intro n; simp [tieWinner, ht]
  have hkey : tieKey (okey 0x2002 sub.val) g = some (claimKey (okey 0x2002 sub.val) g) := by
    have hwhich : sub.val = 1 ∨ sub.val = 2 := by omega
    unfold tieKey
    rw [if_neg (by unfold okey; omega), if_pos (by rcases hwhich with e | e <;> simp [e])]
  unfold writeNum writeTx
  rw [epochFirst_none he]
  simp only [hl, hj, htie, hv, acceptWrite, hwin, hkey, hcls, ha, hd, Int.toNat_natCast, ite_self, Bool.not_true, Bool.false_eq_true, if_false,
    ne_eq, not_true_eq_false]

theorem applyWrite_claim (s : State) (p : Path) (g : Nat) (seen : List Nat) :
    applyWrite s p (okey 0x2002 1) g seen = claimCmd s p g := rfl

theorem applyWrite_release (s : State) (p : Path) (g : Nat) (seen : List Nat) :
    applyWrite s p (okey 0x2002 2) g seen = (claimRelease s p g, 0) := rfl


theorem sessionPath_touch (s : State) (p : Path) : sessionPath (touch s p) = sessionPath s := by
  simp only [sessionPath, touch, Vector.getElem_map]
  split <;> rfl

theorem exec_serviceClaim_standby {s : State} {p : Path} (hm : s.md.mode = .standby) (ht : s.md.trans = none)
    (hf : s.pw.pf = none) (hh : holder s 0 = none) (h : Passes s p (okey 0x2002 1) 0) (hw : tickWrites (touch s p) = []) :
    exec (.serviceClaim p) s = .next (finish s (answer (noteTick (startRun (claimGrant (touch s p) p 0) .service 4) p
      (claimKey (okey 0x2002 1) 0) false none) p 0)) := by
  have hs : sessionPath (touch s p) ≠ some p := by
    have h0 : sessionPath s = none := hh
    rw [sessionPath_touch, h0]; exact nofun
  have hc : claimCmd (touch s p) p 0 = (startRun (claimGrant (touch s p) p 0) .service 4, vLate) := by
    simp [claimCmd, claimSession, hs, hm, ht, hf]
  exact congrArg (fun u => Host.Outcome.next (finish s u))
    (writeNum_claims (sub := 1) (g := 0) (d := vLate) (by decide) h (by decide) hw
      ((applyWrite_claim (touch s p) p 0 []).trans hc) (by decide))

theorem startRun_md (s : State) (m : Mode) (cause : Nat) :
    (startRun s m cause).md = { s.md with trans := some ⟨s.md.mode, m, now s, cause, none⟩ } := rfl
theorem startRun_stagesOn (s : State) (m : Mode) (cause : Nat) : (startRun s m cause).pw.stagesOn = true := rfl
theorem startRun_tick (s : State) (m : Mode) (cause : Nat) : tickWrites (startRun s m cause) = tickWrites s := rfl

/-! recoveryEntry -/

theorem usbAttach_keeps {β : Type} (φ : State → β) (hφ : ∀ s f, φ (modUsb s f) = φ s) (s : State) : φ (usbAttach s) = φ s := by
  unfold usbAttach; split
  · exact hφ ..
  · rfl

theorem bootStraps_pw (s : State) : (bootStraps s).pw = s.pw := by
  unfold bootStraps; split
  · exact usbAttach_keeps (·.pw) (fun _ _ => rfl) _
  · rfl
theorem bootStraps_boot_start (s : State) : (bootStraps s).boot.start = s.boot.start := by
  unfold bootStraps; split
  · exact usbAttach_keeps (·.boot.start) (fun _ _ => rfl) _
  · rfl

theorem exec_powerOn_off {s : State} (h : s.pw.on = false) (kind volts hz : Nat) (rec_ io : Bool) :
    exec (.powerOn kind volts hz rec_ io) s = .next (finish s (bootStart s kind volts hz rec_ io)) :=
  next_congr (by simp [powerOn, h])

theorem bootStart_on (s : State) (kind volts hz : Nat) (rec_ io : Bool) : (bootStart s kind volts hz rec_ io).pw.on = true := by
  unfold bootStart; simp [bootStraps_pw]

theorem bootStart_start (s : State) (kind volts hz : Nat) (rec_ io : Bool) :
    (bootStart s kind volts hz rec_ io).boot.start = now s := by
  unfold bootStart; rw [bootStraps_boot_start]; rfl

/-! md -/

@[simp] theorem sqBegin_md (s : State) (p : Fin 2) (t : ST) : (sqBegin s p t).md = s.md := rfl
@[simp] theorem filtReset_md (s : State) (k : Fin 16) : (filtReset s k).md = s.md := rfl

@[simp] theorem sqEntry_md (s : State) (p : Fin 2) (e : Nat) (t : ST) : (sqEntry s p e t).md = s.md := by
  unfold sqEntry
  dsimp only
  split <;> split
  · split <;> simp only [sqBegin_md, modSq_md]
  · simp only [sqBegin_md, modSq_md]
  · split <;> simp only [sqBegin_md, modSq_md]
  · simp only [sqBegin_md, modSq_md]

theorem applyAll_filtReset_md (s : State) (xs : List (Fin 16)) : (applyAll filtReset s xs).md = s.md :=
  applyAll_keeps (·.md) filtReset_md xs s

@[simp] theorem sqStart_md (s : State) (p : Fin 2) : (sqStart s p).md = s.md := by
  unfold sqStart
  dsimp only
  split
  · simp only [modSq_md, applyAll_filtReset_md, setObj_md]
  · split <;> simp only [sqEntry_md, modSq_md, applyAll_filtReset_md, setObj_md]
@[simp] theorem refEnable_md (s : State) : (refEnable s).md = s.md :=
  (applyAll_keeps (·.md) (by intros; rfl) _ _).trans (applyAll_filtReset_md _ _)
@[simp] theorem seCount_md (s : State) (n : Nat) : (seCount s n).md = s.md := by
  unfold seCount
  dsimp only
  split
  · rfl
  · split <;> rfl
@[simp] theorem seStartUp_md (s : State) : (seStartUp s).md = s.md := by
  unfold seStartUp
  refine (seCount_md ..).trans <| (applyAll_keeps (·.md) ?_ _ _).trans <|
    (applyAll_keeps (·.md) (by intros; rfl) _ _).trans (refEnable_md _)
  intro t p
  dsimp only
  split
  · exact (sqStart_md ..).trans (modSq_md ..)
  · exact modSq_md ..
@[simp] theorem axesStill_md (s : State) : (axesStill s).md = s.md := applyAll_keeps (·.md) (by intros; rfl) _ _
@[simp] theorem solSeed_md (s : State) (ta : Int) : (solSeed s ta).md = s.md := applyAll_keeps (·.md) (by intros; rfl) _ _
@[simp] theorem nmtTo_md (s : State) (st cmd : Nat) : (nmtTo s st cmd).md = s.md := by
  unfold nmtTo; split <;> rfl
@[simp] theorem canUp_md (s : State) : (canUp s).md = s.md := nmtTo_md s 0 0
@[simp] theorem usbAttach_md (s : State) : (usbAttach s).md = s.md := usbAttach_keeps (·.md) (fun _ _ => rfl) s
@[simp] theorem lateCheck_md (s : State) (t : ST) (most d : Nat) : (lateCheck s t most d).md = s.md := by
  unfold lateCheck; split <;> rfl
@[simp] theorem cutPowerOff_md (s : State) : (cutPowerOff s).md = s.md := by
  unfold cutPowerOff; split <;> rfl
@[simp] theorem recharge_md (s : State) : (recharge s).md = s.md := rfl
@[simp] theorem solUnpowered_md (s : State) : (solUnpowered s).md = s.md :=
  (recharge_md _).trans (applyAll_keeps (·.md) (by intros; rfl) _ _)
@[simp] theorem stagesOff_md (s : State) : (stagesOff s).md = s.md :=
  (cutPowerOff_md _).trans <| (solUnpowered_md _).trans (applyAll_keeps (·.md) (by intros; rfl) _ _)

theorem bootStandby_mode (s : State) (ta : Int) : (bootStandby s ta).md.mode = .standby := by
  simp [bootStandby, modeTo]

/-- The state that STANDBY is reported from: step 6, the raises so far held with EV510 first (R446, R454, R485). -/
def bootBegun (s : State) (i : Fin 2) (bad : Option Nat) : State :=
  let s2 := holdAll (bootStep6 (modRm s (fun m => { m with held := [] })) i bad)
  let s3 := holdAll (tlSaveRead s2)
  modRm s3 (fun m => { m with held := s3.rm.held.drop s2.rm.held.length ++ s.rm.held ++ s2.rm.held })

theorem bootComplete_chosen {s : State} {i : Fin 2} (hm : s.md.mode = .boot) (hon : s.pw.on = true) (hf : s.pw.pf = none)
    (hr : s.boot.recLow = false) (hc : chosenSlot s = some i) (bad : Option Nat) (ta : Int) :
    bootComplete s bad ta = bootStandby (bootBegun s i bad) ta := by
  unfold bootComplete
  rw [if_neg (by simp [hm, hon, hf]), if_neg (by simp [hr])]
  simp only [hc]
  rfl

theorem exec_bootWatchdog_late {s : State} (hm : s.md.mode = .boot) (hon : s.pw.on = true) (hf : s.pw.pf = none)
    (hl : 240000000 ≤ now s - s.boot.start) : exec .bootWatchdog s = .next (finish s (bootStraps (warmReset s))) :=
  next_congr (by simp [bootWatchdog, hm, hon, hf, hl])

theorem exec_recoveryWakeExit_recovery {s : State} (hm : s.md.mode = .recovery) (hon : s.pw.on = true) (hf : s.pw.pf = none) :
    exec .recoveryWakeExit s = .next (finish s (bootStraps (warmReset s))) :=
  next_congr (by simp [recoveryWake, hm, hon, hf])


/-- The units as entry to RUN or SERVICE finds them, the rails as they read; MODE is not yet reported (R469). -/
def runReady (s : State) (t : Transition) (ra rb va vb boost : Nat) (home : Bool) : State :=
  let s2 := setBoost (selfTest (unitsEntry (headsEntry (modMd s (fun d => { d with mode := t.target })) ra rb) home) none) boost
  let s3 := modSn s2 (fun n => { n with vhLow := #v[decide (va < 14000), decide (vb < 14000)] })
  modMd s3 (fun d => { d with mode := s.md.mode })

theorem runReached_ready {s : State} {t : Transition} {ra rb va vb boost : Nat} {home : Bool} (ht : s.md.trans = some t)
    (hg : t.target = .run ∨ t.target = .service) (hd : dozeOff s = false)
    (hs : shortRail (headsEntry (modMd s (fun d => { d with mode := t.target })) ra rb) va vb boost = none) :
    runReached s ra rb va vb boost home none = runEntered (runReady s t ra rb va vb boost home) t := by
  have hno : ¬(t.target ≠ .run && t.target ≠ .service || dozeOff s) = true := by
    rcases hg with h | h <;> simp [h, hd]
  unfold runReached
  simp only [ht]
  rw [if_neg hno, if_neg (by simp), if_neg (by simp [hs])]
  rfl

@[simp] theorem wokenEvent_mode (s : State) : (wokenEvent s).md.mode = s.md.mode := rfl
@[simp] theorem wokenEvent_trans (s : State) : (wokenEvent s).md.trans = s.md.trans := rfl

/-- RUN or SERVICE as it is reported: MODE, EV000 and EV004, what a wake reports, and a new challenge for SERVICE. -/
def runReported (s : State) (t : Transition) : State :=
  let s2 := modMd (modeTo s t.target t.cause) (fun d => { d with trans := none })
  let s3 := if s.md.mode = .doze then lateCheck s2 s.md.wakeAt 30000000 (s.md.mode.code * 256 + t.target.code)
            else if t.target = .run then lateCheck s2 t.start 12000000 (s.md.mode.code * 256 + t.target.code) else s2
  let s4 := if s.md.mode = .doze then wokenEvent s3 else s3
  if t.target = .service then modBoot s4 (fun b => { b with challenge := b.challenge + 1 }) else s4

theorem runEntered_eq (s : State) (t : Transition) : runEntered s t = applyHeld (jobsArm (runReported s t)) := rfl

theorem runReported_keeps {β : Type} (φ : ModeSt → β) (hφ : ∀ d, φ { d with restored := false, wakeCode := 0 } = φ d)
    (s : State) (t : Transition) : φ (runReported s t).md = φ { s.md with mode := t.target, trans := none } := by
  have hlate : ∀ u a n d, φ (lateCheck u a n d).md = φ u.md := fun u a n d => congrArg φ (lateCheck_md u a n d)
  have hwoken : ∀ u, φ (wokenEvent u).md = φ u.md := fun u => hφ u.md
  unfold runReported
  dsimp only
  by_cases hs : t.target = .service
  · rw [if_pos hs, modBoot_md]
    by_cases hd : s.md.mode = .doze
    · rw [if_pos hd, hwoken, if_pos hd, hlate]; rfl
    · rw [if_neg hd, if_neg hd, if_neg (by simp [hs])]; rfl
  · rw [if_neg hs]
    by_cases hd : s.md.mode = .doze
    · rw [if_pos hd, hwoken, if_pos hd, hlate]; rfl
    · rw [if_neg hd, if_neg hd]
      by_cases hr : t.target = .run
      · rw [if_pos hr, hlate]; rfl
      · rw [if_neg hr]; rfl

theorem runReported_mode (s : State) (t : Transition) : (runReported s t).md.mode = t.target :=
  runReported_keeps (·.mode) (by intros; rfl) s t
theorem runReported_trans (s : State) (t : Transition) : (runReported s t).md.trans = none :=
  runReported_keeps (·.trans) (by intros; rfl) s t

theorem exec_runReached_ready {s : State} {t : Transition} {ra rb va vb boost : Nat} {home : Bool} (ht : s.md.trans = some t)
    (hg : t.target = .run ∨ t.target = .service) (hd : dozeOff s = false)
    (hs : shortRail (headsEntry (modMd s (fun d => { d with mode := t.target })) ra rb) va vb boost = none) :
    exec (.runReached ra rb va vb boost home none) s =
      .next (finish s (applyHeld (jobsArm (runReported (runReady s t ra rb va vb boost home) t)))) :=
  next_congr ((runReached_ready ht hg hd hs).trans (runEntered_eq _ t))

theorem exec_runEntryTimeout_short {s : State} {t : Transition} {ra rb va vb boost : Nat} {r : Nat × Nat} (ht : s.md.trans = some t)
    (hg : t.target = .run ∨ t.target = .service) (hd : dozeOff s = false) (hl : t.start + 40000000 ≤ now s)
    (hs : shortRail (headIdCheck (headIdCheck (modMd s (fun d => { d with mode := t.target })) 0 ra) 1 rb) va vb boost = some r) :
    exec (.runEntryTimeout ra rb va vb boost) s = .next (finish s (raise (runGivenUp s t) 484 r.1 r.2)) := by
  refine next_congr ?_
  have hg' : (t.target ≠ .run ∧ t.target ≠ .service) = False := by rcases hg with h | h <;> simp [h]
  simp [runTimeout, ht, hd, hg', hs, Nat.not_lt.mpr hl]

theorem exec_standbyReached_met {s : State} {t : Transition} {va vb boost : Nat} (hf : floorsMet s va vb boost = true)
    (ht : s.md.trans = some t) (hg : t.target = .standby) (hd : t.thenDoze = none) (hr : inRun s = true) :
    exec (.standbyReached va vb boost) s = .next (finish s (modeTo
        (stagesOff (modMd (floorsRead s va vb boost) (fun d => { d with trans := none }))) .standby t.cause)) :=
  next_congr (by simp [standbyReached, ht, hg, hd, hr, hf])

theorem exec_lockoutFloorsReached_met {s : State} {va vb boost : Nat} (hf : floorsMet s va vb boost = true)
    (hm : s.md.mode = .lockout) (hr : s.md.floorsReached = false) :
    exec (.lockoutFloorsReached va vb boost) s = .next (finish s
        (stagesOff (modMd (floorsRead s va vb boost) (fun d => { d with floorsReached := true })))) :=
  next_congr (by simp [lockoutFloors, hm, hr, hf])

/-- The way out of LOCKOUT (R40). -/
def lockoutLeft (s : State) (p : Path) : State :=
  raise (raise (axesStill (stagesOff { s with md := { s.md with mode := .standby, floorsReached := false } })) 3 p.ascii 0)
    0 0x0501 3

theorem lockoutLeft_mode (s : State) (p : Path) : (lockoutLeft s p).md.mode = .standby := by simp [lockoutLeft]

theorem lockoutClear_free {s : State} {p : Path} (hm : s.md.mode = .lockout) (hc : lockCauses s = []) :
    lockoutClear s p = (if latchHeld (lockoutLeft s p) then lockoutLeft s p else snReleaseAll (lockoutLeft s p), 0) := by
  unfold lockoutClear
  rw [if_neg (by simp [hm]), if_neg (by simp [hc])]
  rfl

theorem exec_lockoutClear_free {s : State} {p : Path} (h : Passes s p (okey 0x2000 4) 1) (hm : s.md.mode = .lockout)
    (hc : lockCauses (touch s p) = []) :
    exec (.lockoutClear p) s = .next (finish s (taken (if latchHeld (lockoutLeft (touch s p) p) then lockoutLeft (touch s p) p
      else snReleaseAll (lockoutLeft (touch s p) p)) p (okey 0x2000 4))) :=
  doWrite_command (n := 1) h (by decide) ((command_lockoutClear ..).trans (congrArg some (lockoutClear_free hm hc)))

theorem exec_dozeHandover_noApp {s : State} (hd : dozeEntering s = true) (hf : s.pw.pf = none) (ha : s.app.state ≠ 2) :
    exec .dozeHandover s = .next (finish s (modBoot (modPw { s with
        md := { s.md with trans := none }, tu := { s.tu with keeperAhead := 0, keeperFrac := 0 } }
        (fun w => { w with dozeCount := inc32 w.dozeCount })) (fun b => { b with debugOn := false }))) :=
  next_congr (by simp [dozeHandover, hd, hf, appStop, ha])

theorem exec_dozeAbort_woken {s : State} {pin : Bool} {k : Nat} (hd : dozeEntering s = true)
    (hk : lowestWake (wakeMask s pin) = some k) :
    exec (.dozeAbort pin) s = .next (finish s (raise (lrWoken (usbAttach (canUp (modeTo
        (modMd s (fun d => { d with trans := none, wakeSrc := 0 })) .standby 1))) (lrCause (usbAttach (canUp (modeTo
        (modMd s (fun d => { d with trans := none, wakeSrc := 0 })) .standby 1))) k) 6) 491 k 0)) :=
  next_congr (by simp [dozeAbort, hd, hk])

theorem exec_keeperTick_doze {s : State} (hd : dozeOff s = true) :
    exec .keeperTick s = .next (finish s { s with tu := { s.tu with
      st := s.tu.st + (6103 + (s.tu.keeperFrac + 33) / 64),
      keeperAhead := s.tu.keeperAhead + (6103 + (s.tu.keeperFrac + 33) / 64), keeperFrac := (s.tu.keeperFrac + 33) % 64 } }) :=
  next_congr (by simp [keeperTick, hd])

theorem mode_of_dozeOff {s : State} (h : dozeOff s = true) : s.md.mode = .doze := by
  simp only [dozeOff, Bool.and_eq_true, decide_eq_true_eq] at h
  exact h.1

theorem exec_wakeRecognised_dozing {s : State} {pin : Bool} {k : Nat} (hd : dozing s = true)
    (hk : lowestWake (wakeMask s pin) = some k) :
    exec (.wakeRecognised pin) s = .next (finish s (modPw (modMd s (fun d => { d with
        wakeCode := k, wakeAt := now s, trans := some ⟨.doze, wakeTarget s, now s, 1, none⟩ }))
        (fun w => { w with wakeCause := k }))) := by
  have hoff : dozeOff s = true := by
    simp only [dozing, Bool.and_eq_true] at hd
    exact hd.1
  have hm := mode_of_dozeOff hoff
  refine (if_neg ?_).trans (next_congr (by simp [wakeRecognised, hd, hk]))
  simp [hm]


/-- The state in which a wake to STANDBY reports it (R36, R473). -/
def wokenStandby (s : State) (stopped : Bool) : State :=
  let s1 := modMd (stBack s stopped) (fun d => { d with restored := true, wakeSrc := 0, wakeAt := d.wakeAt })
  lateCheck (modeTo (wakeRestore (modMd s1 (fun d => { d with trans := none }))) .standby 1) s.md.wakeAt 6000000 0x0301

theorem wokenStandby_mode (s : State) (stopped : Bool) : (wokenStandby s stopped).md.mode = .standby := by
  simp [wokenStandby, modeTo]

theorem wakeComplete_standby {s : State} {t : Transition} (ht : s.md.trans = some t) (hd : dozeOff s = true)
    (hg : t.target = .standby) (stopped : Bool) : wakeComplete s stopped = wokenEvent (wokenStandby s stopped) := by
  unfold wakeComplete
  simp only [ht]
  rw [if_neg (by simp [hd]), if_neg (by simp [hg])]
  rfl

theorem solSeed_dozeOff (s : State) (ta : Int) : dozeOff (solSeed s ta) = dozeOff s :=
  applyAll_keeps dozeOff (by intros; rfl) _ _

theorem exec_wakeComplete_standby {s : State} {t : Transition} (ht : s.md.trans = some t) (hd : dozeOff s = true)
    (hg : t.target = .standby) (stopped : Bool) (ta : Int) :
    exec (.wakeComplete stopped ta) s = .next (finish s (wokenEvent (wokenStandby (solSeed s ta) stopped))) := by
  refine next_congr ?_
  rw [if_pos (by simp [hd, ht])]
  exact wakeComplete_standby ((congrArg _ (solSeed_md s ta)).trans ht) ((solSeed_dozeOff s ta).trans hd) hg stopped

section Dfu
variable {s : State} (hl : dfuLive s = true)
include hl

theorem dfuDnload_more {bs : List Byte} (hs : s.boot.dfu.state = 5) (hb : bs ≠ []) :
    dfuDnload s bs = modBoot (modUsb s (fun u => { u with stalled := false })) (fun b =>
      { b with dfu := { b.dfu with state := 3, data := b.dfu.data ++ bs } }) := by
  unfold dfuDnload
  rw [if_neg (by simp [hl])]
  dsimp only
  rw [if_neg (by simp [hs]), if_pos hs, if_neg (by simpa using hb)]
  rfl

theorem dfuGetStatus_live :
    dfuGetStatus s = modBoot (modUsb s (fun u => { u with stalled := false })) (fun b =>
      { b with dfu := { b.dfu with state := (if b.dfu.state = 3 then 5 else if b.dfu.state = 6 then 7 else b.dfu.state) } }) := by
  unfold dfuGetStatus
  rw [if_neg (by simp [hl])]
  rfl

theorem dfuReject_live : dfuReject s = modUsb s (fun u => { u with stalled := true }) := if_pos hl

theorem dfuManifest_programmed {i : Fin 2} {c : Nat} (hs : s.boot.dfu.state = 7) (hi : dfuFilling s = some i)
    (hc : slotCheck s { slotOf s.boot.dfu.data with fails := 0 } false = c) :
    dfuManifest s true = modBoot s (fun b =>
      { b with slots := upd b.slots i (fun _ => { slotOf s.boot.dfu.data with
                 fails := 0, state := (if c = 0 then 1 else stateOfCheck { slotOf s.boot.dfu.data with fails := 0 } c) }),
               dfu := (if c = 0 then ⟨2, 0, [], true⟩ else { b.dfu with state := 10, status := 7, data := [] }) }) := by
  unfold dfuManifest
  simp only [hi]
  rw [if_neg (by simp [hl, hs]), hc, if_neg (by simp)]
  by_cases h0 : c = 0
  · simp only [h0, ne_eq, not_true_eq_false, if_false, if_true]; rfl
  · simp only [h0, ne_eq, not_false_eq_true, if_false, if_true]; rfl
end Dfu

end Sys2Proof.Machine
end

section
/-!
PROOF. What the start of a transition leaves alone, and the requests for a mode (R29, R30, R32, R35, R469).
-/

namespace Sys2Proof.Machine

open Sys2Proof

/-- ST and the epoch that waits: the start of a transition leaves both to what asks for them by name. -/
def clockGate (s : State) : TuSt × Option Epoch := (s.tu, s.ctl.epoch)

theorem now_of_clockGate {s : State} {u : TuSt} {e : Option Epoch} (h : clockGate s = (u, e)) : now s = u.st :=
  congrArg (fun x => x.1.st) h
theorem epoch_of_clockGate {s : State} {u : TuSt} {e : Option Epoch} (h : clockGate s = (u, e)) : s.ctl.epoch = e :=
  congrArg (·.2) h

section Updates
variable (s : State)
@[simp] theorem modHead_clockGate (i : Fin 2) (f : HeadSt → HeadSt) : clockGate (modHead s i f) = clockGate s := rfl
@[simp] theorem modEn_clockGate (i : Fin 2) (f : EnergySt → EnergySt) : clockGate (modEn s i f) = clockGate s := rfl
@[simp] theorem modVl_clockGate (i : Fin 2) (f : VhLoopSt → VhLoopSt) : clockGate (modVl s i f) = clockGate s := rfl
@[simp] theorem modAxis_clockGate (i : Fin 4) (f : AxisSt → AxisSt) : clockGate (modAxis s i f) = clockGate s := rfl
@[simp] theorem modPort_clockGate (i : Fin 2) (f : ImgPort → ImgPort) : clockGate (modPort s i f) = clockGate s := rfl
@[simp] theorem modSol_clockGate (i : Fin 8) (f : SolSt → SolSt) : clockGate (modSol s i f) = clockGate s := rfl
@[simp] theorem modBank_clockGate (i : Fin 2) (f : BankSt → BankSt) : clockGate (modBank s i f) = clockGate s := rfl
@[simp] theorem modJob_clockGate (i : Fin 64) (f : Job → Job) : clockGate (modJob s i f) = clockGate s := rfl
@[simp] theorem modCut_clockGate (f : CutSt → CutSt) : clockGate (modCut s f) = clockGate s := rfl
@[simp] theorem modMd_clockGate (f : ModeSt → ModeSt) : clockGate (modMd s f) = clockGate s := rfl
@[simp] theorem modUsb_clockGate (f : UsbSt → UsbSt) : clockGate (modUsb s f) = clockGate s := rfl
@[simp] theorem modNet_clockGate (f : NetSt → NetSt) : clockGate (modNet s f) = clockGate s := rfl
@[simp] theorem modLr_clockGate (f : LrSt → LrSt) : clockGate (modLr s f) = clockGate s := rfl
@[simp] theorem raise_clockGate (e a b : Nat) : clockGate (raise s e a b) = clockGate s := rfl
@[simp] theorem setClaim_clockGate (g : Nat) (c : Claim) : clockGate (setClaim s g c) = clockGate s := rfl
@[simp] theorem modStaging_clockGate (p : Path) (f : Staging → Staging) : clockGate (modStaging s p f) = clockGate s := rfl
@[simp] theorem boostWatch_clockGate : clockGate (boostWatch s) = clockGate s := rfl
@[simp] theorem recharge_clockGate : clockGate (recharge s) = clockGate s := rfl
theorem withBoost_clockGate (b : BoostSt) : clockGate { s with boost := b } = clockGate s := rfl
@[simp] theorem boostOff_clockGate : clockGate (boostOff s) = clockGate s := rfl
end Updates

/-! Jobs, heads, measurements (R118, R150, R354). -/

@[simp] theorem trigger_clockGate (s : State) (p : Fin 2) (r : Nat) : clockGate (trigger s p r) = clockGate s := by
  unfold trigger
  split
  · rfl
  · split <;> simp

@[simp] theorem markLeaving_clockGate (s : State) (h : Fin 2) : clockGate (markLeaving s h) = clockGate s := rfl

@[simp] theorem jobUnbind_clockGate (s : State) (e : Fin 64) : clockGate (jobUnbind s e) = clockGate s := by
  have hfree : ∀ (b : Bool) (x : List (Nat × Nat)),
      clockGate (if b = true then { s with img := { s.img with resvs := x } } else s) = clockGate s := by
    intro b x; cases b <;> rfl
  unfold jobUnbind
  dsimp only
  split
  · simp
  · split
    · rfl
    · split
      · split
        · simp
        · split <;> rfl
      · split <;> rfl

@[simp] theorem jobFinish_clockGate (s : State) (e : Fin 64) (st cause : Nat) :
    clockGate (jobFinish s e st cause) = clockGate s := by simp [jobFinish]

@[simp] theorem jobAbort_clockGate (cause : Nat) (s : State) (e : Fin 64) : clockGate (jobAbort cause s e) = clockGate s := by
  unfold jobAbort
  split <;> simp

@[simp] theorem jobsAbort_clockGate (s : State) (cause : Nat) (which : Job → Bool) :
    clockGate (jobsAbort s cause which) = clockGate s := applyAll_keeps clockGate (jobAbort_clockGate cause) _ _

@[simp] theorem enterTrain_clockGate (s : State) (h : Fin 2) : clockGate (enterTrain s h) = clockGate s := by
  unfold enterTrain
  split
  · split <;> simp
  · rfl
@[simp] theorem enterWhite_clockGate (s : State) (h : Fin 2) : clockGate (enterWhite s h) = clockGate s := by
  simp [enterWhite]
@[simp] theorem dropNext_clockGate (s : State) (h : Fin 2) : clockGate (dropNext s h) = clockGate s := by
  unfold dropNext
  split <;> simp
@[simp] theorem cutTrain_clockGate (s : State) (h : Fin 2) : clockGate (cutTrain s h) = clockGate s := by
  unfold cutTrain
  dsimp only
  split <;> split <;> simp
@[simp] theorem headsStop_clockGate (s : State) : clockGate (headsStop s) = clockGate s :=
  applyAll_keeps clockGate (by intro s h; simp) _ _

@[simp] theorem measAbort_clockGate (s : State) (h : Fin 2) (cause : Nat) : clockGate (measAbort s h cause) = clockGate s := by
  unfold measAbort
  split <;> simp
@[simp] theorem measAbortAll_clockGate (s : State) (cause : Nat) : clockGate (measAbortAll s cause) = clockGate s := by
  simp [measAbortAll]

/-! Solenoids and axes (R207, R268). -/

@[simp] theorem recordWait_clockGate (s : State) (c : Fin 8) (w : Nat) : clockGate (recordWait s c w) = clockGate s := rfl
@[simp] theorem recordLeft_clockGate (s : State) (c : Fin 8) : clockGate (recordLeft s c) = clockGate s := by
  unfold recordLeft
  split <;> simp
@[simp] theorem dequeue_clockGate (s : State) (c : Fin 8) : clockGate (dequeue s c) = clockGate s := rfl
@[simp] theorem solWithdraw_clockGate (s : State) (c : Fin 8) : clockGate (solWithdraw s c) = clockGate s := by
  simp [solWithdraw]
@[simp] theorem hsToBoost_clockGate (s : State) (b : Fin 2) : clockGate (hsToBoost s b) = clockGate s :=
  applyAll_keeps clockGate (by intros; rfl) _ _
@[simp] theorem hsToMain_clockGate (s : State) (b : Fin 2) : clockGate (hsToMain s b) = clockGate s :=
  applyAll_keeps clockGate (by intros; rfl) _ _
@[simp] theorem startPeak_clockGate (s : State) (c : Fin 8) (t : ST) : clockGate (startPeak s c t) = clockGate s := by
  simp [startPeak]
@[simp] theorem serveBank_clockGate (s : State) (b : Fin 2) : clockGate (serveBank s b) = clockGate s := by
  unfold serveBank
  split
  · rfl
  · split <;> simp
@[simp] theorem peakEnded_clockGate (s : State) (b : Fin 2) : clockGate (peakEnded s b) = clockGate s := by
  unfold peakEnded
  dsimp only
  split <;> simp
@[simp] theorem solDecay_clockGate (s : State) (c : Fin 8) : clockGate (solDecay s c) = clockGate s := by
  unfold solDecay
  dsimp only
  split <;> simp
@[simp] theorem solEnd_clockGate (s : State) (c : Fin 8) : clockGate (solEnd s c) = clockGate s := by
  unfold solEnd
  dsimp only
  split
  · simp
  · split <;> simp
@[simp] theorem solDrop_clockGate (s : State) (c : Fin 8) : clockGate (solDrop s c) = clockGate s := by
  unfold solDrop
  split <;> simp
@[simp] theorem solAllOff_clockGate (s : State) : clockGate (solAllOff s) = clockGate s :=
  (boostWatch_clockGate _).trans <| (applyAll_keeps clockGate solEnd_clockGate _ _).trans <|
    (applyAll_keeps clockGate (by intros; rfl) _ _).trans (applyAll_keeps clockGate solDrop_clockGate _ _)

@[simp] theorem axToStill_clockGate (s : State) (n : Fin 4) : clockGate (axToStill s n) = clockGate s := rfl
@[simp] theorem axDeliver_clockGate (s : State) (n : Fin 4) (c : AxCmd) (wm : Bool) :
    clockGate (axDeliver s n c wm) = clockGate s := rfl
@[simp] theorem axLeaveRun_clockGate (s : State) (n : Fin 4) : clockGate (axLeaveRun s n) = clockGate s := by
  unfold axLeaveRun
  split <;> simp

/-! The way out of RUN, the end of a session, lapsed claims (R33, R38, R349). -/

@[simp] theorem leaveRun_clockGate (s : State) (cause : Nat) (doze : Option Path) :
    clockGate (leaveRun s cause doze) = clockGate s := by
  have hax : ∀ t, clockGate (applyAll axLeaveRun t (allFin 4)) = clockGate t := applyAll_keeps clockGate axLeaveRun_clockGate _
  simp only [leaveRun, boostOff_clockGate, hax, solAllOff_clockGate, headsStop_clockGate, measAbortAll_clockGate,
    jobsAbort_clockGate]
  rfl

@[simp] theorem headOff_clockGate (s : State) (h : Fin 2) : clockGate (headOff s h) = clockGate s := rfl
@[simp] theorem cutPowerOff_clockGate (s : State) : clockGate (cutPowerOff s) = clockGate s := by
  unfold cutPowerOff
  split <;> rfl
@[simp] theorem solUnpowered_clockGate (s : State) : clockGate (solUnpowered s) = clockGate s := by
  unfold solUnpowered
  rw [recharge_clockGate, withBoost_clockGate]
  exact applyAll_keeps clockGate (by intros; rfl) _ _
@[simp] theorem stagesOff_clockGate (s : State) : clockGate (stagesOff s) = clockGate s :=
  (cutPowerOff_clockGate _).trans <| (solUnpowered_clockGate _).trans (applyAll_keeps clockGate headOff_clockGate _ _)

@[simp] theorem discardService_clockGate (s : State) : clockGate (discardService s) = clockGate s :=
  (applyAll_keeps clockGate (by intros; rfl) _ _).trans (applyAll_keeps clockGate (by intros; rfl) _ _)

@[simp] theorem sessionEnd_clockGate (s : State) : clockGate (sessionEnd s) = clockGate s := by
  have h1 : clockGate (discardService (measAbortAll s 2)) = clockGate s := by simp
  unfold sessionEnd
  dsimp only
  split
  · rw [leaveRun_clockGate, h1]
  · split
    · split
      · rw [stagesOff_clockGate, ← h1]; rfl
      · exact h1
    · exact h1

@[simp] theorem freeGroup_clockGate (s : State) (g : Nat) : clockGate (freeGroup s g) = clockGate s := by
  unfold freeGroup
  dsimp only
  split <;> simp
@[simp] theorem claimLapse_clockGate (why : Nat) (s : State) (g : Nat) : clockGate (claimLapse why s g) = clockGate s := by
  unfold claimLapse
  split <;> simp
@[simp] theorem lapsePath_clockGate (why : Nat) (s : State) (p : Path) : clockGate (lapsePath why s p) = clockGate s :=
  applyAll_keeps clockGate (claimLapse_clockGate why) _ _
@[simp] theorem dropXfer_clockGate (s : State) (p : Path) : clockGate (dropXfer s p) = clockGate s := by
  unfold dropXfer
  split
  · rfl
  · dsimp only
    split <;> rfl
@[simp] theorem losePath_clockGate (s : State) (p : Path) : clockGate (losePath s p) = clockGate s := by simp [losePath]
@[simp] theorem noteDiscard_clockGate (p : Path) (n why : Nat) (s : State) : clockGate (noteDiscard p n why s) = clockGate s := by
  unfold noteDiscard
  split <;> rfl
@[simp] theorem discardAll_clockGate (s : State) : clockGate (discardAll s) = clockGate s :=
  applyAll_keeps clockGate (by intro s p; simp) _ _

/-! DOZE entry (R35, R391, R471). -/

@[simp] theorem lrDrop_clockGate (s : State) : clockGate (lrDrop s) = clockGate s := rfl
@[simp] theorem loseH_clockGate (s : State) (cause : Nat) : clockGate (loseH s cause) = clockGate s := by
  unfold loseH
  split <;> simp
@[simp] theorem usbTo_clockGate (s : State) (st : Nat) : clockGate (usbTo s st) = clockGate s := rfl
@[simp] theorem usbDetach_clockGate (s : State) (cause : Nat) : clockGate (usbDetach s cause) = clockGate s := by
  simp [usbDetach]
@[simp] theorem loseN_clockGate (s : State) (cause : Nat) : clockGate (loseN s cause) = clockGate s := by simp [loseN]
@[simp] theorem canStandby_clockGate (s : State) (cause : Nat) : clockGate (canStandby s cause) = clockGate s := by
  unfold canStandby
  dsimp only
  split <;> simp
@[simp] theorem modeTo_clockGate (s : State) (m : Mode) (cause : Nat) : clockGate (modeTo s m cause) = clockGate s := rfl

/-- The claims, the staging sets and the transfers are gone, and with them the epoch that waited. -/
def dozeCleared (s : State) : State :=
  let s2 := applyAll dropXfer (discardAll (applyAll (claimLapse 3) s (upto 24))) Path.all
  { s2 with ctl := { s2.ctl with epoch := none } }

theorem dozeCleared_clockGate (s : State) : clockGate (dozeCleared s) = (s.tu, none) := by
  have h : clockGate (applyAll dropXfer (discardAll (applyAll (claimLapse 3) s (upto 24))) Path.all) = clockGate s :=
    (applyAll_keeps clockGate dropXfer_clockGate _ _).trans <| (discardAll_clockGate _).trans
      (applyAll_keeps clockGate (claimLapse_clockGate 3) _ _)
  exact congrArg (fun x => (x.1, none)) h

theorem startDoze_eq (s : State) (cause : Nat) : startDoze s cause =
    modMd (modeTo (canStandby (usbDetach (lrDrop (dozeCleared s)) 4) 4) .doze cause) (fun d => { d with
      trans := some { src := .standby, target := .doze, start := now s, cause := cause, thenDoze := none },
      held := false, wakeSrc := 0, wakeCode := 0, restored := false }) := rfl

theorem startDoze_clockGate (s : State) (cause : Nat) : clockGate (startDoze s cause) = (s.tu, none) := by
  rw [startDoze_eq]
  simp [dozeCleared_clockGate]

theorem startDoze_md (s : State) (cause : Nat) :
    (startDoze s cause).md.mode = .doze ∧
    (startDoze s cause).md.trans = some ⟨.standby, .doze, now (startDoze s cause), cause, none⟩ := by
  rw [now_of_clockGate (startDoze_clockGate s cause)]
  exact ⟨rfl, rfl⟩

theorem startDoze_epoch (s : State) (cause : Nat) : (startDoze s cause).ctl.epoch = none :=
  epoch_of_clockGate (startDoze_clockGate s cause)

/-! The obligation. -/

theorem transitionsBegin : Claims.TransitionsBegin := fun s m cause =>
  ⟨startRun_md s m cause, startRun_stagesOn s m cause, (startDoze_md s cause).1, (startDoze_md s cause).2,
   startDoze_epoch s cause⟩

theorem exec_modeReq {s u : State} {p : Path} {n : Nat} (h : Passes s p (okey 0x2000 1) n) (hk : TakesNumber (okey 0x2000 1) n)
    (hr : modeRequest (touch s p) p n = (u, 0)) :
    doWrite p (okey 0x2000 1) n [] s = .next (finish s (taken u p (okey 0x2000 1))) :=
  doWrite_command h hk ((command_modeReq ..).trans (congrArg some hr))

/-- A mode request that is refused is answered WRONG_MODE with EV001. -/
theorem exec_modeReq_refused {s : State} {p : Path} {n : Nat} (h : Passes s p (okey 0x2000 1) n)
    (hk : TakesNumber (okey 0x2000 1) n) (hr : modeRequest (touch s p) p n = modeRefuse (touch s p) p n) :
    doWrite p (okey 0x2000 1) n [] s =
      .next (finish s (answer (raise (touch s p) 1 (s.md.mode.code * 256 + n) p.ascii) p 0x24)) :=
  doWrite_command_turnedAway (u := raise (touch s p) 1 (s.md.mode.code * 256 + n) p.ascii) (d := 0x24) h hk
    ((command_modeReq ..).trans (congrArg some hr)) (by decide)

theorem modeRequests : Claims.ModeRequests := fun s p hf =>
  ⟨fun h ht hm => exec_modeReq (n := 1) h (by decide) (modeRequest_standby_of_run ht hm hf),
   fun t h ht hg => exec_modeReq (n := 1) h (by decide) (modeRequest_standby_held ht hg),
   fun h ht hm => exec_modeReq (n := 2) h (by decide) (modeRequest_run_of_standby ht hm hf),
   fun h hm => exec_modeReq_refused (n := 2) h (by decide) (modeRequest_run_refused hm),
   fun h ht hi hm => exec_modeReq (n := 3) h (by decide) (modeRequest_doze_of_standby ht hm hf hi),
   fun h ht hi hm => exec_modeReq (n := 3) h (by decide) (modeRequest_doze_of_run ht hm hf hi),
   fun h hi => exec_modeReq_refused (n := 3) h (by decide) (modeRequest_doze_refused hi),
   fun h => exec_modeReq_refused (n := 4) h (by decide) rfl⟩

end Sys2Proof.Machine

/-- Settles O15: each request by the mode machine's answer to it; the start of a transition by what its parts leave alone. -/
theorem modeChanges : Obligations.ModeChanges := ⟨Sys2Proof.Machine.modeRequests, Sys2Proof.Machine.transitionsBegin⟩
end

section
/-!
PROOF. Start-up, the modes and DFU: every command completes (R29–R40, R86, R469–R473, R485–R489).
-/

namespace Sys2Proof.Machine

open Sys2Proof

/-- The claim of the service session from STANDBY: the session is held, and the way to SERVICE begins (R348). -/
theorem serviceClaim_standby {s : State} {p : Path} (hm : s.md.mode = .standby) (ht : s.md.trans = none)
    (hf : s.pw.pf = none) (hh : holder s 0 = none) (h : Passes s p (okey 0x2002 1) 0) (hw : tickWrites (touch s p) = []) :
    ∃ u, exec (.serviceClaim p) s = .next (finish s u) ∧ holder u 0 = some p ∧
      u.md.trans = some { src := .standby, target := .service, start := now s, cause := 4, thenDoze := none } := by
  have hmd : (startRun (claimGrant (touch s p) p 0) .service 4).md =
      { s.md with trans := some ⟨.standby, .service, now s, 4, none⟩ } := by
    rw [startRun_md, claimGrant_md, now, claimGrant_tu, touch_md, hm]
    rfl
  have hheld : holder (startRun (claimGrant (touch s p) p 0) .service 4) 0 = some p := holder_claimGrant _ p (by decide)
  have hnone : tickWrites (startRun (claimGrant (touch s p) p 0) .service 4) = [] :=
    (startRun_tick ..).trans ((claimGrant_tick ..).trans hw)
  refine ⟨_, exec_serviceClaim_standby hm ht hf hh h hw, ?_, ?_⟩
  · rw [noteTick_alone hnone]; exact hheld
  · rw [noteTick_alone hnone]; exact congrArg (·.trans) hmd

theorem modesComplete : Claims.ModesComplete := fun s =>
  ⟨fun kind volts hz rec_ io h => ⟨exec_powerOn_off h kind volts hz rec_ io, bootStart_on .., bootStart_start ..⟩,
   fun bad ta i hm hon hf hr hc => ⟨_, next_congr (bootComplete_chosen hm hon hf hr hc bad ta), bootStandby_mode ..⟩,
   fun hm hon hf hl => exec_bootWatchdog_late hm hon hf hl,
   fun hm hon hf => exec_recoveryWakeExit_recovery hm hon hf,
   fun p hf ht =>
    ⟨fun h hm => exec_modeReq (n := 1) h (by decide) (modeRequest_standby_of_run ht hm hf),
     fun h hm => exec_modeReq (n := 2) h (by decide) (modeRequest_run_of_standby ht hm hf),
     fun h hi hm => exec_modeReq (n := 3) h (by decide) (modeRequest_doze_of_standby ht hm hf hi)⟩,
   fun p h => exec_modeReq_refused (n := 4) h (by decide) rfl,
   fun t ra rb va vb boost home ht hg hd hs =>
    ⟨_, exec_runReached_ready ht hg hd hs, runReported_mode .., runReported_trans ..⟩,
   fun t ra rb va vb boost r ht hg hd hl hs => exec_runEntryTimeout_short ht hg hd hl hs,
   fun t va vb boost hf ht hg hd hr => exec_standbyReached_met hf ht hg hd hr,
   fun va vb boost hf hm hr => exec_lockoutFloorsReached_met hf hm hr,
   fun p h hm hc => ⟨_, exec_lockoutClear_free h hm hc, lockoutLeft_mode ..⟩,
   fun p hm ht hf hh h hw => serviceClaim_standby hm ht hf hh h hw,
   fun hd hf ha => exec_dozeHandover_noApp hd hf ha,
   fun pin k hd hk => exec_dozeAbort_woken hd hk,
   fun hd => exec_keeperTick_doze hd,
   fun pin k hd hk => exec_wakeRecognised_dozing hd hk,
   fun t stopped ta ht hd hg => ⟨_, exec_wakeComplete_standby ht hd hg stopped ta, wokenStandby_mode ..⟩,
   fun hl =>
    ⟨fun bs hs hb => next_congr (dfuDnload_more hl hs hb),
     fun i c hs hi hc => next_congr (dfuManifest_programmed hl hs hi hc),
     next_congr (dfuGetStatus_live hl), next_congr (dfuReject_live hl), next_congr (dfuReject_live hl)⟩⟩

end Sys2Proof.Machine
end

section
/-!
PROOF. Lanes, encoders, generators and waymarks: every command completes (R49–R82).
-/

namespace Sys2Proof.Machine

open Sys2Proof

/-! Values that a write sets. -/

/-- A write that is no command sets its object, and the unit acts on it. -/
theorem applyWrite_value {s : State} {p : Path} {k n : Nat} {seen : List Nat}
    (hk : plainKey k ∧ k ≠ okey 0x1010 1 ∧ k ≠ okey 0x1011 1) (h : command s p k n seen = none) :
    applyWrite s p k n seen = (effect s (putValue (notePre s k) k n) k n, 0) := by
  obtain ⟨⟨h1, h2, h3⟩, h4, h5⟩ := hk
  simp only [applyWrite, h1, h2, h3, h4, h5, if_false, Int.toNat_natCast, h]

/-- An object that keeps its value and is neither a COB-ID nor SERVICE-ONLY. -/
abbrev KeptPlainly (k : Nat) : Prop := clsOf k ≠ .serviceOnly ∧ keepsValue k = true ∧ isCob (k / 256) (k % 256) = false

theorem putValue_plain {s : State} {k : Nat} (h : KeptPlainly k) (v : Int) : putValue (notePre s k) k v = setObjK s k v := by
  obtain ⟨hs, hv, hc⟩ := h
  have hp : notePre s k = s := by unfold notePre; rw [if_neg (by simp [hs])]
  unfold putValue
  rw [hp, hv, hc]
  rfl

theorem doWrite_value {s u : State} {p : Path} {k n : Nat} {seen : List Nat} (h : Passes s p k n) (hk : TakesNumber k n)
    (hp : KeptPlainly k) (hc : command (touch s p) p k n seen = none)
    (he : effect (touch s p) (setObjK (touch s p) k n) k n = u) :
    doWrite p k n seen s = .next (finish s (taken u p k)) :=
  doWrite_taken h hk.1 hk.2.1.1 n hk.2.2 <| (applyWrite_value hk.2.1 hc).trans (by rw [putValue_plain hp, he])

/-! Encoders (R53, R76, R78). -/

theorem encEdge_fwd {s : State} {c : Fin 4} (hl : controlLive s = true) (hi : encInverted s c = false) :
    encEdge s c .fwd = applyAll (edgeLane c) (modEnc s c (encStep (now s) 1)) (allFin 4) := by
  simp [encEdge, hl, hi]

theorem edgeTimeout_passed {s : State} {i : Fin 4} (hl : controlLive s = true)
    (h : laneCfg s i 12 ≤ (now s : Int) - s.msu.encs[laneEnc s i].te0) :
    edgeTimeout s i = modEnc s (laneEnc s i) (fun e => { e with n := 0 }) :=
  if_pos (by rw [hl, decide_eq_true h]; rfl)

theorem encIndex_first {s : State} {c : Fin 4} (hl : controlLive s = true) (hm : objN s (0x2150 + c.val) 2 ≠ 0)
    (hr : s.msu.encs[c].cRef = none) (hn : encLane s c = none) :
    encIndex s c = modEnc s c (fun e => { e with cRef := some e.c }) := by
  have hn' : encLane (modEnc s c (fun e => { e with cRef := some e.c })) c = none := hn
  unfold encIndex
  dsimp only
  rw [if_neg (by simp [hl, hm]), hr]
  simp only [hn']

/-! Direction and lines (R49, R57). -/

theorem dirCommit_fwd {s : State} {i : Fin 4} (hs : laneSource s i ≠ 0) (hd : s.msu.lanes[i].dir ≠ .fwd)
    (h : s.msu.lanes[i].ext + laneCfg s i 11 ≤ s.msu.lanes[i].pos) : dirCommit s i = some .fwd := by
  unfold dirCommit
  dsimp only
  rw [if_neg hs, if_pos (by rw [decide_eq_true hd, decide_eq_true h]; rfl)]

theorem laneDirCommit_fwd {s : State} {i : Fin 4} (hl : controlLive s = true) (hc : dirCommit s i = some .fwd) :
    laneDirCommit s i = applyAll (fun t h => if genLane (headGen t h) = i then histDirChange t h else t)
      (applyAll (commitGen .fwd s.msu.lanes[i].ext)
        (raise (modLane s i (fun l => { l with dir := .fwd, ext := l.pos, extPrev := l.pos })) 67 i.val 1) (laneGens i))
      (allFin 2) := by
  unfold laneDirCommit
  rw [if_pos hl, hc]
  rfl

theorem lineDue_fwd {s : State} {g : Fin 16} {n : Int} (h : lineDue s g = some (n, .fwd)) :
    s.msu.lanes[genLane g].dir = .fwd := by
  unfold lineDue at h
  dsimp only at h
  split at h
  · cases h
  · split at h
    · assumption
    · split at h <;> simp at h
    · cases h

theorem modGen_modGen (s : State) (g : Fin 16) (f h : Gen → Gen) :
    modGen (modGen s g f) g h = modGen s g (fun x => h (f x)) := by
  simp only [modGen, upd_upd]

theorem modGen_same (s : State) (g : Fin 16) (f : Gen → Gen) : (modGen s g f).msu.gens[g] = f s.msu.gens[g] :=
  upd_same _ g f

theorem dueFwd_modGen (s : State) (g j : Fin 16) (f : Gen → Gen) (n : Int) : dueFwd (modGen s g f) j n = dueFwd s j n := rfl

/-- A line taken forward leaves the next one due where its position says so. -/
theorem moreDue_fwd {s : State} {g : Fin 16} {f : Gen → Gen} {n : Int} (hd : s.msu.lanes[genLane g].dir = .fwd)
    (hf : (f s.msu.gens[g]).nf = n) :
    moreDue (modGen s g f) g = decide (dueFwd s g n ≤ s.msu.lanes[genLane g].pos) := by
  unfold moreDue
  dsimp only
  rw [modGen_same, hf, dueFwd_modGen, modGen_msu_lanes, hd]

/-- The line due of a generator whose next one is not due. -/
theorem lineEvent_fwd {s : State} {g : Fin 16} {va vb df0 df1 : Nat} {n : Int} (hl : controlLive s = true)
    (hd : lineDue s g = some (n, .fwd)) (hg : gateAtLine s g = true) (ha : dirsAllow s g .fwd = true)
    (hn : dueFwd s g (n + 1) > s.msu.lanes[genLane g].pos) :
    lineEvent s g va vb df0 df1 =
      applyAll (lineToPort g n .fwd (fun p => if p = 0 then df0 else df1))
        (applyAll (lineToHead g n .fwd (linePeriod s g .fwd) (fun h => if h = 0 then va else vb))
          (modGen s g (fun x => { x with
            lastSt := some (now s), nf := n + 1, index := n, emitted := inc32 x.emitted, fwdSt := some (now s) }))
          (allFin 2)) (allFin 2) := by
  have hmore : ∀ f : Gen → Gen, (f s.msu.gens[g]).nf = n + 1 → moreDue (modGen s g f) g = false := by
    intro f hf
    rw [moreDue_fwd (lineDue_fwd hd) hf, decide_eq_false (Int.not_le.mpr hn)]
  unfold lineEvent
  rw [if_pos hl, hd]
  dsimp only
  rw [if_pos (by rw [hg, ha]; rfl), hmore _ rfl, if_neg (by simp), modGen_modGen]
  rfl

/-! Turns (R69). -/

theorem inTurn_now {s : State} {c : Instr} (h : turnWaits s c = false) : inTurn s c = takeTurns (runTurn s c) := by
  unfold inTurn
  rw [h, Bool.and_false]
  rfl

/-! Waymarks (R63–R67, R75, R80–R82). -/

/-- A lane-keyed entry without an action fires. -/
theorem wmLaneFire_event {s : State} {e d : Nat} (hf : firesNow s (wmAt s e) = d) (hd : d = 1 ∨ d = 2)
    (hop : (wmAt s e).op = 0) (hk : (wmAt s e).key < 4) (hev : (wmAt s e).evt = true) :
    wmLaneFire s e = raise (setWm s e { wmAt s e with
          armed := false, fires := min 65535 ((wmAt s e).fires + 1), lastDir := d, lastSt := now s })
        (48 + (wmAt s e).evsel) (e + 1073741824 * d) (w32 s.msu.lanes[wmLane (wmAt s e)].pos) := by
  unfold wmLaneFire
  dsimp only
  rw [hf, if_pos (by rcases hd with h | h <;> simp [h])]
  unfold wmFire wmOperate
  dsimp only
  rw [if_pos hop, if_pos hk, if_pos hev, if_neg (by simp; omega)]

/-- An ST-keyed entry without an action or an event fires. -/
theorem wmStFire_quiet {s : State} {e : Nat} (hf : firesNow s (wmAt s e) = 3) (hop : (wmAt s e).op = 0)
    (hev : (wmAt s e).evt = false) (hs : (wmAt s e).since ≤ (wmAt s e).target) :
    wmStFire s e = setWm s e { wmAt s e with
          armed := false, fires := min 65535 ((wmAt s e).fires + 1), lastDir := 3, lastSt := now s } := by
  unfold wmStFire
  rw [if_pos hf]
  unfold wmFire wmOperate
  dsimp only
  rw [if_pos hop, if_neg (by simp; exact fun _ => hs), if_neg (by simp [hev])]

theorem pairMinEnd_due {s : State} {start : Nat} {h : PairHold}
    (hh : s.msu.holds.find? (fun x => x.start == start && decide (x.due ≤ now s)) = some h) :
    pairMinEnd s start = levelOff { s with msu := { s.msu with holds := s.msu.holds.erase h } } h.tgt h.inp true := by
  unfold pairMinEnd
  rw [hh]

theorem objRow_waymarkWindow : ∀ sub : Fin 5, 3 ≤ sub.val →
    (objRow (okey 0x2140 sub.val)).map (fun r => (r.ty.signed, r.ty.bytes)) = some (false, 4) ∧
    clsOf (okey 0x2140 sub.val) ≠ .staged := by decide

theorem takesNumber_waymarkWindow {sub : Fin 5} (hs : 3 ≤ sub.val) {v : Nat} (hv : v < 2 ^ 32) :
    TakesNumber (okey 0x2140 sub.val) v := by
  obtain ⟨hrow, hcls⟩ := objRow_waymarkWindow sub hs
  exact ⟨hcls, by unfold plainKey okey; omega, dataValue_unsigned hrow hv⟩

theorem command_waymarkAct (s : State) (p : Path) (v : Nat) (seen : List Nat) :
    command s p (okey 0x2140 4) v seen =
      some (setWm s (atN 0 s.msu.wmSel p.idx.val) (wmSetAct (wmAt s (atN 0 s.msu.wmSel p.idx.val)) v), 0) := rfl

theorem command_waymarkCtrl (s : State) (p : Path) (v : Nat) (seen : List Nat) :
    command s p (okey 0x2140 3) v seen = some (wmCtrlWrite s (atN 0 s.msu.wmSel p.idx.val) v, 0) := rfl

theorem command_waymarkCommand (s : State) (p : Path) (v : Nat) (seen : List Nat) :
    command s p (okey 0x2141 3) v seen = some (if v = 1 then wmDisableAll s else wmArmAll s, 0) := rfl

theorem setBit_of_bit {n k : Nat} (h : bit n k = true) : setBit n k = n := if_pos h

/-- A table written whole by one transfer (R81, R385). -/
theorem domWriteWhole_opened {s : State} {p : Path} {idx : Nat} {bs : List Byte} (hl : dictLive s = true)
    (he : s.ctl.epoch = none) (hj : judgeOpen (touch s p) p idx 0 true bs.length = 0) (hi : idx ≠ 0x5E00) :
    domWriteWhole s p idx bs = (domPut (answer (setXfer (dropXfer (touch s p) p) p
          (some ⟨idx, true, bs.length, [], 0, now s⟩)) p 0) p bs).1 := by
  have ho : domOpen s p idx 0 true bs.length =
      (answer (setXfer (dropXfer (touch s p) p) p (some ⟨idx, true, bs.length, [], 0, now s⟩)) p 0, 0) := by
    unfold domOpen
    rw [if_neg (by simp [hl]), epochFirst_none he]
    dsimp only
    rw [hj, if_neg (by simp), if_neg (by simp [hi])]
    rfl
  unfold domWriteWhole
  rw [ho]
  rfl

theorem command_rehomeReq (s : State) (p : Path) (c : Fin 4) (v : Nat) (seen : List Nat) :
    command s p (okey (0x2150 + c.val) 7) v seen = none := by
  fin_cases c <;> simp [command, command20, okey, within]

theorem effect_rehomeReq (s t : State) (c : Fin 4) (v : Int) : effect s t (okey (0x2150 + c.val) 7) v = t := by
  fin_cases c <;> simp [effect, effect21, okey, within]

theorem takesNumber_rehomeReq : ∀ c : Fin 4, TakesNumber (okey (0x2150 + c.val) 7) 1 := by decide

theorem keptPlainly_rehomeReq : ∀ c : Fin 4, KeptPlainly (okey (0x2150 + c.val) 7) := by decide

theorem motionSyncComplete : Claims.MotionSyncComplete := fun s hl =>
  ⟨fun c hi => next_congr (encEdge_fwd hl hi),
   fun i _ h => next_congr (edgeTimeout_passed hl h),
   fun i hs hd h => next_congr (congrArg takeTurns (laneDirCommit_fwd hl (dirCommit_fwd hs hd h))),
   fun g va vb df0 df1 n hw hd hg ha hn =>
    next_congr ((inTurn_now hw).trans (congrArg takeTurns (lineEvent_fwd hl hd hg ha hn))),
   fun e d hf hd hop hk hev hw =>
    next_congr ((inTurn_now hw).trans (congrArg takeTurns (wmLaneFire_event hf hd hop hk hev))),
   fun e h => if_pos h,
   fun e hf hop _ hev hs hw => next_congr ((inTurn_now hw).trans (congrArg takeTurns (wmStFire_quiet hf hop hev hs))),
   fun p e v he hv => by
    subst he
    refine ⟨fun h => doWrite_command h (takesNumber_waymarkWindow (sub := 4) (by decide) hv) (command_waymarkAct ..),
      fun hb h => ?_⟩
    show doWrite p (okey 0x2140 3) (setBit v 31) [] s = _
    rw [setBit_of_bit hb]
    refine doWrite_command h (takesNumber_waymarkWindow (sub := 3) (by decide) hv) ((command_waymarkCtrl ..).trans ?_)
    unfold wmCtrlWrite
    dsimp only
    rw [if_pos hb]
    rfl,
   fun start h hh => next_congr (pairMinEnd_due hh),
   fun p =>
    ⟨fun h => doWrite_command (n := 1) h (by decide) (command_waymarkCommand ..),
     fun h => doWrite_command (n := 2) h (by decide) (command_waymarkCommand ..),
     fun bs hd he hj => next_congr (domWriteWhole_opened hd he hj (by decide))⟩,
   fun c hm hr hn => next_congr (encIndex_first hl hm hr hn),
   fun p c h => doWrite_value (n := 1) h (takesNumber_rehomeReq c) (keptPlainly_rehomeReq c) (command_rehomeReq ..)
      (effect_rehomeReq ..)⟩

end Sys2Proof.Machine
end

section
/-!
PROOF. The Timer Unit: every command completes (R91–R105).
-/

namespace Sys2Proof.Machine

open Sys2Proof

/-! Compares, wraps and parks in their turn (R91–R94). -/

theorem tcMatchATurn_hit {s : State} {c : Fin 32} (h : tcHitA s c = true) (hn : s.tu.tcs[c].aSt ≠ some (now s)) :
    tcMatchATurn s c = tcDoA s c := by
  simp [tcMatchATurn, h, hn, -Fin.getElem_fin]

theorem tcMatchBTurn_hit {s : State} {c : Fin 32} (h : tcHitB s c = true) (hn : s.tu.tcs[c].bSt ≠ some (now s)) :
    tcMatchBTurn s c = tcDoB s c := by
  simp [tcMatchBTurn, h, hn, -Fin.getElem_fin]

theorem tcWrapTurn_due {s : State} {c : Fin 32} (h : tcWrapDue s c = true) : tcWrapTurn s c = tcDoWrap s c := if_pos h

theorem tcParkTurn_due {s : State} {c : Fin 32} (h : s.tu.tcs[c].parkDue = true) : tcParkTurn s c = tcPark s c := if_pos h

theorem tcHitW_of_wrapDue {s : State} {c : Fin 32} (h : tcWrapDue s c = true) : tcHitW s c = true := by
  unfold tcHitW
  rw [h]
  rfl

/-- The conditions of a wrap's cycle hold its own. -/
theorem tcConds_wrap {s : State} {c : Fin 32} (h : tcWrapDue s c = true) : tcConds s c ||| 4 = tcConds s c := by
  unfold tcConds
  rw [tcHitW_of_wrapDue h]
  cases tcHitA s c <;> cases tcHitB s c <;> rfl

theorem tcDoWrap_due {s : State} {c : Fin 32} (h : tcWrapDue s c = true) :
    tcDoWrap s c = tcTrigger (tcEvent (tcConds s c) (modTc s c (fun x =>
      { x with frame := x.preF, cmpA := x.preA, cmpB := x.preB, wr := true, ovr := x.ovr || x.wr,
               frames := (if x.opened then inc32 x.frames else x.frames), opened := true, wrapSt := some (now s) })) c) c 3 := by
  unfold tcDoWrap
  rw [tcConds_wrap h]
  rfl

/-- A command of a timer channel that has its turn. -/
theorem next_inTurn {s u : State} {c : Instr} (hl : controlLive s = true) (hw : turnWaits s c = false) (h : runTurn s c = u) :
    doLive true (fun s => inTurn s c) s = .next (finish s (takeTurns u)) :=
  next_live hl rfl ((inTurn_now hw).trans (congrArg takeTurns h))

theorem captureAccept_fell {s : State} {m : Fin 8} (hl : controlLive s = true) (hen : capCfg s m 1 = 1)
    (hmay : capMay s m = true) (hnew : s.tu.caps[m].level = true) (hedge : capCfg s m 3 = 1) :
    exec (.captureAccept m false) s = .next (finish s (levelTaken (pinShows s (capCfg s m 2) false) m false)) := by
  rw [exec_captureAccept_shown hl hen hmay (by rw [hnew]; decide), capAccept_unselected (s := pinShows s _ _) (lvl := false) hedge]

theorem timersComplete : Claims.TimersComplete := fun s hl =>
  ⟨fun _ hr =>
    ⟨fun h hn => next_inTurn hl hr (tcMatchATurn_hit h hn),
     fun h hn => next_inTurn hl hr (tcMatchBTurn_hit h hn),
     fun h => next_inTurn hl hr ((tcWrapTurn_due h).trans (tcDoWrap_due h)),
     fun h => next_inTurn hl hr (tcParkTurn_due h)⟩,
   fun _ h => exec_trigDeliver_due hl h,
   fun pin c h hstood => ⟨gioReleased s pin c, exec_gioContention_stood hl h hstood, rfl⟩,
   fun _ hen hmay hnew hedge => captureAccept_fell hl hen hmay hnew hedge,
   exec_debugHalt_running hl,
   exec_debugResume_halted hl,
   fun _ _ _ hv h => exec_flagsW1cWrite_cap hv h⟩

end Sys2Proof.Machine
end

section
/-!
PROOF. Heads, dot energy and the resistance measurement: every command completes (R112–R161).
-/

namespace Sys2Proof.Machine

open Sys2Proof

/-- What both branches leave, a choice between them leaves. -/
theorem ite_keeps {β : Type} {c : Prop} [Decidable c] {a b : State} {x : β} (φ : State → β) (ha : φ a = x) (hb : φ b = x) :
    φ (if c then a else b) = x := by
  split <;> assumption

/-- A change matters for the element it is of. -/
theorem upd_congr {α : Type} {n : Nat} {v : Vector α n} {i : Fin n} {f g : α → α} (h : f v[i] = g v[i]) : upd v i f = upd v i g :=
  congrArg (fun x => v.set i.val x i.isLt) h

theorem modHead_same (s : State) (h : Fin 2) (f : HeadSt → HeadSt) : (modHead s h f).heads[h] = f s.heads[h] := upd_same _ h f

theorem modVl_same (s : State) (h : Fin 2) (f : VhLoopSt → VhLoopSt) : (modVl s h f).vl[h] = f s.vl[h] := upd_same _ h f

/-! Identification, lines and their trains (R112–R124). -/

theorem headIdCheck_none {s : State} {h : Fin 2} {r : Nat} (hr : sysReads s = true) (hk : headCfg s h 1 = 0) :
    headIdCheck s h r = modHead s h (fun x => { x with rId := wrap 32 r }) := by
  simp [headIdCheck, hr, hk]

theorem commitTrain_open {s : State} {h : Fin 2} {t : Train} (ht : s.heads[h].train = some t) (hc : t.committed = false) :
    commitTrain s h = commitLine (modHead s h (fun x => { x with
      train := some { t with committed := true, splits := 0, splitEv := decide (0 < t.splits), cutBy := none } })) h t := by
  simp [commitTrain, ht, hc, -Fin.getElem_fin]

theorem lineCommit_due {s : State} {h : Fin 2} {t : Train} (ht : s.heads[h].train = some t) (hc : t.committed = false)
    (hi : t.issues ≠ []) (hs : t.firstStb ≤ now s) (hf : s.en[h].thermFault = false) (hh : strobesHeld s h = false) :
    lineCommit s h = rehearse (commitLine (modHead s h (fun x => { x with
      train := some { t with committed := true, splits := 0, splitEv := decide (0 < t.splits), cutBy := none } })) h t) h := by
  unfold lineCommit
  rw [ht]
  dsimp only
  rw [if_neg (by simp [hc, hi, hs]), if_neg (Bool.eq_false_iff.mp hf), if_neg (by simp [hh]), commitTrain_open ht hc]

theorem sliceTrainEnd_over {s : State} {h : Fin 2} {t : Train} (ht : s.heads[h].train = some t) (hc : t.committed = true)
    (htd : t.todo = []) (hi : t.issues ≠ []) (he : issuesEnd t.issues (now s) ≤ now s) :
    sliceTrainEnd s h = endTrain s h t (issuesEnd t.issues (now s)) := by
  unfold sliceTrainEnd
  rw [ht]
  exact if_neg (by simp [trainRuns, hc, htd, hi, he])

theorem command_rasterFlush (s : State) (p : Path) (seen : List Nat) :
    command s p (okey 0x2320 8) 1 seen = some (rasterFlush s 0, 0) := rfl

/-! A latch prepared again (R137). -/

theorem loadReg_train (s : State) (h : Fin 2) (m : Nat) : (loadReg s h m).heads[h].train = s.heads[h].train := by
  unfold loadReg
  split
  · rfl
  · rw [modHead_same]

theorem preload_train (s : State) (h : Fin 2) : (preload s h).heads[h].train = s.heads[h].train := by
  unfold preload
  refine ite_keeps (·.heads[h].train) rfl ?_
  split
  · split
    · exact loadReg_train ..
    · rfl
  · rfl

/-- A train with a slice left to issue is the head's train, for the same line. -/
theorem latchSlot_train {s : State} {h : Fin 2} {t : Train} (ht : t.todo ≠ []) :
    ∃ u : Train, (latchSlot s h t).heads[h].train = some u ∧ u.rsn = t.rsn := by
  obtain ⟨x, r, hx⟩ := List.exists_cons_of_ne_nil ht
  unfold latchSlot
  rw [hx]
  dsimp only
  split <;> [rw [loadReg_train]; rw [preload_train]] <;> rw [modHead_same] <;> refine ⟨_, rfl, ?_⟩ <;> split <;> rfl

theorem recomputeDue_within {s : State} {h : Fin 2} {r : Recompute} (hr : s.heads[h].recomp = some r)
    (hf : recomputeFrom s h r ≤ now s) (ht : now s ≤ r.startSt + 8000) : recomputeDue s h = true := by
  simp [recomputeDue, hr, hf, ht, -Fin.getElem_fin]

theorem recomputeLatch_idle {s : State} {h : Fin 2} {r : Recompute} (hr : s.heads[h].recomp = some r)
    (ht : s.heads[h].train = none) (hl : lcSlots r.lc ≠ []) : ∃ (t : Train) (v : State),
    recomputeLatch s h = rehearseAgain v h r.vh ∧ v.heads[h].train = some t ∧ t.rsn = r.rsn := by
  unfold recomputeLatch
  rw [hr, ht]
  dsimp only
  obtain ⟨u, hu, hn⟩ := latchSlot_train (s := modHead s h (fun x => { x with recomp := none })) (h := h)
    (t := makeTrain (Fin.ofNat 64 r.entry) r.rsn r.index r.dir r.lc r.elig r.vh r.period (some (r.failed, now s - r.startSt)) (now s))
    hl
  exact ⟨u, _, rfl, hu, hn⟩

/-! Temperature and the model (R139–R148). -/

theorem thermRead_good {s : State} {h : Fin 2} {code : Nat} (hlo : 16 ≤ code) (hhi : code ≤ 4080)
    (hf : s.en[h].thermFault = false) :
    thermRead s h code = modEn s h (fun e => { e with tTherm := thermConvert s h code, thermGood := 0, thermFault := false }) := by
  unfold thermRead
  rw [if_neg (by simp; omega)]
  refine congrArg (fun v => { s with en := v }) (upd_congr ?_)
  simp [hf, -Fin.getElem_fin]

theorem modelUpdate_fault {s : State} {h : Fin 2} {fired vh : Nat} (hf : s.en[h].thermFault = true) :
    modelUpdate s h fired vh = modEn s h (fun e => { e with stLast := now s }) := if_pos hf

/-! The resistance measurement (R157–R161). -/

theorem measStart_allowed {s : State} {h : Fin 2} {raws : List Nat} (ha : measAllowed s h = true) (hc : capRuns s = false) :
    measStart s h raws = (measBegin s h, 0) := by
  simp [measStart, ha, hc]

theorem command_measure (s : State) (p : Path) (h : Fin 2) (v : Nat) (seen : List Nat) :
    command s p (okey (0x2403 + 16 * h.val) 1) v seen = some (measCmd s h v seen) := by
  fin_cases h <;> rfl

theorem takesNumber_measure : ∀ (h : Fin 2) (v : Fin 3), TakesNumber (okey (0x2403 + 16 * h.val) 1) v.val := by decide

theorem measAbort_running {s : State} {h : Fin 2} {c : Nat} (hm : s.vl[h].measState = 1) :
    measAbort s h c = raise (modVl s h (fun v => { v with measState := 3, measDot := measDotNow s h })) 172 (headBit h + c)
      (measDotNow s h) := if_pos hm

theorem measDone_over {s : State} {h : Fin 2} {dvs : List Nat} (hm : measOver s h = true) :
    (measDone s h dvs).vl[h].measState = 2 ∧ (measDone s h dvs).vl[h].measDot = headDots s h - 1 := by
  unfold measDone
  rw [if_neg (by simp [hm])]
  constructor
  · refine ite_keeps (·.vl[h].measState) ?_ ?_ <;> simp only [raise_vl, modVl_same]
  · refine ite_keeps (·.vl[h].measDot) ?_ ?_ <;> simp only [raise_vl, modVl_same]

theorem headsComplete : Claims.HeadsComplete := fun s h hl =>
  ⟨fun _ hr hk => next_live hl rfl (headIdCheck_none hr hk),
   fun t ht hc hi hs hf hh => next_live hl rfl (lineCommit_due ht hc hi hs hf hh),
   fun t ht hc htd hi he => next_live hl rfl (sliceTrainEnd_over ht hc htd hi he),
   fun p hp => doWrite_command (n := 1) hp (by decide) (command_rasterFlush ..),
   fun r hr hf hs ht hls => by
    obtain ⟨t, v, hv, htr, hn⟩ := recomputeLatch_idle hr ht hls
    exact ⟨t, v, next_live hl (recomputeDue_within hr hf hs) (congrArg (govRecompute · h) hv), htr, hn⟩,
   fun code hr hlo hhi hf => next_live hl hr (thermRead_good hlo hhi hf),
   fun ht hs hf => next_live hl (by simp [ht, hs, -Fin.getElem_fin]) (modelUpdate_fault hf),
   fun p raws hp ha hc =>
    doWrite_command (n := 1) hp (takesNumber_measure h 1) ((command_measure ..).trans (congrArg some (measStart_allowed ha hc))),
   fun p hp hm =>
    doWrite_command (n := 2) hp (takesNumber_measure h 2)
      ((command_measure ..).trans (congrArg (fun u => some (u, 0)) (measAbort_running (s := touch s p) hm))),
   fun dvs hm ho => ⟨measDone s h dvs, next_live hl rfl rfl, measDone_over (by simp [measOver, hm, ho, -Fin.getElem_fin])⟩⟩

end Sys2Proof.Machine
end

section
/-!
PROOF. Media, paper supply and the cutter: every command completes (R169–R193).
-/

namespace Sys2Proof.Machine

open Sys2Proof

/-! Samples, indexes and the reserve (R169–R181). -/

theorem mediaSample_crossed {s : State} {codes : List Nat} (hleds : ledsOn s = true) (hr : sysReads s = true)
    (hg : gridCrossed s ≠ []) (hn : s.media.sampleSt ≠ some (now s)) :
    mediaSample s codes = applyAll (gridSample codes) (modMedia s (fun m => { m with sampleSt := some (now s) }))
      ((upto (gridCrossed s).length).zip (gridCrossed s)) := by
  unfold mediaSample
  exact if_neg (by simp [hleds, hr, hg, hn])

theorem labelMissing_within {s : State} (h : ((inc8 s.media.missingRun : Nat) : Int) ≤ mediaCfg s 16) :
    labelMissing s = cutAuto (raise (modMedia s (fun m =>
      { m with missingRun := inc8 m.missingRun, missingCount := inc16 m.missingCount, xLast := mediaExpected s }))
      210 (w32 (mediaExpected s)) (inc8 s.media.missingRun)) :=
  if_pos h

theorem supplySampleStopped_first {s : State} {codes : List Nat} (hleds : ledsOn s = true) (hr : sysReads s = true)
    (hst : laneStopped s (mediaLane s) = true) (hn : s.supply.stoppedSt = none) :
    supplySampleStopped s codes =
      applyAll (stoppedChannel codes) { s with supply := { s.supply with stoppedSt := some (now s) } } (allFin 8) := by
  unfold supplySampleStopped
  rw [hn]
  exact if_pos (by simp [hleds, hr, hst])

theorem reserveCheck_reached {s : State} {q : Int} (hq : s.supply.reserveFrom = some q)
    (h : q + obj s 0x2510 7 ≤ s.msu.lanes[mediaLane s].pos ∨ laneStopped s (mediaLane s) = true) :
    reserveCheck s = mediaHalt { s with supply := { s.supply with reserveFrom := none } } 3 := by
  unfold reserveCheck
  rw [hq]
  exact if_pos (by rcases h with h | h <;> simp [h, -Fin.getElem_fin])

theorem command_govRelease (s : State) (p : Path) (g : Fin 2) (seen : List Nat) :
    command s p (okey (0x2520 + 8 * g.val) 5) 1 seen = some (govRelease s g, 0) := by
  fin_cases g <;> rfl

theorem takesNumber_govRelease : ∀ g : Fin 2, TakesNumber (okey (0x2520 + 8 * g.val) 5) 1 := by decide

/-! Requests of the cutter (R182, R189). -/

theorem cutHere_ready {s : State} {kind : Nat} (hr : inRun s = true) (hd : s.msu.lanes[mediaLane s].dir ≠ .rev)
    (hs : s.cut.state = 0) (hp : s.cut.phase = .idle) :
    cutHere s kind 0 = modCut s (cutStart ⟨kind, s.msu.lanes[mediaLane s].pos⟩) := by
  unfold cutHere cutRequest
  rw [Int.add_zero]
  simp [hr, hd, hs, hp, -Fin.getElem_fin]

theorem command_cutCmd (s : State) (p : Path) (v : Nat) (seen : List Nat) :
    command s p (okey 0x2541 2) v seen = some (cutCmd s v, 0) := rfl

theorem command_cutClear (s : State) (p : Path) (seen : List Nat) :
    command s p (okey 0x2541 3) 1 seen = some (cutClearCmd s (decide (seen.getD 0 0 ≠ 0))) := rfl

theorem cutHome_away {s : State} (h : s.cut.homeSw = false) :
    cutHome s = modCut s (fun c =>
      { c with state := 6, phase := .homing, phaseSt := now s, active := none, stopSet := false, attempt := 0 }) :=
  if_neg (by simp [h])

theorem cutHomeCmd_ready {s : State} (hr : inRun s = true) (hc : outputCut s = false) (ht : s.cut.tripped = false)
    (hp : s.cut.phase = .idle) : cutHomeCmd s = cutHome s := by
  simp [cutHomeCmd, hr, hc, ht, hp]

theorem cutClearCmd_away {s : State} (hr : inRun s = true) (hc : outputCut s = false) (hh : s.cut.homeSw = false) :
    cutClearCmd s false = (modCut s (fun c => { c with
      tripped := false, state := 6, phase := .homing, phaseSt := now s, active := none, stopSet := false, attempt := 0 }), 0) := by
  have hr' : inRun (modCut s (fun c => { c with tripped := false })) = true := hr
  unfold cutClearCmd cutClear
  rw [if_neg (by simp [hc])]
  dsimp only
  rw [if_pos hr', cutHome_away (s := modCut s (fun c => { c with tripped := false })) hh]
  rfl

/-! The drives of a cycle (R184–R192). -/

theorem cutDrive_atStop {s : State} {c : CutReq} (ha : s.cut.active = some c) (hp : s.cut.phase = .waiting)
    (hs : cutAtStop s c = true) (hl : s.msu.lanes[mediaLane s].pos ≤ c.stop) :
    cutDrive s = modCut s (fun x =>
      { x with state := 2, phase := .forward, phaseSt := now s, cycleSt := now s, homeSw := false }) := by
  unfold cutDrive
  rw [ha]
  dsimp only
  rw [if_pos (by simp [hp, hs]), if_neg (Int.not_lt.mpr hl)]

theorem cutPartialEnd_due {s : State} {c : CutReq} (ha : s.cut.active = some c) (hp : s.cut.phase = .forward)
    (hk : c.kind = 2) (ht : objN s 0x2540 7 ≤ now s - s.cut.phaseSt) : cutPartialEnd s = cutBrake true s := by
  unfold cutPartialEnd
  rw [ha]
  exact if_pos (by rw [decide_eq_true (show cutCfg s 7 ≤ _ from ht)]; simp [hp, hk])

theorem cutReverse_due {s : State} (hp : s.cut.phase = .braking) (ht : objN s 0x2540 8 ≤ now s - s.cut.phaseSt) :
    cutReverse s = modCut s (fun x => { x with phase := .returning, phaseSt := now s }) :=
  if_pos (by rw [decide_eq_true (show cutCfg s 8 ≤ _ from ht)]; simp [hp])

theorem cutHomeReached_returned {s : State} {c : CutReq} (ha : s.cut.active = some c) (hp : s.cut.phase = .returning)
    (hf : s.cut.forwardOk = true) : cutHomeReached s = modCut s (fun x =>
      { x with state := 0, stopSet := false, phase := .finalBrake, phaseSt := now s, homeSw := true }) := by
  simp [cutHomeReached, hp, ha, hf]

theorem cutNext_empty {c : CutSt} (h : c.queued = none) : cutNext c = { c with active := none, phase := .idle } := by
  unfold cutNext
  rw [h]

theorem cutDone_due {s : State} {c : CutReq} (ha : s.cut.active = some c) (hp : s.cut.phase = .finalBrake)
    (ht : objN s 0x2540 8 ≤ now s - s.cut.phaseSt) (hq : s.cut.queued = none) :
    cutDone s = raise (modCut s (fun x =>
      { x with count := inc32 x.count, lastCycle := wrap 32 (now s - s.cut.cycleSt), active := none, phase := .idle }))
      224 c.kind (wrap 32 (now s - s.cut.cycleSt)) := by
  unfold cutDone
  rw [ha]
  dsimp only
  rw [if_pos (by rw [decide_eq_true (show cutCfg s 8 ≤ _ from ht)]; simp [hp])]
  exact congrArg (fun c => raise { s with cut := c } 224 _ _) (cutNext_empty hq)

theorem cutEndTimeout_again {s : State} (hp : s.cut.phase = .forward) (ht : objN s 0x2540 5 ≤ now s - s.cut.phaseSt)
    (hn : s.cut.attempt < objN s 0x2540 9) : cutEndTimeout s = cutBrake false s := by
  unfold cutEndTimeout
  rw [if_pos (by rw [decide_eq_true (show cutCfg s 5 ≤ _ from ht)]; simp [hp])]
  exact if_pos hn

theorem cutHomeTimeout_due {s : State} (hp : s.cut.phase = .returning ∨ s.cut.phase = .homing)
    (ht : objN s 0x2540 6 ≤ now s - s.cut.phaseSt) :
    cutHomeTimeout s = mediaHalt (raise (modCut s (cutEnd 5)) 226 (s.cut.attempt + 1) (objN s 0x2540 6)) 5 :=
  if_pos (by rw [decide_eq_true (show cutCfg s 6 ≤ _ from ht)]; simp [hp])

theorem cutShort_driven {s : State} (h : cutDriven s.cut = true) :
    cutShort s = mediaHalt (raise (modCut s (fun x => { cutEnd 5 x with tripped := true })) 227 s.cut.state 0) 5 := if_pos h

theorem mediaComplete : Claims.MediaComplete := fun s hl =>
  ⟨fun codes hleds hr hg hn => next_live hl rfl (mediaSample_crossed hleds hr hg hn),
   fun hp h => next_live hl hp (labelMissing_within h),
   fun codes hleds hr hst hn => next_live hl rfl (supplySampleStopped_first hleds hr hst hn),
   fun q hq h => next_live hl rfl (reserveCheck_reached hq h),
   fun p g hp => doWrite_command (n := 1) hp (takesNumber_govRelease g) (command_govRelease ..),
   fun p hr hd =>
    ⟨fun h hs hph => doWrite_command (n := 1) h (by decide)
      ((command_cutCmd ..).trans (congrArg (fun u => some (u, 0)) (cutHere_ready (s := touch s p) hr hd hs hph))),
     fun h hs hph => doWrite_command (n := 2) h (by decide)
      ((command_cutCmd ..).trans (congrArg (fun u => some (u, 0)) (cutHere_ready (s := touch s p) hr hd hs hph))),
     fun h hc ht hph hh => doWrite_command (n := 3) h (by decide)
      ((command_cutCmd ..).trans (congrArg (fun u => some (u, 0))
        ((cutHomeCmd_ready (s := touch s p) hr hc ht hph).trans (cutHome_away (s := touch s p) hh)))),
     fun h hc hh => doWrite_command (n := 1) h (by decide)
      ((command_cutClear ..).trans (congrArg some (cutClearCmd_away (s := touch s p) hr hc hh)))⟩,
   fun c ha =>
    ⟨fun hp hs hle => next_live hl rfl (cutDrive_atStop ha hp hs hle),
     fun hp => next_live hl rfl (if_pos hp),
     fun hp hk ht => next_live hl rfl (cutPartialEnd_due ha hp hk ht),
     fun hp ht => next_live hl rfl (cutReverse_due hp ht),
     fun hp hf => next_live hl rfl (cutHomeReached_returned ha hp hf),
     fun hp ht hq => next_live hl rfl (cutDone_due ha hp ht hq)⟩,
   fun hp ht hn => next_live hl rfl (cutEndTimeout_again hp ht hn),
   fun hp ht => next_live hl rfl (cutHomeTimeout_due hp ht),
   fun h => next_live hl rfl (cutShort_driven h)⟩

end Sys2Proof.Machine
end

section
/-!
PROOF. Axes, servo boundaries and document imaging: every command completes (R199–R255).
-/

namespace Sys2Proof.Machine

open Sys2Proof

/-! Servo boundaries and axes (R199–R228). -/

theorem dueAfter_of_forall {last : Option ST} {n : Nat} {t : ST} (h : ∀ u, last = some u → u + n ≤ t) :
    dueAfter last n t = true := by
  cases last with
  | none => rfl
  | some u => exact decide_eq_true (h u rfl)

theorem axDeliver_idle {s : State} {n : Fin 4} {c : AxCmd} {wm : Bool} (h : s.axes[n].pend = none) :
    axDeliver s n c wm = modAxis s n (fun x => { x with pend := some c, pendSt := now s, pendWm := wm }) :=
  congrArg (fun v => { s with axes := v }) (upd_congr (by simp [h, -Fin.getElem_fin]))

theorem regChangeover_met {s : State} {n : Fin 4} {met : Bool} (h : s.axes[n].regAt = some met)
    (hm : met = true ∨ reach128 s.axes[n].sp0 (axisMicrostep s n) = true) :
    regChangeover s n = modAxis s n (fun x => { x with strong := !x.strong, regAt := none }) := by
  unfold regChangeover
  rw [h]
  exact if_pos (by rcases hm with hm | hm <;> simp [hm, -Fin.getElem_fin])

theorem axStandstill_due {s : State} {n : Fin 4} {t : ST} (h : s.axes[n].restSt = some t) (he : axEnergised s n = true)
    (ht : t + axCfgN s n 0 12 ≤ now s) : axStandstill s n = modAxis s n (enterStill s n) := by
  unfold axStandstill
  rw [h]
  exact if_pos (by rw [he, decide_eq_true ht]; rfl)

theorem command_axClear (s : State) (p : Path) (n : Fin 4) :
    command s p (okey (0x2608 + n.val) 5) 1 [] = some (axClear s n, 0) := by
  fin_cases n <;> rfl

theorem takesNumber_axClear : ∀ n : Fin 4, TakesNumber (okey (0x2608 + n.val) 5) 1 := by decide

theorem axOpenLoad_seen {s : State} {n : Fin 4} {phase : Nat} (he : axEnergised s n = true) (hs : s.axes[n].strong = true)
    (ho : s.axes[n].openLoad = false) (hp : axPeak s n < 4 * (coilTarget s n (Fin.ofNat 2 phase)).natAbs) :
    axOpenLoad s n phase = raise (modAxis s n (fun x => { x with openLoad := true })) 250 (n.val + 256 * phase) (axPeak s n) :=
  if_pos (by rw [he, hs, ho, decide_eq_true hp]; rfl)

/-! Images (R237–R248). -/

theorem imgTrainEnd_over {s : State} {p : Fin 2} {raw : List (List Nat)} {t : ImgTrain} {r : List ImgTrain} {f : ST}
    (h : s.img.ports[p].trains = t :: r) (hf : t.fin = some f) (hn : f ≤ now s) :
    imgTrainEnd s p raw =
      applyAll (processLine raw p) (modPort s p (fun o => { o with trains := r, lastTrain := f - t.start })) t.lines := by
  unfold imgTrainEnd
  rw [h]
  dsimp only
  rw [hf]
  exact if_neg (Nat.not_lt.mpr hn)

theorem trigger_open {s : State} {p : Fin 2} {d : ImgDoc} {reason : Nat} (h : s.img.ports[p].cur = some d)
    (he : d.ending = false) : trigger s p reason = modPort s p (fun x => { x with trig := firstReason reason x.trig }) := by
  unfold trigger
  rw [h]
  exact if_neg (by simp [he])

theorem withdrawn_back {s : State} {p : Fin 2} {d : ImgDoc} {q : Int} (h : s.img.ports[p].cur = some d) (hq : d.p0 = some q)
    (he : d.ending = false) (hn : s.msu.lanes[Fin.ofNat 4 (imgCfg s p 4 / 4)].dir ≠ .none)
    (hd : s.msu.lanes[Fin.ofNat 4 (imgCfg s p 4 / 4)].dir ≠ d.dir)
    (hb : docSign d * (s.msu.lanes[Fin.ofNat 4 (imgCfg s p 4 / 4)].pos - q) < 0) :
    withdrawn s p = modPort s p (fun x => { x with trig := firstReason 2 x.trig }) := by
  unfold withdrawn
  rw [h]
  dsimp only
  rw [hq]
  dsimp only
  rw [if_pos (by rw [decide_eq_true hn, decide_eq_true hd, decide_eq_true hb]; rfl), trigger_open h he]

theorem lineFinal_open {s : State} {p : Fin 2} {d : ImgDoc} (h : s.img.ports[p].cur = some d) :
    lineFinal s p = modPort s p (fun x => { x with finalReq := true }) := by
  unfold lineFinal
  rw [h]
  rfl

theorem docEnd_over {s : State} {p : Fin 2} {d : ImgDoc} (h : s.img.ports[p].cur = some d) (he : d.ending = true)
    (ht : s.img.ports[p].trains = []) : docEnd s p = modPort s p (fun x => { x with endReq := true }) := by
  unfold docEnd
  rw [h, ht]
  dsimp only
  rw [he]
  rfl

/-! Calibration (R253–R255). -/

theorem command_calibrate (s : State) (p : Path) (i : Fin 2) (v : Nat) (seen : List Nat) :
    command s p (okey (0x2704 + 16 * i.val) 4) v seen = some (calCmd s i v) := by
  fin_cases i <;> rfl

theorem takesNumber_calibrate : ∀ (i : Fin 2) (v : Fin 5), TakesNumber (okey (0x2704 + 16 * i.val) 4) v.val := by decide

theorem calCmd_ready {s : State} {i : Fin 2} {v : Nat}
    (h : (inRun s && !(jobsOfKind s (i.val + 3)).any (fun e => jobLive s.ledger.jobs[e])) = true) :
    calCmd s i v = (calStart s i v, 0) :=
  if_neg (by rw [h]; simp)

theorem calCmd_document {s : State} {i : Fin 2} {v : Nat} (hv : 2 < v) : calCmd s i v = (calStart s i v, 0) :=
  if_neg (by simp; omega)

theorem capturing_of {s : State} {i : Fin 2} (hs : s.img.ports[i].calState = 1)
    (hc : s.img.ports[i].calCmd = 1 ∨ s.img.ports[i].calCmd = 2) : capturing s i = true := by
  rcases hc with hc | hc <;> simp [capturing, hs, hc, -Fin.getElem_fin]

theorem modPort_modPort (s : State) (i : Fin 2) (f g : ImgPort → ImgPort) :
    modPort (modPort s i f) i g = modPort s i (fun x => g (f x)) := by
  simp only [modPort, upd_upd]

theorem calLine_first {s : State} {i : Fin 2} {raw : List (List Nat)} (hc : capturing s i = true) (hr : inRun s = true)
    (ht : s.img.ports[i].calAt ≤ now s) (ht' : now s < s.img.ports[i].calAt + 40000) (hl : 1 < s.img.ports[i].calLeft)
    (hs : s.img.ports[i].calSum = []) :
    calLine s i raw = modPort s i (fun o =>
      { o with calLeft := o.calLeft - 1, calSum := raw.map (nativeRow s i), calAt := o.calAt + 40000,
               lit := litFrom s i s.img.ports[i].calSlots (slotTimes s i) }) := by
  unfold calLine
  dsimp only
  rw [if_neg (by rw [hc, hr, decide_eq_false (Nat.not_lt.mpr ht)]; simp), if_pos hl, modPort_modPort, hs]
  refine congrArg (fun v => { s with img := { s.img with ports := v } }) (upd_congr ?_)
  dsimp only
  rw [if_neg (Nat.not_le.mpr ht')]

theorem axesAndImagesComplete : Claims.AxesAndImagesComplete := fun s hl =>
  ⟨fun rails i p hn hd => next_live hl (by rw [decide_eq_true hn, dueAfter_of_forall hd]; rfl) rfl,
   fun n h => ⟨next_live hl rfl (axDeliver_idle h), next_live hl rfl (axDeliver_idle h), next_live hl rfl (axDeliver_idle h),
    next_live hl rfl (axDeliver_idle h)⟩,
   fun n met h hm => next_live hl rfl (regChangeover_met h hm),
   fun n t h he ht => next_live hl rfl (axStandstill_due h he ht),
   fun n phase kind h => next_live hl rfl (if_pos h),
   fun n p h => doWrite_command (n := 1) h (takesNumber_axClear n) (command_axClear ..),
   fun n phase he hs ho hp => next_live hl rfl (axOpenLoad_seen he hs ho hp),
   fun values h => next_live hl rfl (if_pos h),
   fun p raw t r f h hf hn => next_live hl rfl (imgTrainEnd_over h hf hn),
   fun p d h =>
    ⟨fun q hq he hn hd hb => next_live hl rfl (withdrawn_back h hq he hn hd hb),
     next_live hl rfl (lineFinal_open h),
     fun he ht => next_live hl rfl (docEnd_over h he ht)⟩,
   fun i p =>
    ⟨fun hr =>
      ⟨fun h => doWrite_command (n := 1) h (takesNumber_calibrate i 1)
        ((command_calibrate ..).trans (congrArg some (calCmd_ready (s := touch s p) hr))),
       fun h => doWrite_command (n := 2) h (takesNumber_calibrate i 2)
        ((command_calibrate ..).trans (congrArg some (calCmd_ready (s := touch s p) hr)))⟩,
     fun h => doWrite_command (n := 3) h (takesNumber_calibrate i 3)
        ((command_calibrate ..).trans (congrArg some (calCmd_document (by decide)))),
     fun h => doWrite_command (n := 4) h (takesNumber_calibrate i 4)
        ((command_calibrate ..).trans (congrArg some (calCmd_document (by decide))))⟩,
   fun i raw hs hc hr ht ht' hle hsum => next_live hl rfl (calLine_first (capturing_of hs hc) hr ht ht' hle hsum)⟩

end Sys2Proof.Machine
end

section
/-!
PROOF. Solenoids: every command completes (R268–R289).
-/

namespace Sys2Proof.Machine

open Sys2Proof

/-- An object of unsigned numbers of `b` bytes outside the Commit Gate, the claims and the stored set, that takes them at once. -/
abbrev TakesUnsigned (k b : Nat) : Prop :=
  clsOf k ≠ .staged ∧ (plainKey k ∧ k ≠ okey 0x1010 1 ∧ k ≠ okey 0x1011 1) ∧
    (objRow k).map (fun r => (r.ty.signed, r.ty.bytes)) = some (false, b)

theorem TakesUnsigned.number {k b n : Nat} (h : TakesUnsigned k b) (hn : n < 2 ^ (8 * b)) : TakesNumber k n :=
  ⟨h.1, h.2.1, dataValue_unsigned h.2.2 hn⟩

theorem objK_setObjK (s : State) (k : Nat) (v : Int) : objK (setObjK s k v) k = v := SMap.get_put_same ..

theorem modSol_same (s : State) (c : Fin 8) (f : SolSt → SolSt) : (modSol s c f).sols[c] = f s.sols[c] := upd_same _ c f

theorem modSol_other {s : State} {c d : Fin 8} (f : SolSt → SolSt) (h : c ≠ d) : (modSol s c f).sols[d] = s.sols[d] :=
  upd_other _ c d f h

theorem modSol_modSol (s : State) (c : Fin 8) (f g : SolSt → SolSt) : modSol (modSol s c f) c g = modSol s c (fun x => g (f x)) := by
  simp only [modSol, upd_upd]

/-- A change of a channel matters for what the channel is. -/
theorem modSol_congr {s : State} {c : Fin 8} {f g : SolSt → SolSt} (h : f s.sols[c] = g s.sols[c]) : modSol s c f = modSol s c g :=
  congrArg (fun v => { s with sols := v }) (upd_congr h)

/-! Writes (R270, R286, R289). -/

theorem command_solCmd (s : State) (p : Path) (v : Nat) (seen : List Nat) :
    command s p (okey 0x2838 1) v seen = some (solCmd s v, 0) := rfl

theorem command_solClear (s : State) (p : Path) (v : Nat) (seen : List Nat) :
    command s p (okey 0x2838 2) v seen = some (solClear s v, 0) := rfl

theorem command_bankClear {s : State} {p : Path} {v low : Nat} (h : ∀ b : Fin 2, (bit v b.val && bit low b.val) = false) :
    command s p (okey 0x2838 3) v [low] = some (bankClear s v, 0) := by
  have hall : ((upto 2).any fun b => bit v b && bit low b) = false :=
    List.any_eq_false.mpr fun b hb => by
      have hlt : b < 2 := List.mem_range.mp hb
      simp [h ⟨b, hlt⟩]
  show some (if ((upto 2).any fun b => bit v b && bit low b) = true then (s, 0x23) else (bankClear s v, 0)) = _
  rw [hall]
  rfl

theorem command_rColdNom (s : State) (p : Path) (c : Fin 8) (v : Nat) (seen : List Nat) :
    command s p (okey (0x2810 + c.val) 1) v seen = none := by
  fin_cases c <;> rfl

theorem effect_rColdNom (before s : State) (c : Fin 8) (v : Int) :
    effect before s (okey (0x2810 + c.val) 1) v = rLearnReset s c := by
  fin_cases c <;> rfl

theorem takesUnsigned_rColdNom : ∀ c : Fin 8, TakesUnsigned (okey (0x2810 + c.val) 1) 4 := by decide

theorem keptPlainly_rColdNom : ∀ c : Fin 8, KeptPlainly (okey (0x2810 + c.val) 1) := by decide

theorem rLearnReset_written (s : State) (c : Fin 8) (v : Nat) :
    (rLearnReset (setObjK s (okey (0x2810 + c.val) 1) v) c).sols[c].rLearn = v := by
  unfold rLearnReset
  rw [modSol_same]
  show (objK (setObjK s (okey (0x2810 + c.val) 1) v) (okey (0x2810 + c.val) 1)).toNat = v
  rw [objK_setObjK]
  rfl

/-! Peaks and holds (R271–R277). -/

section Channel
variable {s : State} {c : Fin 8}

theorem peakReached_intime (hs : s.sols[c].state = 2) (hr : s.sols[c].reached = none)
    (hmax : now s - s.sols[c].peakSt ≤ solCfg s c 8) (hmin : solCfg s c 7 ≤ now s - s.sols[c].peakSt) :
    peakReached s c = modSol s c (fun y =>
      { y with reached := some (now s), lastTtp := now s - s.sols[c].peakSt, current := solCfg s c 2 }) := by
  unfold peakReached
  dsimp only
  rw [hr, if_neg (by rw [hs, decide_eq_false (Nat.not_lt.mpr hmax)]; simp), if_neg (Nat.not_lt.mpr hmin)]

theorem peakDwell_over {t : ST} (hs : s.sols[c].state = 2) (hr : s.sols[c].reached = some t) (ht : t + solCfg s c 3 ≤ now s) :
    peakDwell s c = enterHold s c := by
  unfold peakDwell
  dsimp only
  rw [hr]
  exact if_pos (by rw [hs, decide_eq_true ht]; rfl)

theorem ttpMax_slow {i : Nat} (hs : s.sols[c].state = 2) (hr : s.sols[c].reached = none)
    (ht : s.sols[c].peakSt + solCfg s c 8 ≤ now s) (ha : solCfg s c 9 = 0) :
    ttpMax s c i = enterHold (raise (modSol s c (fun y =>
      { y with ttpSlow := true, lastTtp := solCfg s c 8, current := i })) 354 c.val i) c := by
  unfold ttpMax
  dsimp only
  rw [hr, if_neg (by rw [hs, decide_eq_false (Nat.not_lt.mpr ht)]; simp), if_neg (by rw [ha]; decide)]

theorem peakTimeout_due {t : ST} (hq : s.banks[chBank c].queue.find? (fun q => q.2 = c) = some (t, c))
    (ht : t + objN s (0x2820 + (chBank c).val) 1 ≤ now s) :
    peakTimeout s c = boostWatch (raise (solWithdraw s c) 352 c.val (now s - t)) := by
  unfold peakTimeout
  rw [hq]
  exact if_neg (Nat.not_lt.mpr ht)

theorem holdMax_over (hs : s.sols[c].state = 3 ∨ s.sols[c].state = 4) (hm : solCfg s c 5 ≠ 0)
    (ht : s.sols[c].holdFrom + solCfg s c 5 ≤ now s) (hon : s.sols[c].onSt + 40000 ≤ now s) :
    holdMax s c = boostWatch (solDecay s c) := by
  unfold holdMax
  dsimp only
  rw [decide_eq_true ht, decide_eq_true (show s.sols[c].onSt + solMinOn ≤ now s from hon)]
  exact if_pos (by rcases hs with hs | hs <;> simp [hs, hm, -Fin.getElem_fin])

/-! Ends (R278–R282). -/

theorem pulseEnd_due {t : ST} (hp : s.sols[c].pulseOff = some t) (ht : t ≤ now s) :
    pulseEnd s c = solOffOp (modSol s c (fun x => { x with pulseOff := none })) c false := by
  unfold pulseEnd
  rw [hp]
  exact if_pos ht

theorem minOnEnd_due {t : ST} (hm : s.sols[c].minOff = some t) (ht : t ≤ now s) : minOnEnd s c = boostWatch (solEnd s c) := by
  unfold minOnEnd
  rw [hm]
  exact if_pos ht

theorem decayEnd_low {i va vb : Nat} (hs : s.sols[c].state = 5) (hi : i < 50) : ∃ u : State,
    decayEnd s c i va vb = serveBanks (setBoost u vb) ∧ u.sols[c].lastDecay = now s - s.sols[c].decaySt ∧ u.sols[c].current = i := by
  unfold decayEnd
  dsimp only
  rw [if_neg (by rw [hs, decide_eq_false (Nat.not_le.mpr hi)]; simp)]
  refine ⟨_, rfl, ?_, ?_⟩
  · exact congrArg SolSt.lastDecay (modSol_same s c _)
  · exact congrArg SolSt.current (modSol_same s c _)

/-! Supervision (R283–R289). -/

theorem boostLowOp_due {v : Nat} {t : ST} (hl : (serveBanks (setBoost s v)).boost.lowSince = some t)
    (hr : (serveBanks (setBoost s v)).boost.lowRaised = false) (ht : t + 2000000 ≤ now s) :
    boostLowOp s v = raise { serveBanks (setBoost s v) with boost :=
        { (serveBanks (setBoost s v)).boost with lowRaised := true } } 368 v
        ((serveBanks (setBoost s v)).banks[0].queue.length + 256 * (serveBanks (setBoost s v)).banks[1].queue.length) := by
  unfold boostLowOp
  dsimp only
  rw [hl]
  exact if_neg (by rw [hr, decide_eq_false (Nat.not_lt.mpr ht)]; simp)

theorem resStart_due (hs : s.sols[c].state = 3) (hw : s.sols[c].winDone = false) (hn : s.sols[c].winSt = none)
    (hb : bankHs s (chBank c) = 1) (ht : s.sols[c].holdSt + 400000 ≤ now s) :
    resStart s c = modSol s c (fun y => { y with winSt := some (now s), winBad := false, winDone := true }) := by
  unfold resStart
  dsimp only
  rw [if_pos (by rw [hs, hw, hn, hb, decide_eq_true ht]; rfl)]

theorem resEnd_discarded {t v i : Nat} (hw : s.sols[c].winSt = some t) (ht : t + 200000 ≤ now s) (hb : s.sols[c].winBad = true) :
    resEnd s c v i = modSol s c (fun y => { y with winSt := none, winBad := false }) := by
  unfold resEnd
  dsimp only
  rw [hw]
  dsimp only
  rw [if_neg (Nat.not_lt.mpr ht), if_pos (by rw [hb]; rfl)]

theorem ocTrip_retries (hs : s.sols[c].state = 3) (hn : inc8 s.sols[c].ocTrips < 4) (hc : s.sols[c].cmd = true) :
    ocTrip s c = raise (modSol s c (fun y =>
      { y with ocTrips := inc8 y.ocTrips, tripped := true, winSt := none, state := 6, retryAt := some (now s + 2000000),
               minOff := none })) 357 c.val (inc8 s.sols[c].ocTrips) := by
  unfold ocTrip
  dsimp only
  rw [if_neg (by simp [solEnergised, hs, -Fin.getElem_fin]), hs, hc, if_neg (by decide), if_neg (Nat.not_le.mpr hn),
    if_pos rfl, modSol_modSol]
  exact congrArg (raise · 357 c.val (inc8 s.sols[c].ocTrips)) (modSol_congr rfl)

theorem ocRetry_due {t : ST} (hr : s.sols[c].retryAt = some t) (hs : s.sols[c].state = 6) (ht : t ≤ now s) :
    ocRetry s c = modSol s c (fun x => { x with asks := x.asks ++ [.retry] }) := by
  unfold ocRetry
  rw [hr]
  exact if_neg (by rw [hs, decide_eq_false (Nat.not_lt.mpr ht)]; simp)

theorem shortGndOp_idle (hl : controlLive s = true) (hs : solState s c = 0) (hg : s.sols[c].shortGnd = false) :
    shortGndOp s c = bankFault (raise (modSol s c (fun x => { x with shortGnd := true })) 358
      (c.val + 256 * (chBank c).val) 0) (chBank c) 1 :=
  if_neg (by rw [hl, hs, hg]; simp)

end Channel

theorem coupledOp_energised {s : State} {x y : Fin 8} (hne : x ≠ y) (hs : s.sols[x].state = 3)
    (ht : now s ≤ s.sols[x].onSt + 20000) (hy : solState s y = 0) :
    (coupledOp s x y).sols[x].coupled = true ∧ (coupledOp s x y).sols[x].state = 7 ∧
    (coupledOp s x y).sols[y].coupled = true ∧ (coupledOp s x y).sols[y].state = 7 := by
  unfold coupledOp
  dsimp only
  rw [if_neg (by rw [decide_eq_false hne, hy, decide_eq_false (Nat.not_lt.mpr ht)]; simp [solEnergised, hs, -Fin.getElem_fin]),
    hs, if_neg (by decide)]
  simp only [raise_sols, modSol_same, modSol_other _ hne.symm, and_self]

theorem solenoidsComplete : Claims.SolenoidsComplete := fun s hl =>
  ⟨fun p mask hm =>
    ⟨fun h => doWrite_command h (TakesUnsigned.number (b := 2) (by decide) (by omega)) (command_solCmd ..),
     fun h => doWrite_command h (TakesUnsigned.number (b := 2) (by decide) (by omega)) (command_solCmd ..),
     fun h => doWrite_command h (TakesUnsigned.number (b := 2) (by decide) (by omega)) (command_solCmd ..),
     fun h => doWrite_command h (TakesUnsigned.number (b := 1) (by decide) (by omega)) (command_solClear ..)⟩,
   fun p mask low hm h hb =>
    doWrite_command h (TakesUnsigned.number (b := 1) (by decide) (by omega)) (command_bankClear hb),
   fun p c v hv h => ⟨_, doWrite_value h ((takesUnsigned_rColdNom c).number hv) (keptPlainly_rColdNom c) (command_rColdNom ..)
      (effect_rColdNom ..), rLearnReset_written .., congrArg Int.toNat (objK_setObjK ..)⟩,
   fun b v => next_live hl rfl rfl,
   fun c hs hr hmax hmin => next_live hl rfl (peakReached_intime hs hr hmax hmin),
   fun c t hs hr ht => next_live hl rfl (peakDwell_over hs hr ht),
   fun c i hs hr ht ha => next_live hl rfl (ttpMax_slow hs hr ht ha),
   fun c t hq ht => next_live hl rfl (peakTimeout_due hq ht),
   fun c hs hm ht hon => next_live hl rfl (holdMax_over hs hm ht hon),
   fun c t hp ht => next_live hl rfl (pulseEnd_due hp ht),
   fun c t hm ht => next_live hl rfl (minOnEnd_due hm ht),
   fun c i va vb hs hi => by
    obtain ⟨u, hu, hd, hc⟩ := decayEnd_low hs hi
    exact ⟨u, next_live hl rfl hu, hd, hc⟩,
   fun is h => next_live hl (by rw [h]; rfl) rfl,
   fun v => next_live hl rfl rfl,
   fun v t h hr ht => next_live hl rfl (boostLowOp_due h hr ht),
   fun i2s h => next_live hl (by rw [h]; rfl) rfl,
   fun c hs hw hn hb ht => next_live hl rfl (resStart_due hs hw hn hb ht),
   fun c t v i hw ht hb => next_live hl rfl (resEnd_discarded hw ht hb),
   fun c hs hn hc => next_live hl rfl (ocTrip_retries hs hn hc),
   fun c t hr hs ht => next_live hl rfl (ocRetry_due hr hs ht),
   fun c hs hg => next_live hl rfl (shortGndOp_idle hl hs hg),
   fun b h => next_live hl rfl (if_neg h),
   fun x y hne hs ht hy => ⟨coupledOp s x y, next_live hl rfl rfl, coupledOp_energised hne hs ht hy⟩⟩

end Sys2Proof.Machine
end

section
/-!
PROOF. The Sense Engine: every command completes (R295–R330).
-/

namespace Sys2Proof.Machine

open Sys2Proof

/-! Slices and the reference buffer (R295–R303). -/

theorem rotationDue_due {s : State} (hl : controlLive s = true) (h : s.se.rotNext ≤ now s) : rotationDue s = modSe s (fun e =>
    { e with rotNext := e.rotNext + 12800000, rotDue := e.rotDue || (objB s 0x2900 3 && e.spare.isSome) }) :=
  if_neg (by rw [hl, decide_eq_false (Nat.not_lt.mpr h)]; simp)

theorem roleHandover_due {s : State} {k : Fin 3} {sp old : Fin 4} (hl : controlLive s = true) (hk : k.val = s.se.rotations % 3)
    (hsp : s.se.spare = some sp) (hold : s.se.roles[k] = some old) (hd : s.se.rotDue = true) (hst : s.se.slices[sp].state = 2)
    (hc : capRuns s = false) (hb : k.val = 2 ∨ atBoundary s (Fin.ofNat 2 k.val) = true) :
    roleHandover s = modSlice (modSlice (modSe s (fun e =>
        { e with roles := upd e.roles k (fun _ => some sp), spare := some old, rotations := inc32 e.rotations, rotDue := false }))
        sp (fun x => { x with state := 0 })) old (fun x => { x with state := 1 }) := by
  obtain rfl : k = Fin.ofNat 3 s.se.rotations := Fin.ext hk
  have hbnd : (if (Fin.ofNat 3 s.se.rotations).val = 2 then true else atBoundary s (Fin.ofNat 2 (Fin.ofNat 3 s.se.rotations).val)) =
      true := by
    rcases hb with h | h
    · exact if_pos h
    · rw [h, ite_self]
  unfold roleHandover
  dsimp only
  rw [hsp, hold]
  dsimp only
  rw [if_neg (by rw [hd, hst, hc, hbnd, hl]; decide)]

theorem modSlice_same (s : State) (i : Fin 4) (f : SliceSt → SliceSt) : (modSlice s i f).se.slices[i] = f s.se.slices[i] :=
  upd_same _ i f

@[simp] theorem seCount_se (s : State) (n : Nat) : (seCount s n).se = s.se := by
  unfold seCount
  refine ite_keeps (·.se) rfl (ite_keeps (·.se) rfl rfl)

theorem sqBegin_slices (s : State) (p : Fin 2) (t : ST) : (sqBegin s p t).se.slices = s.se.slices := rfl

@[simp] theorem modSq_slices (s : State) (p : Fin 2) (f : SqSt → SqSt) : (modSq s p f).se.slices = s.se.slices := rfl

theorem sqEntry_slices (s : State) (p : Fin 2) (e : Nat) (t : ST) : (sqEntry s p e t).se.slices = s.se.slices := by
  have h0 : (if e = 0 then modSq s p (fun x => { x with table := dom s (0x5900 + p.val), len := objN s (0x2910 + p.val) 2 })
      else s).se.slices = s.se.slices := ite_keeps (·.se.slices) rfl rfl
  unfold sqEntry
  refine ite_keeps (·.se.slices) ?_ ?_
  · split <;> simp only [sqBegin_slices, modSq_slices, h0]
  · simp only [sqBegin_slices, modSq_slices, h0]

theorem sqFollow_slices (s : State) (p : Fin 2) : (sqFollow s p).se.slices = s.se.slices := by
  unfold sqFollow
  exact ite_keeps (·.se.slices) (ite_keeps (·.se.slices) rfl rfl) (ite_keeps (·.se.slices) (sqEntry_slices ..) rfl)

/-- What the change of one element keeps of every element. -/
theorem upd_keeps {α β : Type} {n : Nat} (φ : α → β) {f : α → α} (hf : ∀ x, φ (f x) = φ x) (v : Vector α n) (i j : Fin n) :
    φ (upd v i f)[j] = φ v[j] := by
  by_cases h : i = j
  · subst h
    exact (congrArg φ (upd_same v i f)).trans (hf _)
  · exact congrArg φ (upd_other v i j f h)

/-- A slice in a role. -/
def inRole (e : SeSt) (k : Fin 3) (v : Option (Fin 4)) : SeSt := { e with roles := upd e.roles k (fun _ => v) }

/-- The slice of one role moves to a vacant one. -/
def roleMoved (e : SeSt) (a b : Fin 3) : SeSt :=
  if e.roles[b].isNone && e.roles[a].isSome then inRole (inRole e b e.roles[a]) a none else e

/-- A calibrated spare slice takes the first vacant role. -/
def spareTaken (e : SeSt) : SeSt :=
  match (allFin 3).find? (fun k => e.roles[k].isNone), e.spare with
  | some k, some i =>
    if e.slices[i].state = 2 then
      { inRole e k (some i) with spare := none, slices := upd e.slices i (fun x => { x with state := 0 }) }
    else e
  | _, _ => e

theorem seAssign_eq (s : State) :
    seAssign s = { s with se := roleMoved (roleMoved (roleMoved (spareTaken s.se) 1 2) 0 2) 1 0 } := rfl

theorem roleMoved_slices (e : SeSt) (a b : Fin 3) : (roleMoved e a b).slices = e.slices := by
  unfold roleMoved
  split <;> rfl

theorem spareTaken_slices (e : SeSt) : (spareTaken e).slices = e.slices ∨
    ∃ i, (spareTaken e).slices = upd e.slices i (fun x => { x with state := 0 }) := by
  unfold spareTaken
  split
  · split
    · exact .inr ⟨_, rfl⟩
    · exact .inl rfl
  · exact .inl rfl

/-- A slice that a role takes keeps what calibration gave it. -/
theorem seAssign_slice (s : State) (i : Fin 4) :
    (seAssign s).se.slices[i].gain = s.se.slices[i].gain ∧ (seAssign s).se.slices[i].offset = s.se.slices[i].offset := by
  have hs : (seAssign s).se.slices = (spareTaken s.se).slices := by
    rw [seAssign_eq]
    simp only [roleMoved_slices]
  rw [hs]
  rcases spareTaken_slices s.se with h | ⟨j, h⟩
  · rw [h]
    exact ⟨rfl, rfl⟩
  · rw [h]
    exact ⟨upd_keeps SliceSt.gain (f := fun x => { x with state := 0 }) (fun _ => rfl) ..,
      upd_keeps SliceSt.offset (f := fun x => { x with state := 0 }) (fun _ => rfl) ..⟩

/-- Raising an event or not leaves the Sense Engine alone. -/
theorem ite_raise_se (c : Prop) [Decidable c] (s : State) (ev d1 d2 : Nat) :
    (if c then raise s ev d1 d2 else s).se = s.se := ite_keeps (·.se) (raise_se ..) rfl

/-- A slice that calibrates within R298's bounds holds what it measured. -/
theorem calDone_good {s : State} {i : Fin 4} {lo hi : Nat} {gain off : Int} (hl : controlLive s = true) (hr : refOn s = true)
    (hs : s.se.slices[i].state = 1)
    (hgain : gain = tdivS (49152 * 32768) (((hi / 16 : Nat) : Int) - ((lo / 16 : Nat) : Int)))
    (hoff : off = 8192 - fdiv (((lo / 16 : Nat) : Int) * gain) 32768)
    (h1 : 32113 ≤ gain) (h2 : gain ≤ 33423) (h3 : -512 ≤ off) (h4 : off ≤ 512) :
    (calDone s i lo hi).se.slices[i].gain = gain.toNat ∧ (calDone s i lo hi).se.slices[i].offset = off := by
  unfold calDone
  dsimp only
  rw [← hgain, ← hoff, if_neg (by rw [hs, hl, hr]; decide),
    if_pos (by rw [decide_eq_true h1, decide_eq_true h2, decide_eq_true h3, decide_eq_true h4]; rfl)]
  simp only [seCount_se, sqFollow_slices, ite_raise_se]
  constructor
  · exact (seAssign_slice _ i).1.trans (congrArg SliceSt.gain (modSlice_same s i _))
  · exact (seAssign_slice _ i).2.trans (congrArg SliceSt.offset (modSlice_same s i _))

theorem command_sliceClear (s : State) (p : Path) (v : Nat) (seen : List Nat) :
    command s p (okey 0x2900 6) v seen = some (sliceClear s v, 0) := rfl

theorem command_refEn (s : State) (p : Path) (v : Nat) (seen : List Nat) : command s p (okey 0x2900 1) v seen = none := rfl

theorem effect_refEn (before s : State) (v : Int) :
    effect before s (okey 0x2900 1) v = refWrite (setObj s 0x2900 1 (obj before 0x2900 1)) (decide (v = 1)) := rfl

@[simp] theorem filtReset_ctl (s : State) (k : Fin 16) : (filtReset s k).ctl = s.ctl := rfl

theorem refOn_of_ctl {s t : State} (h : t.ctl = s.ctl) : refOn t = refOn s := by
  unfold refOn objB obj objK
  rw [h]

theorem refOn_setObj (s : State) (v : Int) : refOn (setObj s 0x2900 1 v) = decide (v ≠ 0) :=
  congrArg (fun w : Int => decide (w ≠ 0)) (objK_setObjK ..)

theorem refOn_refEnable (s : State) : refOn (refEnable s) = true := by
  have hctl : (refEnable s).ctl = (setObj s 0x2900 1 1).ctl :=
    (applyAll_keeps (·.ctl) (by intros; rfl) _ _).trans (applyAll_keeps (·.ctl) (by intros; rfl) _ _)
  exact (refOn_of_ctl hctl).trans (refOn_setObj ..)

theorem refOn_refWrite (s : State) (v : Bool) : refOn (refWrite s v) = v := by
  unfold refWrite
  by_cases h : v = refOn s
  · rw [if_pos h, h]
  · rw [if_neg h]
    cases v
    · exact (refOn_of_ctl (s := setObj s 0x2900 1 0) rfl).trans (refOn_setObj ..)
    · exact refOn_refEnable s

theorem refSettled_due {s : State} {r : ST} (hr : s.se.refSt = some r) (hs : s.se.refState = 1) (ht : r + 400000 ≤ now s) :
    refSettled s = modSe s (fun e => { e with refState := 2 }) := by
  have hu : refUnsettled s (now s) = false := by
    unfold refUnsettled
    rw [hr]
    exact decide_eq_false (Nat.not_lt.mpr ht)
  exact if_pos (by rw [hs, hu]; rfl)

/-! Triggers and sequencers (R304–R314). -/

theorem command_trigSw (s : State) (p : Path) (seen : List Nat) :
    command s p (okey 0x2900 7) 1 seen = some (seTrigger s 1, 0) := rfl

theorem delayEnd_over {s : State} {p : Fin 2} {t : ST} (hp : s.se.sqs[p].phase = .delay t) (ht : t ≤ now s)
    (hu : s.se.sqs[p].urgent = none) (hc : capRuns s = false) (hw : capWants s = false) (hl : controlLive s = true) :
    delayEnd s p = sqNext s p (now s) := by
  unfold delayEnd
  dsimp only
  rw [hp, hu]
  exact if_neg (by rw [hc, hw, hl, decide_eq_false (Nat.not_lt.mpr ht)]; decide)

theorem sqSample_active {x : SqSt} {a : ST} (h : x.phase = .active a) : sqSample x = some (a + sqAcq x) := by
  unfold sqSample
  rw [h]

theorem seqDone_repeats {s : State} {p : Fin 2} {raw : Nat} {a : ST} {sl : Fin 4} (hp : s.se.sqs[p].phase = .active a)
    (hsl : s.se.roles[roleOf p] = some sl) (hu : s.se.sqs[p].urgent = none) (ht : a + sqAcq s.se.sqs[p] + 40 ≤ now s)
    (hr : refOn s = true) (hst : s.se.sqs[p].stopAt = false) (hrep : s.se.sqs[p].rep < bits (sqNow s.se.sqs[p]) 23 16)
    (hl : controlLive s = true) :
    seqDone s p raw = sqBegin (modSq (seResult s p (sqFilter (sqNow s.se.sqs[p]))
          { ch := bits (sqNow s.se.sqs[p]) 31 24, src := s.se.sqs[p].tag, value := sliceValue s sl raw,
            refU := refUnsettled s (a + sqAcq s.se.sqs[p]), slice := sl.val, st := a + sqAcq s.se.sqs[p] }) p
          (fun y => { y with rep := y.rep + 1 })) p (a + sqAcq s.se.sqs[p] + 40) := by
  unfold seqDone
  dsimp only
  rw [sqSample_active hp, show sqSlice s p = some sl from hsl]
  dsimp only
  rw [hu, hst, if_neg (by rw [hl, hr, decide_eq_false (Nat.not_lt.mpr ht)]; simp), if_neg (by decide), if_pos hrep]

/-! Urgent slots and captures (R315–R321). -/

theorem modUrg_same (s : State) (u : Fin 8) (f : UrgSt → UrgSt) : (modUrg s u f).se.urgs[u] = f s.se.urgs[u] := upd_same _ u f

theorem modSq_same (s : State) (p : Fin 2) (f : SqSt → SqSt) : (modSq s p f).se.sqs[p] = f s.se.sqs[p] := upd_same _ p f

theorem urgStart_ready {s : State} {p : Fin 2} {u : Fin 8} {r : List (Fin 8)} (hl : controlLive s = true)
    (hu : s.se.sqs[p].urgent = none) (hc : capRuns s = false) (ht : capTakes s = false) (hb : atBoundary s p = true)
    (hsl : (sqSlice s p).isSome = true) (hr : refOn s = true)
    (hp : (urgPending s p).filter (fun u => match s.se.urgs[u].pend with | some t => decide (t + 2 ≤ now s) | none => false) = u :: r) :
    (urgStart s p).se.urgs[u].pend = none ∧ (urgStart s p).se.sqs[p].urgent = 
      some { slot := u, acq := now s, len := urgCfg s u 4, src := urgCfg s u 2, ch := urgCfg s u 3, filt := urgFilter s u } := by
  unfold urgStart
  dsimp only
  rw [hu, if_neg (by rw [hc, ht, hb, hr, hl, Option.isNone_eq_false_iff.mpr hsl]; decide)]
  split
  next h => cases hp.symm.trans h
  next v r' h =>
    obtain ⟨rfl, -⟩ := List.cons.inj (hp.symm.trans h)
    exact ⟨congrArg UrgSt.pend (modUrg_same ..), congrArg SqSt.urgent (modSq_same ..)⟩

theorem command_capCmd (s : State) (p : Path) (v : Nat) (seen : List Nat) :
    command s p (okey 0x2940 4) v seen = some (if v = 1 then capArm s else capAbort s seen, 0) := rfl

theorem capWants_due {s : State} {t : ST} (ht : s.se.capTrig = some t) (hs : s.se.capState = 1) (hd : t + 2 ≤ now s) :
    capWants s = true := by
  unfold capWants
  rw [ht, hs]
  exact decide_eq_true hd

theorem capRuns_armed {s : State} (hs : s.se.capState = 1) (hc : sysCapture s = false) : capRuns s = false := by
  unfold capRuns
  rw [hs, hc]
  rfl

theorem capStart_takes {s : State} (hl : controlLive s = true) (hw : capWants s = true) (hc : capRuns s = false)
    (hh : 3 ≤ seHealthy s) (ht : capTakes s = true) :
    (capStart s).se.capState = 2 ∧ (capStart s).se.capSt0 = now s := by
  unfold capStart
  rw [if_neg (by rw [hl, hw]; simp), if_neg (by rw [hc, decide_eq_false (Nat.not_lt.mpr hh)]; decide)]
  dsimp only
  rw [if_pos ht]
  exact ⟨rfl, rfl⟩

theorem capDone_full {s : State} {raws : List Nat} (hs : s.se.capState = 2) (hn : s.se.capN ≤ capTaken s) :
    capDone s raws = raise (modSe (capStore s raws s.se.capN) (fun e => { e with capState := 3, capCount := e.capN }))
      412 s.se.capN s.se.capSt0 :=
  if_neg (by rw [hs, decide_eq_false (Nat.not_lt.mpr hn)]; decide)

/-! Filters and the queue (R322–R330). -/

theorem filtPoint_fresh {s : State} {k : Fin 16} {r : SeResult} (hl : controlLive s = true) (hp : filtPace s k ≠ 0)
    (ht : s.se.filts[k].paceAt ≤ now s) (hr : s.se.filts[k].latest = some r) (hf : s.se.filts[k].fresh = true) :
    filtPoint s k = filtTake (modFilt (modFilt s k (fun y =>
        { y with paceAt := s.se.filts[k].paceAt + filtPace s k, fresh := false })) k (fun y => { y with starvedRun := false })) k
          { r with src := 0x90, st := s.se.filts[k].paceAt } := by
  unfold filtPoint
  dsimp only
  rw [if_neg (by rw [hl, decide_eq_false hp, decide_eq_false (Nat.not_lt.mpr ht)]; decide), hr]
  dsimp only
  rw [hf]
  rfl

theorem readTx_pop {s : State} {p : Path} (hd : dictLive s = true) (hj : judgeRead (touch s p) p (okey 0x2930 2) = 0) :
    (readTx s p (okey 0x2930 2)).1 =
      keepResult (answer (queuePop (touch s p)).1 p 0) p (leBytes 8 (queuePop (touch s p)).2) := by
  unfold readTx
  dsimp only
  rw [hj, if_neg (by rw [hd]; decide), if_neg (by decide), if_pos rfl]

theorem command_queueFlush (s : State) (p : Path) (seen : List Nat) :
    command s p (okey 0x2930 11) 1 seen = some (queueFlush s, 0) := rfl

@[simp] theorem wmRearm_queue (s : State) : (wmRearm s).se.queue = s.se.queue := by
  unfold wmRearm
  exact ite_keeps (·.se.queue) rfl rfl

/-- A word that leaves the queue leaves those behind it. -/
theorem dmaWord_queue {s t : State} (h : dmaWord s = some t) : t.se.queue = s.se.queue.tail := by
  unfold dmaWord at h
  dsimp only at h
  split at h
  · cases h
  · rename_i w r hq
    obtain ⟨-, h⟩ := Option.ite_none_left_eq_some.mp h
    rw [hq, ← Option.some.inj h]
    rfl

theorem dmaMove_last {s t : State} {w : Nat} (hm : objN s 0x2930 6 = 1) (hq : s.se.queue = [w]) (ht : dmaWord s = some t) :
    dmaMove s = modSe (wmRearm t) (fun e => { e with dmaStall := false }) := by
  have hrun : dmaRun s.se.queue.length s = t := by
    rw [hq]
    show (match dmaWord s with | none => s | some t => dmaRun 0 t) = t
    rw [ht]
    rfl
  have hempty : (wmRearm t).se.queue = [] := by rw [wmRearm_queue, dmaWord_queue ht, hq]; rfl
  unfold dmaMove
  dsimp only
  rw [if_pos hm, hrun, hempty]
  rfl

theorem senseComplete : Claims.SenseComplete := fun s hl =>
  ⟨fun h => next_live hl rfl (rotationDue_due hl h),
   fun k sp old hk hsp hold hd hst hc hb => next_live hl rfl (roleHandover_due hl hk hsp hold hd hst hc hb),
   fun i lo hi gain off hr hs hgain hoff h1 h2 h3 h4 =>
    ⟨calDone s i lo hi, next_live hl rfl rfl, calDone_good hl hr hs hgain hoff h1 h2 h3 h4⟩,
   fun p mask hm h => doWrite_command h (TakesUnsigned.number (b := 1) (by decide) (by omega)) (command_sliceClear ..),
   fun p v h =>
    ⟨_, doWrite_value h (TakesUnsigned.number (b := 1) (by decide) (by cases v <;> decide)) (by decide) (command_refEn ..)
      (effect_refEn ..), (refOn_refWrite ..).trans (by cases v <;> rfl)⟩,
   fun r hr hs ht => next_live hl rfl (refSettled_due hr hs ht),
   fun p h => doWrite_command (n := 1) h (by decide) (command_trigSw ..),
   fun n r h => next_live hl rfl (if_pos (by rw [hl, h]; rfl)),
   fun p h => next_live hl (by rw [h]; rfl) rfl,
   fun p h => next_live hl (by rw [h]; rfl) rfl,
   fun p t hp ht hu hc hw => next_live hl rfl (delayEnd_over hp ht hu hc hw hl),
   fun p raw a sl hp hsl hu ht hr hst hrep => next_live hl rfl (seqDone_repeats hp hsl hu ht hr hst hrep hl),
   fun p u r t hu hc ht hb hsl hr _ hp => ⟨urgStart s p, next_live hl rfl rfl, urgStart_ready hl hu hc ht hb hsl hr hp⟩,
   fun p h => doWrite_command (n := 1) h (by decide) (command_capCmd ..),
   fun p raws h => doWrite_command (n := 2) h (by decide) (command_capCmd ..),
   fun t ht hs hd hc h0 h1 hu0 hu1 hh hr hs0 hs1 =>
    ⟨capStart s, next_live hl rfl rfl, capStart_takes hl (capWants_due ht hs hd) (capRuns_armed hs hc) hh
      (by simp only [capTakes, capWants_due ht hs hd, capRuns_armed hs hc, hr, hl, h0, h1, hu0, hu1, hs0, hs1]; rfl)⟩,
   fun raws hs hn => next_live hl rfl (capDone_full hs hn),
   fun k r hp ht hr hf => next_live hl rfl (filtPoint_fresh hl hp ht hr hf),
   fun p hd hj => next_congr (readTx_pop hd hj),
   fun p h => doWrite_command (n := 1) h (by decide) (command_queueFlush ..),
   fun w t hm hq ht => next_live hl rfl (dmaMove_last hm hq ht)⟩

end Sys2Proof.Machine
end

section
/-!
PROOF. The dictionary, the Commit Gate, claims, the stored set, the ledger and the PDOs: every command completes (R335–R374).
-/

namespace Sys2Proof.Machine

open Sys2Proof

/-! Staged writes (R335, R342). -/

/-- The value just staged. -/
theorem lookup_stagePut (g : Staging) (k : Nat) (v : Int) : (stagePut g k v).vals.lookup k = some v := by
  have hnot : ∀ x ∈ g.vals.filter (fun x => x.1 != k), ¬(k == x.1) = true := by
    intro x hx
    have h := (List.mem_filter.mp hx).2
    simp only [bne_iff_ne, ne_eq] at h
    simpa using fun e : k = x.1 => h e.symm
  have hbelow : ((g.vals.filter (fun x => x.1 != k)).filter (fun x => x.1 < k)).lookup k = none :=
    List.lookup_eq_none_iff.mpr fun x hx => by simpa using hnot x (List.mem_filter.mp hx).1
  unfold stagePut
  simp only [List.append_assoc, List.lookup_append, hbelow]
  simp

theorem stagingOf_modStaging (s : State) (p : Path) (f : Staging → Staging) : stagingOf (modStaging s p f) p = f (stagingOf s p) :=
  upd_same _ p.idx f

theorem tieKey_plain {k : Nat} (h : plainKey k) (n : Nat) : tieKey k n = some k := by
  obtain ⟨h1, h2, h3⟩ := h
  simp [tieKey, h1, h2, h3]

/-- A STAGED write of any data that passes enters its path's set. -/
theorem writeTx_staged {s : State} {p : Path} {k : Nat} {bs : List Byte} (hl : dictLive s = true) (he : s.ctl.epoch = none)
    (hj : judgeWrite (touch s p) p k bs = 0) (hk : plainKey k) (ht : tieWinner (touch s p) p k = none) (hc : clsOf k = .staged) :
    (writeTx s p k bs []).1 = answer (modStaging (noteTick (touch s p) p k true ((stagingOf (touch s p) p).vals.lookup k)) p
      (fun g => stagePut g k (dataValue k bs))) p 0x26 := by
  unfold writeTx
  rw [epochFirst_none he]
  simp only [hl, hj, hk.1, acceptWrite, tieKey_plain hk, ht, hc, Bool.not_true, Bool.false_eq_true, if_false, if_true, ne_eq,
    not_true_eq_false]
  rfl

/-! The Commit Gate (R341–R343). -/

theorem writeNum_commit {s u : State} {p : Path} {n d : Nat} (h : Passes s p (okey 0x2001 1) n)
    (hv : dataValue (okey 0x2001 1) (numData (okey 0x2001 1) n) = n) (ha : commit (touch s p) p n = (u, d))
    (hd : vRefused d = false) : (writeNum s p (okey 0x2001 1) n []).1 = answer u p (vStatus d) := by
  obtain ⟨hl, he, hj, -⟩ := h
  have happly : applyWrite (touch s p) p (okey 0x2001 1) n [] = (u, d) := ha
  have hk : okey 0x2001 1 ≠ okey 0x2002 1 := by decide
  have hc : clsOf (okey 0x2001 1) ≠ .staged := by decide
  have htk : ∀ m, tieKey (okey 0x2001 1) m = none := fun _ => rfl
  unfold writeNum writeTx
  rw [epochFirst_none he]
  simp only [hl, hj, hk, hv, acceptWrite, htk, hc, happly, hd, Bool.not_true, Bool.false_eq_true, if_false, ne_eq,
    not_true_eq_false]

theorem commit_first {s : State} {p : Path} {n : Nat} (hn : n ≠ 3) (he : s.ctl.epoch = none) :
    commit s p n = ({ s with ctl := { s.ctl with epoch := some ⟨commitMask s p n, now s, [p]⟩ } }, vLate) := by
  unfold commit
  rw [if_neg hn, he]

theorem runEpoch_accepted {s : State} {e : Epoch} (he : s.ctl.epoch = some e)
    (hx : (epochKeys s (maskPaths e.mask)).find? (fun k => !crossOk s ((activeView s).over
      (epochVals s (maskPaths e.mask) (epochKeys s (maskPaths e.mask))) (epochDoms s (maskPaths e.mask) (epochKeys s (maskPaths e.mask)))) k) =
      none) :
    ∃ t, t = applyVals (emptySets (applyAll (epochTies (maskPaths e.mask)) { s with ctl := { s.ctl with epoch := none } }
          (epochKeys s (maskPaths e.mask))) (maskPaths e.mask))
        (epochVals s (maskPaths e.mask) (epochKeys s (maskPaths e.mask))) (epochDoms s (maskPaths e.mask) (epochKeys s (maskPaths e.mask))) ∧
      runEpoch s = applyAll (finishLate (okey 0x2001 1) 0)
        { t with ctl := { t.ctl with epochs := inc32 t.ctl.epochs, lastEpochSt := wrap 64 (now s) } } e.writers := by
  refine ⟨_, rfl, ?_⟩
  unfold runEpoch
  rw [he]
  dsimp only
  rw [hx]

/-! Claims (R347–R349). -/

theorem claimCmd_group {s : State} {p : Path} {g : Nat} (hg : g ≠ 0) : claimCmd s p g = (claimGrant s p g, 0) := if_neg hg

theorem claimLapse_group {s : State} {p : Path} {g why : Nat} (hg : g ≠ 0) (hh : holder s g = some p) :
    claimLapse why s g = setClaim (raise s 12 g (p.ascii + 256 * why)) g ⟨none, 0⟩ := by
  unfold claimLapse freeGroup
  rw [hh]
  exact if_neg hg

/-! The stored set (R351–R353). -/

theorem storeAll_idle {s : State} {p : Path} (h : s.ctl.storeState ≠ 1) : ∃ x : CtlSt, storeAll s p = ({ s with ctl := x }, vLate) ∧
    x.storeState = 1 ∧ x.storeBy = some p ∧ x.storeTo = storeSlot s := by
  refine ⟨_, if_neg h, rfl, rfl, rfl⟩

/-- What the record of a cycle's writes leaves alone. -/
theorem noteTick_keeps {β : Type} (φ : State → β) (hctl : ∀ s (t : List TickWrite) (u : ST), φ { s with ctl := { s.ctl with tickSt := u, tick := t } } = φ s)
    (hback : ∀ k p s w, φ (takeBack k p s w) = φ s) (s : State) (p : Path) (k : Nat) (b : Bool) (o : Option Int) :
    φ (noteTick s p k b o) = φ s := by
  unfold noteTick noteWrite
  exact (hctl ..).trans (applyAll_keeps φ (hback k p) _ _)

/-- What the stored set shows of itself. -/
def storeShown (s : State) : Nat × Option Path × Fin 2 := (s.ctl.storeState, s.ctl.storeBy, s.ctl.storeTo)

theorem storeShown_takeBack (k : Nat) (p : Path) (s : State) (w : TickWrite) : storeShown (takeBack k p s w) = storeShown s := by
  unfold takeBack
  dsimp only
  split <;> rfl

theorem storeShown_noteTick (s : State) (p : Path) (k : Nat) (b : Bool) (o : Option Int) :
    storeShown (noteTick s p k b o) = storeShown s :=
  noteTick_keeps storeShown (by intros; rfl) storeShown_takeBack ..

/-- SAVE, its answer still to come. -/
theorem writeNum_storeAll {s : State} {p : Path} (h : Passes s p (okey 0x1010 1) 0x65766173) (hs : s.ctl.storeState ≠ 1) :
    storeShown (writeNum s p (okey 0x1010 1) 0x65766173 []).1 = (1, some p, storeSlot s) := by
  obtain ⟨x, hx, hst, hby, hto⟩ := storeAll_idle (s := touch s p) (p := p) hs
  have ha : applyWrite (touch s p) p (okey 0x1010 1)
      (dataValue (okey 0x1010 1) (numData (okey 0x1010 1) 0x65766173)) [] = ({ touch s p with ctl := x }, vLate) := hx
  rw [writeNum_passes h (by decide) (by decide) ha, if_neg (by decide)]
  show storeShown (noteTick _ p _ false none) = _
  rw [storeShown_noteTick]
  exact Prod.ext hst (Prod.ext hby hto)

/-- An answer that comes late and accepts says no more of the dictionary than the status. -/
theorem finishLate_accepted_ctl (k : Nat) (s : State) (p : Path) : (finishLate k 0 s p).ctl = (answer s p 0).ctl := by
  unfold finishLate
  cases p with
  | c => exact ite_keeps (·.ctl) rfl rfl
  | h => rfl
  | a => rfl
  | n =>
    dsimp only
    split <;> rfl

theorem storeDone_ok {s : State} {p : Path} (h : s.ctl.storeBy = some p) :
    (storeDone s true).ctl.storeState = 2 ∧ (storeDone s true).ctl.slots[s.ctl.storeTo].valid = true := by
  unfold storeDone
  rw [h]
  dsimp only
  rw [if_pos rfl, finishLate_accepted_ctl]
  exact ⟨rfl, congrArg ParamSlot.valid (upd_same s.ctl.slots s.ctl.storeTo _)⟩

/-! The ledger (R357–R365). -/

theorem command_jobCmd (s : State) (p : Path) (v : Nat) (seen : List Nat) :
    command s p (okey 0x2020 10) v seen = some (jobCmd s p v) := rfl

theorem command_ledgerClear (s : State) (p : Path) (v : Nat) (seen : List Nat) :
    command s p (okey 0x2021 5) v seen = some (ledgerClear s, 0) := rfl

theorem modJob_same (s : State) (e : Fin 64) (f : Job → Job) : (modJob s e f).ledger.jobs[e] = f s.ledger.jobs[e] := upd_same _ e f

theorem jobSubmit_ok {s : State} {e : Fin 64} (h : submitOk s e (jobUnitLane s s.ledger.jobs[e]) = true) : ∃ u : State,
    jobSubmit s e = (u, 0) ∧ u.ledger.jobs[e].state = 1 ∧ u.ledger.jobs[e].order = s.ledger.nextOrder := by
  refine ⟨_, if_neg (by rw [h]; decide), ?_, ?_⟩
  · exact congrArg Job.state (modJob_same ..)
  · exact congrArg Job.order (modJob_same ..)

theorem jobEnd_active {s : State} {e : Fin 64} (h : s.ledger.jobs[e].state = 3) : jobEnd s e = jobFinish s e 4 19 := if_pos h

theorem applyAll_cons {α : Type} (f : State → α → State) (s : State) (x : α) (xs : List α) :
    applyAll f s (x :: xs) = applyAll f (f s x) xs := rfl

/-- Entries freed in order: each of them reads reset, every other as it was. -/
theorem jobs_applyAll_jobFree (xs : List (Fin 64)) (s : State) (f : Fin 64) :
    (applyAll jobFree s xs).ledger.jobs[f] = if f ∈ xs then Job.reset else s.ledger.jobs[f] := by
  induction xs generalizing s with
  | nil => rfl
  | cons x xs ih =>
    rw [applyAll_cons, ih]
    by_cases hm : f ∈ xs
    · rw [if_pos hm, if_pos (List.mem_cons_of_mem x hm)]
    · rw [if_neg hm]
      by_cases hx : x = f
      · subst hx
        rw [if_pos List.mem_cons_self]
        exact modJob_same ..
      · rw [if_neg (by simp [hm, Ne.symm hx])]
        exact upd_other _ x f _ hx

theorem mem_allFin {n : Nat} (i : Fin n) : i ∈ allFin n := by
  unfold allFin
  exact List.mem_finRange i

theorem ledgerClear_jobs (s : State) (f : Fin 64) :
    (ledgerClear s).ledger.jobs[f] = if jobEnded s.ledger.jobs[f] then Job.reset else s.ledger.jobs[f] := by
  refine (jobs_applyAll_jobFree ..).trans ?_
  simp only [List.mem_filter, mem_allFin, true_and]

/-! PDOs and their parameters (R368–R374). -/

/-- No object of the communication area is a command's. -/
theorem command_communication {s : State} {p : Path} {k v : Nat} {seen : List Nat} (h : k / 256 < 0x2000) :
    command s p k v seen = none := by
  have hne : ∀ i, 0x2000 ≤ i → k / 256 ≠ i := by omega
  have hw : ∀ a b, 0x2000 ≤ a → within a b (k / 256) = false := fun a b ha =>
    Bool.eq_false_iff.mpr fun hw => by have := within_iff.mp hw; omega
  unfold command
  dsimp only
  rw [if_pos (by omega)]
  simp [command20, hne, hw]

theorem effect_communication_ctl {before s : State} {k : Nat} {v : Int} (h : k / 256 < 0x2000) :
    (effect before s k v).ctl = s.ctl := by
  unfold effect
  dsimp only
  rw [if_pos h]
  unfold effect10
  exact ite_keeps (·.ctl) rfl (ite_keeps (·.ctl) rfl (ite_keeps (·.ctl) rfl rfl))

theorem objK_putValue {s : State} {k : Nat} {v : Int} (h : keepsValue k = true) : objK (putValue s k v) k = v := by
  unfold putValue
  rw [h]
  exact ite_keeps (objK · k) (objK_setObjK ..) (objK_setObjK ..)

/-- A write of an object of the communication area: it reads the value. -/
theorem doWrite_communication {s : State} {p : Path} {k n : Nat} (h : Passes s p k n) (hk : TakesNumber k n)
    (hlow : k / 256 < 0x2000) (hv : keepsValue k = true) :
    ∃ u, doWrite p k n [] s = .next (finish s (taken u p k)) ∧ objK u k = n := by
  refine ⟨effect (touch s p) (putValue (notePre (touch s p) k) k n) k n,
    doWrite_taken h hk.1 hk.2.1.1 n hk.2.2 (applyWrite_value hk.2.1 (command_communication hlow)), ?_⟩
  unfold objK
  rw [effect_communication_ctl hlow]
  exact objK_putValue hv

theorem takesUnsigned_cobId : ∀ (tx : Bool) (n : Fin 4), TakesUnsigned (okey (0x1400 + 0x400 * b2n tx + n.val) 1) 4 ∧
    okey (0x1400 + 0x400 * b2n tx + n.val) 1 / 256 < 0x2000 ∧ keepsValue (okey (0x1400 + 0x400 * b2n tx + n.val) 1) = true := by
  decide

theorem takesUnsigned_pdoMap : ∀ (tx : Bool) (n : Fin 4) (sub : Fin 65), 1 ≤ sub.val →
    TakesUnsigned (okey (0x1600 + 0x400 * b2n tx + n.val) sub.val) 4 ∧
    okey (0x1600 + 0x400 * b2n tx + n.val) sub.val / 256 < 0x2000 ∧
    keepsValue (okey (0x1600 + 0x400 * b2n tx + n.val) sub.val) = true := by
  decide +kernel

theorem rpdoReceive_async {s : State} {n : Fin 4} {bs : List Byte} (hl : pdoLive s = true) (hv : rpdoValid s n = true)
    (hb : sumN ((rpdoEntries s n).map entryBytes) ≤ bs.length) (ht : 240 < objN s (0x1400 + n.val) 2) :
    rpdoReceive s n bs = rpdoApply s n bs := by
  unfold rpdoReceive
  rw [if_neg (by rw [hl, hv]; decide), if_neg (Nat.not_lt.mpr hb), if_neg (Nat.not_le.mpr ht)]

theorem canLive_of_pdoLive {s : State} (h : pdoLive s = true) : canLive s = true := by
  unfold pdoLive at h
  exact (Bool.and_eq_true_iff.mp h).1

theorem syncReceive_live {s : State} (h : pdoLive s = true) :
    syncReceive s = pdoAsk .sync (dropWaits (applyAll rpdoSync s (allFin 4))) := by
  unfold syncReceive
  rw [if_neg (by rw [canLive_of_pdoLive h]; decide), if_neg (by rw [h]; decide)]

theorem dictionaryComplete : Claims.DictionaryComplete := fun s p =>
  ⟨fun idx sub data hl he hj hk ht hc => ⟨_, next_congr (writeTx_staged hl he hj hk ht hc), upd_same _ p.idx _,
    (congrArg (fun g : Staging => g.vals.lookup _) (stagingOf_modStaging ..)).trans (lookup_stagePut ..)⟩,
   fun h => next_congr (writeNum_commit (n := 1) h (by decide) (commit_first (by decide) h.2.1) (by decide)),
   fun h => next_congr (writeNum_commit (n := 2) h (by decide) (commit_first (by decide) h.2.1) (by decide)),
   fun h => next_congr (writeNum_commit (n := 3) h (by decide) rfl (by decide)),
   fun e ps ks vs ds hl he hps hks hvs hds hx => by
    subst hps hks hvs hds
    obtain ⟨t, ht, hrun⟩ := runEpoch_accepted he hx
    exact ⟨t, ht, next_live hl (by rw [he]; rfl) hrun⟩,
   fun g h1 h24 h ht => next_congr (writeNum_claims (sub := 1) (d := 0) (by decide) h (by omega) ht
      ((applyWrite_claim ..).trans (claimCmd_group (by omega))) (by decide)),
   fun g hg h ht => next_congr (writeNum_claims (sub := 2) (d := 0) (by decide) h (by omega) ht (applyWrite_release ..) (by decide)),
   fun g hl hg hle hh => next_live hl hle (claimLapse_group hg hh),
   fun h hs => by
    have hu := writeNum_storeAll h hs
    exact ⟨_, rfl, congrArg Prod.fst hu, congrArg (·.2.1) hu, congrArg (·.2.2) hu⟩,
   fun hl hs hb => ⟨storeDone s true, next_live hl (by rw [hs]; rfl) rfl, storeDone_ok hb⟩,
   fun h => doWrite_taken h (by decide) (by decide) 0x64616F6C (by decide) rfl,
   fun e he =>
    ⟨fun h hok => by
      subst he
      obtain ⟨u, hu, hst, hor⟩ := jobSubmit_ok (s := touch s p) hok
      exact ⟨u, doWrite_command (n := 1) h (by decide) ((command_jobCmd ..).trans (congrArg some hu)), hst, hor⟩,
     fun h => by subst he; exact doWrite_command (n := 2) h (by decide) (command_jobCmd ..),
     fun h hs => by
      subst he
      exact doWrite_command (n := 3) h (by decide)
        ((command_jobCmd ..).trans (congrArg (fun u => some (u, 0)) (jobEnd_active (s := touch s p) hs))),
     fun h => by subst he; exact doWrite_command (n := 4) h (by decide) (command_jobCmd ..)⟩,
   fun h => ⟨ledgerClear (touch s p), doWrite_command (n := 1) h (by decide) (command_ledgerClear ..), ledgerClear_jobs _⟩,
   fun hl hr => next_live hl rfl (if_pos hr),
   fun n bs hl hv hb ht => next_congr (rpdoReceive_async hl hv hb ht),
   fun hl => next_congr (syncReceive_live hl),
   fun n => rfl,
   fun n => rfl,
   fun n => rfl,
   fun tx n v k hv hk h => by
    subst hk
    obtain ⟨ht, hlow, hkeep⟩ := takesUnsigned_cobId tx n
    exact doWrite_communication h (ht.number hv) hlow hkeep,
   fun tx n v k sub hv h1 h64 hk h => by
    subst hk
    obtain ⟨ht, hlow, hkeep⟩ := takesUnsigned_pdoMap tx n ⟨sub, by omega⟩ h1
    obtain ⟨u, hu, hval⟩ := doWrite_communication h (ht.number hv) hlow hkeep
    refine ⟨u, Eq.trans ?_ hu, hval⟩
    show doWrite p (if sub = 0 then _ else _) v [] s = _
    rw [if_neg (by omega)]⟩

end Sys2Proof.Machine
end

section
/-!
PROOF. USB: every command completes (R381–R393).
-/

namespace Sys2Proof.Machine

open Sys2Proof

/-! The link (R381, R383, R389). -/

theorem vbusValid_rise {s : State} (hv : s.usb.vbus = false) (hp : pullupMode s = true) (hs : s.usb.state = 0)
    (hw : objN s 0x2D08 2 = 0) : vbusValid s = modUsb s (fun u => { u with vbus := true, state := 1 }) := by
  unfold vbusValid
  dsimp only
  have hp' : pullupMode (modUsb s (fun u => { u with vbus := true })) = true := hp
  rw [if_neg (by rw [hv]; decide), if_pos hw]
  exact if_pos (by rw [hp']; simp [modUsb, hs])

theorem usbReset_running {s : State} {chirp : Bool} (h0 : s.usb.state ≠ 0) (hm : s.md.mode ≠ .recovery) (h5 : s.usb.state ≠ 5) :
    usbReset s chirp = modUsb (usbTo (loseH s 1) 2) (fun x => { x with speed := 1 + b2n chirp, remoteEn := false }) := by
  unfold usbReset
  dsimp only
  rw [if_neg h0, if_neg hm]
  simp only [if_neg h5]

theorem usbConfigure_one {s : State} (h : s.usb.state = 3 ∨ s.usb.state = 4) :
    usbConfigure s 1 = raise (modUsb s (fun u => { u with state := 4, stalled := false })) 448 s.usb.speed 0 := by
  unfold usbConfigure
  rw [if_neg (by rcases h with h | h <;> simp [h]), if_pos rfl]

theorem usbRemoteEn_addressed {s : State} {on : Bool} (h : s.usb.state = 3 ∨ s.usb.state = 4) (hm : s.md.mode ≠ .recovery) :
    usbRemoteEn s on = modUsb s (fun u => { u with remoteEn := on }) :=
  if_pos (by rcases h with h | h <;> simp [h, hm])

/-! Requests (R384–R388). -/

theorem usbRead_fits {s : State} {i x n : Nat} (h : (readData s .h (okey i x)).length ≤ n) :
    usbRead s i x n = usbRequest (readTx s .h (okey i x)).1 (vRefused (readTx s .h (okey i x)).2.1) :=
  if_neg (by simp [h])

theorem usbPut_sized {s : State} {bs : List Byte} (h1 : 1 ≤ bs.length) (h2 : bs.length ≤ 4096) :
    usbPut s bs = usbRequest (domPut s .h bs).1 (vRefused (domPut s .h bs).2) := by
  have hne : bs.isEmpty = false := by cases bs with
    | nil => cases h1
    | cons b r => rfl
  exact if_neg (by rw [hne, decide_eq_false (Nat.not_lt.mpr h2)]; decide)

theorem usbGet_sized {s : State} {n : Nat} (h : n ≤ 4096) :
    usbGet s n = usbRequest (domGet s .h n).1 (vRefused (domGet s .h n).2.1) := if_neg (Nat.not_lt.mpr h)

/-! Endpoints (R390–R392). -/

theorem eventIn_live {s : State} (h : usbLive s = true) : eventIn s = modUsb s (fun u =>
    { u with packet := u.q.recs.take (objN s 0x2A00 2), q := { u.q with recs := u.q.recs.drop (objN s 0x2A00 2) } }) :=
  if_neg (by rw [h]; decide)

theorem bulkOut_room {s : State} {bs : List Byte} (h : usbLive s = true) (hs : bs.length ≤ inSpace s) :
    bulkOut s bs = streamReceive (modUsb s (fun u => { u with nakked := false })) .h bs := by
  unfold bulkOut
  rw [if_neg (by rw [h]; decide), if_neg (by rw [decide_eq_false (Nat.not_lt.mpr hs)]; simp)]

theorem modUsb_modUsb (s : State) (f g : UsbSt → UsbSt) : modUsb (modUsb s f) g = modUsb s (fun u => g (f u)) := rfl

/-- The packet that ends the one record of the endpoint. -/
theorem bulkInAck_last {s : State} {r : CarRec} (hl : usbLive s = true) (hr : bulkRecs s = [r]) (hp : bulkPacket s ≠ [])
    (hlen : r.bytes.length ≤ s.usb.inOff + (bulkPacket s).length) : bulkLast s = true ∧ bulkInAck s = modUsb (takeRec s r) (fun u =>
      { u with inOff := 0, bulk := bulkPacket s, inFull := decide ((bulkPacket s).length = bulkMax s) }) := by
  have htake : bulkTake s (s.usb.inOff + (bulkPacket s).length) [r] = modUsb (takeRec s r) (fun u => { u with inOff := 0 }) :=
    if_pos hlen
  constructor
  · unfold bulkLast
    rw [hr]
    exact decide_eq_true hlen
  · unfold bulkInAck
    dsimp only
    rw [if_neg (by rw [hl, List.isEmpty_eq_false_iff.mpr hp]; simp), hr, htake, modUsb_modUsb]

/-! Streams and transfers (R386, R387). -/

theorem rasterAccept_next {s : State} {p : Path} {w : RasterWait} (h : acceptable s (inStream s p).waits [] = some w) :
    rasterAccept s p = rasterAdd (modStream s p (fun i => { i with waits := i.waits.erase w })) w.head (w.lines.map lineOf) := by
  unfold rasterAccept
  rw [h]

theorem domTimeout_expired {s : State} {p : Path} {d : DomXfer} (hx : s.ctl.xfers[p.idx] = some d)
    (ht : d.lastSt + 200000000 ≤ now s) : domTimeout s p = dropXfer s p := by
  unfold domTimeout
  rw [hx]
  exact if_pos ht

/-! Suspend and wake (R393). -/

theorem usbSuspend_attached {s : State} (h0 : s.usb.state ≠ 0) (h5 : s.usb.state ≠ 5) :
    (usbSuspend s).usb.state = 5 ∧ (usbSuspend s).usb.prev = s.usb.state := by
  unfold usbSuspend
  rw [if_neg (by simp [h0, h5])]
  exact ⟨rfl, rfl⟩

theorem rwDrive_due {s : State} (hd : remoteWakeDue s = true) (hi : s.usb.rw = .idle) (hk : s.usb.hostK = false)
    (ht : s.usb.idleSt + 1000000 ≤ now s) :
    rwDrive s = modUsb s (fun u => { u with rw := .driving (now s), attempts := u.attempts + 1 }) :=
  if_pos (by rw [hd, hi, hk, decide_eq_true ht]; rfl)

theorem rwRelease_due {s : State} {t : ST} (hr : s.usb.rw = .driving t) (hs : s.usb.state = 5) (ht : t + 380000 ≤ now s) :
    rwRelease s = modUsb s (fun u => { u with rw := .released (now s) }) := by
  unfold rwRelease
  rw [hr]
  exact if_pos (by rw [hs, decide_eq_true ht]; rfl)

theorem rwSample_notK {s : State} {t : ST} (hr : s.usb.rw = .released t) (hs : s.usb.state = 5) (ht : t + 1800 ≤ now s) :
    rwSample s false = modUsb s (fun u => { u with rw := .awaitK t, cause := 2 }) := by
  unfold rwSample
  rw [hr]
  exact if_neg (by rw [hs, decide_eq_false (Nat.not_lt.mpr ht)]; decide)

theorem rwRetry_again {s : State} {t : ST} (hr : s.usb.rw = .awaitK t) (hs : s.usb.state = 5) (ht : t + 2000000 ≤ now s)
    (ha : s.usb.attempts ≤ objN s 0x2A00 3) : rwRetry s = modUsb s (fun u => { u with rw := .idle, idleSt := t, cause := 0 }) := by
  unfold rwRetry
  rw [hr]
  dsimp only
  rw [if_neg (by rw [hs, decide_eq_false (Nat.not_lt.mpr ht)]; decide), if_pos ha]

theorem hostResume_idle {s : State} (hs : s.usb.state = 5) (hk : s.usb.hostK = false) (hr : s.usb.rw = .idle) :
    hostResume s = modUsb s (fun u => { u with hostK := true, cause := 1 }) := by
  unfold hostResume
  rw [if_neg (by rw [hs, hk]; decide), hr]

theorem resumeEnd_resumed {s : State} (hs : s.usb.state = 5) (hk : s.usb.hostK = true) : (resumeEnd s).usb.state = s.usb.prev ∧
    (resumeEnd s).usb.wakeCause = s.usb.cause ∧ (resumeEnd s).usb.resumes = inc32 s.usb.resumes := by
  unfold resumeEnd
  rw [if_neg (by rw [hs, hk]; decide)]
  exact ⟨rfl, rfl, rfl⟩

theorem usbComplete : Claims.UsbComplete := fun s =>
  ⟨fun hon hv hp hs hw => next_when hon (vbusValid_rise hv hp hs hw),
   next_congr rfl,
   fun chirp h0 hm h5 => next_congr (usbReset_running h0 hm h5),
   fun h => next_congr (if_pos h),
   fun h => next_congr (usbConfigure_one h),
   fun h hm => ⟨next_congr (usbRemoteEn_addressed h hm), next_congr (usbRemoteEn_addressed h hm)⟩,
   fun hl =>
    ⟨fun i x n _ h => next_when hl (usbRead_fits h),
     fun i x bs => next_when hl rfl,
     next_when hl rfl,
     fun i x wr t => next_when hl rfl,
     fun bs h1 h2 => next_when hl (usbPut_sized h1 h2),
     fun n h => next_when hl (usbGet_sized h),
     next_when hl rfl,
     next_when hl rfl,
     next_congr (eventIn_live hl),
     fun bs h => next_congr (bulkOut_room hl h),
     fun r pk hr hpk hne hlen => by
      subst hpk
      obtain ⟨hlast, hack⟩ := bulkInAck_last hl hr hne hlen
      exact next_when (by rw [hlast]; rfl) hack,
     next_congr (if_pos hl)⟩,
   fun w h => next_congr (rasterAccept_next (p := .h) h),
   fun p d hx ht => next_congr (domTimeout_expired hx ht),
   fun h0 h5 => ⟨usbSuspend s, rfl, usbSuspend_attached h0 h5⟩,
   fun hd hi hk ht => next_congr (rwDrive_due hd hi hk ht),
   fun t hr hs ht => next_congr (rwRelease_due hr hs ht),
   fun t hr hs ht => next_congr (rwSample_notK hr hs ht),
   fun t hr hs ht ha => next_congr (rwRetry_again hr hs ht ha),
   fun hs hk hr => next_congr (hostResume_idle hs hk hr),
   fun hs hk => ⟨resumeEnd s, rfl, resumeEnd_resumed hs hk⟩⟩

end Sys2Proof.Machine
end

section
/-!
PROOF. The companion bus: every command completes (R396–R403).
-/

namespace Sys2Proof.Machine

open Sys2Proof

/-! The Mirror and the posted writes (R396–R400). -/

theorem cbMirrorRead_stale {s : State} {a : Nat} (h : mirrorFresh s a = false) :
    (cbMirrorRead s a).cb.word = rdLE s.cb.mirror.snap a 2 ∧ (cbMirrorRead s a).cb.mirror.prev = some a := by
  have h' : mirrorFresh (modCb s (fun c => { c with rstLow := false })) a = false := h
  unfold cbMirrorRead mirrorRead
  rw [h']
  exact ⟨rfl, rfl⟩

theorem postedDrain_first {s : State} {k : Nat} {bs : List Byte} {r : List (Nat × List Byte)} (hd : dictLive s = true)
    (hf : s.cb.fifo = (k, bs) :: r) : ∃ w, w = writeTx (modCb s (fun c =>
      { c with fifo := r, processed := inc32 c.processed })) .c k bs [] ∧
      postedDrain s = if vRefused w.2 then postedRefused w.1 k w.2 else w.1 := by
  refine ⟨_, rfl, ?_⟩
  unfold postedDrain
  rw [hf]
  exact if_neg (by rw [hd]; decide)

/-- A command of the companion bus on the live control plane. -/
theorem next_companion {s u : State} {f : State → State} (hp : cbPowered s = true) (hl : controlLive s = true)
    (h : f (cbTouch s) = u) : doCb f s = .next (finish s u) :=
  next_when hp ((if_pos hl).trans h)

theorem fifoPut_room {s : State} {k : Nat} {bs : List Byte} (h : s.cb.fifo.length < 32) :
    fifoPut s k bs = modCb s (fun c => { c with fifo := c.fifo ++ [(k, bs)], dropRun := false }) := if_pos h

theorem pwGo_fifo {s : State} {i x l v : Nat} (h : s.cb.fifo.length < 32) :
    (pwGo s i x l v).cb.fifo = s.cb.fifo ++ [(okey i x, leBytes l v)] := by
  unfold pwGo
  rw [fifoPut_room (by exact h)]
  rfl

theorem cbTouch_ctl (s : State) : (cbTouch s).ctl = s.ctl := rfl

theorem objN_cbTouch (s : State) (i x : Nat) : objN (cbTouch s) i x = objN s i x := by
  unfold objN obj objK
  rw [cbTouch_ctl]

theorem doorbell_mapped {s : State} {n : Fin 16} {w : Nat} {r : ObjRow} (hm : objN s 0x2A10 (4 + n.val) ≠ 0)
    (hr : objRow (objN s 0x2A10 (4 + n.val) / 256) = some r) (h : s.cb.fifo.length < 32) :
    doorbell s n w = modCb s (fun c => { c with
      fifo := c.fifo ++ [(objN s 0x2A10 (4 + n.val) / 256, leBytes (min 2 r.ty.bytes) w)], dropRun := false }) := by
  unfold doorbell
  dsimp only
  rw [if_neg hm, hr]
  exact fifoPut_room h

theorem cbIn_taken {s : State} {w : Nat} (hh : s.cb.inp.halted = false) (hs : inSpace s ≠ 0) :
    cbIn s w = streamReceive s .c (leBytes 2 w) := by
  unfold cbIn
  rw [if_neg (by rw [hh]; decide), if_neg hs]

theorem cbOut_word {s : State} {r : CarRec} (h : nextRec s .c = some r) : (cbOut s).cb.word = rdLE r.bytes (2 * s.cb.outOff) 2 := by
  unfold cbOut
  rw [h]
  exact ite_keeps (·.cb.word) rfl rfl

theorem cbEvent_word {s : State} {r : EvtRec} {rest : List EvtRec} (h : s.cb.q.recs = r :: rest) :
    (cbEvent s).cb.word = rdLE (evBytes r) (2 * s.cb.evOff) 2 := by
  unfold cbEvent
  rw [h]
  exact ite_keeps (·.cb.word) rfl rfl

/-! The mailbox (R401, R402). -/

/-- The mailbox as a request finds it. -/
def mbTaken (s : State) : State :=
  modCb (cbTouch s) (fun c => { c with mb := { c.mb with busy := true, done := false, ignored := false, late := none } })

theorem dictLive_modCb (s : State) (f : CbSt → CbSt) : dictLive (modCb s f) = dictLive s := rfl

theorem dictLive_mbTaken (s : State) : dictLive (mbTaken s) = dictLive s := by
  unfold mbTaken cbTouch cbAccess
  simp only [dictLive_modCb]

theorem mbTaken_ctl (s : State) : (mbTaken s).ctl = s.ctl := by
  unfold mbTaken cbTouch cbAccess
  simp only [modCb_ctl]

theorem now_mbTaken (s : State) : now (mbTaken s) = now s := by
  unfold mbTaken cbTouch cbAccess now
  simp only [modCb_tu]

/-- What the verdict of a request leaves. -/
def mbAnswered (r : State × Nat) : State := if r.2 = vLate then r.1 else mbDone r.1 (vStatus r.2)

/-- A request of an idle mailbox. -/
theorem next_mailbox {s u : State} {f : State → State × Nat} (hp : cbPowered s = true) (hd : dictLive s = true)
    (hb : s.cb.mb.busy = false) (h : mbAnswered (f (mbTaken s)) = u) : doMb (fun s => mbRequest s f) s = .next (finish s u) :=
  next_when (by rw [hp, hd]; rfl) ((if_neg (by show ¬s.cb.mb.busy = true; rw [hb]; decide)).trans h)

theorem mbAnswered_done {r : State × Nat} (h : r.2 = 0) : mbAnswered r = mbDone r.1 0 := by
  unfold mbAnswered
  rw [h]
  rfl

/-- The checks of a read hang on the objects' values alone. -/
theorem judgeRead_congr {s t : State} (h : t.ctl.dict = s.ctl.dict) (p : Path) (k : Nat) : judgeRead t p k = judgeRead s p k := by
  unfold judgeRead checkReadRight objN obj objK
  rw [h]

/-- A read that passes its checks is answered OK. -/
theorem readTx_passes {s : State} {p : Path} {k : Nat} (hd : dictLive s = true) (hj : judgeRead (touch s p) p k = 0)
    (hk : k ≠ okey 0x2930 2) : (readTx s p k).2.1 = 0 := by
  unfold readTx
  dsimp only
  rw [hj, if_neg (by rw [hd]; decide), if_neg (by decide), if_neg hk]

/-- The transfer that a path has open, before its time is out. -/
theorem domTimeout_running {s : State} {p : Path} {d : DomXfer} (hx : s.ctl.xfers[p.idx] = some d)
    (ht : now s < d.lastSt + 200000000) : domTimeout s p = s := by
  unfold domTimeout
  rw [hx]
  exact if_neg (Nat.not_le.mpr ht)

theorem segmentAt_put {s : State} {p : Path} {d : DomXfer} {len : Nat} {bs : List Byte} (hl : dictLive s = true)
    (hx : s.ctl.xfers[p.idx] = some d) (ht : now s < d.lastSt + 200000000) (hw : d.wr = true) :
    segmentAt s p d.off len bs = ((domPut s p bs).1, (domPut s p bs).2, []) := by
  unfold segmentAt
  rw [domTimeout_running hx ht, hx, if_neg (by rw [hl]; decide)]
  dsimp only
  rw [if_neg (by simp), if_pos hw]

theorem xferDir_put {s : State} {p : Path} {d : DomXfer} (hx : s.ctl.xfers[p.idx] = some d) (hw : d.wr = true) (b : Bool) :
    xferDir s p b = b := by
  unfold xferDir
  rw [hx]
  dsimp only
  rw [hw]
  cases b <;> rfl

theorem mbFinish_late {s : State} {code : Nat} (h : s.cb.mb.late = some code) (hb : s.cb.mb.busy = true) :
    mbFinish s = mbDone s code := by
  unfold mbFinish
  rw [h]
  exact if_pos hb

theorem mbDone_answered (s : State) (code : Nat) :
    (mbDone s code).cb.mb.busy = false ∧ (mbDone s code).cb.mb.done = true ∧ (mbDone s code).cb.mb.code = code := ⟨rfl, rfl, rfl⟩

/-- The work of a segment request. -/
def mbSegmentRun (off len : Nat) (bs : List Byte) (s : State) : State × Nat :=
  let rd := xferDir s .c false
  let s1 := modCb s (fun c => { c with mb := { c.mb with offset := off, len := len, data := if rd then c.mb.data else bs } })
  let r := segmentAt s1 .c off len bs
  (if rd && r.2.1 = 0 then mbData r.1 r.2.2 else r.1, r.2.1)

theorem exec_mbSegment (off len : Nat) (bs : List Byte) (s : State) :
    exec (.mbSegment off len bs) s = doMb (fun s => mbRequest s (mbSegmentRun off len bs)) s := rfl

theorem mbSegmentRun_put {s : State} {d : DomXfer} {l : Nat} {bs : List Byte} (hd : dictLive s = true)
    (hx : s.ctl.xfers[Path.c.idx] = some d) (ht : now s < d.lastSt + 200000000) (hw : d.wr = true) :
    mbSegmentRun d.off l bs s =
      domPut (modCb s (fun c => { c with mb := { c.mb with offset := d.off, len := l, data := bs } })) .c bs := by
  unfold mbSegmentRun
  dsimp only
  rw [xferDir_put hx hw]
  exact congrArg (fun r : State × Nat × List Byte => (r.1, r.2.1)) (segmentAt_put (s := modCb s (fun c =>
    { c with mb := { c.mb with offset := d.off, len := l, data := bs } })) ((dictLive_modCb ..).trans hd) hx ht hw)

section Mailbox
variable {s : State} (hp : cbPowered s = true) (hd : dictLive s = true) (hb : s.cb.mb.busy = false)
include hp hd hb

theorem exec_mbRead_passes {i x : Nat} (hj : judgeRead (touch s .c) .c (okey i x) = 0) (hk : okey i x ≠ okey 0x2930 2) :
    ∃ u, exec (.mbRead i x) s = .next (finish s (mbDone u 0)) := by
  have hj' : judgeRead (touch (mbName (mbTaken s) i x) .c) .c (okey i x) = 0 := (judgeRead_congr (s := touch s .c) (by simp only [touch_ctl_dict, mbName, modCb_ctl, mbTaken_ctl]) ..).trans hj
  have hr : (readTx (mbName (mbTaken s) i x) .c (okey i x)).2.1 = 0 := 
    readTx_passes ((dictLive_modCb ..).trans ((dictLive_mbTaken s).trans hd)) hj' hk
  exact ⟨_, next_mailbox hp hd hb (mbAnswered_done hr)⟩

theorem exec_mbWrite_idle (i x : Nat) (bs : List Byte) : exec (.mbWrite i x bs) s =
    .next (finish s (mbAnswered (writeTx (mbData (mbName (mbTaken s) i x) bs) .c (okey i x) bs []))) :=
  next_mailbox hp hd hb rfl

theorem exec_mbOpenRead_idle (i x : Nat) : exec (.mbOpenRead i x) s =
    .next (finish s (mbAnswered (domOpen (mbName (mbTaken s) i x) .c i x false 0))) :=
  next_mailbox hp hd hb rfl

theorem exec_mbOpenWrite_idle (i x n : Nat) : exec (.mbOpenWrite i x n) s = .next (finish s (mbAnswered
    (domOpen (modCb (mbName (mbTaken s) i x) (fun c => { c with mb := { c.mb with offset := n } })) .c i x true n))) :=
  next_mailbox hp hd hb rfl

theorem exec_mbSegment_put {d : DomXfer} {l : Nat} {bs : List Byte} (hx : s.ctl.xfers[Path.c.idx] = some d)
    (ht : now s < d.lastSt + 200000000) (hw : d.wr = true) : exec (.mbSegment d.off l bs) s = .next (finish s (mbAnswered
      (domPut (modCb (mbTaken s) (fun c => { c with mb := { c.mb with offset := d.off, len := l, data := bs } })) .c bs))) :=
  (exec_mbSegment ..).trans <| next_mailbox hp hd hb <| congrArg mbAnswered <|
    mbSegmentRun_put ((dictLive_mbTaken s).trans hd) (by rw [mbTaken_ctl]; exact hx) (by rw [now_mbTaken]; exact ht) hw

theorem exec_mbAbort_idle : exec .mbAbort s = .next (finish s (mbAnswered (domAbort (mbTaken s) .c))) :=
  next_mailbox hp hd hb rfl

theorem exec_mbStreamReset_idle : exec .mbStreamReset s = .next (finish s (mbDone (modCb (mbTaken s) (fun c =>
    { c with inp := { c.inp with buf := [], halted := false, odd := false, named := none } })) 0)) :=
  next_mailbox hp hd hb (mbAnswered_done rfl)

end Mailbox

/-- The requests of the mailbox, claim by claim. -/
theorem mailboxComplete {s : State} (hp : cbPowered s = true) (hd : dictLive s = true) (hb : s.cb.mb.busy = false) :
    ∃ t, t = modCb (cbTouch s) (fun c => { c with mb := { c.mb with busy := true, done := false, ignored := false, late := none } }) ∧
        (∀ i x bs w, w = writeTx (mbData (mbName t i x) bs) .c (okey i x) bs [] →
          exec (.mbWrite i x bs) s = .next (finish s (if w.2 = vLate then w.1 else mbDone w.1 (vStatus w.2)))) ∧
        (∀ i x w, w = domOpen (mbName t i x) .c i x false 0 →
          exec (.mbOpenRead i x) s = .next (finish s (if w.2 = vLate then w.1 else mbDone w.1 (vStatus w.2)))) ∧
        (∀ i x n w, w = domOpen (modCb (mbName t i x) (fun c => { c with mb := { c.mb with offset := n } })) .c i x true n →
          exec (.mbOpenWrite i x n) s = .next (finish s (if w.2 = vLate then w.1 else mbDone w.1 (vStatus w.2)))) ∧
        (∀ o l bs d w, s.ctl.xfers[Path.c.idx] = some d → now s < d.lastSt + 200000000 → d.wr = true → d.off = o →
          w = domPut (modCb t (fun c => { c with mb := { c.mb with offset := o, len := l, data := bs } })) .c bs →
          exec (.mbSegment o l bs) s = .next (finish s (if w.2 = vLate then w.1 else mbDone w.1 (vStatus w.2)))) ∧
        (∀ w, w = domAbort t .c → exec .mbAbort s = .next (finish s (if w.2 = vLate then w.1 else mbDone w.1 (vStatus w.2)))) ∧
        exec .mbStreamReset s = .next (finish s (mbDone (modCb t (fun c =>
          { c with inp := { c.inp with buf := [], halted := false, odd := false, named := none } })) 0)) := by
  refine ⟨mbTaken s, rfl, ?_, ?_, ?_, ?_, ?_, exec_mbStreamReset_idle hp hd hb⟩
  · rintro i x bs w rfl
    exact exec_mbWrite_idle hp hd hb i x bs
  · rintro i x w rfl
    exact exec_mbOpenRead_idle hp hd hb i x
  · rintro i x n w rfl
    exact exec_mbOpenWrite_idle hp hd hb i x n
  · rintro o l bs d w hx ht hw rfl rfl
    exact exec_mbSegment_put hp hd hb hx ht hw
  · rintro w rfl
    exact exec_mbAbort_idle hp hd hb

theorem companionComplete : Claims.CompanionComplete := fun s hp hd =>
  ⟨fun a h => ⟨cbMirrorRead s a, next_when hp rfl, cbMirrorRead_stale h⟩,
   fun k bs r w hf hw => by
    subst hw
    obtain ⟨w, rfl, hdrain⟩ := postedDrain_first hd hf
    exact next_when hp hdrain,
   fun hl =>
    ⟨fun n w r hm hr h => by
      rw [← objN_cbTouch] at hm hr ⊢
      exact next_companion (f := (doorbell · n w)) hp hl (doorbell_mapped hm hr h),
     fun i x l v h => ⟨pwGo (cbTouch s) i x l v, next_companion (f := (pwGo · i x l v)) hp hl rfl, (pwGo_fifo (s := cbTouch s) h).trans rfl⟩,
     fun w hh hs => next_companion (f := (cbIn · w)) hp hl (cbIn_taken (s := cbTouch s) hh hs),
     fun _ h => ⟨cbOut (cbTouch s), next_companion (f := cbOut) hp hl rfl, cbOut_word (s := cbTouch s) h⟩,
     fun _ _ h => ⟨cbEvent (cbTouch s), next_companion (f := cbEvent) hp hl rfl, cbEvent_word (s := cbTouch s) h⟩⟩,
   next_when hp rfl,
   fun hb => ⟨fun i x hj hk => (exec_mbRead_passes hp hd hb hj hk).elim fun u hu => ⟨mbDone u 0, hu, mbDone_answered u 0⟩,
    mailboxComplete hp hd hb⟩,
   fun code h hb => next_when hp (mbFinish_late h hb)⟩

end Sys2Proof.Machine
end

section
/-!
PROOF. The field network, the Last Ride and the serial ports: every command completes (R412–R435).
-/

namespace Sys2Proof.Machine

open Sys2Proof

/-! NMT and bus errors (R412–R416). -/

theorem nmtCommand_mine {s : State} {node st cmd : Nat} (hm : nmtMine s node = true) (hn : s.net.nmt ≠ 0) :
    nmtCommand s node st cmd = lrLeave (nmtTo s st cmd) false :=
  if_pos (by rw [hm]; simpa using hn)

theorem nmtReset_mine {s : State} {node : Nat} (hm : nmtMine s node = true) :
    ∃ u, ∀ cmd, nmtReset s node cmd = nmtTo (dropWaits u) 0 cmd := ⟨_, fun _ => if_pos hm⟩

theorem nmtBootup_reset {s : State} (hl : canLive s = true) (hn : s.net.nmt = 0) : nmtBootup s =
    nmtTo (modNet (sendCan s (0x700 + s.net.nodeAct) [0]) (fun n => { n with hbSt := now s })) 0x7F 0 :=
  if_pos (by rw [hl, hn]; rfl)

/-- What a change of the NMT state alone leaves. -/
theorem nmtTo_keeps {β : Type} (φ : State → β) (hφ : ∀ s st, φ (modNet s (fun n => { n with nmt := st })) = φ s)
    (hr : ∀ s e a b, φ (raise s e a b) = φ s) (s : State) (st cmd : Nat) : φ (nmtTo s st cmd) = φ s := by
  unfold nmtTo
  exact ite_keeps φ rfl ((hr ..).trans (hφ ..))

theorem errBehaviour_keeps {β : Type} (φ : State → β) (hφ : ∀ s st, φ (modNet s (fun n => { n with nmt := st })) = φ s)
    (hr : ∀ s e a b, φ (raise s e a b) = φ s) (s : State) : φ (errBehaviour s) = φ s := by
  unfold errBehaviour
  split
  · exact ite_keeps φ (nmtTo_keeps φ hφ hr ..) rfl
  · exact nmtTo_keeps φ hφ hr ..
  · rfl

/-- The counters of the bus that a change of the NMT state or of the round leaves. -/
def busShown (s : State) : Nat × Nat := (s.net.busState, s.net.busoffs)

theorem busShown_errBehaviour (s : State) : busShown (errBehaviour s) = busShown s :=
  errBehaviour_keeps busShown (by intros; rfl) (by intros; rfl) s

theorem busShown_lrLeave (s : State) (b : Bool) : busShown (lrLeave s b) = busShown s := by
  unfold lrLeave
  exact ite_keeps busShown rfl rfl

theorem busOff_live {s : State} {t r : Nat} (hl : canLive s = true) :
    ∃ u, busOff s t r = loseN u 2 ∧ busShown u = (2, inc16 s.net.busoffs) := by
  refine ⟨_, if_neg (by rw [hl]; decide), ?_⟩
  rw [busShown_errBehaviour, busShown_lrLeave]
  rfl

theorem busErrors_live {s : State} {t r : Nat} (hl : canLive s = true) : busErrors s t r = modNet s (fun n =>
    { n with tec := wrap 8 t, rec_ := wrap 8 r, busState := b2n (decide (128 ≤ wrap 8 t) || decide (128 ≤ wrap 8 r)) }) :=
  if_pos hl

theorem busRecovered_off {s : State} (h : s.net.busState = 2) : busRecovered s =
    lrBack (raise (modNet s (fun n => { n with busState := 0, tec := 0, rec_ := 0 })) 465 0 0) :=
  if_neg (by simp [h])

/-! Heartbeat and EMCY (R417, R418). -/

theorem heartbeatSend_due {s : State} (hl : canLive s = true) (hn : s.net.nmt ≠ 0) (hm : objN s 0x1017 0 ≠ 0)
    (ht : s.net.hbSt + objN s 0x1017 0 * 200000 ≤ now s) : heartbeatSend s =
      modNet (sendCan s (0x700 + s.net.nodeAct) (leBytes 1 s.net.nmt)) (fun n => { n with hbSt := now s }) := by
  unfold heartbeatSend
  dsimp only
  rw [if_neg (by rw [hl, decide_eq_false hn, decide_eq_false hm, decide_eq_false (Nat.not_lt.mpr ht)]; decide)]

theorem hbTimeout_due {s : State} {i : Fin 4} {t : ST} (hl : canLive s = true) (hb : s.net.hb[i] = some t)
    (hm : hbTime s i ≠ 0) (ht : t + hbTime s i ≤ now s) : hbTimeout s i = errBehaviour (raise (modNet s (fun n =>
      { n with hb := upd n.hb i (fun _ => none), hbTimeouts := inc16 n.hbTimeouts })) 468 (hbNode s i) (inc16 s.net.hbTimeouts)) := by
  unfold hbTimeout
  rw [hb]
  exact if_neg (by rw [hl, decide_eq_false hm, decide_eq_false (Nat.not_lt.mpr ht)]; decide)

theorem hbTimeout_ctl (s : State) (i : Fin 4) : (hbTimeout s i).ctl = s.ctl := by
  unfold hbTimeout
  split
  · rfl
  · exact ite_keeps (·.ctl) rfl (errBehaviour_keeps (·.ctl) (by intros; rfl) (by intros; rfl) _)

theorem hbTimeout_other (s : State) {i j : Fin 4} (h : i ≠ j) : (hbTimeout s i).net.hb[j] = s.net.hb[j] := by
  unfold hbTimeout
  split
  · rfl
  · exact ite_keeps (·.net.hb[j]) rfl ((errBehaviour_keeps (·.net.hb[j]) (by intros; rfl) (by intros; rfl) _).trans
      (upd_other _ i j _ h))

/-- One consumer hears a heartbeat of its node at ST `t`. -/
def hbHeard (node : Nat) (t : ST) (s : State) (i : Fin 4) : State :=
  if hbTime s i ≠ 0 && hbNode s i = node then modNet (hbTimeout s i) (fun n => { n with hb := upd n.hb i (fun _ => some t) }) else s

theorem heartbeatReceive_live {s : State} {node : Nat} (hl : canLive s = true) (hn : s.net.nmt ≠ 0) :
    heartbeatReceive s node = applyAll (hbHeard node (now s)) s (allFin 4) :=
  if_neg (by rw [hl, decide_eq_false hn]; decide)

theorem hbHeard_ctl (node : Nat) (t : ST) (s : State) (i : Fin 4) : (hbHeard node t s i).ctl = s.ctl := by
  unfold hbHeard
  exact ite_keeps (·.ctl) (hbTimeout_ctl s i) rfl

theorem hbHeard_other (node : Nat) (t : ST) (s : State) {i j : Fin 4} (h : i ≠ j) :
    (hbHeard node t s i).net.hb[j] = s.net.hb[j] := by
  unfold hbHeard
  exact ite_keeps (·.net.hb[j]) ((upd_other _ i j _ h).trans (hbTimeout_other s h)) rfl

theorem hbHeard_same {node : Nat} {t : ST} {s : State} {i : Fin 4} (ht : hbTime s i ≠ 0) (hn : hbNode s i = node) :
    (hbHeard node t s i).net.hb[i] = some t := by
  unfold hbHeard
  rw [if_pos (by simp [ht, hn])]
  exact upd_same _ i _

theorem hbTime_of_ctl {s t : State} (h : t.ctl = s.ctl) (i : Fin 4) : hbTime t i = hbTime s i := by
  unfold hbTime objN obj objK
  rw [h]

theorem hbNode_of_ctl {s t : State} (h : t.ctl = s.ctl) (i : Fin 4) : hbNode t i = hbNode s i := by
  unfold hbNode objN obj objK
  rw [h]

theorem applyAll_hbHeard_other (node : Nat) (t : ST) {i : Fin 4} (xs : List (Fin 4)) (h : i ∉ xs) (s : State) :
    (applyAll (hbHeard node t) s xs).net.hb[i] = s.net.hb[i] := by
  induction xs generalizing s with
  | nil => rfl
  | cons x xs ih =>
    rw [applyAll_cons, ih (List.not_mem_of_not_mem_cons h)]
    exact hbHeard_other node t s (fun e => h (e ▸ List.mem_cons_self))

/-- Every consumer of the node among those asked has heard it. -/
theorem applyAll_hbHeard {node : Nat} {t : ST} {i : Fin 4} (xs : List (Fin 4)) (hi : i ∈ xs) {s : State} (ht : hbTime s i ≠ 0)
    (hn : hbNode s i = node) : (applyAll (hbHeard node t) s xs).net.hb[i] = some t := by
  induction xs generalizing s with
  | nil => cases hi
  | cons x xs ih =>
    rw [applyAll_cons]
    by_cases hm : i ∈ xs
    · exact ih hm (by rwa [hbTime_of_ctl (hbHeard_ctl ..)]) (by rwa [hbNode_of_ctl (hbHeard_ctl ..)])
    · obtain rfl : i = x := (List.mem_cons.mp hi).resolve_right hm
      rw [applyAll_hbHeard_other node t xs hm]
      exact hbHeard_same ht hn

theorem heartbeatReceive_heard {s : State} {node : Nat} (hl : canLive s = true) (hn : s.net.nmt ≠ 0) {i : Fin 4}
    (ht : hbTime s i ≠ 0) (hi : hbNode s i = node) : (heartbeatReceive s node).net.hb[i] = some (now s) := by
  rw [heartbeatReceive_live hl hn]
  exact applyAll_hbHeard _ (mem_allFin i) ht hi

theorem emcySend_free {s : State} {f : List Byte} {r : List (List Byte)} (hq : s.net.emcyQ = f :: r) (hl : usdoLive s = true)
    (he : emcyFree s = true) : emcySend s = modNet (sendCan s (canId s 0x1014 0) f) (fun n =>
      { n with emcyQ := r, emcySent := inc32 n.emcySent, emcySt := some (now s) }) := by
  unfold emcySend
  rw [hq]
  exact if_pos (by rw [hl, he]; rfl)

/-! USDO (R378–R382, R419). -/

theorem usdoClose_none {s : State} {c : Nat} (h : usdoFind s c = none) : usdoClose s c = s := by
  unfold usdoClose
  rw [h]

theorem usdoFind_forget (s : State) (c : Nat) : usdoFind (usdoForget s c) c = none := by
  refine List.find?_eq_none.mpr fun x hx => ?_
  have h := (List.mem_filter.mp hx).2
  simpa using h

theorem usdoFind_close (s : State) (c : Nat) : usdoFind (usdoClose s c) c = none := by
  unfold usdoClose
  split
  · assumption
  · exact usdoFind_forget ..

section Session
variable {s : State} {c : Nat}

theorem usdoDownload_expedited {i x t : Nat} {bs : List Byte} (hr : usdoRoom s c = true) (hf : usdoFind s c = none)
    (hk : keyIsDom (okey i x) = false) (ht : t ≤ bs.length) : usdoDownload s c i x t bs = usdoWrite s c (okey i x) bs := by
  unfold usdoDownload
  dsimp only
  rw [if_neg (by rw [hr]; decide), usdoClose_none hf, if_neg (by rw [hk]; decide), if_pos ht]

theorem usdoPut_last {e : UsdoSess} {bs : List Byte} (hf : usdoFind s c = some e) (hw : e.wr = true)
    (hk : keyIsDom e.key = false) (ht : e.total ≤ (e.data ++ bs).length) :
    usdoPut s c bs = usdoWrite (usdoForget s c) c e.key (e.data ++ bs) := by
  unfold usdoPut
  rw [hf]
  dsimp only
  rw [if_neg (by rw [hw]; decide), if_neg (by rw [hk]; decide), if_pos ht]

/-- A read that passes its checks is not refused. -/
theorem readTx_notRefused {p : Path} {k : Nat} (hj : judgeRead (touch s p) p k = 0) : vRefused (readTx s p k).2.1 = false := by
  unfold readTx
  dsimp only
  rw [hj]
  by_cases hd : dictLive s = true
  · rw [if_neg (by rw [hd]; decide), if_neg (by decide)]
    split <;> rfl
  · rw [if_pos (by simpa using hd)]
    rfl

theorem usdoUpload_whole {i x r : Nat} (hr : usdoRoom s c = true) (hf : usdoFind s c = none) (hk : keyIsDom (okey i x) = false)
    (hj : judgeRead (touch s .n) .n (okey i x) = 0) (hl : (readTx s .n (okey i x)).2.2.length ≤ r) :
    usdoUpload s c i x r = usdoAnswer (readTx s .n (okey i x)).1 c 0 (readTx s .n (okey i x)).2.2 := by
  unfold usdoUpload
  dsimp only
  rw [if_neg (by rw [hr]; decide), usdoClose_none hf, if_neg (by rw [hk]; decide),
    if_neg (by rw [readTx_notRefused hj]; decide), if_pos hl]

theorem usdoGet_segment {e : UsdoSess} {r : Nat} (hf : usdoFind s c = some e) (hw : e.wr = false) (hk : keyIsDom e.key = false) :
    (usdoGet s c r).net.reply = some ⟨c, 0, (e.data.drop e.off).take r⟩ := by
  unfold usdoGet
  rw [hf]
  dsimp only
  rw [if_neg (by rw [hw]; decide), if_neg (by rw [hk]; decide)]
  rfl

theorem usdoTimeout_expired {e : UsdoSess} (hf : usdoFind s c = some e) (ht : e.lastSt + 200000000 ≤ now s) :
    (usdoTimeout s c).net.reply = some ⟨c, 0x05040000, []⟩ := by
  unfold usdoTimeout
  rw [hf]
  dsimp only
  rw [if_pos ht]
  rfl

end Session

/-! The Last Ride (R420–R427). -/

theorem command_lrCall (s : State) (p : Path) (v : Nat) (seen : List Nat) : command s p (okey 0x2A48 8) v seen = some (lrCall s) :=
  rfl

theorem lrCall_idle {s t : State} (hm : objN s 0x2A48 1 = 2) (hl : lrLive s = true) (hs : s.net.lr.state = 0)
    (ht : t = modLr s (fun l => { l with evSince := false, localWake := false })) (hb : lrBusy t = 0) :
    lrCall s = (lrSend (lrBegin t (inc8 s.net.lr.round) 2 true) 1 0, 0) := by
  subst ht
  have hnone : (if s.net.lr.master && (s.net.lr.state = 2 || s.net.lr.state = 3) then lrEnd (lrSend s 6 0) 2 0 s.net.nodeAct
      else s) = s := if_neg (by rw [hs]; simp)
  unfold lrCall
  dsimp only
  rw [if_neg (by rw [hm, hl]; decide), hnone, hb]
  rfl

theorem lrCallReceive_ready {s t : State} {r : Nat} (hp : lrPart s = true) (hm : objN s 0x2A48 1 = 1) (h3 : s.net.lr.state ≠ 3)
    (h4 : s.net.lr.state ≠ 4) (ht : t = lrBegin s (wrap 8 r) 1 false) (hb : lrBusy t = 0) :
    lrCallReceive s (objN s 0x2A48 3) r = lrSend (modLr t (fun l => { l with ready := true })) 2 0 := by
  subst ht
  unfold lrCallReceive
  dsimp only
  rw [if_neg (by rw [hp, hm]; decide), if_neg (by simp), if_neg (by simp [h3, h4]), hb]
  rfl

theorem lrAnswer_first {s : State} {n r : Nat} (hp : lrPart s = true) (hs : s.net.lr.state = 2) (hm : s.net.lr.master = true)
    (hn : n ∈ lrMembers s) (ha : s.net.lr.answers.lookup n = none) :
    lrAnswer s n s.net.lr.round r = modLr s (fun l => { l with answers := l.answers ++ [(n, r)] }) :=
  if_neg (by simp [hp, hs, hm, ha, hn])

theorem lrWindowEnd_commits {s : State} (hp : lrPart s = true) (hs : s.net.lr.state = 2) (hm : s.net.lr.master = true)
    (hc : s.net.lr.commitSent = false) (ht : s.net.lr.startSt + 10000000 ≤ now s) (hv : s.net.lr.veto = none)
    (hf : lrFailing s = none) (hb : lrBusy s = 0) :
    lrWindowEnd s = lrSend (modLr s (fun l => { l with commitSent := true })) 5 0 := by
  unfold lrWindowEnd
  dsimp only
  rw [if_neg (by rw [hp, hs, hm, hc, decide_eq_false (Nat.not_lt.mpr ht)]; decide), hv, hf]
  dsimp only
  rw [hb]
  rfl

theorem lrVeto_curtain {s : State} {n : Nat} (hp : lrPart s = true) (hs : s.net.lr.state = 3) :
    lrVeto s n s.net.lr.round = lrEnd (lrSend s 7 8) 3 8 n := by
  unfold lrVeto
  dsimp only
  rw [if_neg (by simp [hp]), if_pos hs]

theorem lrCommit_waiting {s : State} (hp : lrPart s = true) (hs : s.net.lr.state = 1) (hm : s.net.lr.master = false) :
    lrCommit s (objN s 0x2A48 3) s.net.lr.round = modLr s (fun l => { l with state := 3, startSt := now s }) :=
  if_pos (by simp [hp, hs, hm])

theorem lrAbort_waiting {s : State} {r : Nat} (hp : lrPart s = true) (hs : s.net.lr.state = 1) :
    lrAbort s (objN s 0x2A48 3) s.net.lr.round r = lrEnd s 2 r (objN s 0x2A48 3) :=
  if_pos (by simp [hp, hs])

theorem lrWaitTimeout_due {s : State} (hs : s.net.lr.state = 1) (hr : s.net.lr.ready = true)
    (ht : s.net.lr.startSt + 20000000 ≤ now s) : lrWaitTimeout s = lrEnd s 4 0 (objN s 0x2A48 3) :=
  if_pos (by rw [hs, hr, decide_eq_true ht]; rfl)

theorem lrCurtainEnd_asleep {s : State} (hs : s.net.lr.state = 3) (ht : s.net.lr.startSt + 3980000 ≤ now s)
    (hm : objN s 0x2A48 2 ≠ 1) : ∃ u, lrCurtainEnd s = canStandby u 3 ∧ u.net.lr.state = 4 ∧ u.net.lr.outcome = 1 := by
  refine ⟨raise (modLr s (fun l =>
      { l with state := 4, outcome := 1, reason := 0, sleeps := inc32 l.sleeps, master := false, ready := false, commitSent := false })) 
      472 s.net.lr.round (objN s 0x2A48 2), ?_, rfl, rfl⟩
  unfold lrCurtainEnd
  dsimp only
  rw [if_neg (by rw [hs, decide_eq_false (Nat.not_lt.mpr ht)]; decide), if_neg (by simp [hm])]

theorem lrWake_curtain {s : State} {n : Nat} (hp : lrPart s = true) (hs : s.net.lr.state = 3) : lrWake s n = lrEnd s 3 9 n :=
  if_pos (by rw [hp, hs]; rfl)

theorem exec_canWake_recognised {s : State} {f : WakeFrame} {c : Nat} (h : wakeCauseOf s f = some c) :
    exec (.canWake f) s = .next (finish s (canWake s c)) := by
  show Host.Outcome.next (finish s (match wakeCauseOf s f with | some c => canWake s c | none => s)) = _
  rw [h]

theorem canWake_asleep {s : State} {c : Nat} (hb : s.net.busState = 3) (hm : s.md.mode ≠ .doze) :
    canWake s c = lrWoken (canUp s) c 0 := by
  unfold canWake
  rw [if_neg (by simp [hb]), if_neg hm]

/-! The serial ports (R428–R435). -/

theorem modUart_same (s : State) (n : Fin 2) (f : UartSt → UartSt) : (modUart s n f).uarts[n] = f s.uarts[n] := upd_same _ n f

theorem uartReceive_good {s : State} {n : Fin 2} {x : List Nat} (hd : dictLive s = true) (hb : s.uarts[n].breakWait = false)
    (hw : uartCfg s n 7 ≠ 1) (ha : uartActive s n = true) (hx : sampleHigh (x.headD 3) = false) :
    uartReceive s n x = uartStore (modUart s n (fun u => { u with rxBusy := false })) n (uartFrame s n x) := by
  have he : uartEdge s n = s := if_neg hw
  unfold uartReceive
  rw [if_neg (by rw [hd, hb]; decide)]
  dsimp only
  rw [he, if_neg (by rw [ha, hx]; decide)]

theorem uartTxStart_free {s : State} {n : Fin 2} {c : Nat} {cts : Bool} (ha : uartActive s n = true)
    (hh : s.uarts[n].txHold = some c) (hs : s.uarts[n].txShift = none) (hf : uartCfg s n 6 = 0 ∨ cts = true) :
    (uartTxStart s n cts).uarts[n].txShift = some c ∧ (uartTxStart s n cts).uarts[n].txHold = none := by
  unfold uartTxStart
  dsimp only
  rw [hh, hs, if_pos (by rw [ha]; simpa using hf), modUart_same, modUart_same]
  exact ⟨hh, rfl⟩

theorem uartTxDone_sent {s : State} {n : Fin 2} {c : Nat} (hs : s.uarts[n].txShift = some c) (ha : uartActive s n = true) :
    (uartTxDone s n).uarts[n].txShift = none ∧ (uartTxDone s n).uarts[n].txChars = inc32 s.uarts[n].txChars := by
  unfold uartTxDone
  rw [hs, ha, if_pos (by rfl), modUart_same]
  exact ⟨rfl, rfl⟩

theorem uartStartEdge_doze {s : State} {n : Fin 2} (hw : uartCfg s n 7 = 1) (hm : s.md.mode = .doze) :
    (uartStartEdge s n).md.wakeSrc = setBit s.md.wakeSrc (2 + n.val) ∧ (uartStartEdge s n).uarts[n].rtsWake = true := by
  unfold uartStartEdge
  rw [if_pos hm, if_neg (by simp [hw])]
  exact ⟨rfl, congrArg UartSt.rtsWake (modUart_same ..)⟩

theorem networkComplete : Claims.NetworkComplete := fun s =>
  ⟨fun node hm hn => ⟨next_congr (nmtCommand_mine hm hn), next_congr (nmtCommand_mine hm hn), next_congr (nmtCommand_mine hm hn)⟩,
   fun node hm => by
    obtain ⟨u, hu⟩ := nmtReset_mine hm
    exact ⟨u, next_congr (hu 0x81), next_congr (hu 0x82)⟩,
   fun hl =>
    ⟨fun hn => next_congr (nmtBootup_reset hl hn),
     fun t r => by
      obtain ⟨u, hu, hb⟩ := busOff_live (t := t) (r := r) hl
      exact ⟨u, next_congr hu, congrArg Prod.fst hb, congrArg Prod.snd hb⟩,
     fun t r => next_congr (busErrors_live hl),
     fun hn hm ht => next_congr (heartbeatSend_due hl hn hm ht),
     fun node hn => ⟨heartbeatReceive s node, next_when rfl rfl, fun _ ht hi => heartbeatReceive_heard hl hn ht hi⟩,
     fun i t hb hm ht => next_congr (hbTimeout_due hl hb hm ht)⟩,
   fun h => next_congr (busRecovered_off h),
   fun f r hq hl he => next_congr (emcySend_free hq hl he),
   fun c u hu hl => by
    subst hu
    exact ⟨fun i x t bs hr hf hk ht => next_when hl (usdoDownload_expedited hr hf hk ht),
      fun e bs hf hw hk ht => next_when hl (usdoPut_last hf hw hk ht),
      fun i x r d hr hf hk hj hd hle => by subst hd; exact next_when hl (usdoUpload_whole hr hf hk hj hle),
      fun e r hf hw hk => ⟨usdoGet (usdoExpire s) c r, next_when hl rfl, usdoGet_segment hf hw hk⟩,
      ⟨usdoClose s c, next_when hl rfl, usdoFind_close s c⟩⟩,
   fun c e hf ht => ⟨usdoTimeout s c, rfl, usdoTimeout_expired hf ht⟩,
   fun p t h hm hl hs ht hb => doWrite_command (n := 1) h (by decide)
      ((command_lrCall ..).trans (congrArg some (lrCall_idle (s := touch s p) hm hl hs ht hb))),
   fun hp =>
    ⟨fun r t hm h3 h4 ht hb => next_congr (lrCallReceive_ready hp hm h3 h4 ht hb),
     fun n r hs hm hn ha => next_congr (lrAnswer_first hp hs hm hn ha),
     fun hs hm hc ht hv hf hb => next_congr (lrWindowEnd_commits hp hs hm hc ht hv hf hb),
     fun n hs => ⟨next_congr (lrVeto_curtain hp hs), next_congr (lrWake_curtain hp hs)⟩,
     fun hs hm => ⟨next_congr (lrCommit_waiting hp hs hm), fun r => next_congr (lrAbort_waiting hp hs)⟩⟩,
   fun hs hr ht => next_congr (lrWaitTimeout_due hs hr ht),
   fun hs ht hm => by
    obtain ⟨u, hu, hst, hout⟩ := lrCurtainEnd_asleep hs ht hm
    exact ⟨u, next_congr hu, hst, hout⟩,
   fun f c hb hw hm => (exec_canWake_recognised hw).trans (next_congr (canWake_asleep hb hm)),
   fun n x hd hb hw ha hx => next_congr (uartReceive_good hd hb hw ha hx),
   fun n c cts ha hh hs hf => ⟨uartTxStart s n cts, rfl, uartTxStart_free ha hh hs hf⟩,
   fun n c hs ha => ⟨uartTxDone s n, rfl, uartTxDone_sent hs ha⟩,
   fun n hw hm => ⟨uartStartEdge s n, rfl, uartStartEdge_doze hw hm⟩,
   fun n => rfl⟩

end Sys2Proof.Machine
end

section
/-!
PROOF. Events, the Safety Net, the Trouble Log and power: every command completes (R442–R478).
-/

namespace Sys2Proof.Machine

open Sys2Proof

/-! Event flags and the Trouble Log (R447, R451, R454). -/

theorem command_eventClearFlag (s : State) (p : Path) (seen : List Nat) :
    command s p (okey 0x2B01 4) 1 seen = some (clearFlag s (atN 0 s.rm.sel p.idx.val), 0) := rfl

theorem command_eventClearAll (s : State) (p : Path) (seen : List Nat) :
    command s p (okey 0x2B01 9) 1 seen = some (clearAllFlags s, 0) := rfl

theorem evRec_clearFlag_same (s : State) (e : Nat) : evRec (clearFlag s e) e = { evRec s e with flag := false } :=
  SMap.get_put_same ..

theorem evRec_clearFlag_other (s : State) {e f : Nat} (h : f ≠ e) : evRec (clearFlag s e) f = evRec s f :=
  SMap.get_put_other _ _ _ _ _ h

theorem clearFlag_flag (s : State) (e f : Nat) : (evRec (clearFlag s e) f).flag = (decide (f ≠ e) && (evRec s f).flag) := by
  by_cases h : f = e
  · rw [h, evRec_clearFlag_same]
    simp
  · rw [evRec_clearFlag_other s h]
    simp [h]

theorem applyAll_clearFlag_flag (xs : List Nat) (s : State) (e : Nat) :
    (evRec (applyAll clearFlag s xs) e).flag = (decide (e ∉ xs) && (evRec s e).flag) := by
  induction xs generalizing s with
  | nil => simp [applyAll]
  | cons x xs ih =>
    rw [applyAll_cons, ih, clearFlag_flag]
    by_cases h : e = x <;> simp [h]

/-- Every record whose flag stands is one of the table's entries: an unlisted record reads as reset. -/
theorem mem_of_flagged (m : SMap EvRec) {e : Nat} (h : (SMap.get (fun _ => EvRec.reset) m e).flag = true) :
    e ∈ (m.filter (fun r => r.2.flag)).map (fun r => r.1) := by
  induction m with
  | nil => cases h
  | cons r m ih =>
    obtain ⟨j, v⟩ := r
    unfold SMap.get at h
    split at h
    next hj => exact List.mem_map.mpr ⟨(j, v), List.mem_filter.mpr ⟨List.mem_cons_self .., h⟩, hj⟩
    next =>
      obtain ⟨r, hr, he⟩ := List.mem_map.mp (ih h)
      obtain ⟨hm, hf⟩ := List.mem_filter.mp hr
      exact List.mem_map.mpr ⟨r, List.mem_filter.mpr ⟨List.mem_cons_of_mem _ hm, hf⟩, he⟩

theorem clearAllFlags_flag (s : State) (e : Nat) : (evRec (clearAllFlags s) e).flag = false := by
  unfold clearAllFlags
  rw [applyAll_clearFlag_flag]
  cases h : (evRec s e).flag with
  | false => simp
  | true => simp [show e ∈ flaggedEvents s from mem_of_flagged s.rm.recs h]

theorem command_tlClear (s : State) (p : Path) (seen : List Nat) : command s p (okey 0x2C00 1) 1 seen = some (tlClear s p, 0) := rfl

/-! The Safety Net (R455–R461). -/

section Inputs
variable {s : State} (hon : s.pw.on = true)
include hon

theorem coverAssert_high (h : s.sn.coverLow = false) : coverAssert s =
    snInput s (fun n => { n with coverLow := true, coverDue := none }) 496 inputsWord cutsWord :=
  if_neg (by rw [hon, h]; decide)

theorem coverDeassert_low (h : s.sn.coverLow = true) : coverDeassert s =
    snInput s (fun n => { n with coverLow := false, coverDue := some (now s + 2000000) }) 497 inputsWord (fun _ => 0) :=
  if_neg (by rw [hon, h]; decide)

theorem haltPin_falls (h : s.sn.haltLow = false) : haltPin s true =
    snInput s (fun n => { n with haltLow := true, haltLatch := true }) 498 inputsWord cutsWord :=
  (if_neg (by rw [hon, h]; decide)).trans (if_pos rfl)

theorem otAssert_high {h : Fin 2} (ho : s.sn.ot[h] = false) : otAssert s h = snInput s (fun n =>
    { n with ot := upd n.ot h (fun _ => true), otLatch := upd n.otLatch h (fun _ => true) }) 499 (fun _ => h.val) inputsWord :=
  if_neg (by rw [hon, ho]; decide)

theorem ovAssert_high {h : Fin 2} {v : Nat} (ho : s.sn.ov[h] = false) : ovAssert s h v = snInput s (fun n =>
    { n with ov := upd n.ov h (fun _ => true), ovLatch := upd n.ovLatch h (fun _ => true) }) 500 (fun _ => h.val) (fun _ => v) :=
  if_neg (by rw [hon, ho]; decide)

/-! Power (R462–R478). -/

theorem railFail_ioRail {v : Nat} (hp : s.pw.pf = none) (hv : v < railUv s 9) : railFail s 9 v =
    raise (modPw (modPw s (fun w => { w with flags := setBit w.flags 9 })) (fun w => { w with failed := setBit w.failed 9 })) 484 9 v := by
  have hoff : railOff s 9 = false := rfl
  have hpf : (raise (modPw (modPw s (fun w => { w with flags := setBit w.flags 9 })) (fun w => { w with failed := setBit w.failed 9 }))
      484 9 v).pw.pf = none := hp
  unfold railFail
  dsimp only
  rw [if_neg (by rw [hon, decide_eq_false (Nat.not_le.mpr hv)]; decide), hoff, if_neg (by decide), hpf, if_neg (by simp),
    if_neg (by simp), if_neg (by simp [within])]

theorem railOver_high {r v : Nat} (h9 : r ≤ 9) (h1 : r ≠ 1) (h2 : r ≠ 2) (hv : 11 * railSet s r < 10 * v) :
    railOver s r v = raise s 485 r v :=
  if_neg (by simp only [hon, h1, h2, decide_eq_false (Nat.not_lt.mpr h9), decide_eq_false (Nat.not_le.mpr hv)]; decide)

theorem pfBegin_supplied {c : Nat} {pr : Bool} {t : State} (hp : s.pw.pf = none) (hd : dozeOff s = false)
    (ht : t = raise { s with md := { s.md with trans := none, held := false },
                             pw := { s.pw with present := pr, pf := some ⟨c, now s, 3, 0⟩ } } 480 c s.md.mode.code) :
    pfBegin s c pr = pfSkip (norAbandon (boostOff (cutsFollow t (modSn t (fun n => { n with pdCut := true }))))) 2 := by
  subst ht
  exact if_neg (by simp [hon, hp, hd])

theorem inputDip_short {us : Nat} (hp : s.pw.pf = none) (hd : dozeOff s = false) (h5 : 5000 ≤ us) (h6 : us < 6000) :
    inputDip s us = raise (modPw s (fun w => { w with dips := inc32 w.dips })) 493 (inc32 s.pw.dips) us :=
  if_neg (by rw [hon, hp, hd, decide_eq_false (Nat.not_lt.mpr h5), decide_eq_false (Nat.not_le.mpr h6)]; simp)

end Inputs

theorem coverRelease_due {s : State} {t : ST} (h : s.sn.coverDue = some t) (ht : t ≤ now s) :
    coverRelease s = cutsFollow s (modSn s (fun n => { n with coverDue := none })) := by
  unfold coverRelease
  rw [h]
  exact if_pos ht

theorem command_snRelease (s : State) (p : Path) (seen : List Nat) : command s p (okey 0x2C11 1) 1 seen = some (snRelease s) := rfl

theorem snRelease_free {s : State} (h : latchHeld s = false) : snRelease s = (snReleaseAll s, 0) := if_neg (by rw [h]; decide)

theorem avsUpdate_off {s : State} {counts : List Nat} (hr : objN s 0x2D01 6 * 15 / 16 ≤ counts.foldl min 65535)
    (hm : objN s 0x2D01 1 ≠ 1) : avsUpdate s counts = modPw s (fun w => { w with roMin := counts.foldl min 65535 }) := by
  unfold avsUpdate
  dsimp only
  rw [if_neg (Nat.not_lt.mpr hr), if_neg (by simp [hm])]

theorem safetyComplete : Claims.SafetyComplete := fun s =>
  ⟨fun p h => ⟨_, doWrite_command (n := 1) h (by decide) (command_eventClearFlag ..), evRec_clearFlag_same ..⟩,
   fun p h => ⟨_, doWrite_command (n := 1) h (by decide) (command_eventClearAll ..), clearAllFlags_flag _⟩,
   fun hon =>
    ⟨fun h => next_when rfl (coverAssert_high hon h), fun h => next_when rfl (coverDeassert_low hon h),
     fun h => next_when rfl (haltPin_falls hon h), fun _ ho => next_when rfl (otAssert_high hon ho),
     fun _ _ ho => next_when rfl (ovAssert_high hon ho)⟩,
   fun _ h ht => next_when rfl (coverRelease_due h ht),
   fun _ => ⟨next_when rfl rfl, next_when rfl rfl⟩,
   fun p h hl => doWrite_command (n := 1) h (by decide) ((command_snRelease ..).trans (congrArg some (snRelease_free (s := touch s p) hl))),
   fun p t ht h => by
    subst ht
    exact doWrite_command (n := 1) h (by decide) (command_tlClear ..),
   fun _ hon hp hv => next_when rfl (railFail_ioRail hon hp hv),
   fun _ _ hon h9 h1 h2 hv => next_when rfl (railOver_high hon h9 h1 h2 hv),
   fun counts ro t hl ha hr ht h6 h1 => by
    subst hr ht
    exact next_when (by rw [hl, ha]; rfl) (avsUpdate_off h6 h1),
   fun _ _ _ hon hp hd ht => next_when rfl (pfBegin_supplied hon hp hd ht),
   fun _ hon hp hd h5 h6 => next_when rfl (inputDip_short hon hp hd h5 h6),
   next_when rfl rfl, rfl, rfl⟩

end Sys2Proof.Machine
end

section
/-!
PROOF. Images: a whole transfer is judged as it opens and taken as it ends (R81, R385, R491, R497).
-/

namespace Sys2Proof.Machine

open Sys2Proof

theorem firstRefusal_zero {cs : List Nat} : firstRefusal cs = 0 ↔ ∀ c ∈ cs, c = 0 := by
  induction cs with
  | nil => simp [firstRefusal]
  | cons c cs ih =>
    unfold firstRefusal
    split
    next hc => simp [hc, ih]
    next hc => simp [hc]

/-! A DOMAIN transfer touches neither the mode nor the claims, on which its checks rest. -/

/-- What the checks of a transfer read: the mode machine, power, the counters, the claims and the epoch. -/
def openGround (s : State) : ModeSt × PwSt × TuSt × Vector Claim 24 × Option Epoch :=
  (s.md, s.pw, s.tu, s.ctl.claims, s.ctl.epoch)

theorem dropXfer_openGround (s : State) (p : Path) : openGround (dropXfer s p) = openGround s := by
  unfold dropXfer
  cases s.ctl.xfers[p.idx] with
  | none => rfl
  | some x =>
    dsimp only
    exact ite_keeps openGround rfl rfl

theorem noteBytes_openGround (s : State) (idx n : Nat) : openGround (noteBytes s idx n) = openGround s :=
  ite_keeps openGround rfl rfl

theorem dictLive_ground {s t : State} (h : openGround t = openGround s) : dictLive t = dictLive s := by
  have hm : t.md = s.md := congrArg (·.1) h
  have hp : t.pw = s.pw := congrArg (·.2.1) h
  unfold dictLive controlLive dozeEntry powered
  rw [hm, hp]

theorem touch_ground {s t : State} (p : Path) (h : openGround t = openGround s) : openGround (touch t p) = openGround (touch s p) := by
  simp only [openGround, Prod.mk.injEq] at h ⊢
  obtain ⟨hm, hp, ht, hc, he⟩ := h
  simp [touch, now, hm, hp, ht, hc, he]

theorem touch_touch (s : State) (p : Path) : openGround (touch (touch s p) p) = openGround (touch s p) := by
  have hc : (touch (touch s p) p).ctl.claims = (touch s p).ctl.claims := by
    simp only [touch, now, Vector.map_map]
    congr 1
    funext c
    by_cases h : c.path = some p <;> simp [h]
  unfold openGround
  rw [hc]
  rfl

/-! The checks at the end of an image's transfer are those that its open has passed. -/

/-- The indices of the two images. -/
abbrev IsImage (idx : Nat) : Prop := idx = 0x5E00 ∨ idx = 0x5E01

section Checks
variable {s t : State} {p : Path} {idx : Nat}

theorem judgeOpen_passed {n : Nat} (h : judgeOpen s p idx 0 true n = 0) : checkWriteRight s p (okey idx 0) 0 = 0 ∧
    domLenOk idx n = true ∧ checkClaim s p (okey idx 0) 0 = 0 ∧ checkMode s p (okey idx 0) = 0 := by
  unfold judgeOpen at h
  dsimp only at h
  rw [if_pos rfl, firstRefusal_zero] at h
  simp only [List.forall_mem_cons] at h
  obtain ⟨-, hr, -, hd, hc, hm, -⟩ := h
  refine ⟨hr, ?_, hc, hm⟩
  by_contra hn
  have hne : ∀ c : Bool, (if c then 0x23 else 0x123) ≠ 0 := by decide
  rw [if_neg hn] at hd
  exact hne _ hd

theorem checkWriteRight_image (hi : IsImage idx) (hg : openGround t = openGround s) :
    checkWriteRight t p (okey idx 0) 0 = checkWriteRight s p (okey idx 0) 0 := by
  simp only [openGround, Prod.mk.injEq] at hg
  obtain ⟨hm, -, -, hc, -⟩ := hg
  have hw (u : State) : windowRefuses u p (okey idx 0 / 256) (okey idx 0 % 256) 0 = false := by
    obtain rfl | rfl := hi <;> rfl
  unfold checkWriteRight sessionPath
  rw [hm, hc, hw, hw]

theorem checkClaim_image (hg : openGround t = openGround s) :
    checkClaim t p (okey idx 0) 0 = checkClaim s p (okey idx 0) 0 := by
  simp only [openGround, Prod.mk.injEq] at hg
  obtain ⟨-, -, -, hc, -⟩ := hg
  unfold checkClaim claimLets holder
  rw [hc]

theorem checkMode_image (hi : IsImage idx) (hg : openGround t = openGround s) :
    checkMode t p (okey idx 0) = checkMode s p (okey idx 0) := by
  simp only [openGround, Prod.mk.injEq] at hg
  obtain ⟨hm, -, -, hc, -⟩ := hg
  have hcls : clsOf (okey idx 0) = .serviceOnly := by obtain rfl | rfl := hi <;> rfl
  unfold checkMode modeLets sessionPath
  rw [hcls, hm, hc]

theorem domValueOk_image {bs : List Byte} (hi : IsImage idx) (h : domLenOk idx bs.length = true) : domValueOk idx bs = true := by
  unfold domValueOk
  rw [h]
  obtain rfl | rfl := hi <;> rfl

theorem crossOk_image (w : View) (hi : IsImage idx) : crossOk s w (okey idx 0) = true := by
  obtain rfl | rfl := hi <;> rfl

/-- The one of the two judgements that an image gets (R491, R497). -/
def judgeImage (s : State) (idx : Nat) (bs : List Byte) : State × Nat :=
  if idx = 0x5E00 then systemImage s bs else appImage s bs

theorem domWrite_image {bs : List Byte} (hi : IsImage idx) (hg : openGround t = openGround s)
    (hj : judgeOpen s p idx 0 true bs.length = 0) : domWrite t p idx bs = judgeImage t idx bs := by
  obtain ⟨hr, hd, hc, hm⟩ := judgeOpen_passed hj
  have hcls : clsOf (okey idx 0) ≠ .staged := by obtain rfl | rfl := hi <;> decide
  unfold domWrite
  dsimp only
  rw [checkWriteRight_image hi hg, hr, checkClaim_image hg, hc, checkMode_image hi hg, hm, domValueOk_image hi hd,
    crossOk_image _ hi, if_pos (by simp [hcls] : (true && true && (decide (clsOf (okey idx 0) ≠ .staged) ||
      stagingRoom (stageDom (stagingOf t p) idx bs))) = true)]
  refine (if_neg (by decide)).trans ?_
  obtain rfl | rfl := hi <;> rfl

end Checks

theorem vStatus_judgeImage (s : State) (idx : Nat) (bs : List Byte) : vStatus (judgeImage s idx bs).2 = (judgeImage s idx bs).2 := by
  unfold judgeImage
  split
  · unfold systemImage
    dsimp only
    split <;> rfl
  · unfold appImage
    dsimp only
    split <;> rfl

/-- The piece that completes a transfer writes its table (R385). -/
theorem domPut_last {s : State} {p : Path} {x : DomXfer} {bs : List Byte} (hl : dictLive s = true) (he : s.ctl.epoch = none)
    (hx : s.ctl.xfers[p.idx] = some x) (ht : now s < x.lastSt + 200000000) (hw : x.wr = true)
    (hn : (x.data ++ bs).length = x.total) {t : State} (hs : t = noteBytes (setXfer (touch s p) p none) x.idx bs.length) :
    (domPut s p bs).1 = answer (domWrite t p x.idx (x.data ++ bs)).1 p (vStatus (domWrite t p x.idx (x.data ++ bs)).2) := by
  have hx' : (touch s p).ctl.xfers[p.idx] = some x := hx
  unfold domPut
  rw [if_neg (by simp [hl]), epochFirst_none he, domTimeout_running hx' ht]
  dsimp only
  rw [hx']
  dsimp only
  rw [hw, if_neg (by simp [hn]), if_neg (by simp [hn]), hs]

/-- An image's transfer as its open leaves it: the slot it goes to is erased (R491). -/
def imageOpened (s : State) (p : Path) (idx n : Nat) : State :=
  let s1 := dropXfer (touch s p) p
  answer (setXfer (if idx = 0x5E00 then imageErase s1 else s1) p (some ⟨idx, true, n, [], 0, now s⟩)) p 0

theorem openGround_answer_setXfer (s : State) (p : Path) (x : Option DomXfer) (st : Nat) :
    openGround (answer (setXfer s p x) p st) = openGround s := rfl

theorem imageErase_openGround (s : State) : openGround (imageErase s) = openGround s := rfl

theorem imageOpened_openGround (s : State) (p : Path) (idx n : Nat) :
    openGround (imageOpened s p idx n) = openGround (touch s p) := by
  unfold imageOpened
  dsimp only
  rw [openGround_answer_setXfer]
  split
  · rw [imageErase_openGround, dropXfer_openGround]
  · exact dropXfer_openGround _ p

theorem domWriteWhole_image {s : State} {p : Path} {idx : Nat} {bs : List Byte} (hi : IsImage idx) (hl : dictLive s = true)
    (he : s.ctl.epoch = none) (hj : judgeOpen (touch s p) p idx 0 true bs.length = 0) :
    ∃ t, domWriteWhole s p idx bs = answer (judgeImage t idx bs).1 p (judgeImage t idx bs).2 := by
  have ho : domOpen s p idx 0 true bs.length = (imageOpened s p idx bs.length, 0) := by
    unfold domOpen
    rw [if_neg (by simp [hl]), epochFirst_none he]
    dsimp only
    rw [hj, if_neg (by simp)]
    simp only [Bool.true_and, decide_eq_true_eq]
    rfl
  have hg := imageOpened_openGround s p idx bs.length
  have ht : openGround (noteBytes (setXfer (touch (imageOpened s p idx bs.length) p) p none) idx bs.length) = openGround (touch s p) :=
    (noteBytes_openGround ..).trans ((touch_ground p hg).trans (touch_touch s p))
  have hw : domWriteWhole s p idx bs = (domPut (imageOpened s p idx bs.length) p bs).1 := by
    unfold domWriteWhole
    rw [ho]
    rfl
  refine ⟨noteBytes (setXfer (touch (imageOpened s p idx bs.length) p) p none) idx bs.length, hw.trans ?_⟩
  rw [domPut_last (x := ⟨idx, true, bs.length, [], 0, now s⟩) ((dictLive_ground hg).trans hl) ((congrArg (·.2.2.2.2) hg).trans he)
    (upd_same ..) ?_ rfl rfl rfl, List.nil_append]
  · dsimp only
    rw [domWrite_image hi ht hj, vStatus_judgeImage]
  · have hn : now (imageOpened s p idx bs.length) = now s := congrArg (·.2.2.1.st) hg
    rw [hn]
    exact Nat.lt_add_of_pos_right (by decide)

end Sys2Proof.Machine
end

section
/-!
PROOF. Images, keys, the application, its calls and debug access: every command completes (R490–R502).
-/

namespace Sys2Proof.Machine

open Sys2Proof

/-! Slots and keys (R491–R493). -/

theorem command_slotCmd (s : State) (p : Path) (seen : List Nat) : command s p (okey 0x2E00 5) 1 seen = some (slotCmd s, 0) := rfl

theorem command_rollbackCmd (s : State) (p : Path) (seen : List Nat) :
    command s p (okey 0x2E02 11) 1 seen = some (rollbackCmd s, 0) := rfl

theorem rollbackCmd_raises {s : State} (h : s.boot.rollback < s.boot.slots[s.boot.running].rollback) : rollbackCmd s =
    raise (rejudgeOther (modBoot s (fun b => { b with rollback := s.boot.slots[s.boot.running].rollback }))) 508 1
      s.boot.slots[s.boot.running].rollback :=
  if_neg (Nat.not_le.mpr h)

theorem command_keyCmd (s : State) (p : Path) (v : Nat) (seen : List Nat) :
    command s p (okey 0x2E02 9) v seen = some (keyCmd s v) := rfl

theorem keyCmd_add {s : State} {k : Fin 4} {x y : Nat} (hx : x = quad s 0x2E02 1) (hy : y = quad s 0x2E02 5)
    (hk : (allFin 4).find? (fun k => s.boot.keys[k].state == 0) = some k) (hp : ∀ j : Fin 4, s.boot.keys[j].state ≠ 1)
    (hc : onCurve x y = true) {t : State} (ht : t = modBoot s (fun b => { b with keys := upd b.keys k (fun _ => ⟨1, x, y⟩) })) :
    keyCmd s 1 = (raise t 508 2 (slotStates t), 0) := by
  have hany : (allFin 4).any (fun k => s.boot.keys[k].state == 1) = false := by simpa using fun j _ => hp j
  subst hx hy ht
  unfold keyCmd
  dsimp only
  rw [if_pos rfl, hk]
  dsimp only
  rw [hany, hc, if_neg (by decide)]

/-- A revocation ends the application and takes its images (R493). -/
theorem keyCmd_revoke (s : State) (k : Fin 4) : ∃ t, keyCmd s (2 + k.val) = (raise t 508 3 (slotStates t), 0) ∧ t.boot.appNor = [] := by
  refine ⟨modBoot (appStop (modBoot s (fun b => { b with keys := upd b.keys (Fin.ofNat 4 (2 + k.val - 2)) (fun x => { x with state := 2 }) }))
    5) (fun b => { b with appNor := [], appStage := [], stageValid := false }), if_neg (by omega), rfl⟩

theorem takesNumber_keyRevoke : ∀ k : Fin 4, TakesNumber (okey 0x2E02 9) (2 + k.val) := by decide

/-! The application runs and ends (R494, R500). -/

theorem command_appCmd (s : State) (p : Path) (v : Nat) (seen : List Nat) :
    command s p (okey 0x2E01 2) v seen = some (appCmd s v, 0) := rfl

theorem command_appEnable (s : State) (p : Path) (v : Nat) (seen : List Nat) : command s p (okey 0x2E01 1) v seen = none := rfl

theorem effect_appEnable (s t : State) (v : Nat) : effect s t (okey 0x2E01 1) v = if v = 0 then appStop t 4 else t := by
  show (if (decide (1 = 1) && decide ((v : Int) = 0)) = true then appStop t 4 else t) = _
  simp

theorem takesNumber_appEnable : ∀ v ≤ 1, TakesNumber (okey 0x2E01 1) v := by decide

theorem objN_setObjK (s : State) (i x v : Nat) : objN (setObjK s (okey i x) v) i x = v := by
  show (objK (setObjK s (okey i x) v) (okey i x)).toNat = v
  rw [objK_setObjK, Int.toNat_natCast]

section Running
variable {s : State} (hs : s.app.state = 2)
include hs

theorem wdogExpire_due (h0 : objN s 0x2E01 3 ≠ 0) (hh : s.tu.halted = false)
    (ht : s.app.kickSt + s.app.haltTicks + objN s 0x2E01 3 * 200000 ≤ now s) : wdogExpire s = appStop s 2 :=
  if_neg (by simp [hs, h0, hh, ht])

theorem appTrap_running (pc c : Nat) :
    appTrap s pc c = appStop (modApp s (fun a => { a with faultPc := wrap 32 pc, faultCause := wrap 32 c })) 3 :=
  if_neg (not_not.mpr hs)

theorem accessFault_running (hh : s.tu.halted = false) (a : Nat) :
    accessFault s a = modApp s (fun x => { x with accFault := some a }) :=
  if_neg (by simp [hs, hh])

theorem apiKick_unwatched (h0 : objN s 0x2E01 3 = 0) :
    apiKick s = apiReturn (modApp s (fun a => { a with kickSt := now s, haltTicks := 0, haltSt := now s })) 0 0 := by
  have hw : wdogExpire s = s := if_pos (by simp [h0])
  unfold apiKick
  rw [hw, if_pos hs]

end Running

/-! The application's calls (R499). -/

theorem apiLive_iff {s : State} : apiLive s = true ↔
    s.app.state = 2 ∧ s.tu.halted = false ∧ s.app.waiting = none ∧ dictLive s = true := by
  simp [apiLive, and_assoc]

theorem apiStatus_taken {s : State} {v : Nat} (h : v ≠ vLate) (a1 : Nat) : apiStatus s v a1 = apiReturn s (vStatus v) a1 := if_neg h

theorem apiRead_fits {s : State} {i x buf size : Nat}
    (hn : (readData s .a (okey i x)).length ≤ size) (hb : inMailbox buf (readData s .a (okey i x)).length = true)
    (hr : (readTx s .a (okey i x)).2.1 = 0) : apiRead s i x buf size =
      apiReturn (bufPut (readTx s .a (okey i x)).1 buf (readTx s .a (okey i x)).2.2) 0 (readTx s .a (okey i x)).2.2.length := by
  unfold apiRead
  dsimp only
  rw [if_neg (by simp [hn, hb]), if_pos hr]

theorem apiWrite_fits {s : State} {i x buf len : Nat} (hb : inMailbox buf len = true)
    (hr : (writeTx s .a (okey i x) (bufBytes s buf len) []).2 ≠ vLate) : apiWrite s i x buf len =
      apiReturn (writeTx s .a (okey i x) (bufBytes s buf len) []).1 (vStatus (writeTx s .a (okey i x) (bufBytes s buf len) []).2) 0 :=
  (if_neg (by simp [hb])).trans (apiStatus_taken hr 0)

theorem apiOpen_known {s : State} {i d t : Nat} (hd : d ≤ 1) (hr : (domOpen s .a i 0 (d == 1) t).2 ≠ vLate) : apiOpen s i d t =
    apiReturn (domOpen s .a i 0 (d == 1) t).1 (vStatus (domOpen s .a i 0 (d == 1) t).2) 0 :=
  (if_neg (Nat.not_lt.mpr hd)).trans (apiStatus_taken hr 0)

theorem apiSegment_put {s : State} {buf len : Nat} {x : DomXfer} (hl : dictLive s = true) (hb : inMailbox buf len = true)
    (hx : s.ctl.xfers[Path.a.idx] = some x) (ht : now s < x.lastSt + 200000000) (hw : x.wr = true)
    (hr : vRefused (domPut s .a (bufBytes s buf len)).2 = false) (hv : (domPut s .a (bufBytes s buf len)).2 ≠ vLate) :
    apiSegment s buf len x.off =
      apiReturn (domPut s .a (bufBytes s buf len)).1 (vStatus (domPut s .a (bufBytes s buf len)).2) len := by
  unfold apiSegment
  dsimp only
  rw [if_neg (by simp [hb]), segmentAt_put hl hx ht hw, xferDir_put hx hw]
  dsimp only
  rw [hr]
  exact apiStatus_taken hv len

theorem apiEventGet_fits {s : State} {buf n : Nat} (hb : inMailbox buf (16 * (s.rm.app.recs.take n).length) = true) :
    apiEventGet s buf n = apiReturn (modRm (bufPut s buf ((s.rm.app.recs.take n).flatMap evBytes)) (fun m =>
      { m with app := { m.app with recs := m.app.recs.drop n } })) 0 (s.rm.app.recs.take n).length :=
  if_neg (by rw [hb]; decide)

theorem waitEnds_record {s : State} (h : s.rm.app.recs ≠ []) (d : Nat) : waitEnds s d = some 1 := if_pos (by simp [h])

theorem apiWait_record {s : State} (h : s.rm.app.recs ≠ []) (lo hi : Nat) : apiWait s lo hi = apiReturn s 0 1 := by
  unfold apiWait
  dsimp only
  rw [waitEnds_record h]

theorem apiWake_record {s : State} {d : Nat} (hw : s.app.waiting = some d) (hh : s.tu.halted = false) (h : s.rm.app.recs ≠ []) :
    apiWake s = apiReturn (modApp s (fun a => { a with waiting := none })) 0 1 := by
  unfold apiWake
  rw [hw]
  dsimp only
  rw [waitEnds_record h, hh]
  rfl

theorem apiUartPut_free {s : State} {n : Fin 2} (h : s.uarts[n].txHold = none) (ch : Nat) :
    apiUartPut s n.val ch = apiReturn (modUart s n (fun u => { u with txHold := some (wrap 9 ch) })) 0 1 := by
  unfold apiUartPut uartPut
  dsimp only
  rw [if_neg (by omega), Fin.ofNat_val_eq_self, h]
  rfl

theorem apiUartGet_port (s : State) (n : Fin 2) : apiUartGet s n.val =
    apiReturn (modUart s n (fun u => { u with rxHold := none, rtsWake := false })) 0 (s.uarts[n].rxHold.getD 0xFFFFFFFF) := by
  unfold apiUartGet uartGet
  dsimp only
  rw [if_neg (by omega), Fin.ofNat_val_eq_self]

theorem apiUnknown_code (s : State) {code : Nat} (h : code ∉ apiCodes) :
    apiUnknown s code = modApp s (fun a => { a with a0 := 0x21 }) :=
  if_neg (by simp [h])

/-! Debug access (R501, R502). -/

theorem command_debugCmd (s : State) (p : Path) (v : Nat) (seen : List Nat) :
    command s p (okey 0x2E03 13) v seen = some (debugCmd s v) := rfl

/-- Whether an active key has signed the challenge (R501). -/
def debugSigned (s : State) : Bool :=
  (allFin 4).any (fun k => s.boot.keys[k].state == 1 &&
    ecdsaOk s.boot.keys[k].x s.boot.keys[k].y (sha256 (debugMessage s)) (quad s 0x2E03 5) (quad s 0x2E03 9))

theorem debugSigned_touch (s : State) (p : Path) : debugSigned (touch s p) = debugSigned s := rfl

theorem debugCmd_signed {s : State} (h : debugSigned s = true) : debugCmd s 1 =
    (raise (modBoot s (fun b => { b with challenge := b.challenge + 1, debugOn := true })) 508 4 1, 0) :=
  (if_neg (by decide)).trans (if_pos h)

theorem debugCmd_unsigned {s : State} (h : debugSigned s = false) : debugCmd s 1 =
    (modBoot s (fun b => { b with challenge := b.challenge + 1, debugRefused := b.debugRefused + 1 }), 0x23) :=
  (if_neg (by decide)).trans (if_neg (ne_true_of_eq_false h))

theorem debugUnlock_answers {s : State} {p : Path} (h : Passes s p (okey 0x2E03 13) 1) : doWrite p (okey 0x2E03 13) 1 [] s =
    .next (finish s (if debugSigned s = true then taken (raise (modBoot (touch s p) (fun b =>
        { b with challenge := b.challenge + 1, debugOn := true })) 508 4 1) p (okey 0x2E03 13)
      else answer (modBoot (touch s p) (fun b => { b with challenge := b.challenge + 1, debugRefused := b.debugRefused + 1 })) p 0x23)) := by
  have hk : TakesNumber (okey 0x2E03 13) 1 := by decide
  have hc := command_debugCmd (touch s p) p 1 []
  cases hs : debugSigned s with
  | true =>
    rw [if_pos rfl]
    rw [debugCmd_signed ((debugSigned_touch s p).trans hs)] at hc
    exact doWrite_command h hk hc
  | false =>
    rw [if_neg (by decide)]
    rw [debugCmd_unsigned ((debugSigned_touch s p).trans hs)] at hc
    exact doWrite_command_turnedAway (d := 0x23) h hk hc (by decide)

theorem debugCmd_lock {s : State} (h : s.boot.debugOn = true) : debugCmd s 2 =
    (raise (modBoot s (fun b => { b with debugOn := false })) 508 4 0, 0) := by
  unfold debugCmd
  rw [if_pos rfl, h]
  rfl

theorem applicationComplete : Claims.ApplicationComplete := fun s p =>
  ⟨fun _ hd he => ⟨fun hj => (domWriteWhole_image (.inl rfl) hd he hj).imp fun _ h => next_when rfl h,
      fun hj => (domWriteWhole_image (.inr rfl) hd he hj).imp fun _ h => next_when rfl h⟩,
   fun h => doWrite_command (n := 1) h (by decide) (command_slotCmd ..),
   fun h hr => ⟨_, doWrite_command (n := 1) h (by decide) ((command_rollbackCmd ..).trans
      (congrArg (fun u => some (u, 0)) (rollbackCmd_raises (s := touch s p) hr))), rfl⟩,
   fun k h hk hp hc => ⟨_, doWrite_command (n := 1) h (by decide) ((command_keyCmd ..).trans
      (congrArg some (keyCmd_add (s := touch s p) rfl rfl hk hp hc rfl))), upd_same ..⟩,
   fun k h => by
    obtain ⟨u, hu, hn⟩ := keyCmd_revoke (touch s p) k
    exact ⟨u, doWrite_command h (takesNumber_keyRevoke k) ((command_keyCmd ..).trans (congrArg some hu)), hn⟩,
   fun h => doWrite_command (n := 2) h (by decide) (command_appCmd ..),
   fun h => doWrite_command (n := 1) h (by decide) (command_appCmd ..),
   fun v hv h => ⟨_, doWrite_value h (takesNumber_appEnable v hv) (by decide) (command_appEnable ..) (effect_appEnable ..),
      objN_setObjK ..⟩,
   fun hs =>
    ⟨fun ms hm h0 hh ht => by
      subst hm
      exact next_when rfl (wdogExpire_due hs h0 hh ht),
     fun pc c => next_when rfl (appTrap_running hs pc c),
     fun a ha hh => next_when (by rw [ha]; rfl) (accessFault_running hs hh a)⟩,
   fun hl => by
    obtain ⟨hs, -, -, hd⟩ := apiLive_iff.mp hl
    refine ⟨?_, ?_, ?_, ?_, ?_, ?_, fun lo hi h => next_when hl (apiWait_record h lo hi),
      fun h => next_when hl (apiKick_unwatched hs h), fun n ch h => ⟨_, next_when hl (apiUartPut_free h ch), ?_⟩,
      fun n => ⟨_, next_when hl (apiUartGet_port s n), ?_⟩, next_when hl rfl, fun code h => next_when hl (apiUnknown_code s h)⟩
    · rintro i x buf size r rfl - hn hb hr
      exact next_when hl (apiRead_fits hn hb hr)
    · rintro i x buf len r hb rfl hr
      exact next_when hl (apiWrite_fits hb hr)
    · rintro i d t r ht rfl hr
      exact next_when hl (apiOpen_known ht hr)
    · rintro buf len x r hb hx ht hw rfl hr hv
      exact next_when hl (apiSegment_put hd hb hx ht hw hr hv)
    · rintro r rfl hr
      exact next_when hl (apiStatus_taken hr 0)
    · rintro buf n rs rfl hb
      exact next_when hl (apiEventGet_fits hb)
    · exact congrArg (·.txHold) (modUart_same s n _)
    · exact congrArg (·.rxHold) (modUart_same s n _),
   fun _ hw hh h => next_when rfl (apiWake_record hw hh h),
   fun ok hok h => by
    subst hok
    exact debugUnlock_answers h,
   fun h hd => doWrite_command (n := 2) h (by decide) ((command_debugCmd ..).trans (congrArg some (debugCmd_lock (s := touch s p) hd)))⟩

end Sys2Proof.Machine

/-- Settles O60, one claim per group of units. -/
theorem commandsComplete : Obligations.CommandsComplete :=
  ⟨Sys2Proof.Machine.modesComplete, Sys2Proof.Machine.motionSyncComplete, Sys2Proof.Machine.timersComplete,
    Sys2Proof.Machine.headsComplete, Sys2Proof.Machine.mediaComplete, Sys2Proof.Machine.axesAndImagesComplete,
    Sys2Proof.Machine.solenoidsComplete, Sys2Proof.Machine.senseComplete, Sys2Proof.Machine.dictionaryComplete,
    Sys2Proof.Machine.usbComplete, Sys2Proof.Machine.companionComplete, Sys2Proof.Machine.networkComplete,
    Sys2Proof.Machine.safetyComplete, Sys2Proof.Machine.applicationComplete⟩

end

section
/-!
PROOF. The encoder channels: what an edge, a fault, a timeout and an index pulse do to a channel and to the lanes that follow it
(R53, R76, R77, R78).
-/

namespace Sys2Proof.Machine

open Sys2Proof

theorem modLane_same (s : State) (i : Fin 4) (f : Lane → Lane) : (modLane s i f).msu.lanes[i] = f s.msu.lanes[i] :=
  upd_same _ i f

theorem modEnc_modEnc (s : State) (c : Fin 4) (f g : Enc → Enc) :
    modEnc (modEnc s c f) c g = modEnc s c (fun e => g (f e)) := by
  simp only [modEnc, upd_upd]

/-! ENC_EDGE: the edge history, an edge that counts, a fault (R53). -/

theorem encStep_fwd (t : ST) (e : Enc) : encStep t 1 e =
    { e with c := e.c + 1, k := e.c + 1, d := 1, held := false, n := min ((if e.d = 1 then e.n else 0) + 1) 3,
             te2 := e.te1, te1 := e.te0, te0 := t } := rfl

/-- A backward edge crosses the boundary above the new count, which is the old count. -/
theorem encStep_rev (t : ST) (e : Enc) : encStep t (-1) e =
    { e with c := e.c - 1, k := e.c, d := -1, held := false, n := min ((if e.d = -1 then e.n else 0) + 1) 3,
             te2 := e.te1, te1 := e.te0, te0 := t } := by
  have hk : e.c + -1 + 1 = e.c := Int.neg_add_cancel_right e.c 1
  have h1 : ¬ (-1 : Int) = 1 := by decide
  simp only [encStep, if_neg h1, hk]
  rfl

/-- A forward edge counts one up, and one down where the channel's directions are swapped. -/
theorem encEdge_fwd_signed {s : State} (c : Fin 4) (hl : controlLive s = true) : encEdge s c .fwd =
    applyAll (edgeLane c) (modEnc s c (encStep (now s) (if encInverted s c then -1 else 1))) (allFin 4) := by
  simp [encEdge, hl]

/-- A reverse edge counts one down, and one up where the channel's directions are swapped. -/
theorem encEdge_rev_signed {s : State} (c : Fin 4) (hl : controlLive s = true) : encEdge s c .rev =
    applyAll (edgeLane c) (modEnc s c (encStep (now s) (if encInverted s c then 1 else -1))) (allFin 4) := by
  simp [encEdge, hl]

theorem encEdge_both {s : State} (c : Fin 4) (hl : controlLive s = true) :
    encEdge s c .both = raise (applyAll (faultLane c) (modEnc s c (fun e => { e with held := true })) (allFin 4)) 68 c.val
      (w32 s.msu.encs[c].c) := by
  simp [encEdge, hl]

/-! The lanes of a channel: an encoder lane forms its position from its encoder term (R46, R53). -/

theorem placeLane_same (s : State) (i : Fin 4) : (placeLane s i).msu.lanes[i] =
    { s.msu.lanes[i] with
      pos := satPos (lanePosRaw s i), saturated := decide (lanePosRaw s i ≠ satPos (lanePosRaw s i)),
      ext := extAt s.msu.lanes[i].dir s.msu.lanes[i].extPrev (satPos (lanePosRaw s i)) } := by
  unfold placeLane
  dsimp only
  split <;> exact modLane_same s i _

theorem lanePosRaw_encoder {s : State} {i : Fin 4} (hs : laneSource s i = 1) : lanePosRaw s i = s.msu.lanes[i].ep := if_pos hs

/-- An encoder lane formed again after its encoder term has been set. -/
theorem placeLane_encoder {s : State} {i : Fin 4} (f : Lane → Lane) (hs : laneSource s i = 1) :
    (placeLane (modLane s i f) i).msu.lanes[i].pos = satPos (f s.msu.lanes[i]).ep := by
  rw [placeLane_same, lanePosRaw_encoder (s := modLane s i f) hs, modLane_same]

theorem edgeLane_encoder {s : State} {c i : Fin 4} (hs : laneSource s i = 1) (hc : laneEnc s i = c) : edgeLane c s i =
    placeLane (modLane s i (fun l => { l with ep := encBoundary s i s.msu.encs[c].k })) i := by
  simp [edgeLane, laneNamesEnc, hc, hs]

theorem faultLane_named {s : State} {c i : Fin 4} (hc : laneEnc s i = c) : faultLane c s i =
    if laneSource s i = 1 then
      placeLane (modLane s i (fun l => { l with ep := l.epPrev, encFault := l.encFault || laneOnEnc s c i })) i
    else modLane s i (fun l => { l with ep := l.epPrev, encFault := l.encFault || laneOnEnc s c i }) := by
  simp [faultLane, laneNamesEnc, hc]

theorem faultLane_ep {s : State} {c i : Fin 4} (hc : laneEnc s i = c) :
    (faultLane c s i).msu.lanes[i].ep = s.msu.lanes[i].epPrev := by
  rw [faultLane_named hc]
  split
  · rw [placeLane_same, modLane_same]
  · rw [modLane_same]

theorem faultLane_encoder {s : State} {c i : Fin 4} (hc : laneEnc s i = c) (hs : laneSource s i = 1) :
    (faultLane c s i).msu.lanes[i].encFault = true ∧
      (faultLane c s i).msu.lanes[i].pos = satPos s.msu.lanes[i].epPrev := by
  rw [faultLane_named hc, if_pos hs]
  refine ⟨?_, placeLane_encoder _ hs⟩
  have hon : laneOnEnc s c i = true := by simp [laneOnEnc, hs, hc]
  rw [placeLane_same, modLane_same]
  simp only [hon, Bool.or_true]

theorem encTerm_held {s : State} {i : Fin 4} (h : s.msu.encs[laneEnc s i].held = true) :
    encTerm s i = s.msu.lanes[i].ep := if_neg (by simp only [h]; simp)

/-! ENC_INDEX (R76, R77, R78). -/

/-- The first index of a channel that a lane follows; a re-homing that was asked for follows. -/
theorem encIndex_first_followed {s : State} {c i : Fin 4} (hl : controlLive s = true) (hm : objN s (0x2150 + c.val) 2 ≠ 0)
    (hr : s.msu.encs[c].cRef = none) (hi : encLane s c = some i) :
    encIndex s c = encRehome (modEnc s c (fun e => { e with cRef := some e.c })) c i := by
  have hi' : encLane (modEnc s c (fun e => { e with cRef := some e.c })) c = some i := hi
  unfold encIndex
  dsimp only
  rw [if_neg (by simp [hl, hm]), hr]
  simp only [hi']

theorem encRehome_reference {s : State} {c : Fin 4} (hm : objN s (0x2150 + c.val) 2 = 1) (i : Fin 4) : encRehome s c i = s :=
  if_neg (by simp [hm])

theorem encRehome_asked {s : State} {c : Fin 4} (hm : objN s (0x2150 + c.val) 2 = 2) (hq : objB s (0x2150 + c.val) 7 = true)
    (i : Fin 4) : encRehome s c i =
      raise (laneReorigin (setObj s (0x2150 + c.val) 7 0) i (obj s (0x2150 + c.val) 6)) 82 c.val i.val :=
  if_pos (by simp [hm, hq])

/-- With INDEX_MODE 1, or where no lane follows the channel, the first index sets the reference and nothing more. -/
theorem encIndex_reference {s : State} {c : Fin 4} (hl : controlLive s = true) (hm : objN s (0x2150 + c.val) 2 ≠ 0)
    (hr : s.msu.encs[c].cRef = none) (h : objN s (0x2150 + c.val) 2 = 1 ∨ encLane s c = none) :
    encIndex s c = modEnc s c (fun e => { e with cRef := some e.c }) := by
  cases hi : encLane s c with
  | none => exact encIndex_first hl hm hr hi
  | some i =>
    have h1 : objN s (0x2150 + c.val) 2 = 1 := h.resolve_right (by simp [hi])
    exact (encIndex_first_followed hl hm hr hi).trans (encRehome_reference (s := modEnc s c _) h1 i)

/-- How far the count of a channel lies from a whole number of turns past `r` (R77). -/
def indexDev (s : State) (c : Fin 4) (r : Int) : Int :=
  s.msu.encs[c].c - (r + roundDiv (s.msu.encs[c].c - r) (obj s (0x2150 + c.val) 1) * obj s (0x2150 + c.val) 1)

section LaterIndex
variable {s : State} {c : Fin 4} {r : Int} (hl : controlLive s = true) (hm : objN s (0x2150 + c.val) 2 ≠ 0)
  (hr : s.msu.encs[c].cRef = some r) (hn : encLane s c = none)
include hl hm hr hn

theorem encIndex_slip (h : -2 ≤ indexDev s c r ∧ indexDev s c r ≤ 2) : encIndex s c =
    modEnc s c (fun e => { e with cRef := some e.c, lastDev := indexDev s c r, slip := inc16 e.slip }) := by
  have hn' : ∀ f, encLane (modEnc s c f) c = none := fun _ => hn
  unfold encIndex
  dsimp only
  rw [if_neg (by simp [hl, hm]), hr]
  dsimp only
  rw [if_pos (by simpa [indexDev] using h), modEnc_modEnc, modEnc_modEnc, hn']
  rfl

theorem encIndex_mismatch (h : indexDev s c r < -2 ∨ 2 < indexDev s c r) : encIndex s c =
    raise (modEnc s c (fun e => { e with cRef := some e.c, lastDev := indexDev s c r, mismatch := inc16 e.mismatch }))
      80 (c.val + 65536 * toBits 16 (clampI (-32768) 32767 (indexDev s c r))) 0 := by
  have hdev : ¬ (decide (-2 ≤ indexDev s c r) && decide (indexDev s c r ≤ 2)) = true := by simp; omega
  have hn' : ∀ f a b d, encLane (raise (modEnc s c f) a b d) c = none := fun _ _ _ _ => hn
  unfold encIndex
  dsimp only
  rw [if_neg (by simp [hl, hm]), hr]
  dsimp only
  rw [if_neg (by exact hdev), modEnc_modEnc, modEnc_modEnc, hn', hn]
  rfl

end LaterIndex

theorem exec_rehomeReq {s : State} {p : Path} {c : Fin 4} (h : Passes s p (okey (0x2150 + c.val) 7) 1) :
    exec (.rehomeReq p c) s =
      .next (finish s (taken (setObj (touch s p) (0x2150 + c.val) 7 1) p (okey (0x2150 + c.val) 7))) :=
  doWrite_value (n := 1) h (takesNumber_rehomeReq c) (keptPlainly_rehomeReq c) (command_rehomeReq ..) (effect_rehomeReq ..)

/-! The obligation. -/

theorem encoderEdges : Claims.EncoderEdges := fun s c hl =>
  ⟨fun t e => ⟨encStep_fwd t e, encStep_rev t e⟩,
   fun hi => ⟨next_congr (encEdge_fwd hl hi), next_congr ((encEdge_rev_signed c hl).trans (by rw [hi]; rfl))⟩,
   fun hi => ⟨next_congr ((encEdge_fwd_signed c hl).trans (by rw [hi]; rfl)),
     next_congr ((encEdge_rev_signed c hl).trans (by rw [hi]; rfl))⟩,
   next_congr (encEdge_both c hl),
   fun _ hc => ⟨faultLane_ep hc, fun hs => faultLane_encoder hc hs⟩,
   fun _ h => encTerm_held h,
   fun i hs hc => by
    refine ⟨?_, fun h => ?_⟩
    · rw [edgeLane_encoder hs hc]
      exact placeLane_encoder _ hs
    · subst hc
      exact next_congr (edgeTimeout_passed hl h)⟩

theorem encoderIndex : Claims.EncoderIndex := fun s c hl hm =>
  ⟨fun hr h => next_congr (encIndex_reference hl hm hr h),
   fun i hr h2 hq hi => next_congr <|
    (encIndex_first_followed hl hm hr hi).trans (encRehome_asked (s := modEnc s c _) h2 hq i),
   fun r dev hr hn hdev => by
    obtain rfl : dev = indexDev s c r := hdev
    exact ⟨fun hlo hhi => next_congr (encIndex_slip hl hm hr hn ⟨hlo, hhi⟩),
      fun h => next_congr (encIndex_mismatch hl hm hr hn h)⟩,
   fun _ h => exec_rehomeReq h⟩

end Sys2Proof.Machine

/-- Settles O18: the channel and its lanes at an edge and at a fault, and each index pulse by what the reference asks. -/
theorem encoderChannels : Obligations.EncoderChannels := ⟨Sys2Proof.Machine.encoderEdges, Sys2Proof.Machine.encoderIndex⟩
end

section
/-!
PROOF. Lines of motion: a direction committed in reverse, the line events of a generator in and out of their turn, and the index
at which a committed run starts (R49, R57, R58, R59, R69).
-/

namespace Sys2Proof.Machine

open Sys2Proof

/-! LANE_DIR_COMMIT (R49, R57). -/

/-- With DIR_HYST above 0 a lane that has fallen DIR_HYST short of its extreme is not past it. -/
theorem dirCommit_rev {s : State} {i : Fin 4} (hs : laneSource s i ≠ 0) (hd : s.msu.lanes[i].dir ≠ .rev)
    (h : s.msu.lanes[i].pos ≤ s.msu.lanes[i].ext - laneCfg s i 11) (hp : 0 < laneCfg s i 11) : dirCommit s i = some .rev := by
  have hf : ¬ s.msu.lanes[i].ext + laneCfg s i 11 ≤ s.msu.lanes[i].pos := by omega
  unfold dirCommit
  dsimp only
  rw [if_neg hs, if_neg (by rw [decide_eq_false hf, Bool.and_false]; decide),
    if_pos (by rw [decide_eq_true hd, decide_eq_true h]; rfl)]

theorem laneDirCommit_rev {s : State} {i : Fin 4} (hl : controlLive s = true) (hc : dirCommit s i = some .rev) :
    laneDirCommit s i = applyAll (fun t h => if genLane (headGen t h) = i then histDirChange t h else t)
      (applyAll (commitGen .rev s.msu.lanes[i].ext)
        (raise (modLane s i (fun l => { l with dir := .rev, ext := l.pos, extPrev := l.pos })) 67 i.val 2) (laneGens i))
      (allFin 2) := by
  unfold laneDirCommit
  rw [if_pos hl, hc]
  rfl

/-! LINE_EVENT (R57, R58, R59). -/

theorem lineDue_dir {s : State} {g : Fin 16} {n : Int} {d : Dir} (h : lineDue s g = some (n, d)) :
    s.msu.lanes[genLane g].dir = d := by
  unfold lineDue at h
  dsimp only at h
  cases hd : s.msu.lanes[genLane g].dir <;> simp only [hd] at h <;> split at h
  case fwd.isFalse | rev.isFalse =>
    split at h
    · exact (Prod.mk.inj (Option.some.inj h)).2
    · cases h
  all_goals cases h

/-- A line due forward is the generator's next one, its due position reached (R57). -/
theorem lineDue_fwd_reached {s : State} {g : Fin 16} {n : Int} (h : lineDue s g = some (n, .fwd)) :
    dueFwd s g n ≤ s.msu.lanes[genLane g].pos ∧ n = s.msu.gens[g].nf := by
  have hd := lineDue_dir h
  unfold lineDue at h
  simp only [hd] at h
  split at h
  · cases h
  · split at h
    next hpos =>
      obtain rfl := (Prod.mk.inj (Option.some.inj h)).1
      exact ⟨hpos, rfl⟩
    next => cases h

/-- What a generator holds once it has taken line `n`. -/
def lineTaken (s : State) (n : Int) (d : Dir) (x : Gen) : Gen :=
  { x with lastSt := some (now s), nf := (if d = .fwd then n + 1 else x.nf), nr := (if d = .rev then n - 1 else x.nr) }

/-- What it records of a line that it emits. -/
def lineRecorded (s : State) (n : Int) (d : Dir) (x : Gen) : Gen :=
  { lineTaken s n d x with
    index := n, emitted := inc32 x.emitted, fwdSt := (if d = .fwd then some (now s) else x.fwdSt),
    revSt := (if d = .rev then some (now s) else x.revSt) }

/-- A line taken in reverse leaves the next one due where its position says so. -/
theorem moreDue_rev {s : State} {g : Fin 16} {f : Gen → Gen} {n : Int} (hd : s.msu.lanes[genLane g].dir = .rev)
    (hf : (f s.msu.gens[g]).nr = n) :
    moreDue (modGen s g f) g = decide (s.msu.lanes[genLane g].pos ≤ dueRev s g n) := by
  have hdue : dueRev (modGen s g f) g n = dueRev s g n := rfl
  unfold moreDue
  dsimp only
  rw [modGen_same, hf, hdue, modGen_msu_lanes, hd]

theorem moreDue_lineTaken_fwd {s : State} {g : Fin 16} {n : Int} (h : lineDue s g = some (n, .fwd))
    (hn : dueFwd s g (n + 1) > s.msu.lanes[genLane g].pos) : moreDue (modGen s g (lineTaken s n .fwd)) g = false :=
  (moreDue_fwd (lineDue_dir h) rfl).trans (decide_eq_false (Int.not_le.mpr hn))

theorem moreDue_lineTaken_rev {s : State} {g : Fin 16} {n : Int} (h : lineDue s g = some (n, .rev))
    (hn : s.msu.lanes[genLane g].pos > dueRev s g (n - 1)) : moreDue (modGen s g (lineTaken s n .rev)) g = false :=
  (moreDue_rev (lineDue_dir h) rfl).trans (decide_eq_false (Int.not_le.mpr hn))

section OneLine
variable {s : State} {g : Fin 16} {n : Int} {d : Dir} (hl : controlLive s = true) (hd : lineDue s g = some (n, d))
  (hm : moreDue (modGen s g (lineTaken s n d)) g = false)
include hl hd hm

/-- The one line due where the gate is shut or DIRS is against it: the generator takes it. -/
theorem lineEvent_shut (h : gateAtLine s g = false ∨ dirsAllow s g d = false) (va vb df0 df1 : Nat) :
    lineEvent s g va vb df0 df1 = modGen s g (lineTaken s n d) := by
  have hshut : ¬ (gateAtLine s g && dirsAllow s g d) = true := by rcases h with h | h <;> simp [h]
  have hmore : ¬ (moreDue (modGen s g (lineTaken s n d)) g && !s.msu.gens[g].crowded) = true := by simp [hm]
  unfold lineEvent
  rw [if_pos hl, hd]
  dsimp only
  rw [if_neg hshut, if_neg (by exact hmore)]
  rfl

/-- The one line due where the gate is open: it is recorded, and reaches heads and image ports. -/
theorem lineEvent_open (hg : gateAtLine s g = true) (ha : dirsAllow s g d = true) (va vb df0 df1 : Nat) :
    lineEvent s g va vb df0 df1 =
      applyAll (lineToPort g n d (fun p => if p = 0 then df0 else df1))
        (applyAll (lineToHead g n d (linePeriod s g d) (fun h => if h = 0 then va else vb))
          (modGen s g (lineRecorded s n d)) (allFin 2)) (allFin 2) := by
  have hmore : ¬ (moreDue (modGen s g (lineTaken s n d)) g && !s.msu.gens[g].crowded) = true := by simp [hm]
  unfold lineEvent
  rw [if_pos hl, hd]
  dsimp only
  rw [if_pos (by rw [hg, ha]; rfl), if_neg (by exact hmore), modGen_modGen]
  rfl

end OneLine

/-! The order of R69. -/

theorem inTurn_waits {s : State} {c : Instr} (hd : turnDue s c = true) (hw : turnWaits s c = true) :
    inTurn s c = { s with turns := turnInsert c s.turns } := if_pos (by rw [hd, hw]; rfl)

theorem takeTurns_none {s : State} (h : s.turns = []) : takeTurns s = s := by
  unfold takeTurns
  rw [h]
  rfl

theorem turnDue_lineEvent {s : State} {g : Fin 16} (hl : controlLive s = true) (hd : (lineDue s g).isSome = true)
    (va vb df0 df1 : Nat) : turnDue s (.lineEvent g va vb df0 df1) = true := by
  rw [turnDue, hl, hd]
  rfl

/-- A line event in its turn leaves what the line leaves, and what waits behind it has its turn. -/
theorem exec_lineEvent_now {s u : State} {g : Fin 16} {va vb df0 df1 : Nat}
    (hw : turnWaits s (.lineEvent g va vb df0 df1) = false) (h : lineEvent s g va vb df0 df1 = u) :
    exec (.lineEvent g va vb df0 df1) s = .next (finish s (takeTurns u)) :=
  next_congr ((inTurn_now hw).trans (congrArg takeTurns h))

/-! The first index of a committed run (R57). -/

theorem dueFwd_eq (s : State) (g : Fin 16) (n : Int) :
    dueFwd s g n = dueFwd s g 0 + fdiv (n * genCfg s g 2) (genCfg s g 3) := by
  simp only [dueFwd, linePos, fdiv, Int.zero_mul, Int.zero_fdiv]
  omega

theorem dueRev_eq (s : State) (g : Fin 16) (n : Int) :
    dueRev s g n = dueRev s g 0 + fdiv (n * genCfg s g 2) (genCfg s g 3) := by
  simp only [dueRev, linePos, fdiv, Int.zero_mul, Int.zero_fdiv]
  omega

/-- The least `n` whose grid position reaches `y` is `y` pitches rounded up. -/
theorem le_fdiv_grid_iff {p q : Int} (hp : 0 < p) (hq : 0 < q) (y n : Int) :
    y ≤ fdiv (n * p) q ↔ Int.neg (fdiv (Int.neg (y * q)) p) ≤ n := by
  have hup : Int.neg (fdiv (Int.neg (y * q)) p) ≤ n ↔ -n ≤ -(y * q) / p := by
    show -(Int.fdiv (-(y * q)) p) ≤ n ↔ _
    rw [Int.fdiv_eq_ediv_of_nonneg _ hp.le]
    omega
  rw [hup, fdiv, Int.fdiv_eq_ediv_of_nonneg _ hq.le, Int.le_ediv_iff_mul_le hq, Int.le_ediv_iff_mul_le hp, Int.neg_mul]
  omega

theorem lt_dueFwd_iff {s : State} {g : Fin 16} (hp : 0 < genCfg s g 2) (hq : 0 < genCfg s g 3) (e n : Int) :
    e < dueFwd s g n ↔ firstFwd s g e ≤ n := by
  unfold firstFwd
  dsimp only
  rw [← le_fdiv_grid_iff hp hq, dueFwd_eq s g n]
  omega

theorem dueRev_lt_iff {s : State} {g : Fin 16} (hp : 0 < genCfg s g 2) (hq : 0 < genCfg s g 3) (e n : Int) :
    dueRev s g n < e ↔ n ≤ firstRev s g e := by
  have h := le_fdiv_grid_iff hp hq (e - dueRev s g 0) n
  unfold firstRev
  dsimp only
  rw [dueRev_eq s g n]
  omega

/-! The obligation. -/

theorem directionCommits : Claims.DirectionCommits := fun _ _ hl hs =>
  ⟨fun hd h => next_congr (congrArg takeTurns (laneDirCommit_fwd hl (dirCommit_fwd hs hd h))),
   fun hd h hp => next_congr (congrArg takeTurns (laneDirCommit_rev hl (dirCommit_rev hs hd h hp)))⟩

theorem lineEvents : Claims.LineEvents :=
  ⟨fun _ _ => inTurn_waits,
   fun _ _ va vb df0 df1 hl hd hw => next_congr (inTurn_waits (turnDue_lineEvent hl hd va vb df0 df1) hw),
   fun _ => takeTurns_none,
   fun _ _ va vb df0 df1 _ hl hw =>
    ⟨fun hd h hn => exec_lineEvent_now hw (lineEvent_shut hl hd (moreDue_lineTaken_fwd hd hn) h va vb df0 df1),
     fun hd h hn => exec_lineEvent_now hw (lineEvent_shut hl hd (moreDue_lineTaken_rev hd hn) h va vb df0 df1),
     fun hd hg ha hn => exec_lineEvent_now hw (lineEvent_fwd hl hd hg ha hn),
     fun hd hg ha hn => exec_lineEvent_now hw (lineEvent_open hl hd (moreDue_lineTaken_rev hd hn) hg ha va vb df0 df1),
     lineDue_fwd_reached⟩⟩

theorem firstLineIsLeast : Claims.FirstLineIsLeast := fun _ _ e n hp hq =>
  ⟨(lt_dueFwd_iff hp hq e _).mpr le_rfl, (lt_dueFwd_iff hp hq e n).mp,
   (dueRev_lt_iff hp hq e _).mpr le_rfl, (dueRev_lt_iff hp hq e n).mp⟩

end Sys2Proof.Machine

/-- Settles O19: the commit in each direction, the one line due with its gate shut and open, and the first index as a pitch
rounded up. -/
theorem linesOfMotion : Obligations.LinesOfMotion :=
  ⟨Sys2Proof.Machine.directionCommits, Sys2Proof.Machine.lineEvents, Sys2Proof.Machine.firstLineIsLeast⟩
end

section
/-!
PROOF. When a waymark fires, what its firing does, and when it arms itself again (R55, R65–R67, R69).
-/

namespace Sys2Proof.Machine

open Sys2Proof

/-! What a firing does (R65, R67). -/

/-- An ST-keyed entry that was armed after its target had passed fires late, with EV036 (R67). -/
theorem wmStFire_late {s : State} {e : Nat} (hf : firesNow s (wmAt s e) = 3) (hop : (wmAt s e).op = 0)
    (hk : (wmAt s e).key = 4) (hev : (wmAt s e).evt = false) (hs : (wmAt s e).target < (wmAt s e).since) :
    wmStFire s e = raise (setWm s e { wmAt s e with
          armed := false, fires := min 65535 ((wmAt s e).fires + 1), lastDir := 3, lastSt := now s })
        36 e (min (now s - (wmAt s e).target) 0xFFFFFFFF) := by
  unfold wmStFire
  rw [if_pos hf]
  unfold wmFire wmOperate
  dsimp only
  rw [if_pos hop, if_pos (by simp [hk, hs]), if_neg (by simp [hev])]

/-! Which crossing it is (R55). -/

theorem crossing_fwd_iff (l : Lane) (t : Int) : crossing l t = 1 ↔ l.prev < t ∧ t ≤ l.pos := by
  unfold crossing
  split
  next h => simpa using h
  next h => split <;> simpa using h

/-- A crossing forward is none in reverse. -/
theorem crossing_rev_iff (l : Lane) (t : Int) : crossing l t = 2 ↔ t < l.prev ∧ l.pos ≤ t := by
  unfold crossing
  split
  next h =>
    simp only [Bool.and_eq_true, decide_eq_true_eq] at h
    omega
  next => split <;> simp_all

/-! Which entries fire (R65, R67). -/

/-- An entry that may fire in this cycle: enabled, and armed in an earlier one. -/
def wmReady (s : State) (w : Waymark) : Prop := w.en = true ∧ w.armed = true ∧ w.since < now s

theorem firesNow_gate_iff {s : State} (hl : controlLive s = true) (w : Waymark) :
    (!(w.en && w.armed && decide (w.since < now s) && controlLive s)) = true ↔ ¬ wmReady s w := by
  rw [Bool.not_eq_true', Bool.eq_false_iff]
  simp only [wmReady, hl, Bool.and_eq_true, decide_eq_true_eq, and_true, and_assoc, ne_eq]

theorem firesNow_notReady {s : State} {w : Waymark} (hl : controlLive s = true) (h : ¬ wmReady s w) : firesNow s w = 0 :=
  if_pos ((firesNow_gate_iff hl w).mpr h)

/-- A lane-keyed entry fires in the direction of the crossing, where its lane has a source and DIR allows it. -/
theorem firesNow_lane_iff {s : State} {w : Waymark} {d : Nat} (hl : controlLive s = true) (hk : w.key < 4) (hd : d ≠ 0) :
    firesNow s w = d ↔ wmReady s w ∧ laneSource s (wmLane w) ≠ 0 ∧
      crossing s.msu.lanes[wmLane w] (wmTarget w) = d ∧ bit w.dir (d - 1) = true := by
  by_cases hr : wmReady s w
  case neg => simp [firesNow_notReady hl hr, hr, Ne.symm hd]
  unfold firesNow
  rw [if_neg (fun h => (firesNow_gate_iff hl w).mp h hr), if_pos hk]
  by_cases hsrc : laneSource s (wmLane w) = 0
  case pos => simp [hsrc, Ne.symm hd]
  rw [if_neg hsrc]
  generalize crossing s.msu.lanes[wmLane w] (wmTarget w) = c
  dsimp only
  split
  next h0 => exact ⟨fun h => absurd h.symm hd, fun ⟨_, _, h, _⟩ => absurd (h.symm.trans h0) hd⟩
  next =>
    split
    next hb => exact ⟨fun h => ⟨hr, hsrc, h, h ▸ hb⟩, fun ⟨_, _, h, _⟩ => h⟩
    next hb => exact ⟨fun h => absurd h.symm hd, fun ⟨_, _, h, hb'⟩ => absurd (h ▸ hb') hb⟩

/-- An ST-keyed entry fires when ST has reached its target. -/
theorem firesNow_st_iff {s : State} {w : Waymark} (hl : controlLive s = true) (hk : 4 ≤ w.key) :
    firesNow s w = 3 ↔ wmReady s w ∧ w.target ≤ now s := by
  by_cases hr : wmReady s w
  case neg => simp [firesNow_notReady hl hr, hr]
  unfold firesNow
  rw [if_neg (fun h => (firesNow_gate_iff hl w).mp h hr), if_neg (by omega)]
  simp [hr]

/-! Which entries arm themselves again (R66). -/

/-- An entry in no pair: disarmed in an earlier cycle, lane-keyed, and REARM away from its target on the side DIR asks for. -/
theorem rearmsNow_iff {s : State} {w : Waymark} (hl : controlLive s = true) (hp : w.pair = false) :
    rearmsNow s w = true ↔ w.en = true ∧ w.armed = false ∧ 0 < w.rearm ∧ w.key < 4 ∧ w.lastSt ≠ now s ∧
      (if w.dir = 1 then s.msu.lanes[wmLane w].pos ≤ wmTarget w - w.rearm
       else if w.dir = 2 then wmTarget w + w.rearm ≤ s.msu.lanes[wmLane w].pos
       else (w.rearm : Int) ≤ s.msu.lanes[wmLane w].pos - wmTarget w ∨
         (w.rearm : Int) ≤ wmTarget w - s.msu.lanes[wmLane w].pos) := by
  unfold rearmsNow
  dsimp only
  split_ifs <;> simp [hl, hp, and_assoc]

/-! The obligation. -/

theorem waymarksFire : Claims.WaymarksFire := fun _ _ =>
  ⟨fun _ hf hd hop hk hev hw => next_congr ((inTurn_now hw).trans (congrArg takeTurns (wmLaneFire_event hf hd hop hk hev))),
   fun hf hop hk hev hs hw => next_congr ((inTurn_now hw).trans (congrArg takeTurns (wmStFire_late hf hop hk hev hs))),
   fun hf hop _ hev hs hw => next_congr ((inTurn_now hw).trans (congrArg takeTurns (wmStFire_quiet hf hop hev hs))),
   fun h => if_pos h⟩

theorem waymarkConditions : Claims.WaymarkConditions := by
  intro s w hl
  refine ⟨fun hk => ?_, fun hk => ?_, fun hk => ?_, fun hp hd => ?_, fun hp hd => ?_⟩
  · rw [firesNow_lane_iff hl hk (by decide), crossing_fwd_iff]
    simp only [wmReady, and_assoc]
  · rw [firesNow_lane_iff hl hk (by decide), crossing_rev_iff]
    simp only [wmReady, and_assoc]
  · rw [firesNow_st_iff hl hk]
    simp only [wmReady, and_assoc]
  · rw [rearmsNow_iff hl hp, if_pos hd]
  · rw [rearmsNow_iff hl hp, if_neg (by omega), if_pos hd]

end Sys2Proof.Machine

/-- Settles O20: each firing by what the entry carries, each condition by the crossing or the ST it asks for. -/
theorem waymarksFire : Obligations.WaymarksFire := ⟨Sys2Proof.Machine.waymarksFire, Sys2Proof.Machine.waymarkConditions⟩
end

section
/-!
PROOF. The waymark window: a write to the selected entry, EN set on an entry in no pair, the commands of the whole table (R62, R63,
R71, R75, R81, R82).
-/

namespace Sys2Proof.Machine

open Sys2Proof

/-! Writes to the selected entry (R62). -/

/-- TARGET is an immediate UNSIGNED64. -/
theorem takesNumber_waymarkTarget {v : Nat} (hv : v < 2 ^ 64) : TakesNumber (okey 0x2140 2) v :=
  ⟨by decide, by decide, dataValue_unsigned (b := 8) (by decide) hv⟩

theorem command_waymarkTarget (s : State) (p : Path) (v : Nat) (seen : List Nat) :
    command s p (okey 0x2140 2) v seen =
      some (setWm s (atN 0 s.msu.wmSel p.idx.val)
        { wmAt s (atN 0 s.msu.wmSel p.idx.val) with target := v }, 0) := rfl

/-- CTRL written with EN = 0: the entry takes the fields and stands disabled. -/
theorem wmCtrlWrite_disabled {s : State} {e v : Nat} (h : bit v 31 = false) :
    wmCtrlWrite s e v = setWm s e { wmSetCtrl (wmAt s e) v with en := false, armed := false } := if_neg (by simp [h])

/-- CTRL written with EN = 1: the entry takes the fields, and EN is set on it. -/
theorem wmCtrlWrite_enabled {s : State} {e v : Nat} (h : bit v 31 = true) :
    wmCtrlWrite s e v = wmEnable (setWm s e { wmSetCtrl (wmAt s e) v with en := false, armed := false }) e := if_pos h

theorem bit_of_lt {n k : Nat} (h : n < 2 ^ k) : bit n k = false := by
  rw [bit, Nat.div_eq_of_lt h]
  rfl

/-! EN set on an entry in no pair (R63). -/

theorem wmAt_setWm_same (s : State) (e : Nat) (w : Waymark) : wmAt (setWm s e w) e = w := SMap.get_put_same _ _ e w

theorem wmEnable_valid {s : State} {e : Nat} (hp : (wmAt s e).pair = false)
    (h : entryReason { wmAt s e with en := true, armed := false, fires := 0, lastDir := 0 } = 0) :
    wmEnable s e = wmArm (setWm s e { wmAt s e with en := true, armed := false, fires := 0, lastDir := 0 }) e := by
  unfold wmEnable
  dsimp only
  rw [if_neg (not_not_intro h), if_pos (by simp [hp])]

theorem wmAt_wmEnable_valid {s : State} {e : Nat} (hp : (wmAt s e).pair = false)
    (h : entryReason { wmAt s e with en := true, armed := false, fires := 0, lastDir := 0 } = 0) :
    wmAt (wmEnable s e) e = { wmAt s e with en := true, armed := true, fires := 0, lastDir := 0, since := now s } := by
  rw [wmEnable_valid hp h, wmArm, wmAt_setWm_same, wmAt_setWm_same]
  rfl

theorem wmEnable_refused {s : State} {e : Nat}
    (h : entryReason { wmAt s e with en := true, armed := false, fires := 0, lastDir := 0 } ≠ 0) :
    wmEnable s e = raise (wmDisable s e) 35 e
      (entryReason { wmAt s e with en := true, armed := false, fires := 0, lastDir := 0 }) := if_pos h

/-! The obligation. -/

theorem waymarkWrites : Claims.WaymarkWrites := by
  rintro s p _ _ rfl rfl
  refine ⟨fun v hv h => doWrite_command h (takesNumber_waymarkTarget hv) (command_waymarkTarget ..),
    fun v hv h => doWrite_command h (takesNumber_waymarkWindow (sub := 4) (by decide) hv) (command_waymarkAct ..),
    fun v hv h => doWrite_command h (takesNumber_waymarkWindow (sub := 3) (by decide) (by omega)) <|
      (command_waymarkCtrl ..).trans (by rw [wmCtrlWrite_disabled (bit_of_lt hv)]; rfl),
    fun v hv hb h => ?_⟩
  show doWrite p (okey 0x2140 3) (setBit v 31) [] s = _
  rw [setBit_of_bit hb]
  exact doWrite_command h (takesNumber_waymarkWindow (sub := 3) (by decide) hv) <|
    (command_waymarkCtrl ..).trans (by rw [wmCtrlWrite_enabled hb]; rfl)

theorem waymarkEnables : Claims.WaymarkEnables := fun _ _ hp =>
  ⟨wmAt_wmEnable_valid hp, fun _ h hr => by
    subst h
    exact wmEnable_refused hr⟩

theorem waymarkTable : Claims.WaymarkTable := fun _ _ =>
  ⟨fun h => doWrite_command (n := 1) h (by decide) (command_waymarkCommand ..),
   fun h => doWrite_command (n := 2) h (by decide) (command_waymarkCommand ..),
   fun _ hd he hj => next_congr (domWriteWhole_opened hd he hj (by decide)),
   fun _ _ hh => next_congr (pairMinEnd_due hh)⟩

end Sys2Proof.Machine

/-- Settles O21: the window's commands on the selected entry, the entry's validation, and each command of the table. -/
theorem waymarkWindow : Obligations.WaymarkWindow :=
  ⟨Sys2Proof.Machine.waymarkWrites, Sys2Proof.Machine.waymarkEnables, Sys2Proof.Machine.waymarkTable⟩
end

section
/-!
PROOF. The keeper in DOZE: a period carries the whole ticks out of its count of 64ths of a tick and loses none of them (R86).
-/

namespace Sys2Proof.Machine

open Sys2Proof

theorem keeperTick_awake {s : State} (h : dozeOff s = false) : keeperTick s = s := if_pos (by rw [h]; rfl)

theorem keeperTick_doze {s : State} (h : dozeOff s = true) : keeperTick s = { s with tu := { s.tu with
    st := s.tu.st + (6103 + (s.tu.keeperFrac + 33) / 64), keeperFrac := (s.tu.keeperFrac + 33) % 64,
    keeperAhead := s.tu.keeperAhead + (6103 + (s.tu.keeperFrac + 33) / 64) } } :=
  if_neg (by rw [h]; decide)

theorem keeperTick_frac_lt {s : State} (h : dozeOff s = true) : (keeperTick s).tu.keeperFrac < 64 := by
  rw [keeperTick_doze h]
  exact Nat.mod_lt _ (by decide)

/-- In 64ths of a tick, nothing is lost where the carry passes from the fraction to the ticks. -/
theorem keeperCarry_sixtyFourths (st frac : Nat) :
    64 * (st + (6103 + (frac + 33) / 64)) + (frac + 33) % 64 = 64 * st + frac + (64 * 6103 + 33) := by
  have carry : 64 * ((frac + 33) / 64) + (frac + 33) % 64 = frac + 33 := Nat.div_add_mod _ _
  omega

/-- A period advances ST and its fraction by exactly 6103 + 33/64 ticks. -/
theorem keeperTick_sixtyFourths {s : State} (h : dozeOff s = true) :
    64 * (keeperTick s).tu.st + (keeperTick s).tu.keeperFrac = 64 * s.tu.st + s.tu.keeperFrac + (64 * 6103 + 33) := by
  rw [keeperTick_doze h]
  exact keeperCarry_sixtyFourths _ _

end Sys2Proof.Machine

/-- Settles O8: the period by what it does to ST and to the fraction in DOZE, and by its having no effect outside. -/
theorem keeperPeriod : Obligations.KeeperPeriod :=
  ⟨fun _ h => ⟨Sys2Proof.Machine.exec_keeperTick_doze h, Sys2Proof.Machine.keeperTick_frac_lt h,
      Sys2Proof.Machine.keeperTick_sixtyFourths h⟩,
   fun _ h => Sys2Proof.Machine.next_congr (Sys2Proof.Machine.keeperTick_awake h),
   by decide⟩
end

section
/-!
PROOF. The timer channels: a compare, wrap or park that waits for a RESTART of its channel or has its turn, and the event and the
trigger it gives the channel (R91–R95, R98, R101, R109).
-/

namespace Sys2Proof.Machine

open Sys2Proof

/-- A command of a timer channel that this cycle has a use for, and that something of the cycle comes before. -/
theorem next_waits {s : State} {c : Instr} (hl : controlLive s = true) (hd : turnDue s c = true) (hw : turnWaits s c = true) :
    doLive true (fun s => inTurn s c) s = .next (finish s { s with turns := turnInsert c s.turns }) :=
  doLive_next hl rfl (inTurn_waits hd hw)

/-! The channel's event (R95, R109). -/

theorem tcEvent_unselected {s : State} {c : Fin 32} {conds : Nat} (h : conds &&& (tcCfgN s c 7 % 8) = 0) :
    tcEvent conds s c = s :=
  if_pos (by simp [h])

theorem tcEvent_raises {s : State} {c : Fin 32} {conds : Nat} (h : conds &&& (tcCfgN s c 7 % 8) ≠ 0)
    (hn : s.tu.tcs[c].evSt ≠ some (now s)) :
    tcEvent conds s c = raise (modTc s c (fun x => { x with evSt := some (now s) })) (96 + c.val)
      ((conds &&& (tcCfgN s c 7 % 8)) + 8 * b2n (tcOvrAfter s c)) (tcFramesAfter s c) :=
  if_neg (by simp [h, hn, -Fin.getElem_fin])

/-! The channel's trigger (R98). -/

theorem tcTrigger_unselected {s : State} {c : Fin 32} {cond : Nat} (h : tcCfgN s c 8 ≠ cond) : tcTrigger s c cond = s := if_pos h

section Selected

variable {s : State} {c : Fin 32} {cond : Nat} (h : tcCfgN s c 8 = cond)
include h

theorem tcTrigger_enters (hd : s.tu.tcs[c].delay.length < 4) :
    tcTrigger s c cond = modTc s c (fun x => { x with delay := x.delay ++ [now s + tcCfgN s c 9] }) := by
  rw [tcTrigger, if_neg (not_not_intro h), if_pos hd]

theorem tcTrigger_dropped (hd : 4 ≤ s.tu.tcs[c].delay.length) :
    tcTrigger s c cond = raise (modTc s c (fun x => { x with drops := 0 })) 136 c.val (s.tu.tcs[c].drops + 1) := by
  rw [tcTrigger, if_neg (not_not_intro h), if_neg (Nat.not_lt.mpr hd)]

end Selected

/-! The obligation. -/

theorem timerCompares : Claims.TimerCompares :=
  ⟨fun _ _ hl hr => ⟨next_waits hl rfl hr, next_waits hl rfl hr, next_waits hl rfl hr, next_waits hl rfl hr⟩,
   fun s c hl hr => (timersComplete s hl).1 c hr⟩

theorem timerEventsAndTriggers : Claims.TimerEventsAndTriggers := fun _ _ _ _ =>
  ⟨tcEvent_unselected, tcEvent_raises, tcTrigger_unselected, tcTrigger_enters,
   fun h hd => by rw [tcTrigger_dropped h hd, raise_rm_raised, modTc_rm]⟩

end Sys2Proof.Machine

/-- Settles O22: what waits for a RESTART is put among the turns, what has its turn does its work; the event and the trigger by
what EV_MASK and TRIG_SRC select. -/
theorem timerChannels : Obligations.TimerChannels :=
  ⟨Sys2Proof.Machine.timerCompares, Sys2Proof.Machine.timerEventsAndTriggers⟩
end

section
/-!
PROOF. The head port's identification, the end of a line's train, and the flush of the raster store (R112, R118, R120, R121, R132,
R138a, R146).
-/

namespace Sys2Proof.Machine

open Sys2Proof

/-! Identification (R112). -/

/-- The state that a measured resistance gives an enabled port: 1 READY, 3 ABSENT, 4 ID_MISMATCH. -/
def idState (s : State) (h : Fin 2) (r : Nat) : Nat :=
  if 24000 < r then 3 else if r < headCfg s h 15 || headCfg s h 16 < r then 4 else 1

section Identification

variable {s : State} {h : Fin 2} {r : Nat}

theorem idState_ready (hmax : r ≤ 24000) (hlo : headCfg s h 15 ≤ r) (hhi : r ≤ headCfg s h 16) : idState s h r = 1 :=
  (if_neg (by omega)).trans (if_neg (by simp [hlo, hhi]))

theorem idState_absent (hmax : 24000 < r) : idState s h r = 3 := if_pos hmax

theorem idState_mismatch (hmax : r ≤ 24000) (hout : r < headCfg s h 15 ∨ headCfg s h 16 < r) : idState s h r = 4 :=
  (if_neg (by omega)).trans (if_pos (by simpa using hout))

variable (hr : sysReads s = true) (hk : headCfg s h 1 ≠ 0)
include hr hk

theorem headIdCheck_enabled : headIdCheck s h r =
    (let s1 := modHead s h (fun x => { x with rId := wrap 32 r, state := idState s h r })
     let s2 := if idState s h r = 1 then s1 else cutTrain s1 h
     if idState s h r ≠ 1 && idState s h r ≠ s.heads[h].state then raise s2 (if idState s h r = 3 then 144 else 145) (headBit h) r
     else s2) :=
  (if_neg (by simp [hr])).trans (if_neg hk)

theorem headIdCheck_ready (hi : idState s h r = 1) :
    headIdCheck s h r = modHead s h (fun x => { x with rId := wrap 32 r, state := 1 }) := by
  rw [headIdCheck_enabled hr hk, hi]
  rfl

/-- A port that becomes not READY stops its line and raises its event. -/
theorem headIdCheck_notReady {st : Nat} (hi : idState s h r = st) (h1 : st ≠ 1) (hs : s.heads[h].state ≠ st) :
    headIdCheck s h r = raise (cutTrain (modHead s h (fun x => { x with rId := wrap 32 r, state := st })) h)
      (if st = 3 then 144 else 145) (headBit h) r := by
  rw [headIdCheck_enabled hr hk, hi]
  dsimp only
  rw [if_neg h1, if_pos (by simp [h1, Ne.symm hs, -Fin.getElem_fin])]

end Identification

theorem headIdCheck_discarded {s : State} {h : Fin 2} {r : Nat} (hr : sysReads s = false) : headIdCheck s h r = s :=
  if_pos (by simp [hr])

theorem headIdentification : Claims.HeadIdentification := fun _ _ _ hl =>
  ⟨fun hr => next_live hl rfl (headIdCheck_discarded hr),
   fun hr hk => next_live hl rfl (headIdCheck_none hr hk),
   fun hr hk hmax hlo hhi => next_live hl rfl (headIdCheck_ready hr hk (idState_ready hmax hlo hhi)),
   fun hr hk hmax hs => next_live hl rfl (headIdCheck_notReady hr hk (idState_absent hmax) (by decide) hs),
   fun hr hk hmax hout hs => next_live hl rfl (headIdCheck_notReady hr hk (idState_mismatch hmax hout) (by decide) hs)⟩

/-! The first strobe of a line that is not to be committed (R132, R138a, R146). -/

theorem modEn_same (s : State) (h : Fin 2) (f : EnergySt → EnergySt) : (modEn s h f).en[h] = f s.en[h] := upd_same _ h f

section FirstStrobe

variable {s : State} {h : Fin 2} {t : Train} (ht : s.heads[h].train = some t) (hc : t.committed = false)
  (hi : t.issues ≠ []) (hs : t.firstStb ≤ now s)
include ht hc hi hs

theorem lineCommit_firstStrobe : lineCommit s h =
    if s.en[h].thermFault then suppressTrain s h t false
    else if strobesHeld s h then suppressTrain s h t true
    else rehearse (commitTrain s h) h := by
  unfold lineCommit
  rw [ht]
  exact if_neg (by simp [hc, hi, hs])

theorem lineCommit_fault (hf : s.en[h].thermFault = true) : lineCommit s h = suppressTrain s h t false :=
  (lineCommit_firstStrobe ht hc hi hs).trans (if_pos hf)

theorem lineCommit_held (hf : s.en[h].thermFault = false) (hh : strobesHeld s h = true) :
    lineCommit s h = suppressTrain s h t true :=
  (lineCommit_firstStrobe ht hc hi hs).trans ((if_neg (Bool.eq_false_iff.mp hf)).trans (if_pos hh))

end FirstStrobe

/-- With no line before it a white line alone enters the history. -/
theorem enterWhite_idle {s : State} {h : Fin 2} (ht : s.heads[h].train = none) :
    enterWhite s h = modEn s h (fun e => { e with hist := histPush e.hist 0, recRun := false }) := by
  simp [enterWhite, enterTrain, ht, -Fin.getElem_fin]

theorem suppressLine_idle {s : State} {h : Fin 2} (ht : s.heads[h].train = none) (rsn : Nat) (ev : Bool) :
    (suppressLine s h rsn ev).heads[h].train = none ∧
    (suppressLine s h rsn ev).heads[h].suppressed = inc32 s.heads[h].suppressed ∧
    (suppressLine s h rsn ev).en[h].hist = histPush s.en[h].hist 0 := by
  have white := enterWhite_idle (h := h) (s := modHead s h (fun x =>
    { x with suppressed := inc32 x.suppressed, supRun := x.supRun || ev, refresh := true })) (by rw [modHead_same]; exact ht)
  unfold suppressLine
  dsimp only
  rw [white]
  refine ⟨ite_keeps (·.heads[h].train) ?_ ?_, ite_keeps (·.heads[h].suppressed) ?_ ?_, ite_keeps (·.en[h].hist) ?_ ?_⟩ <;>
    simp only [raise_heads, raise_en, modEn_heads, modHead_en, modHead_same, modEn_same, ht]

theorem suppressTrain_fresh {s : State} {h : Fin 2} {t : Train} (ht : t.entered = false) (ev : Bool) :
    suppressTrain s h t ev =
      suppressLine (modHead s h (fun x => { x with train := none, freeAt := now s, reg := none })) h t.rsn ev :=
  if_neg (Bool.eq_false_iff.mp ht)

theorem suppressTrain_whitens {s : State} {h : Fin 2} {t : Train} (ht : t.entered = false) (ev : Bool) :
    (suppressTrain s h t ev).heads[h].train = none ∧
    (suppressTrain s h t ev).heads[h].suppressed = inc32 s.heads[h].suppressed ∧
    (suppressTrain s h t ev).en[h].hist = histPush s.en[h].hist 0 := by
  have idle := suppressLine_idle (h := h) (s := modHead s h (fun x => { x with train := none, freeAt := now s, reg := none }))
    (by rw [modHead_same]) t.rsn ev
  rwa [← suppressTrain_fresh ht, modHead_same, modHead_en] at idle

/-! The end of a train (R121, R138a, R143). -/

theorem markLeaving_train (s : State) (g h : Fin 2) : (markLeaving s g).heads[h].train = s.heads[h].train :=
  upd_keeps HeadSt.train (by intro; rfl) s.heads g h

/-- What neither the lines marked to leave nor the imaging ports touch, the end of an entry leaves. -/
theorem jobUnbind_keeps {β : Type} (φ : State → β) (hm : ∀ s g, φ (markLeaving s g) = φ s) (hg : ∀ s v, φ { s with img := v } = φ s)
    (s : State) (e : Fin 64) : φ (jobUnbind s e) = φ s := by
  unfold jobUnbind
  dsimp only
  split
  · exact hm ..
  · split
    · rfl
    · split
      · exact ite_keeps φ (hg ..) (ite_keeps φ (hg ..) rfl)
      · exact ite_keeps φ (hg ..) rfl

theorem finalRsn_train (s : State) (t : Train) (h : Fin 2) : (finalRsn s t).heads[h].train = s.heads[h].train :=
  ite_keeps (·.heads[h].train) (jobUnbind_keeps (·.heads[h].train) (fun s g => markLeaving_train s g h) (fun _ _ => rfl) ..) rfl

theorem finalRsn_en (s : State) (t : Train) : (finalRsn s t).en = s.en :=
  ite_keeps (·.en) (jobUnbind_keeps (·.en) (fun _ _ => rfl) (fun _ _ => rfl) ..) rfl

theorem noteSample_heads (s : State) (h : Fin 2) (t : Train) : (noteSample s h t).heads = s.heads := ite_keeps (·.heads) rfl rfl

theorem noteSample_en (s : State) (h : Fin 2) (t : Train) : (noteSample s h t).en = s.en := ite_keeps (·.en) rfl rfl

/-- A line of no known period, with the thermistor failed: the model takes no energy, the VH loop no sample. -/
theorem endTrain_fault {s : State} {h : Fin 2} {t : Train} {fin : ST} (he : t.entered = false) (hf : s.en[h].thermFault = true)
    (hp : t.period = none) :
    (endTrain s h t fin).heads[h].train = none ∧ (endTrain s h t fin).en[h].hist = histPush s.en[h].hist t.lc.dots ∧
    (endTrain s h t fin).en[h].stLast = now s := by
  unfold endTrain
  simp only [hp, finalRsn_train, finalRsn_en, noteSample_heads, noteSample_en, modelUpdate_fault, hf, he, modEn_heads, modEn_same,
    modHead_same, modHead_en, Bool.false_eq_true, if_false, true_and]
  rfl

theorem lineTrains : Claims.LineTrains := fun _ _ _ hl ht =>
  ⟨fun hc hi hs hf hh => next_live hl rfl (lineCommit_due ht hc hi hs hf hh),
   fun hc hi hs hf hh => next_live hl rfl (lineCommit_held ht hc hi hs hf hh),
   fun hc hi hs hf => next_live hl rfl (lineCommit_fault ht hc hi hs hf),
   fun hc htd hi he => next_live hl rfl (sliceTrainEnd_over ht hc htd hi he),
   fun ev he => suppressTrain_whitens he ev,
   fun _ he hf hp => endTrain_fault he hf hp⟩

/-! The flush of the raster store (R118). -/

theorem command_rasterFlush_mask (s : State) (p : Path) (v : Nat) (seen : List Nat) :
    command s p (okey 0x2320 8) v seen = some (flushCmd s v, 0) := rfl

theorem exec_rasterFlush {s : State} {p : Path} {v : Nat} (h : Passes s p (okey 0x2320 8) v) (hv : TakesNumber (okey 0x2320 8) v) :
    exec (.rasterFlush p v) s = .next (finish s (taken (flushCmd (touch s p) v) p (okey 0x2320 8))) :=
  doWrite_command h hv (command_rasterFlush_mask ..)

theorem mem_rasterFlush_iff {s : State} {h : Fin 2} {l : RasterLine} :
    l ∈ (rasterFlush s h).heads[h].store ↔ l ∈ s.heads[h].store ∧
      ∃ e : Fin 64, e ∈ jobsOfKind s (h.val + 1) ∧ jobLive s.ledger.jobs[e] = true ∧ jobBinds s.ledger.jobs[e] l.rsn = true := by
  unfold rasterFlush
  rw [modHead_same]
  simp only [List.mem_filter, List.any_eq_true, and_assoc]

theorem rasterFlush_other {s : State} {h g : Fin 2} (hg : h ≠ g) : (rasterFlush s h).heads[g] = s.heads[g] := upd_other _ h g _ hg

theorem rasterFlush_restarts (s : State) (h : Fin 2) : (rasterFlush s h).heads[h].nextRsn = 0 := by
  unfold rasterFlush
  rw [modHead_same]

theorem rasterFlushes : Claims.RasterFlushes := fun s p =>
  ⟨fun hp => exec_rasterFlush (v := 1) hp (by decide),
   fun hp => exec_rasterFlush (v := 2) hp (by decide),
   fun hp => exec_rasterFlush (v := 3) hp (by decide),
   fun _ _ => mem_rasterFlush_iff,
   fun h => ⟨rasterFlush_restarts s h, congrArg (·.store) (rasterFlush_other (by fin_cases h <;> decide))⟩⟩

end Sys2Proof.Machine

/-- Settles O24: the outcomes of an identification check; a suppressed line white in the history and a train's end with what it
leaves; a flush by what it keeps of the store. -/
theorem headLines : Obligations.HeadLines :=
  ⟨Sys2Proof.Machine.headIdentification, Sys2Proof.Machine.lineTrains, Sys2Proof.Machine.rasterFlushes⟩
end

section
/-!
PROOF. Raster lines as they are decoded: the control bytes of a RUN8 payload, and the bit that marks a dot black (R115, R117).
-/

namespace Sys2Proof.Machine

open Sys2Proof

/-! RUN8, one control byte at a time (R115). -/

section ControlByte

variable {bpl n : Nat} {c : Byte} {out : List Byte}

theorem run8_exhausted (bpl n : Nat) (out : List Byte) : run8 bpl n [] out = out := by
  cases n <;> rfl

theorem run8_literal (h : c.toNat < 0x80) (rest : List Byte) :
    run8 bpl (n + 1) (c :: rest) out = run8 bpl n (rest.drop (c.toNat + 1)) (out ++ rest.take (c.toNat + 1)) := if_pos h

theorem run8_fill (h : c.toNat = 0x80) (rest : List Byte) :
    run8 bpl (n + 1) (c :: rest) out = out ++ List.replicate (bpl - out.length) 0 :=
  (if_neg (by omega)).trans (if_pos h)

theorem run8_repeat (h : 0x80 < c.toNat) (b : Byte) (rest : List Byte) :
    run8 bpl (n + 1) (c :: b :: rest) out = run8 bpl n rest (out ++ List.replicate (257 - c.toNat) b) :=
  (if_neg (by omega)).trans (if_neg (by omega))

/-- A repeat whose byte is missing adds nothing. -/
theorem run8_repeat_cut (h : 0x80 < c.toNat) : run8 bpl (n + 1) [c] out = out :=
  (if_neg (by omega)).trans (if_neg (by omega))

end ControlByte

/-- Fuel for every byte is enough: each control byte takes one, so more fuel decodes no further. -/
theorem run8_fuel {bpl : Nat} : ∀ (n m : Nat) (bs out : List Byte), bs.length ≤ n → bs.length ≤ m →
    run8 bpl n bs out = run8 bpl m bs out
  | _, _, [], out, _, _ => by rw [run8_exhausted, run8_exhausted]
  | n + 1, m + 1, c :: rest, out, hn, hm => by
    rw [List.length_cons] at hn hm
    rcases Nat.lt_trichotomy c.toNat 0x80 with hc | hc | hc
    · rw [run8_literal hc, run8_literal hc]
      exact run8_fuel n m _ _ (by rw [List.length_drop]; omega) (by rw [List.length_drop]; omega)
    · rw [run8_fill hc, run8_fill hc]
    · cases rest with
      | nil => rw [run8_repeat_cut hc, run8_repeat_cut hc]
      | cons b rest =>
        rw [List.length_cons] at hn hm
        rw [run8_repeat hc, run8_repeat hc]
        exact run8_fuel n m _ _ (by omega) (by omega)

theorem run8Decodes : Claims.Run8Decodes := fun bpl out =>
  ⟨fun n => run8_exhausted bpl n out,
   fun n c xs rest hc hx => by
    rw [run8_literal (by omega), List.drop_left' hx, List.take_left' hx],
   fun _ rest _ => run8_fill rfl rest,
   fun _ _ b rest hc => run8_repeat hc b rest,
   fun n m bs => run8_fuel n m bs out⟩

/-! The dots of a line (R117). -/

theorem bit_eq_testBit (n k : Nat) : bit n k = n.testBit k := Nat.testBit_eq_decide_div_mod_eq.symm

/-- The number whose bits below `n` are those of `f`. -/
abbrev bitSum (f : Nat → Bool) (n : Nat) : Nat := sumN ((upto n).map (fun d => if f d then 2 ^ d else 0))

theorem dotSet_eq_bitSum (dots : Nat) (bs : List Byte) :
    dotSet dots bs = bitSum (fun d => bit (bs.getD (d / 8) 0).toNat (7 - d % 8)) dots := rfl

theorem bitSum_succ (f : Nat → Bool) (n : Nat) : bitSum f (n + 1) = 2 ^ n * (f n).toNat + bitSum f n := by
  simp only [bitSum, sumN, upto, List.range_succ, List.map_append, List.foldl_append, List.map_cons, List.map_nil, List.foldl_cons,
    List.foldl_nil]
  rw [Nat.add_comm]
  cases f n <;> simp

theorem testBit_bitSum (f : Nat → Bool) (n d : Nat) : (bitSum f n).testBit d = (decide (d < n) && f d) := by
  induction n generalizing d with
  | zero => exact Nat.zero_testBit d
  | succ n ih =>
    have below : bitSum f n < 2 ^ n := Nat.lt_pow_two_of_testBit _ fun i hi => by rw [ih, decide_eq_false (by omega), Bool.false_and]
    rw [bitSum_succ, Nat.testBit_two_pow_mul_add _ below, ih, Nat.testBit_bool_toNat]
    rcases Nat.lt_trichotomy d n with hd | rfl | hd
    · simp [hd, Nat.lt_succ_of_lt hd]
    · simp
    · simp [show ¬ d < n by omega, show ¬ d < n + 1 by omega, show d - n ≠ 0 by omega]

theorem dotBits : Claims.DotBits := fun dots bs d => by
  rw [bit_eq_testBit, dotSet_eq_bitSum, testBit_bitSum]

end Sys2Proof.Machine

/-- Settles O11: an equation for each kind of control byte, and an induction on the fuel that more of it changes nothing. -/
theorem run8Decodes : Obligations.Run8Decodes := Sys2Proof.Machine.run8Decodes

/-- Settles O12: the bits of a sum of distinct powers of two, by induction on DOTS. -/
theorem dotBits : Obligations.DotBits := Sys2Proof.Machine.dotBits
end

section
/-!
PROOF. Head temperature and the resistance measurement: a recomputed line latched, the thermistor's readings and the steps of the
thermal model, and a measurement refused or done (R142, R143, R145–R147, R149, R150, R161, R185).
-/

namespace Sys2Proof.Machine

open Sys2Proof

/-! A recomputed line (R161). The shift register is all that a load or a preload of it changes in the head. -/

section ShiftRegister

variable {β : Type} (φ : HeadSt → β) (hφ : ∀ x r t, φ { x with reg := r, regSt := t } = φ x)
include hφ

theorem loadReg_keeps (s : State) (h : Fin 2) (m : Nat) : φ (loadReg s h m).heads[h] = φ s.heads[h] := by
  unfold loadReg
  split
  · rfl
  · rw [modHead_same, hφ]

theorem preload_keeps (s : State) (h : Fin 2) : φ (preload s h).heads[h] = φ s.heads[h] := by
  unfold preload
  refine ite_keeps (fun s => φ s.heads[h]) rfl ?_
  split
  · split
    · exact loadReg_keeps φ hφ ..
    · rfl
  · rfl

end ShiftRegister

/-- What a head holds of its lines: the train, and the line that waits to be recomputed. -/
abbrev trainAndRecomp (x : HeadSt) : Option Train × Option Recompute := (x.train, x.recomp)

/-- The first slice of a line latched: the train is the head's, at the VH sensed last, and not committed. -/
theorem latchSlot_first {s : State} {h : Fin 2} {t : Train} (ht : t.todo ≠ []) (hi : t.issues = []) (hc : t.committed = false) :
    ∃ u : Train, trainAndRecomp (latchSlot s h t).heads[h] = (some u, s.heads[h].recomp) ∧ u.rsn = t.rsn ∧ u.index = t.index ∧
      u.vh = s.vl[h].sensed ∧ u.recomputed = t.recomputed ∧ u.committed = false := by
  obtain ⟨x, r, hx⟩ := List.exists_cons_of_ne_nil ht
  have keepsReg : ∀ x r t, trainAndRecomp { x with reg := r, regSt := t } = trainAndRecomp x := fun _ _ _ => rfl
  unfold latchSlot
  rw [hx]
  dsimp only
  split
  · rw [loadReg_keeps trainAndRecomp keepsReg, modHead_same]
    simp [hi, hc, -Fin.getElem_fin]
  · rw [preload_keeps trainAndRecomp keepsReg, modHead_same]
    simp [hi, hc, -Fin.getElem_fin]

theorem recomputeLatch_noTrain {s : State} {h : Fin 2} {r : Recompute} (hr : s.heads[h].recomp = some r)
    (ht : s.heads[h].train = none) (hl : lcSlots r.lc ≠ []) : ∃ (t : Train) (v : State),
    recomputeLatch s h = rehearseAgain v h r.vh ∧ v.heads[h].train = some t ∧ v.heads[h].recomp = none ∧ t.rsn = r.rsn ∧
    t.index = r.index ∧ t.vh = s.vl[h].sensed ∧ t.recomputed = some (r.failed, now s - r.startSt) ∧ t.committed = false := by
  obtain ⟨u, hu, hrest⟩ := latchSlot_first (s := modHead s h (fun x => { x with recomp := none })) (h := h)
    (t := makeTrain (Fin.ofNat 64 r.entry) r.rsn r.index r.dir r.lc r.elig r.vh r.period (some (r.failed, now s - r.startSt)) (now s))
    hl rfl rfl
  obtain ⟨htrain, hrecomp⟩ := Prod.mk.inj hu
  rw [modHead_same] at hrecomp
  refine ⟨u, _, ?_, htrain, hrecomp, hrest⟩
  unfold recomputeLatch
  rw [hr, ht]

/-- Before the register is reloaded and the strobes have ended, no line is latched. -/
theorem recomputeDue_before {s : State} {h : Fin 2} {r : Recompute} (hr : s.heads[h].recomp = some r)
    (hf : now s < recomputeFrom s h r) : recomputeDue s h = false := by
  simp [recomputeDue, hr, hf, -Fin.getElem_fin]

theorem exec_recomputeLatch (h : Fin 2) (s : State) : exec (.recomputeLatch h) s = execRecomputeLatch h s := rfl

theorem exec_recomputeLatch_early {s : State} {h : Fin 2} {r : Recompute} (hr : s.heads[h].recomp = some r)
    (hf : now s < recomputeFrom s h r) : exec (.recomputeLatch h) s = .next (finish s s) :=
  (exec_recomputeLatch h s).trans <| doLive_notDue (recomputeDue_before hr hf)

/-! The thermistor and the thermal model (R142, R143, R145, R146). -/

theorem thermRead_bad {s : State} {h : Fin 2} {code : Nat} (hc : code < 16 ∨ 4080 < code) (hf : s.en[h].thermFault = false) :
    thermRead s h code = raise (cutStrobes (modEn s h (fun e => { e with thermFault := true, thermGood := 0 })) h) 165 (headBit h)
      code := by
  unfold thermRead
  rw [if_pos (by simpa using hc), if_neg (by rw [hf]; decide)]

/-- A step of the model within MODEL_DIV of the thermistor and below HOT_LIMIT: no reseed and no event. -/
theorem modelUpdate_step {s : State} {h : Fin 2} {fired vh : Nat} {t1 : Int} (hf : s.en[h].thermFault = false)
    (ht : t1 = modelStep s h s.en[h].tInt (firedEnergy s h fired vh) ((now s : Int) - s.en[h].stLast))
    (hover : headTemp t1 - s.en[h].tTherm ≤ enCfg s h 10) (hunder : s.en[h].tTherm - headTemp t1 ≤ enCfg s h 10)
    (hhot : headTemp t1 < enCfg s h 11) :
    modelUpdate s h fired vh = modEn s h (fun e => { e with
      tInt := t1, tHead := headTemp t1, stLast := now s,
      hot := (if headTemp t1 ≤ enCfg s h 11 - 80 then false else e.hot) }) := by
  have near : ¬ enCfg s h 10 <
      (if headTemp t1 < s.en[h].tTherm then s.en[h].tTherm - headTemp t1 else headTemp t1 - s.en[h].tTherm) := by
    split <;> omega
  have cool : ¬ enCfg s h 11 ≤ headTemp t1 := by omega
  unfold modelUpdate
  simp only [hf, ← ht, near, cool, decide_false, Bool.false_and, Bool.false_eq_true, if_false]

/-- MODEL_UPDATE is due 1 ms after the last update, with no train. -/
theorem exec_modelUpdate_due {s t : State} {h : Fin 2} (hl : controlLive s = true) (hn : s.heads[h].train = none)
    (hs : s.en[h].stLast + 200000 ≤ now s) (hu : modelUpdate s h 0 0 = t) :
    exec (.modelUpdate h) s = .next (finish s t) :=
  next_live hl (by simp [hn, hs, -Fin.getElem_fin]) hu

/-! The resistance measurement (R147, R149, R150). -/

theorem measAllowed_iff {s : State} {h : Fin 2} : measAllowed s h = true ↔ s.md.mode = .service ∧ s.heads[h].state = 1 ∧
    s.heads[h].train = none ∧ ∀ e ∈ jobsOfKind s (h.val + 1), jobLive s.ledger.jobs[e] = false := by
  simp only [measAllowed, Bool.and_eq_true, decide_eq_true_eq, Option.isNone_iff_eq_none, Bool.not_eq_true', List.any_eq_false,
    Bool.not_eq_true, and_assoc]

theorem measStart_barred {s : State} {h : Fin 2} {raws : List Nat} (ha : measAllowed s h = false) :
    measStart s h raws = (s, 0x24) := if_pos (by rw [ha]; rfl)

theorem measDone_notOver {s : State} {h : Fin 2} {dvs : List Nat} (hm : measOver s h = false) : measDone s h dvs = s :=
  if_pos (by rw [hm]; rfl)

/-- The measurement of all dots takes a free value for each, and leaves the heads and the dot energy units alone. -/
theorem measDone_frame {s : State} {h : Fin 2} {dvs : List Nat} (hm : measOver s h = true) :
    (measDone s h dvs).free = s.free + headDots s h ∧ (measDone s h dvs).heads = s.heads ∧ (measDone s h dvs).en = s.en := by
  unfold measDone
  rw [if_neg (by simp [hm])]
  exact ⟨ite_keeps (·.free) rfl rfl, ite_keeps (·.heads) rfl rfl, ite_keeps (·.en) rfl rfl⟩

theorem headTemperature : Claims.HeadTemperature := fun s h hl =>
  ⟨fun r hr hf hs ht hls => by
    obtain ⟨t, v, hv, hline⟩ := recomputeLatch_noTrain hr ht hls
    exact ⟨t, v, next_live hl (recomputeDue_within hr hf hs) (congrArg (govRecompute · h) hv), hline⟩,
   fun r hr hf => exec_recomputeLatch_early hr hf,
   fun code hr hc hf => next_live hl hr (thermRead_bad hc hf),
   fun code hr hlo hhi hf => next_live hl hr (thermRead_good hlo hhi hf),
   fun hn hs hf => exec_modelUpdate_due hl hn hs (modelUpdate_fault hf),
   fun t1 hn hs hf ht hover hunder hhot => exec_modelUpdate_due hl hn hs (modelUpdate_step hf ht hover hunder hhot)⟩

theorem resistanceMeasurement : Claims.ResistanceMeasurement := fun s h =>
  ⟨fun p raws hp ha hc =>
    doWrite_command (n := 1) hp (takesNumber_measure h 1) ((command_measure ..).trans (congrArg some (measStart_allowed ha hc))),
   fun p raws hp ha =>
    doWrite_command_turnedAway (n := 1) (d := 0x24) hp (takesNumber_measure h 1)
      ((command_measure ..).trans (congrArg some (measStart_barred (s := touch s p) ha))) (by decide),
   measAllowed_iff,
   fun p hp hm =>
    doWrite_command (n := 2) hp (takesNumber_measure h 2)
      ((command_measure ..).trans (congrArg (fun u => some (u, 0)) (measAbort_running (s := touch s p) hm))),
   fun dvs hl hm => next_live hl rfl (measDone_notOver hm),
   fun dvs hl hm ho => by
    have hover : measOver s h = true := by simp [measOver, hm, ho, -Fin.getElem_fin]
    obtain ⟨hstate, hdot⟩ := measDone_over (dvs := dvs) hover
    exact ⟨measDone s h dvs, next_live hl rfl rfl, hstate, hdot, measDone_frame hover⟩⟩

end Sys2Proof.Machine

/-- Settles O25: a recomputed line by what latching its first slice leaves, a reading and a model step by the branch they take, and
each command of the measurement by its law. -/
theorem headTemperatureAndResistance : Obligations.HeadTemperatureAndResistance :=
  ⟨Sys2Proof.Machine.headTemperature, Sys2Proof.Machine.resistanceMeasurement⟩
end

section
/-!
PROOF. The media found: which grid positions a cycle crosses, and the samples of the channels with a role at each of them and with the
lane stopped (R55, R169, R170).
-/

namespace Sys2Proof.Machine

open Sys2Proof

/-! Grid positions (R55, R169). -/

/-- The model casts the whole list of indices to integers before it maps over it; the maps here cast each index. -/
theorem map_upto_int (n : Nat) (f : Int → Int) : (upto n).map f = (upto n).map (fun k : Nat => f k) := by
  rw [List.bind_eq_flatMap, List.map_flatMap]
  exact List.flatMap_pure_eq_map ..

/-- The multiples of `q` after `a` up to `b`, rising. -/
def multiplesAfter (q a b : Int) : List Int :=
  (upto (fdiv b q - fdiv a q).toNat).map (fun k : Nat => q * (fdiv a q + 1 + k))

theorem fdiv_lt_iff {a j q : Int} (hq : 0 < q) : fdiv a q < j ↔ a < q * j := by
  rw [fdiv, Int.fdiv_eq_ediv_of_nonneg _ hq.le, Int.ediv_lt_iff_lt_mul hq, Int.mul_comm]

theorem mem_multiplesAfter {q a b x : Int} (hq : 0 < q) : x ∈ multiplesAfter q a b ↔ q ∣ x ∧ a < x ∧ x ≤ b := by
  simp only [multiplesAfter, upto, List.mem_map, List.mem_range]
  constructor
  · rintro ⟨k, hk, rfl⟩
    exact ⟨Int.dvd_mul_right .., (fdiv_lt_iff hq).mp (by omega),
      Int.not_lt.mp fun hb => absurd ((fdiv_lt_iff hq).mpr hb) (by omega)⟩
  · rintro ⟨⟨j, rfl⟩, ha, hb⟩
    have above : fdiv a q < j := (fdiv_lt_iff hq).mpr ha
    have below : ¬ fdiv b q < j := fun h => absurd ((fdiv_lt_iff hq).mp h) (Int.not_lt.mpr hb)
    exact ⟨(j - fdiv a q - 1).toNat, by omega, congrArg (q * ·) (by omega)⟩

theorem nodup_multiplesAfter {q : Int} (hq : 0 < q) (a b : Int) : (multiplesAfter q a b).Nodup :=
  List.nodup_range.map fun _ _ h => by
    have := Int.eq_of_mul_eq_mul_left hq.ne' h
    omega

section Grid

variable {s : State} (hq : 0 < mediaCfg s 5) (hs : laneSource s (mediaLane s) ≠ 0)
include hq hs

theorem gridCrossed_forward (h : s.msu.lanes[mediaLane s].prev < s.msu.lanes[mediaLane s].pos) :
    gridCrossed s = multiplesAfter (mediaCfg s 5) s.msu.lanes[mediaLane s].prev s.msu.lanes[mediaLane s].pos :=
  ((if_neg (by simp [hs, hq])).trans (if_pos h)).trans (map_upto_int ..)

/-- Backward the lane crosses what it would cross forward with every place mirrored. -/
theorem gridCrossed_backward (h : s.msu.lanes[mediaLane s].pos ≤ s.msu.lanes[mediaLane s].prev) :
    gridCrossed s =
      (multiplesAfter (mediaCfg s 5) (-s.msu.lanes[mediaLane s].prev) (-s.msu.lanes[mediaLane s].pos)).map Neg.neg := by
  refine ((if_neg (by simp [hs, hq])).trans (if_neg (Int.not_lt.mpr h))).trans ?_
  rw [map_upto_int, multiplesAfter, List.map_map]
  refine congrArg₂ _ (funext fun k => ?_) (congrArg (fun n => upto (Int.toNat n)) ?_)
  · show _ * (-fdiv (-_) _ - 1 - _) = -(_ * _)
    rw [← Int.mul_neg]
    exact congrArg _ (by omega)
  · show -fdiv (-_) _ - -fdiv (-_) _ = _
    omega

theorem mem_gridCrossed (q : Int) : q ∈ gridCrossed s ↔ mediaCfg s 5 ∣ q ∧
    ((s.msu.lanes[mediaLane s].prev < q ∧ q ≤ s.msu.lanes[mediaLane s].pos) ∨
     (q < s.msu.lanes[mediaLane s].prev ∧ s.msu.lanes[mediaLane s].pos ≤ q)) := by
  rcases Int.lt_or_le s.msu.lanes[mediaLane s].prev s.msu.lanes[mediaLane s].pos with h | h
  · rw [gridCrossed_forward hq hs h, mem_multiplesAfter hq]
    exact and_congr_right fun _ => by omega
  · rw [gridCrossed_backward hq hs h, List.mem_map_of_involutive neg_involutive, mem_multiplesAfter hq, Int.dvd_neg]
    exact and_congr_right fun _ => by omega

theorem nodup_gridCrossed : (gridCrossed s).Nodup := by
  rcases Int.lt_or_le s.msu.lanes[mediaLane s].prev s.msu.lanes[mediaLane s].pos with h | h
  · rw [gridCrossed_forward hq hs h]
    exact nodup_multiplesAfter hq ..
  · rw [gridCrossed_backward hq hs h]
    exact (nodup_multiplesAfter hq ..).map neg_injective

end Grid

/-! Samples (R169, R170). -/

theorem mediaSample_uncrossed {s : State} {codes : List Nat} (h : gridCrossed s = []) : mediaSample s codes = s := by
  unfold mediaSample
  exact if_pos (by simp [h])

theorem mediaSample_sampled {s : State} {codes : List Nat} (h : s.media.sampleSt = some (now s)) : mediaSample s codes = s := by
  unfold mediaSample
  exact if_pos (by simp [h])

/-- With no sample before it one is due at once, and else 1 ms after the last. -/
theorem supplySampleStopped_due {s : State} {codes : List Nat} (hleds : ledsOn s = true) (hr : sysReads s = true)
    (hst : laneStopped s (mediaLane s) = true) (hd : ∀ t, s.supply.stoppedSt = some t → t + 200000 ≤ now s) :
    supplySampleStopped s codes =
      applyAll (stoppedChannel codes) { s with supply := { s.supply with stoppedSt := some (now s) } } (allFin 8) := by
  cases ht : s.supply.stoppedSt with
  | none => exact supplySampleStopped_first hleds hr hst ht
  | some t =>
    unfold supplySampleStopped
    rw [ht]
    exact if_pos (by simp [hleds, hr, hst, hd t ht])

theorem supplySampleStopped_early {s : State} {codes : List Nat} {t : ST} (ht : s.supply.stoppedSt = some t)
    (h : now s < t + 200000) : supplySampleStopped s codes = s := by
  unfold supplySampleStopped
  rw [ht]
  exact if_neg (by simp [h])

/-- A channel whose LED current has no loop gathers no code. -/
theorem ledGather_off {s : State} {n : Fin 8} {code : Nat} {counts : Bool} (h : optCfg s n.val 3 = 0) :
    ledGather s n code counts = s := if_pos h

theorem gridChannel_supplyOnly {s : State} {n : Fin 8} {codes : List Nat} {q : Int} (hon : optCfg s n.val 1 = 1)
    (hc : classifies s n.val = false) (hs : supplies s n.val = true) (hl : optCfg s n.val 3 = 0) :
    gridChannel q codes s n = supplySample (modOpt (optAsk s n.val) n (fun o => { o with lastCode := codes.getD n.val 0 })) n.val
      (codes.getD n.val 0) := by
  unfold gridChannel
  rw [if_pos (by simp [hon, hs])]
  simp only [hc, hs, if_true, Bool.false_eq_true, if_false]
  rw [ledGather_off (s := modOpt (optAsk s n.val) n _) hl]

theorem gridChannel_noRole {s : State} {n : Fin 8} {codes : List Nat} {q : Int} (hc : classifies s n.val = false)
    (hs : supplies s n.val = false) : gridChannel q codes s n = s := if_neg (by simp [hc, hs])

/-! The obligation. -/

theorem mediaSampling : Claims.MediaSampling := fun _ codes hl hleds hr =>
  ⟨fun hg hn => next_live hl rfl (mediaSample_crossed hleds hr hg hn),
   fun hg => next_live hl rfl (mediaSample_uncrossed hg),
   fun hn => next_live hl rfl (mediaSample_sampled hn),
   fun hst hd => next_live hl rfl (supplySampleStopped_due hleds hr hst hd),
   fun _ ht h => next_live hl rfl (supplySampleStopped_early (codes := codes) ht h),
   fun _ _ => gridChannel_supplyOnly,
   fun _ _ => gridChannel_noRole⟩

theorem gridCrossing : Claims.GridCrossing := fun _ hq hs => ⟨mem_gridCrossed hq hs, nodup_gridCrossed hq hs⟩

end Sys2Proof.Machine

/-- Settles O26: each sample by whether it is due, each channel by its roles; the crossings of a cycle as the multiples of the pitch
after one place up to another, mirrored where the lane goes back. -/
theorem mediaFinding : Obligations.MediaFinding := ⟨Sys2Proof.Machine.mediaSampling, Sys2Proof.Machine.gridCrossing⟩
end

section
/-!
PROOF. A confirmed index that leaves no candidate behind, the labels missed, the media halts and GOV_RELEASE (R177–R179, R181, R182).
-/

namespace Sys2Proof.Machine

open Sys2Proof

/-! A confirmed index (R177, R178). -/

/-- Outside SYNC no label is missed. -/
theorem passMissing_unsync {s : State} {x : Int} {fuel : Nat} (h : s.media.indexState ≠ 2) : passMissing x fuel s = s := by
  cases fuel with
  | zero => rfl
  | succ n => exact if_neg (by simp [h])

/-- Up to the end of the window no label has been missed. -/
theorem passMissing_within {s : State} {x : Int} {fuel : Nat} (h : x ≤ mediaExpected s + mediaCfg s 7) :
    passMissing x fuel s = s := by
  cases fuel with
  | zero => rfl
  | succ n => exact if_neg (by simp [Int.not_lt.mpr h])

section Judged

variable {s : State} {x p : Int} (hc : s.media.cand = none)
include hc

theorem modMedia_noCand : modMedia s (fun m => { m with cand := none }) = s := by
  unfold modMedia
  rw [← hc]

theorem indexConfirm_unsync (hi : s.media.indexState = 1) :
    indexConfirm s x p = cutAuto (modMedia s (fun m => { m with xLast := x, indexState := 2 })) := by
  unfold indexConfirm
  rw [modMedia_noCand hc, passMissing_unsync (by simp [hi])]
  exact if_pos (by simp [hi])

variable (hi : s.media.indexState = 2)
include hi

theorem indexConfirm_inWindow (hlo : mediaExpected s - mediaCfg s 7 ≤ x) (hhi : x ≤ mediaExpected s + mediaCfg s 7) :
    indexConfirm s x p = cutAuto (raise (modMedia s (fun m =>
      { m with lastSlip := x - mediaExpected s, slipCount := inc32 m.slipCount, frameCorr := m.frameCorr + m.slip,
               slip := x - mediaExpected s, slipMax := 0, slipFrom := p + mediaCfg s 18, xLast := x, missingRun := 0 }))
      208 (w32 x) (w32 (x - mediaExpected s))) := by
  unfold indexConfirm
  rw [modMedia_noCand hc, passMissing_within hhi]
  exact (if_neg (not_not_intro hi)).trans (if_pos hlo)

theorem indexConfirm_short (hlo : x < mediaExpected s - mediaCfg s 7) (hw : 0 ≤ mediaCfg s 7) (ha : mediaCfg s 15 = 0) :
    indexConfirm s x p = cutAuto (raise (modMedia s (fun m =>
      { m with shortCount := inc16 m.shortCount, xLast := x, missingRun := 0 })) 209 (w32 x) (w32 (mediaExpected s - x))) := by
  unfold indexConfirm
  rw [modMedia_noCand hc, passMissing_within (by omega)]
  refine (if_neg (not_not_intro hi)).trans ((if_neg (Int.not_le.mpr hlo)).trans (congrArg cutAuto (if_neg ?_)))
  rw [ha]
  decide

end Judged

/-! Labels missed, and the governor's release (R179, R181). -/

theorem labelMissing_lost {s : State} (h : mediaCfg s 16 < ((inc8 s.media.missingRun : Nat) : Int)) :
    labelMissing s = mediaHalt (raise (modMedia s (fun m =>
      { m with missingRun := inc8 m.missingRun, missingCount := inc16 m.missingCount, indexState := 1 }))
      211 (w32 (mediaExpected s)) (inc8 s.media.missingRun)) 2 :=
  if_neg (Int.not_le.mpr h)

theorem modGov_same (s : State) (g : Fin 2) (f : GovSt → GovSt) : (modGov s g f).govs[g] = f s.govs[g] := upd_same _ g f

theorem govRelease_halted (s : State) (g : Fin 2) : (govRelease s g).govs[g].halted = 0 := by
  rw [govRelease, modGov_same]

/-! The obligation. -/

theorem indexJudged : Claims.IndexJudged := fun _ _ _ hc =>
  ⟨indexConfirm_unsync hc, indexConfirm_inWindow hc, indexConfirm_short hc⟩

theorem mediaHaltsAndReleases : Claims.MediaHaltsAndReleases := fun s =>
  ⟨fun hl hp h => next_live hl hp (labelMissing_within h),
   fun hl hp h => next_live hl hp (labelMissing_lost h),
   fun _ hl hq h => next_live hl rfl (reserveCheck_reached hq h),
   fun _ g hp =>
    ⟨doWrite_command (n := 1) hp (takesNumber_govRelease g) (command_govRelease ..), govRelease_halted s g⟩⟩

end Sys2Proof.Machine

/-- Settles O27: an index by where it lies against the window, a missed label by the run it makes, and each halt and release by its
law. -/
theorem mediaIndexes : Obligations.MediaIndexes := ⟨Sys2Proof.Machine.indexJudged, Sys2Proof.Machine.mediaHaltsAndReleases⟩
end

section
/-!
PROOF. The cutter: the drives of a cycle, what ends one in a retry, JAM or FAULT, and the requests for a cut or for HOME (R187–R191,
R193).
-/

namespace Sys2Proof.Machine

open Sys2Proof

/-! The drives of a cycle (R187, R188). -/

theorem cutDrive_overrun {s : State} {c : CutReq} (ha : s.cut.active = some c) (hp : s.cut.phase = .waiting)
    (hs : cutAtStop s c = true) (hl : c.stop < s.msu.lanes[mediaLane s].pos) :
    cutDrive s = raise (modCut s (fun x =>
      { x with state := 2, phase := .forward, phaseSt := now s, cycleSt := now s, homeSw := false }))
      228 (w32 c.stop) (wrap 32 (s.msu.lanes[mediaLane s].pos - c.stop).toNat) := by
  unfold cutDrive
  rw [ha]
  exact (if_pos (by simp [hp, hs])).trans (if_pos hl)

theorem cutterDrives : Claims.CutterDrives := fun _ _ hl ha =>
  ⟨fun hp hs hle => next_live hl rfl (cutDrive_atStop ha hp hs hle),
   fun hp hs hlt => next_live hl rfl (cutDrive_overrun ha hp hs hlt),
   fun hp => next_live hl rfl (if_pos hp),
   fun hp hk ht => next_live hl rfl (cutPartialEnd_due ha hp hk ht),
   fun hp ht => next_live hl rfl (cutReverse_due hp ht),
   fun hp hf => next_live hl rfl (cutHomeReached_returned ha hp hf),
   fun hp ht hq => next_live hl rfl (cutDone_due ha hp ht hq)⟩

/-! Retries, jams and faults (R189, R190). -/

theorem cutEndTimeout_jam {s : State} (hp : s.cut.phase = .forward) (ht : objN s 0x2540 5 ≤ now s - s.cut.phaseSt)
    (hn : objN s 0x2540 9 ≤ s.cut.attempt) :
    cutEndTimeout s = mediaHalt (raise (modCut s (fun x =>
      { x with state := 4, jams := inc16 x.jams, active := none, stopSet := false, phase := .braking, phaseSt := now s,
               forwardOk := false })) 225 (s.cut.attempt + 1) s.cut.state) 4 := by
  unfold cutEndTimeout
  rw [if_pos (by rw [decide_eq_true (show cutCfg s 5 ≤ _ from ht)]; simp [hp])]
  exact if_neg (Nat.not_lt.mpr hn)

/-- A blade that comes home from a forward drive without END drives forward again. -/
theorem cutHomeReached_retry {s : State} (hp : s.cut.phase = .returning) (ha : s.cut.active.isSome = true)
    (hf : s.cut.forwardOk = false) : cutHomeReached s = raise (modCut s (fun x =>
      { x with state := 2, attempt := s.cut.attempt + 1, phase := .forward, phaseSt := now s })) 230 (s.cut.attempt + 1) 0 := by
  unfold cutHomeReached
  rw [hp]
  exact (if_neg (by simpa using Option.isSome_iff_ne_none.mp ha)).trans (if_neg (by simp [hf]))

theorem cutterFaults : Claims.CutterFaults := fun _ hl =>
  ⟨fun hp ht hn => next_live hl rfl (cutEndTimeout_again hp ht hn),
   fun hp ht hn => next_live hl rfl (cutEndTimeout_jam hp ht hn),
   fun hp ha hf => next_live hl rfl (cutHomeReached_retry hp ha hf),
   fun hp ht => next_live hl rfl (cutHomeTimeout_due hp ht),
   fun h => next_live hl rfl (cutShort_driven h)⟩

/-! Requests (R187, R191, R193). -/

/-- A CUT_CMD that passes is taken with what the request leaves. -/
theorem doWrite_cutCmd {s u : State} {p : Path} {v : Nat} (h : Passes s p (okey 0x2541 2) v) (hv : TakesNumber (okey 0x2541 2) v)
    (hu : cutCmd (touch s p) v = u) :
    doWrite p (okey 0x2541 2) v [] s = .next (finish s (taken u p (okey 0x2541 2))) :=
  doWrite_command h hv ((command_cutCmd ..).trans (by rw [hu]))

/-- The comparator that CUT_CLEAR looks at. -/
theorem command_cutClear_comparator (s : State) (p : Path) (oc : Bool) :
    command s p (okey 0x2541 3) 1 (if oc then [1] else []) = some (cutClearCmd s oc) := by
  cases oc <;> exact command_cutClear ..

/-- A cut asked for while a cycle is under way and the queue is free. -/
theorem cutHere_queued {s : State} {kind : Nat} (hr : inRun s = true) (hd : s.msu.lanes[mediaLane s].dir ≠ .rev)
    (hs : s.cut.state = 2) (hp : s.cut.phase ≠ .idle) (hq : s.cut.queued = none) :
    cutHere s kind 0 = modCut s (fun c => { c with queued := some ⟨kind, s.msu.lanes[mediaLane s].pos⟩ }) := by
  unfold cutHere cutRequest
  rw [Int.add_zero]
  simp [hr, hd, hs, hp, hq, -Fin.getElem_fin]

theorem cutClearCmd_held {s : State} {oc : Bool} (h : outputCut s = true ∨ oc = true) : cutClearCmd s oc = (s, 0x23) :=
  if_pos (by simpa using h)

theorem cutterRequests : Claims.CutterRequests := fun s p hr hd =>
  ⟨fun h hs hp => doWrite_cutCmd (v := 1) h (by decide) (cutHere_ready (s := touch s p) hr hd hs hp),
   fun h hs hp => doWrite_cutCmd (v := 2) h (by decide) (cutHere_ready (s := touch s p) hr hd hs hp),
   fun h hs hp hq => doWrite_cutCmd (v := 1) h (by decide) (cutHere_queued (s := touch s p) hr hd hs hp hq),
   fun h hc ht hp hh => doWrite_cutCmd (v := 3) h (by decide)
    ((cutHomeCmd_ready (s := touch s p) hr hc ht hp).trans (cutHome_away (s := touch s p) hh)),
   fun h hc hh => doWrite_command (n := 1) h (by decide)
    ((command_cutClear_comparator _ p false).trans (congrArg some (cutClearCmd_away (s := touch s p) hr hc hh))),
   fun oc h hb => doWrite_command_turnedAway (n := 1) (d := 0x23) h (by decide)
    ((command_cutClear_comparator _ p oc).trans (congrArg some (cutClearCmd_held (s := touch s p) hb))) (by decide)⟩

end Sys2Proof.Machine

/-- Settles O31: each drive of the cycle by the phase it starts from. -/
theorem cutterCycle : Obligations.CutterCycle := Sys2Proof.Machine.cutterDrives

/-- Settles O32: each timeout and over-current by whether a retry is left or a drive runs; each request by what the cutter does when it
comes. -/
theorem cutterFaultsAndRequests : Obligations.CutterFaultsAndRequests :=
  ⟨Sys2Proof.Machine.cutterFaults, Sys2Proof.Machine.cutterRequests⟩
end

section
/-!
PROOF. The motion axes: commands that wait for a servo boundary and what a boundary takes of them, what becomes due between boundaries,
and the regulation's multiples of 128 (R199–R207, R212, R217–R224, R230, R317).
-/

namespace Sys2Proof

/-- A change that leaves its element as it is changes nothing. -/
theorem upd_unchanged {α : Type} {n : Nat} {v : Vector α n} {i : Fin n} {f : α → α} (h : f v[i] = v[i]) : upd v i f = v := by
  rw [Machine.upd_congr (g := id) h, upd]
  exact Vector.set_getElem_self i.isLt

end Sys2Proof

namespace Sys2Proof.Machine

open Sys2Proof

/-! One axis changed. -/

theorem modAxis_same (s : State) (n : Fin 4) (f : AxisSt → AxisSt) : (modAxis s n f).axes[n] = f s.axes[n] := upd_same _ n f

theorem modAxis_congr {s : State} {n : Fin 4} {f g : AxisSt → AxisSt} (h : f s.axes[n] = g s.axes[n]) :
    modAxis s n f = modAxis s n g := congrArg (fun v => { s with axes := v }) (upd_congr h)

theorem modAxis_unchanged {s : State} {n : Fin 4} {f : AxisSt → AxisSt} (h : f s.axes[n] = s.axes[n]) : modAxis s n f = s :=
  congrArg (fun v => { s with axes := v }) (upd_unchanged h)

/-! Commands that wait (R202). -/

theorem axDeliver_lower {s : State} {n : Fin 4} {q c : AxCmd} (h : s.axes[n].pend = some q) (hr : axRank c < axRank q) :
    axDeliver s n c false = s := by
  apply modAxis_unchanged
  simp [h, hr, -Fin.getElem_fin]

theorem axDeliver_higher {s : State} {n : Fin 4} {q c : AxCmd} (h : s.axes[n].pend = some q) (hr : axRank q < axRank c) :
    axDeliver s n c false = modAxis s n (fun x => { x with pend := some c, pendSt := now s, pendWm := false }) := by
  apply modAxis_congr
  simp [h, hr.not_gt, hr.ne', -Fin.getElem_fin]

theorem axisCommandsWait : Claims.AxisCommandsWait := fun _ _ =>
  ⟨fun hl h => ⟨next_live hl rfl (axDeliver_idle h), next_live hl rfl (axDeliver_idle h), next_live hl rfl (axDeliver_idle h),
    next_live hl rfl (axDeliver_idle h)⟩,
   fun _ _ => axDeliver_lower,
   fun _ _ => axDeliver_higher,
   by decide⟩

/-! What a boundary takes (R203–R207, R212, R230). -/

/-- The stall reference, retaken or not, moves nothing. -/
theorem stallRetake_motion (s : State) (n : Fin 4) (rest : Bool) :
    (if rest then stallRetake s n else s).axes[n].x = s.axes[n].x ∧
    (if rest then stallRetake s n else s).axes[n].v = s.axes[n].v ∧
    (if rest then stallRetake s n else s).axes[n].sT = s.axes[n].sT := by
  unfold stallRetake
  split_ifs
  · exact ⟨rfl, rfl, rfl⟩
  · simp only [modAxis_same, and_self]
  · exact ⟨rfl, rfl, rfl⟩

/-- What an accepted GO or GO_ALT leaves of its axis: the target and the direction that MOVE_KIND selects, a move under way, and the
motion as it was. -/
theorem axGo_accepted {s : State} {n : Fin 4} (alt : Bool) (h : goReason s n = 0) :
    (axGo s n alt).axes[n].sT =
      (if axCfg s n 2 3 = 1 then s.axes[n].sT else axTarget s n (axCfg s n 2 (if alt then 2 else 1))) ∧
    (axGo s n alt).axes[n].velMove = decide (axCfg s n 2 3 = 1) ∧
    (axGo s n alt).axes[n].velDir = (if axCfg s n 2 3 = 1 then sgn (axCfg s n 2 (if alt then 2 else 1)) else 0) ∧
    (axGo s n alt).axes[n].moving = true ∧ (axGo s n alt).axes[n].state = 2 ∧ (axGo s n alt).axes[n].stop = none ∧
    (axGo s n alt).axes[n].x = s.axes[n].x ∧ (axGo s n alt).axes[n].v = s.axes[n].v ∧
    (axGo s n alt).axes[n].atTarget = false ∧ (axGo s n alt).axes[n].kind = axCfgN s n 1 1 := by
  obtain ⟨hx, hv, hsT⟩ := stallRetake_motion s n (decide (s.axes[n].v = 0) && decide (s.axes[n].a = 0))
  unfold axGo
  rw [if_neg (not_not_intro h)]
  simp only [modAxis_same, decide_eq_true_eq, hx, hv, hsT, and_self]

theorem axGo_refused {s : State} {n : Fin 4} {r : Nat} (alt : Bool) (h : goReason s n = r) (hr : r ≠ 0) :
    axGo s n alt = raise s 241 (n.val + 256 * r) (axState s n) := by
  subst h
  exact if_pos hr

theorem axStop_moving {s : State} {n : Fin 4} (hm : s.axes[n].moving = true) (hs : s.axes[n].stop = none)
    (h2 : s.axes[n].state = 2) : axStop s n .stop = modAxis s n (fun x => { x with stop := some .stop, state := 3 }) := by
  apply modAxis_congr
  simp [hm, hs, h2, -Fin.getElem_fin]

theorem axStop_quick {s : State} {n : Fin 4} {c : AxCmd} (h : s.axes[n].stop = some .qstop) : axStop s n c = s := by
  apply modAxis_unchanged
  simp [h, -Fin.getElem_fin]

theorem axStop_resting {s : State} {n : Fin 4} {c : AxCmd} (hm : s.axes[n].moving = false) (hv : s.axes[n].v = 0)
    (ha : s.axes[n].a = 0) : axStop s n c = s := by
  apply modAxis_unchanged
  simp [hm, hv, ha, -Fin.getElem_fin]

theorem axisMovesBegin : Claims.AxisMovesBegin := by
  intro s n
  refine ⟨fun alt h hp => ?_, fun alt h hp => ?_, fun alt _ h hr => axGo_refused alt h hr, axStop_moving, axStop_quick,
    axStop_resting⟩
  · obtain ⟨hsT, hvel, -, hmoving, hstate, hstop, hx, hv, hat, hkind⟩ := axGo_accepted alt h
    exact ⟨hsT.trans (if_neg hp), hmoving, hstate, hstop, hx, hv, hat, hvel.trans (decide_eq_false hp), hkind⟩
  · obtain ⟨hsT, hvel, hdir, hmoving, -⟩ := axGo_accepted alt h
    exact ⟨hvel.trans (decide_eq_true hp), hdir.trans (if_pos hp), hmoving, hsT.trans (if_pos hp)⟩

/-! Between boundaries (R217, R218, R222–R224, R317). -/

/-- The greatest multiple of 128 up to a microstep. -/
theorem fdiv_128_bounds (b : Int) : 128 * fdiv b 128 ≤ b ∧ b < 128 * fdiv b 128 + 128 := by
  rw [fdiv, Int.fdiv_eq_ediv_of_nonneg _ (by decide)]
  omega

theorem reach128_up {a b : Int} (h : a < b) : reach128 a b = true ↔ ∃ m, 128 ∣ m ∧ a < m ∧ m ≤ b := by
  obtain ⟨hle, hlt⟩ := fdiv_128_bounds b
  unfold reach128
  rw [if_pos h, decide_eq_true_eq]
  refine ⟨fun hm => ⟨_, Int.dvd_mul_right .., hm, hle⟩, ?_⟩
  rintro ⟨m, hd, ha, hb⟩
  omega

theorem reach128_down {a b : Int} (h : b < a) : reach128 a b = true ↔ ∃ m, 128 ∣ m ∧ b ≤ m ∧ m < a := by
  obtain ⟨hle, hlt⟩ := fdiv_128_bounds (b + 127)
  unfold reach128
  rw [if_neg h.not_gt, if_pos h, decide_eq_true_eq]
  refine ⟨fun hm => ⟨_, Int.dvd_mul_right .., by omega, hm⟩, ?_⟩
  rintro ⟨m, hd, hb, ha⟩
  omega

theorem reach128_iff (a b : Int) :
    reach128 a b = true ↔ (∃ m, 128 ∣ m ∧ a < m ∧ m ≤ b) ∨ (∃ m, 128 ∣ m ∧ b ≤ m ∧ m < a) := by
  rcases Int.lt_trichotomy a b with h | rfl | h
  · rw [reach128_up h, or_iff_left]
    rintro ⟨m, -, hb, ha⟩
    omega
  · refine iff_of_false (by simp [reach128]) ?_
    rintro (⟨m, -, h1, h2⟩ | ⟨m, -, h1, h2⟩) <;> omega
  · rw [reach128_down h, or_iff_right]
    rintro ⟨m, -, ha, hb⟩
    omega

theorem regChangeover_notMet {s : State} {n : Fin 4} (h : s.axes[n].regAt = some false)
    (hm : reach128 s.axes[n].sp0 (axisMicrostep s n) = false) : regChangeover s n = s := by
  unfold regChangeover
  rw [h]
  exact if_neg (by simp [hm, -Fin.getElem_fin])

theorem axShort_trips {s : State} {n : Fin 4} (phase kind : Nat) (h : axConducts s n = true) :
    axShort s n phase kind = jamAxis (axTrip s n phase kind) n := if_pos h

/-- Switches are on only where the control plane is live. -/
theorem controlLive_of_axConducts {s : State} {n : Fin 4} (h : axConducts s n = true) : controlLive s = true := by
  simp only [axConducts, Bool.and_eq_true] at h
  exact h.1.1.1

theorem controlLive_of_sysReads {s : State} (h : sysReads s = true) : controlLive s = true := by
  simp only [sysReads, Bool.and_eq_true] at h
  exact h.1.1.1

theorem command_axClear_asserted (s : State) (p : Path) (n : Fin 4) :
    command s p (okey (0x2608 + n.val) 5) 1 [1] = some (s, 0x23) := by
  fin_cases n <;> rfl

theorem axisEvents : Claims.AxisEvents := fun _ n =>
  ⟨fun _ hl h hm => next_live hl rfl (regChangeover_met h hm),
   fun hl h hm => next_live hl rfl (regChangeover_notMet h hm),
   reach128_iff,
   fun _ hl h he ht => ⟨next_live hl rfl (axStandstill_due h he ht), rfl⟩,
   fun phase kind h => next_live (controlLive_of_axConducts h) rfl (axShort_trips phase kind h),
   fun _ h => ⟨doWrite_command (n := 1) h (takesNumber_axClear n) (command_axClear ..),
    doWrite_command_turnedAway (n := 1) (d := 0x23) h (takesNumber_axClear n) (command_axClear_asserted ..) (by decide)⟩,
   fun _ hl he hs ho hp => next_live hl rfl (axOpenLoad_seen he hs ho hp),
   fun _ h => next_live (controlLive_of_sysReads h) rfl (if_pos h)⟩

end Sys2Proof.Machine

/-- Settles O28: a command by its rank against the one that waits, what a boundary takes by the reason and MOVE_KIND, and each event between
boundaries by the condition it looks at; a travel reaches a multiple of 128 where the one nearest its end lies on it. -/
theorem axisMotion : Obligations.AxisMotion :=
  ⟨Sys2Proof.Machine.axisCommandsWait, Sys2Proof.Machine.axisMovesBegin, Sys2Proof.Machine.axisEvents⟩
end

section
/-!
PROOF. Servo boundaries and their grid, and the bounds of the Tollgate's bucket and allowance (R199, R465).
-/

namespace Sys2Proof.Machine

open Sys2Proof

/-! The boundary (R199). -/

theorem exec_servoBoundary (rails : List Nat) (i p : Nat) (s : State) :
    exec (.servoBoundary rails i p) s = execServoBoundary rails i p s := rfl

theorem dueAfter_again {n : Nat} {t : ST} (h : 0 < n) : dueAfter (some t) n t = false :=
  decide_eq_false (Nat.not_le.mpr (Nat.lt_add_of_pos_right h))

theorem servoBoundaries : Claims.ServoBoundaries := fun _ rails i p =>
  ⟨fun hl hn hd => next_live hl (by rw [decide_eq_true hn, dueAfter_of_forall hd]; rfl) rfl,
   fun h => (exec_servoBoundary rails i p _).trans <|
    doLive_notDue (by rw [h, dueAfter_again (by decide), Bool.and_false]),
   fun h => (exec_servoBoundary rails i p _).trans <| doLive_notDue (by rw [decide_eq_false h, Bool.false_and])⟩

/-! The Tollgate (R465). -/

/-- What a power read leaves in the bucket, of a size of `(peak − cont) × 1000`. -/
def tgEnergy (s : State) (p : Nat) : Int :=
  clampI 0 (((objN s 0x2D02 3 : Int) - objN s 0x2D02 2) * 1000)
    ((s.tg.bucket : Int) + tdiv (((p : Int) - objN s 0x2D02 2) * 25) 1000)

/-- The allowance at that content. -/
def tgAllowance (s : State) (p : Nat) : Int :=
  objN s 0x2D02 2 + tdivS (((objN s 0x2D02 3 : Int) - objN s 0x2D02 2) *
    (((objN s 0x2D02 3 : Int) - objN s 0x2D02 2) * 1000 - tgEnergy s p)) (((objN s 0x2D02 3 : Int) - objN s 0x2D02 2) * 1000)

/-- The factors give way and recover; the bucket and the allowance stay. -/
theorem tgGiveUp_bucket_allow (t : TgSt) (step fp fs : Nat) :
    (tgGiveUp t step fp fs).bucket = t.bucket ∧ (tgGiveUp t step fp fs).allow = t.allow := by
  unfold tgGiveUp
  split_ifs <;> exact ⟨rfl, rfl⟩

theorem tgGiveBack_bucket_allow (t : TgSt) (step : Nat) :
    (tgGiveBack t step).bucket = t.bucket ∧ (tgGiveBack t step).allow = t.allow := by
  unfold tgGiveBack
  split_ifs <;> exact ⟨rfl, rfl⟩

/-- A servo period of the Tollgate sets the bucket and the allowance, whatever its factors and its events do. -/
theorem tollgate_bucket_allow (s : State) (p : Nat) :
    (tollgate s p).tg.bucket = (tgEnergy s p).toNat ∧ (tollgate s p).tg.allow = (tgAllowance s p).toNat := by
  unfold tollgate
  split
  · exact ⟨rfl, rfl⟩
  · simp only [apply_ite State.tg, raise_tg, ite_self, apply_ite TgSt.bucket, apply_ite TgSt.allow, tgGiveUp_bucket_allow,
      tgGiveBack_bucket_allow]
    exact ⟨rfl, rfl⟩

theorem clampI_mem {lo hi : Int} (h : lo ≤ hi) (x : Int) : lo ≤ clampI lo hi x ∧ clampI lo hi x ≤ hi := by
  unfold clampI
  split_ifs <;> omega

theorem tgEnergy_mem {s : State} (h : objN s 0x2D02 2 ≤ objN s 0x2D02 3) (p : Nat) :
    0 ≤ tgEnergy s p ∧ tgEnergy s p ≤ ((objN s 0x2D02 3 : Int) - objN s 0x2D02 2) * 1000 := clampI_mem (by omega) _

/-- The share of `r` that a part `e` of `b` has lies between nothing and `r`. -/
theorem tdivS_share_mem {r e b : Int} (hr : 0 ≤ r) (hb : 0 < b) (he : 0 ≤ e) (h : e ≤ b) :
    0 ≤ tdivS (r * e) b ∧ tdivS (r * e) b ≤ r := by
  unfold tdivS
  rw [if_neg hb.ne', Int.tdiv_eq_ediv_of_nonneg (Int.mul_nonneg hr he)]
  exact ⟨Int.ediv_nonneg (Int.mul_nonneg hr he) hb.le, Int.ediv_le_of_le_mul hb (Int.mul_le_mul_of_nonneg_left h hr)⟩

theorem tgAllowance_mem {s : State} (h : objN s 0x2D02 2 < objN s 0x2D02 3) (p : Nat) :
    (objN s 0x2D02 2 : Int) ≤ tgAllowance s p ∧ tgAllowance s p ≤ objN s 0x2D02 3 := by
  obtain ⟨hlo, hhi⟩ := tgEnergy_mem h.le p
  obtain ⟨hnonneg, hle⟩ := tdivS_share_mem (r := (objN s 0x2D02 3 : Int) - objN s 0x2D02 2)
    (e := ((objN s 0x2D02 3 : Int) - objN s 0x2D02 2) * 1000 - tgEnergy s p) (by omega)
    (b := ((objN s 0x2D02 3 : Int) - objN s 0x2D02 2) * 1000) (by omega) (by omega) (by omega)
  unfold tgAllowance
  omega

theorem tollgateBounds : Claims.TollgateBounds := by
  intro s p
  obtain ⟨hbucket, hallow⟩ := tollgate_bucket_allow s p
  rw [hbucket, hallow]
  refine ⟨fun h => ?_, fun h => ?_⟩
  · have := tgEnergy_mem h p
    omega
  · have := tgAllowance_mem h p
    omega

end Sys2Proof.Machine

/-- Settles O29: a boundary by whether the cycle is on the grid and has had one; the bucket as a clamped value, the allowance as P_CONT
with a share of what lies between it and P_PEAK. -/
theorem servoAndTollgate : Obligations.ServoAndTollgate :=
  ⟨Sys2Proof.Machine.servoBoundaries, Sys2Proof.Machine.tollgateBounds⟩
end

section
/-!
PROOF. Document imaging: the lines of a port, the retractions, confirmations and DOC_END that the end of a cycle decides, and the captures
of references (R235, R236, R241, R244, R250, R253–R256).
-/

namespace Sys2Proof.Machine

open Sys2Proof

/-! One image port changed. -/

theorem modPort_same (s : State) (p : Fin 2) (f : ImgPort → ImgPort) : (modPort s p f).img.ports[p] = f s.img.ports[p] := upd_same _ p f

/-! Lines and withdrawal (R235, R255). -/

theorem imgTrainEnd_running {s : State} {p : Fin 2} {raw : List (List Nat)} {t : ImgTrain} {r : List ImgTrain} {f : ST}
    (h : s.img.ports[p].trains = t :: r) (hf : t.fin = some f) (hn : now s < f) : imgTrainEnd s p raw = s := by
  unfold imgTrainEnd
  rw [h]
  dsimp only
  rw [hf]
  exact if_pos hn

theorem firstReason_some (a b : Nat) : firstReason a (some b) = some (min a b) := congrArg some (Nat.min_comm b a)

/-! The end of a port's cycle (R253, R256). -/

theorem endReason_trigger {x : ImgPort} {r : Nat} (ht : x.trig = some r) (hl : x.late = none) : endReason x = some r := by
  unfold endReason
  rw [ht, hl]

/-- A trigger that came after the job left ACTIVE counts only against a DOC_END. -/
theorem endReason_none {x : ImgPort} (ht : x.trig = none) (he : x.endReq = false) : endReason x = none := by
  unfold endReason
  rw [ht, he]
  cases x.late <;> rfl

/-- The port with the requests of its cycle taken up. -/
abbrev requestsTaken (s : State) (p : Fin 2) : State :=
  modPort s p (fun x => { x with trig := none, late := none, endReq := false, finalReq := false })

theorem requestsTaken_cur (s : State) (p : Fin 2) : (requestsTaken s p).img.ports[p].cur = s.img.ports[p].cur := by
  rw [modPort_same]

theorem portEnd_retracts {s : State} {p : Fin 2} {d : ImgDoc} {r : Nat} (h : s.img.ports[p].cur = some d) (hd : d.ending = false)
    (ht : s.img.ports[p].trig = some r) (hl : s.img.ports[p].late = none) : portEnd s p = retract (requestsTaken s p) p r := by
  simp only [portEnd, endReason_trigger ht hl, h, hd, Bool.false_eq_true, if_false, requestsTaken_cur]

theorem portEnd_confirms {s : State} {p : Fin 2} {d : ImgDoc} (h : s.img.ports[p].cur = some d) (hd : d.ending = false)
    (ht : s.img.ports[p].trig = none) (he : s.img.ports[p].endReq = false) (hf : s.img.ports[p].finalReq = true) :
    portEnd s p = lineFinalNow (requestsTaken s p) p := by
  simp only [portEnd, endReason_none ht he, h, hd, he, hf, Bool.false_eq_true, if_false, if_true, requestsTaken_cur]

theorem imageLines : Claims.ImageLines := fun _ _ hl =>
  ⟨fun _ _ _ _ h hf hn => next_live hl rfl (imgTrainEnd_over h hf hn),
   fun _ _ _ _ h hf hn => next_live hl rfl (imgTrainEnd_running h hf hn),
   fun _ _ h hq he hn hd hb => next_live hl rfl (withdrawn_back h hq he hn hd hb),
   fun _ _ h he ht hla => portEnd_retracts h he ht hla,
   firstReason_some⟩

/-! Confirmations (R253, R254). -/

/-- A run of lines only raises the mark it starts from. -/
theorem le_finalRun (far : ImgLine → Bool) (xs : List ImgLine) (m : Int) : m ≤ finalRun far xs m := by
  induction xs generalizing m with
  | nil => exact le_rfl
  | cons x xs ih =>
    unfold finalRun
    split_ifs with hpassed hfar
    · exact ih m
    · exact (le_of_lt (not_le.mp hpassed)).trans (ih _)
    · exact le_rfl

theorem finalMark_le_finalNow (s : State) (p : Fin 2) (d : ImgDoc) : s.img.ports[p].finalMark ≤ finalNow s p d := by
  unfold finalNow
  dsimp only
  split_ifs
  · exact le_rfl
  · exact le_finalRun ..

section Provisional
variable {s : State} {p : Fin 2} {d : ImgDoc} (h : s.img.ports[p].cur = some d) (hm : d.mode = 0)
include h hm

theorem lineFinalNow_confirm {v : State} (hrisen : (imgCfg s p 10 : Int) ≤ finalNow s p d - d.confirmAt)
    (hnew : d.confirmAt < finalNow s p d)
    (hroom : makeRoom (modPort s p (fun x => { x with finalMark := finalNow s p d })) p d.key 16 = some v) :
    lineFinalNow s p = pushRec (modPort v p (fun x => { x with cur := some { d with confirmAt := finalNow s p d } })) d.key
      (recHeader 3 p.val s.img.ports[p].doc 0 (finalNow s p d).toNat 0) false := by
  unfold lineFinalNow
  rw [h]
  dsimp only
  rw [if_neg (by omega), if_pos (by simp [hrisen, hnew]), hroom]

theorem lineFinalNow_mark (hshort : finalNow s p d - d.confirmAt < imgCfg s p 10) :
    lineFinalNow s p = modPort s p (fun x => { x with finalMark := finalNow s p d }) := by
  unfold lineFinalNow
  rw [h]
  dsimp only
  rw [if_neg (by omega), if_neg (by simp [not_le.mpr hshort])]

end Provisional

/-! The readback measurement at DOC_END keeps what DOC_END reports of the document (R250, R259). -/

/-- The flags and the lines kept of IMG1's document. -/
def docTally (s : State) : Option (Nat × Nat) := s.img.ports[(1 : Fin 2)].cur.map (fun d => (d.flags, d.kept))

theorem docTally_modPort {s : State} {f : ImgPort → ImgPort}
    (hf : ∀ x, (f x).cur.map (fun d => (d.flags, d.kept)) = x.cur.map (fun d => (d.flags, d.kept))) :
    docTally (modPort s 1 f) = docTally s := by
  unfold docTally
  rw [modPort_same, hf]

theorem docTally_measureLine (s : State) (planes : List (Nat × Nat)) (line : List (List Nat)) (dots lsn : Nat) :
    docTally (measureLine s planes line dots lsn) = docTally s := by
  unfold measureLine
  dsimp only
  rw [docTally_modPort fun _ => Option.map_map ..]
  exact applyAll_keeps docTally (by intros; rfl) _ s

theorem docTally_rbResolve (s : State) (q : RbPend) : docTally (rbResolve s q) = docTally s := by
  unfold rbResolve
  dsimp only
  split
  · exact ite_keeps docTally (docTally_measureLine ..) rfl
  · rfl

theorem docTally_readbackEnd (s : State) : docTally (readbackEnd s) = docTally s := by
  unfold readbackEnd
  split
  · exact applyAll_keeps docTally docTally_rbResolve _ _
  · rfl

/-- The state in which DOC_END is made: IMG1's samples resolved. -/
abbrev samplesResolved (s : State) (p : Fin 2) : State := if p = 1 then readbackEnd s else s

theorem samplesResolved_cur {s : State} {p : Fin 2} {d : ImgDoc} (h : s.img.ports[p].cur = some d) :
    ∃ d2 : ImgDoc, (samplesResolved s p).img.ports[p].cur = some d2 ∧ d2.flags = d.flags ∧ d2.kept = d.kept := by
  by_cases hp : p = 1
  · subst hp
    have hkept : docTally (readbackEnd s) = some (d.flags, d.kept) := by rw [docTally_readbackEnd, docTally, h]; rfl
    obtain ⟨d2, hcur, htally⟩ := Option.map_eq_some_iff.mp hkept
    obtain ⟨hflags, hlines⟩ := Prod.mk.inj htally
    exact ⟨d2, by rw [samplesResolved, if_pos rfl]; exact hcur, hflags, hlines⟩
  · exact ⟨d, by rw [samplesResolved, if_neg hp]; exact h, rfl, rfl⟩

theorem docEndNow_provisional {s : State} {p : Fin 2} {d : ImgDoc} (h : s.img.ports[p].cur = some d) (hm : d.mode = 0) :
    ∃ d2 : ImgDoc, d2.flags = d.flags ∧ d2.kept = d.kept ∧
      docEndNow s p d = docClose (modPort (samplesResolved s p) p (fun x => { x with finalMark := max x.finalMark d.maxLsn })) p d2
        d2.flags d2.kept := by
  obtain ⟨d2, hcur, hflags, hkept⟩ := samplesResolved_cur h
  refine ⟨d2, hflags, hkept, ?_⟩
  unfold docEndNow
  dsimp only
  rw [if_neg (by omega), modPort_same]
  dsimp only
  rw [hcur]

theorem docEnd_open {s : State} {p : Fin 2} {d : ImgDoc} (h : s.img.ports[p].cur = some d) (he : d.ending = false) :
    docEnd s p = s := by
  unfold docEnd
  rw [h]
  exact if_neg (by simp [he])

theorem imageDocuments : Claims.ImageDocuments := fun s p d h =>
  ⟨fun hl => next_live hl rfl (lineFinal_open h),
   fun hl he ht => next_live hl rfl (docEnd_over h he ht),
   fun hl he => next_live hl rfl (docEnd_open h he),
   fun he ht hr hf => portEnd_confirms h he ht hr hf,
   fun _ hm hrisen hnew hroom => lineFinalNow_confirm h hm hrisen hnew hroom,
   fun hm hshort => lineFinalNow_mark h hm hshort,
   fun hm => docEndNow_provisional h hm,
   finalMark_le_finalNow s p d⟩

/-! Calibration (R236, R241, R244). -/

theorem calCmd_turnedAway {s : State} {i : Fin 2} {v : Nat} (hv : v ≤ 2)
    (h : (inRun s && !(jobsOfKind s (i.val + 3)).any (fun e => jobLive s.ledger.jobs[e])) = false) : calCmd s i v = (s, 0x24) :=
  if_pos (by rw [h, decide_eq_true hv]; rfl)

/-- A CAL_CMD that passes and that the port accepts. -/
theorem doWrite_calCmd {s : State} {p : Path} {i : Fin 2} (v : Fin 5) (h : Passes s p (okey (0x2704 + 16 * i.val) 4) v.val)
    (ha : calCmd (touch s p) i v.val = (calStart (touch s p) i v.val, 0)) :
    doWrite p (okey (0x2704 + 16 * i.val) 4) v.val [] s =
      .next (finish s (taken (calStart (touch s p) i v.val) p (okey (0x2704 + 16 * i.val) 4))) :=
  doWrite_command h (takesNumber_calibrate i v) ((command_calibrate ..).trans (congrArg some ha))

/-- A CAL_CMD that passes and that the port turns away. -/
theorem doWrite_calCmd_turnedAway {s : State} {p : Path} {i : Fin 2} (v : Fin 5)
    (h : Passes s p (okey (0x2704 + 16 * i.val) 4) v.val) (ha : calCmd (touch s p) i v.val = (touch s p, 0x24)) :
    doWrite p (okey (0x2704 + 16 * i.val) 4) v.val [] s = .next (finish s (turnedAway s p 0x24)) :=
  doWrite_command_turnedAway (d := 0x24) h (takesNumber_calibrate i v) ((command_calibrate ..).trans (congrArg some ha)) (by decide)

/-- Outside RUN and SERVICE, and before its time, the internal trigger exposes nothing. -/
theorem calLine_idle {s : State} {i : Fin 2} {raw : List (List Nat)} (h : inRun s = false ∨ now s < s.img.ports[i].calAt) :
    calLine s i raw = s :=
  if_pos (by rcases h with h | h <;> simp [h, -Fin.getElem_fin])

theorem calibration : Claims.Calibration := fun s _ =>
  ⟨fun p hr => ⟨fun h => doWrite_calCmd 1 h (calCmd_ready (s := touch s p) hr),
    fun h => doWrite_calCmd 2 h (calCmd_ready (s := touch s p) hr)⟩,
   fun p hr => ⟨fun h => doWrite_calCmd_turnedAway 1 h (calCmd_turnedAway (s := touch s p) (by decide) hr),
    fun h => doWrite_calCmd_turnedAway 2 h (calCmd_turnedAway (s := touch s p) (by decide) hr)⟩,
   fun _ h => doWrite_calCmd 3 h (calCmd_document (by decide)),
   fun _ h => doWrite_calCmd 4 h (calCmd_document (by decide)),
   fun _ hl hs hc hr ht hlt hleft hsum => next_live hl rfl (calLine_first (capturing_of hs hc) hr ht hlt hleft hsum),
   fun _ hl h => next_live hl rfl (calLine_idle h)⟩

end Sys2Proof.Machine

/-- Settles O30: what the end of a port's cycle decides by the requests noted in it; DOC_END by the readback measurement keeping the
flags and the lines kept of the document; each CAL_CMD by whether the port may start a capture. -/
theorem images : Obligations.Images :=
  ⟨Sys2Proof.Machine.imageLines, Sys2Proof.Machine.imageDocuments, Sys2Proof.Machine.calibration⟩
end

section
/-!
PROOF. Solenoids: the commands that reach a channel and what they do there as the cycle ends, the phases of a drive and its ends, the
updates, and the shorts (R269–R289).
-/

namespace Sys2Proof.Machine

open Sys2Proof

/-! An effect applied to several units in order, seen at one of them. -/

section OneOfAll
variable {α β : Type} {f : State → α → State} {φ : State → β} {x : α} (hother : ∀ s y, y ≠ x → φ (f s y) = φ s)
include hother

theorem applyAll_spares {xs : List α} (hx : x ∉ xs) (s : State) : φ (applyAll f s xs) = φ s := by
  induction xs generalizing s with
  | nil => rfl
  | cons y ys ih =>
    rw [applyAll_cons, ih (List.not_mem_of_not_mem_cons hx), hother _ _ (ne_of_mem_of_not_mem List.mem_cons_self hx)]

/-- The unit is met once, and what is seen of it changes there alone. -/
theorem applyAll_once (g : β → β) (hown : ∀ s, φ (f s x) = g (φ s)) {xs : List α} (hx : x ∈ xs) (hn : xs.Nodup) (s : State) :
    φ (applyAll f s xs) = g (φ s) := by
  induction xs generalizing s with
  | nil => exact absurd hx List.not_mem_nil
  | cons y ys ih =>
    obtain ⟨hy, hys⟩ := List.nodup_cons.mp hn
    rw [applyAll_cons]
    rcases List.mem_cons.mp hx with rfl | hx
    · rw [applyAll_spares hother hy, hown]
    · rw [ih hx hys, hother _ _ (ne_of_mem_of_not_mem hx hy).symm]

end OneOfAll

/-! Writes (R269, R276, R284, R289). -/

theorem doWrite_solCmd {s : State} {p : Path} {v : Nat} (h : Passes s p (okey 0x2838 1) v) (hv : v < 2 ^ 16) :
    doWrite p (okey 0x2838 1) v [] s = .next (finish s (taken (solCmd (touch s p) v) p (okey 0x2838 1))) :=
  doWrite_command h (TakesUnsigned.number (b := 2) (by decide) hv) (command_solCmd ..)

theorem command_bankClear_low {s : State} {p : Path} {v low : Nat} {b : Fin 2} (h : (bit v b.val && bit low b.val) = true) :
    command s p (okey 0x2838 3) v [low] = some (s, 0x23) :=
  congrArg some (if_pos (List.any_eq_true.mpr ⟨b.val, List.mem_range.mpr b.isLt, h⟩))

theorem rLearnReset_trkLimit (s : State) (c : Fin 8) : (rLearnReset s c).sols[c].trkLimit = 0 :=
  congrArg SolSt.trkLimit (modSol_same ..)

theorem objN_rLearnReset (s : State) (c : Fin 8) (v : Nat) :
    objN (rLearnReset (setObjK s (okey (0x2810 + c.val) 1) v) c) (0x2810 + c.val) 1 = v :=
  congrArg Int.toNat (objK_setObjK ..)

/-- The command that SOL_CMD's code delivers to a channel (R269). -/
def codeAsks (code : Nat) : List SolAsk :=
  if code = 1 then [.on] else if code = 2 then [.off false] else if code = 3 then [.pulse] else []

theorem solAsk_same (s : State) (c : Fin 8) (a : SolAsk) : (solAsk s c a).sols[c].asks = s.sols[c].asks ++ [a] :=
  congrArg SolSt.asks (modSol_same ..)

theorem solAsk_other (s : State) {c d : Fin 8} (a : SolAsk) (h : c ≠ d) : (solAsk s c a).sols[d] = s.sols[d] := modSol_other _ h

theorem solAskOn_same (s : State) (c : Fin 8) (pulse : Bool) :
    (solAskOn s c pulse).sols[c].asks = s.sols[c].asks ++ [if pulse then .pulse else .on] := solAsk_same ..

theorem solAskOn_other (s : State) {c d : Fin 8} (pulse : Bool) (h : c ≠ d) : (solAskOn s c pulse).sols[d] = s.sols[d] :=
  solAsk_other _ _ h

/-- A channel of the mask is delivered the code's command, once. -/
theorem solCmd_asks {s : State} {c : Fin 8} {v : Nat} (h : bit v c.val = true) :
    (solCmd s v).sols[c].asks = s.sols[c].asks ++ codeAsks (v / 256) := by
  refine applyAll_once (φ := fun t => t.sols[c].asks) (fun t d hd => ?other) (· ++ codeAsks (v / 256)) (fun t => ?own)
    (mem_allFin c) (List.nodup_finRange 8) s
  case other => split_ifs <;> simp only [solAskOn_other, solAsk_other, hd, ne_eq, not_false_eq_true]
  case own =>
    unfold codeAsks
    rw [h, Bool.not_true, if_neg Bool.false_ne_true]
    split_ifs <;> simp [solAskOn_same, solAsk_same, -Fin.getElem_fin]

/-- The mask of a SOL_CMD is its low byte. -/
theorem bit_solCmd (code : Nat) {mask : Nat} (hm : mask < 256) (c : Fin 8) : bit (2 ^ 8 * code + mask) c.val = bit mask c.val := by
  rw [bit_eq_testBit, bit_eq_testBit, Nat.testBit_two_pow_mul_add code hm, if_pos c.isLt]

theorem solCmd_delivers (s : State) {c : Fin 8} {v mask : Nat} (code : Nat) (hm : mask < 256) (hv : v = 2 ^ 8 * code + mask)
    (h : bit mask c.val = true) : (solCmd s v).sols[c].asks = s.sols[c].asks ++ codeAsks code := by
  subst hv
  have hcode : (2 ^ 8 * code + mask) / 256 = code := by omega
  rw [solCmd_asks ((bit_solCmd code hm c).trans h), hcode]

theorem solenoidWrites : Claims.SolenoidWrites := fun s p =>
  ⟨fun mask hm h => doWrite_solCmd h (by omega),
   fun mask hm h => doWrite_solCmd h (by omega),
   fun mask hm h => doWrite_solCmd h (by omega),
   fun mask hm h => doWrite_command h (TakesUnsigned.number (b := 1) (by decide) hm) (command_solClear ..),
   fun mask low hm h hb =>
    doWrite_command h (TakesUnsigned.number (b := 1) (by decide) (by omega)) (command_bankClear hb),
   fun mask low b hm h hb =>
    doWrite_command_turnedAway (d := 0x23) h (TakesUnsigned.number (b := 1) (by decide) (by omega)) (command_bankClear_low hb) (by decide),
   fun c v hv h => ⟨_, doWrite_value h ((takesUnsigned_rColdNom c).number hv) (keptPlainly_rColdNom c) (command_rColdNom ..)
      (effect_rColdNom ..), rLearnReset_written .., rLearnReset_trkLimit .., objN_rLearnReset ..⟩,
   fun c mask hm h => ⟨solCmd_delivers s 1 hm (by omega) h, solCmd_delivers s 2 hm (by omega) h, solCmd_delivers s 3 hm (by omega) h⟩⟩

/-! Commands on one channel (R270, R271, R272, R274, R276). -/

/-- The channel with the commands of its cycle taken up. -/
abbrev asksTaken (s : State) (c : Fin 8) : State := modSol s c (fun x => { x with asks := [] })

section Channel
variable {s : State} {c : Fin 8}

theorem solOnOp_refused {pulse : Bool} {r : Nat} (h : solRefuse s c = r) (hr : r ≠ 0) :
    solOnOp s c pulse = raise s 370 (c.val + 256 * r) (solState s c) := by
  subst h
  exact if_pos hr

theorem solOnOp_extends (h : solRefuse s c = 0) (hs : s.sols[c].state = 3) :
    solOnOp s c false = modSol s c (fun y => { y with cmd := true, extensions := inc32 y.extensions, holdFrom := now s }) := by
  unfold solOnOp
  dsimp only
  rw [if_neg (not_not_intro h), if_pos (by simp [solEnergised, hs, -Fin.getElem_fin])]
  apply modSol_congr
  rw [hs]
  rfl

theorem solOnOp_begins {pulse : Bool} (h : solRefuse s c = 0) (hs : s.sols[c].state = 0) :
    solOnOp s c pulse = boostWatch (startProfile (modSol s c (fun y =>
      { y with cmd := true, pulseOff := (if pulse then some (now s + solCfg s c 6) else none), minOff := none })) c) := by
  unfold solOnOp
  dsimp only
  rw [if_neg (not_not_intro h), if_neg (by simp [solEnergised, hs, -Fin.getElem_fin]), hs]
  rfl

theorem solEnergised_of (hs : s.sols[c].state = 2 ∨ s.sols[c].state = 3 ∨ s.sols[c].state = 4) : solEnergised s.sols[c] = true := by
  unfold solEnergised
  rcases hs with hs | hs | hs <;> rw [hs] <;> rfl

theorem solOffOp_waits (hs : s.sols[c].state = 2 ∨ s.sols[c].state = 3 ∨ s.sols[c].state = 4)
    (ht : now s < s.sols[c].onSt + 40000) :
    solOffOp s c true = modSol s c (fun y => { y with cmd := false, pulseOff := none, minOff := some (y.onSt + 40000) }) :=
  if_pos (by rw [solEnergised_of hs, decide_eq_true (show now s < s.sols[c].onSt + solMinOn from ht)]; rfl)

theorem solOffOp_decays (hs : s.sols[c].state = 2 ∨ s.sols[c].state = 3 ∨ s.sols[c].state = 4)
    (ht : s.sols[c].onSt + 40000 ≤ now s) (pair : Bool) : solOffOp s c pair = boostWatch (solDecay s c) := by
  have hlate : ¬ now s < s.sols[c].onSt + solMinOn := Nat.not_lt.mpr ht
  have hend : solEnd s c = solDecay s c := if_pos (solEnergised_of hs)
  unfold solOffOp
  dsimp only
  rw [decide_eq_false hlate, Bool.and_false, if_neg Bool.false_ne_true, hend]

/-- A cycle's only command acts by itself. -/
theorem solTurn_single {a : SolAsk} (h : s.sols[c].asks = [a]) (ha : isOff a = false) :
    solTurn s c = askDo (asksTaken s c) c a := by
  unfold solTurn
  rw [h]
  exact if_neg (by simp [ha])

/-- An OFF among a cycle's commands wins. -/
theorem solTurn_off {pair : Bool} (h : .off pair ∈ s.sols[c].asks) :
    solTurn s c = solOffOp (asksTaken s c) c (s.sols[c].asks.all (fun a => !isOff a || a == .off true)) :=
  if_pos (List.any_eq_true.mpr ⟨_, h, rfl⟩)

end Channel

theorem solenoidChannel : Claims.SolenoidChannel := fun _ _ =>
  ⟨fun _ _ => solOnOp_refused, solOnOp_extends, fun _ => solOnOp_begins, solOffOp_waits, solOffOp_decays,
   fun h => solTurn_single h rfl, fun h => solTurn_single h rfl, fun _ h => ⟨_, solTurn_off h⟩⟩

/-! The phases of a drive and its ends (R271–R276, R286). -/

section Phases
variable {s : State} {c : Fin 8}

/-- A request withdrawn from its bank's queue: its wait is recorded, and the channel is off. -/
theorem solWithdraw_queued {t : ST} (h : s.banks[chBank c].queue.find? (fun q => q.2 = c) = some (t, c)) :
    (solWithdraw s c).sols[c].lastWait = now s - t ∧ (solWithdraw s c).sols[c].state = 0 := by
  have hleft : recordLeft s c = recordWait s c (now s - t) := by
    unfold recordLeft
    rw [h]
  have hwait : (dequeue (recordWait s c (now s - t)) c).sols[c].lastWait = now s - t :=
    congrArg SolSt.lastWait (modSol_same s c _)
  unfold solWithdraw
  rw [modSol_same, hleft]
  exact ⟨hwait, rfl⟩

theorem decayEnd_over {i va vb : Nat} (hs : s.sols[c].state = 5) (hi : i < 50) : ∃ u : State,
    decayEnd s c i va vb = serveBanks (setBoost u vb) ∧
    u.sols[c].state = (if s.sols[c].ttpLatch || s.sols[c].shortSup || s.sols[c].coupled then 7 else 0) ∧
    u.sols[c].lastDecay = now s - s.sols[c].decaySt ∧ u.sols[c].current = i ∧ u.banks = s.banks := by
  unfold decayEnd
  dsimp only
  rw [if_neg (by rw [hs, decide_eq_false (Nat.not_le.mpr hi)]; simp)]
  refine ⟨_, rfl, ?_⟩
  rw [modSol_same]
  exact ⟨rfl, rfl, rfl, rfl⟩

end Phases

theorem solenoidPeaks : Claims.SolenoidPeaks := fun _ hl =>
  ⟨fun _ _ => next_live hl rfl rfl,
   fun _ hs hr hmax hmin => next_live hl rfl (peakReached_intime hs hr hmax hmin),
   fun _ _ hs hr ht => next_live hl rfl (peakDwell_over hs hr ht),
   fun _ _ hs hr ht ha => next_live hl rfl (ttpMax_slow hs hr ht ha),
   fun _ _ hq ht => ⟨next_live hl rfl (peakTimeout_due hq ht), solWithdraw_queued hq⟩⟩

theorem solenoidEnds : Claims.SolenoidEnds := fun _ _ hl =>
  ⟨fun hs hm ht hon => next_live hl rfl (holdMax_over hs hm ht hon),
   fun _ hp ht => next_live hl rfl (pulseEnd_due hp ht),
   fun _ hm ht => next_live hl rfl (minOnEnd_due hm ht),
   fun _ _ _ hs hi => (decayEnd_over hs hi).imp fun _ ⟨hu, hend⟩ => ⟨next_live hl rfl hu, hend⟩⟩

/-! Updates (R277, R278, R280, R282, R283). -/

@[simp] theorem hsToBoost_boost (s : State) (b : Fin 2) : (hsToBoost s b).boost = s.boost :=
  applyAll_keeps (·.boost) (by intros; rfl) _ _

theorem startPeak_boost (s : State) (c : Fin 8) (t : ST) : (startPeak s c t).boost = s.boost := hsToBoost_boost ..

/-- Serving a bank leaves the readings of the rail and their counts alone. -/
theorem serveBank_boost (s : State) (b : Fin 2) : (serveBank s b).boost = s.boost := by
  unfold serveBank
  split
  · rfl
  · exact ite_keeps (·.boost) (startPeak_boost ..) rfl

theorem boostRead_v_clampCount (s : State) (v : Nat) :
    (boostRead s v).boost.v = v ∧ (boostRead s v).boost.clampCount = s.boost.clampCount := by
  have h : (serveBank (serveBank (setBoost s v) 0) 1).boost = (setBoost s v).boost :=
    (serveBank_boost ..).trans (serveBank_boost ..)
  exact ⟨(congrArg BoostSt.v h).trans rfl, (congrArg BoostSt.clampCount h).trans rfl⟩

theorem boostClamp_clampCount_v (s : State) (v : Nat) :
    (boostClamp s v).boost.clampCount = inc32 s.boost.clampCount ∧ (boostClamp s v).boost.v = v := by
  obtain ⟨hv, hn⟩ := boostRead_v_clampCount s v
  exact ⟨ite_keeps (·.boost.clampCount) (congrArg inc32 hn) (congrArg inc32 hn), ite_keeps (·.boost.v) hv hv⟩

section Supervision
variable {s : State} {c : Fin 8}

/-- A window whose resistance agrees with the model is kept as R_MEAS alone where tracking is off. -/
theorem resEnd_agrees {t v i : Nat} (hw : s.sols[c].winSt = some t) (ht : t + 200000 ≤ now s) (hb : s.sols[c].winBad = false)
    (hi : 100 ≤ i) (herr : ((tdivS (((v * 1000 / i : Nat) - rMod s c) * 1000) (rMod s c)).natAbs : Int) ≤ solTh s c 10)
    (htrk : solTh s c 11 = 0) :
    resEnd s c v i = modSol s c (fun y => { y with winSt := none, winBad := false, rMeas := v * 1000 / i }) := by
  unfold resEnd
  dsimp only
  rw [hw]
  dsimp only
  rw [if_neg (Nat.not_lt.mpr ht), if_neg (by rw [hb, decide_eq_false (Nat.not_lt.mpr hi)]; simp), if_pos herr,
    if_neg (by simp [htrk]), modSol_modSol]

/-! Shorts (R286, R288). -/

theorem ocTrip_fourth (hs : s.sols[c].state = 3) (hn : 4 ≤ inc8 s.sols[c].ocTrips) :
    ocTrip s c = raise (modSol s c (fun y =>
      { y with ocTrips := inc8 y.ocTrips, tripped := true, winSt := none, shortSup := true, state := 7, cmd := false,
               pulseOff := none, minOff := none })) 356 c.val (inc8 s.sols[c].ocTrips) := by
  unfold ocTrip
  dsimp only
  rw [if_neg (by simp [solEnergised, hs, -Fin.getElem_fin]), hs, if_neg (by decide), if_pos hn, modSol_modSol]
  exact congrArg (raise · 356 c.val (inc8 s.sols[c].ocTrips)) (modSol_congr rfl)

theorem retryNow_accepted (hs : s.sols[c].state = 6) (h : solRefuse s c = 0) :
    retryNow s c = boostWatch (startProfile (modSol s c (fun x => { x with state := 0, retryAt := none })) c) := by
  unfold retryNow
  rw [if_neg (not_not_intro hs), if_neg (not_not_intro h)]

theorem solTurn_retry (ha : s.sols[c].asks = [.retry]) (hs : s.sols[c].state = 6) (h : solRefuse (asksTaken s c) c = 0) :
    solTurn s c = boostWatch (startProfile (modSol s c (fun x => { x with asks := [], state := 0, retryAt := none })) c) := by
  have hstate : (asksTaken s c).sols[c].state = 6 := (congrArg SolSt.state (modSol_same ..)).trans hs
  rw [solTurn_single ha rfl]
  exact (retryNow_accepted hstate h).trans (by rw [modSol_modSol])

end Supervision

/-- A channel turned off and latched for its coupling with `q`. -/
abbrev coupledOff (q : Fin 8) (z : SolSt) : SolSt :=
  { z with state := 7, coupled := true, coupledWith := q.val, cmd := false, pulseOff := none, minOff := none, winSt := none }

theorem coupledOp_held {s : State} {x y : Fin 8} (hne : x ≠ y) (hs : s.sols[x].state = 3) (ht : now s ≤ s.sols[x].onSt + 20000)
    (hy : solState s y = 0) :
    coupledOp s x y = raise (modSol (modSol s x (coupledOff y)) y (coupledOff x)) 359 (x.val + 256 * y.val) 0 := by
  unfold coupledOp
  dsimp only
  rw [if_neg (by rw [decide_eq_false hne, hy, decide_eq_false (Nat.not_lt.mpr ht)]; simp [solEnergised, hs, -Fin.getElem_fin]),
    hs, if_neg (by decide)]

theorem coupledOff_both {s : State} {x y : Fin 8} (hne : x ≠ y) :
    (modSol (modSol s x (coupledOff y)) y (coupledOff x)).sols[x] = coupledOff y s.sols[x] ∧
    (modSol (modSol s x (coupledOff y)) y (coupledOff x)).sols[y] = coupledOff x s.sols[y] := by
  rw [modSol_other _ hne.symm, modSol_same, modSol_same, modSol_other _ hne]
  exact ⟨rfl, rfl⟩

theorem exec_propUpdate (is : List Nat) (s : State) : exec (.propUpdate is) s = execPropUpdate is s := rfl

theorem solenoidUpdates : Claims.SolenoidUpdates := fun s hl =>
  ⟨fun _ h => next_live hl (dueAfter_of_forall h) rfl,
   fun is t h ht => (exec_propUpdate is s).trans <| doLive_notDue (by rw [h]; exact decide_eq_false (Nat.not_le.mpr ht)),
   fun v => ⟨next_live hl rfl rfl, boostClamp_clampCount_v s v⟩,
   fun _ _ h hr ht => next_live hl rfl (boostLowOp_due h hr ht),
   fun _ h => next_live hl (dueAfter_of_forall h) rfl,
   fun _ hs hw hn hb ht => next_live hl rfl (resStart_due hs hw hn hb ht),
   fun _ _ _ _ hw ht hb => next_live hl rfl (resEnd_discarded hw ht hb),
   fun _ _ _ _ r hw ht hb hi hr herr htrk => by
    subst hr
    exact next_live hl rfl (resEnd_agrees hw ht hb hi herr htrk)⟩

theorem solenoidFaults : Claims.SolenoidFaults := fun s hl =>
  ⟨fun _ hs hn hc => next_live hl rfl (ocTrip_retries hs hn hc),
   fun _ hs hn => next_live hl rfl (ocTrip_fourth hs hn),
   fun _ _ hr hs ht => next_live hl rfl (ocRetry_due hr hs ht),
   fun _ ha hs h => solTurn_retry ha hs h,
   fun _ hs hg => next_live hl rfl (shortGndOp_idle hl hs hg),
   fun _ h => next_live hl rfl (if_neg h),
   fun x y hne hs ht hy => by
    obtain ⟨hatX, hatY⟩ := coupledOff_both (s := s) hne
    refine ⟨_, next_live hl rfl (coupledOp_held hne hs ht hy), ?_⟩
    rw [raise_sols, hatX, hatY]
    exact ⟨rfl, rfl, rfl, rfl, rfl, rfl, rfl⟩⟩

end Sys2Proof.Machine

/-- Settles O33: each write by the command it is, SOL_CMD by its single visit to a channel of its mask; an ON, an OFF and a PULSE by what
the channel is doing; a cycle's commands by whether an OFF is among them. -/
theorem solenoidChannels : Obligations.SolenoidChannels :=
  ⟨Sys2Proof.Machine.solenoidWrites, Sys2Proof.Machine.solenoidChannel⟩

/-- Settles O34: each phase of a drive and each of its ends by what is due in the channel's state. -/
theorem solenoidProfiles : Obligations.SolenoidProfiles :=
  ⟨Sys2Proof.Machine.solenoidPeaks, Sys2Proof.Machine.solenoidEnds⟩

/-- Settles O35: the updates by their period, the clamp by the rail that serving the banks leaves alone, and each short by the channels it
latches or the bank it turns off. -/
theorem solenoidSupervision : Obligations.SolenoidSupervision :=
  ⟨Sys2Proof.Machine.solenoidUpdates, Sys2Proof.Machine.solenoidFaults⟩
end

section
/-!
PROOF. The slices of the Sense Engine, their roles and calibrations, and the reference buffer (R297, R298, R300, R302, R303).
-/

namespace Sys2Proof.Machine

open Sys2Proof

/-! Calibrations (R298, R300). -/

/-- A role takes no slice but a calibrated one, and of that it changes the state alone. -/
theorem spareTaken_slice (e : SeSt) (i : Fin 4) : (spareTaken e).slices[i] = e.slices[i] ∨
    e.slices[i].state = 2 ∧ (spareTaken e).slices[i] = { e.slices[i] with state := 0 } := by
  unfold spareTaken
  split
  next k j _ _ =>
    split
    next hj =>
      by_cases hji : j = i
      · subst hji
        exact .inr ⟨hj, upd_same ..⟩
      · exact .inl (upd_other _ j i _ hji)
    next => exact .inl rfl
  next => exact .inl rfl

theorem seAssign_slices (s : State) : (seAssign s).se.slices = (spareTaken s.se).slices := by
  rw [seAssign_eq]
  simp only [roleMoved_slices]

section Calibration
variable {s : State} {i : Fin 4} {lo hi : Nat} {gain off : Int} (hl : controlLive s = true) (hr : refOn s = true)
  (hs : s.se.slices[i].state = 1)
  (hgain : gain = tdivS (49152 * 32768) (((hi / 16 : Nat) : Int) - ((lo / 16 : Nat) : Int)))
  (hoff : off = 8192 - fdiv (((lo / 16 : Nat) : Int) * gain) 32768)
include hl hr hs hgain hoff

/-- Within R298's limits the slice holds its new trims, and is READY or in a role. -/
theorem calDone_within (h1 : 32113 ≤ gain) (h2 : gain ≤ 33423) (h3 : -512 ≤ off) (h4 : off ≤ 512) :
    ∃ st, (calDone s i lo hi).se.slices[i] = { s.se.slices[i] with
      state := st, gain := gain.toNat, offset := off, calCount := inc32 s.se.slices[i].calCount, bad := false, back := false } := by
  unfold calDone
  dsimp only
  rw [← hgain, ← hoff, if_neg (by rw [hs, hl, hr]; decide),
    if_pos (by rw [decide_eq_true h1, decide_eq_true h2, decide_eq_true h3, decide_eq_true h4]; rfl)]
  simp only [seCount_se, sqFollow_slices, ite_raise_se, seAssign_slices]
  rcases spareTaken_slice _ i with h | ⟨-, h⟩ <;> rw [h]
  · exact ⟨2, modSlice_same ..⟩
  · exact ⟨0, congrArg (fun x : SliceSt => { x with state := 0 }) (modSlice_same ..)⟩

/-- Outside them it is FAULTED, with the trims it had. -/
theorem calDone_outside (h : gain < 32113 ∨ 33423 < gain ∨ off < -512 ∨ 512 < off) :
    (calDone s i lo hi).se.slices[i] = { s.se.slices[i] with state := 3, bad := true } := by
  unfold calDone
  dsimp only
  rw [← hgain, ← hoff, if_neg (by rw [hs, hl, hr]; decide),
    if_neg (by simp only [Bool.and_eq_true, decide_eq_true_eq]; omega)]
  simp only [seCount_se, sqFollow_slices, seAssign_slices]
  have hfaulted : (modSlice s i (fun y => { y with state := 3, bad := true })).se.slices[i] =
    { s.se.slices[i] with state := 3, bad := true } := modSlice_same ..
  rcases spareTaken_slice _ i with h | ⟨h2, -⟩
  · exact h.trans hfaulted
  · cases (congrArg SliceSt.state hfaulted).symm.trans h2

end Calibration

theorem sliceRoles : Claims.SliceRoles := fun s =>
  ⟨fun hl h => next_live hl rfl (rotationDue_due hl h),
   fun k sp old hl hk hsp hold hd hst hc hb => next_live hl rfl (roleHandover_due hl hk hsp hold hd hst hc hb),
   fun i lo hi gain off hl hr hs hgain hoff =>
    ⟨fun h1 h2 h3 h4 => by
      obtain ⟨st, h⟩ := calDone_within hl hr hs hgain hoff h1 h2 h3 h4
      refine ⟨calDone s i lo hi, next_live hl rfl rfl, ?_⟩
      rw [h]
      exact ⟨rfl, rfl, rfl, rfl⟩,
     fun h => by
      refine ⟨calDone s i lo hi, next_live hl rfl rfl, ?_⟩
      rw [calDone_outside hl hr hs hgain hoff h]
      exact ⟨rfl, rfl, rfl⟩⟩,
   fun p mask hm h => doWrite_command h (TakesUnsigned.number (b := 1) (by decide) (by omega)) (command_sliceClear ..)⟩

/-! The reference buffer (R302, R303). -/

theorem objK_setObjK_other {j k : Nat} (s : State) (v : Int) (h : j ≠ k) : objK (setObjK s k v) j = objK s j :=
  SMap.get_put_other _ _ k j v h

/-- What the Sense Engine acts on: its own state, the time, the objects. -/
abbrev SameSense (s t : State) : Prop := s.se = t.se ∧ now s = now t ∧ ∀ k, objK s k = objK t k

theorem setObjK_sameSense {s t : State} (h : SameSense s t) (k : Nat) (v : Int) : SameSense (setObjK s k v) (setObjK t k v) := by
  obtain ⟨hse, hnow, hobj⟩ := h
  refine ⟨hse, hnow, fun j => ?_⟩
  by_cases hj : j = k
  · subst hj
    rw [objK_setObjK, objK_setObjK]
  · rw [objK_setObjK_other s v hj, objK_setObjK_other t v hj, hobj]

/-- A value written and taken back. -/
theorem setObjK_restored (s : State) (k : Nat) (v : Int) : SameSense (setObjK (setObjK s k v) k (objK s k)) s := by
  refine ⟨rfl, rfl, fun j => ?_⟩
  by_cases hj : j = k
  · subst hj
    exact objK_setObjK ..
  · rw [objK_setObjK_other _ _ hj, objK_setObjK_other _ _ hj]

theorem modSe_sameSense {s t : State} (h : SameSense s t) {f g : SeSt → SeSt} (hfg : f = g) :
    SameSense (modSe s f) (modSe t g) := by
  obtain ⟨hse, hnow, hobj⟩ := h
  exact ⟨(congrArg f hse).trans (congrFun hfg _), hnow, hobj⟩

theorem filtPace_sameSense {s t : State} (h : SameSense s t) (k : Fin 16) : filtPace s k = filtPace t k := by
  obtain ⟨-, -, hobj⟩ := h
  have hcfg : filtCfg s k = filtCfg t k := funext fun _ => congrArg Int.toNat (hobj _)
  unfold filtPace
  rw [hcfg]

theorem filtReset_sameSense {s t : State} (h : SameSense s t) (k : Fin 16) : SameSense (filtReset s k) (filtReset t k) :=
  modSe_sameSense h (by rw [filtPace_sameSense h, h.2.1])

/-- REF_EN at 1 and its 2 ms begun. -/
def refStarted (s : State) : State :=
  modSe (setObj s 0x2900 1 1) (fun e => { e with refSt := some (now s), refState := 1, refEv := false })

/-- What waited for the reference begins its acquisition at `t`. -/
def acqBegun (t : ST) (x : SqSt) : SqSt :=
  { x with phase := (match x.phase with | .active _ => .active t | q => q), urgent := x.urgent.map (fun u => { u with acq := t }) }

theorem refEnable_eq (s : State) : refEnable s =
    applyAll (fun t (p : Fin 2) => modSq t p (acqBegun (now s))) (applyAll filtReset (refStarted s) (allFin 16)) (allFin 2) := rfl

theorem refEnable_sameSense {s t : State} (h : SameSense s t) : SameSense (refEnable s) (refEnable t) := by
  have hst : SameSense (refStarted s) (refStarted t) := modSe_sameSense (setObjK_sameSense h (okey 0x2900 1) 1) (by rw [h.2.1])
  have hfilts := List.foldl_rel (l := allFin 16) hst fun k _ _ _ hk => filtReset_sameSense hk k
  rw [refEnable_eq, refEnable_eq, h.2.1]
  exact List.foldl_rel hfilts fun p _ _ _ hp => modSe_sameSense hp rfl

theorem refWrite_sameSense {s t : State} (h : SameSense s t) (v : Bool) : SameSense (refWrite s v) (refWrite t v) := by
  have hon : refOn s = refOn t := congrArg (fun x : Int => decide (x ≠ 0)) (h.2.2 (okey 0x2900 1))
  unfold refWrite
  rw [hon]
  split_ifs
  · exact h
  · exact refEnable_sameSense h
  · exact modSe_sameSense (setObjK_sameSense h (okey 0x2900 1) 0) (by rw [h.2.1])

/-- What neither the filters nor the sequencers hold, the enabling leaves as it begins. -/
theorem refEnable_keeps {β : Type} (φ : State → β) (hsqs : ∀ s p f, φ (modSq s p f) = φ s)
    (hfilts : ∀ s k, φ (filtReset s k) = φ s) (s : State) : φ (refEnable s) = φ (refStarted s) := by
  rw [refEnable_eq, applyAll_keeps φ (fun t p => hsqs t p _), applyAll_keeps φ hfilts]

theorem refEnable_ref (s : State) :
    (refEnable s).se.refSt = some (now s) ∧ (refEnable s).se.refState = 1 ∧ (refEnable s).se.refEv = false :=
  ⟨refEnable_keeps (·.se.refSt) (fun _ _ _ => rfl) (fun _ _ => rfl) s,
   refEnable_keeps (·.se.refState) (fun _ _ _ => rfl) (fun _ _ => rfl) s,
   refEnable_keeps (·.se.refEv) (fun _ _ _ => rfl) (fun _ _ => rfl) s⟩

theorem modFilt_same (s : State) (k : Fin 16) (f : FiltSt → FiltSt) : (modFilt s k f).se.filts[k] = f s.se.filts[k] := upd_same _ k f

theorem modFilt_other {s : State} {k j : Fin 16} (f : FiltSt → FiltSt) (h : k ≠ j) : (modFilt s k f).se.filts[j] = s.se.filts[j] :=
  upd_other _ k j f h

/-- What a filter has taken since its reset. -/
abbrev filtHeld (k : Fin 16) (s : State) : Nat × List (Nat × Bool) := (s.se.filts[k].taken, s.se.filts[k].xs)

/-- The enabling resets every filter. -/
theorem refEnable_filts (s : State) (k : Fin 16) : filtHeld k (refEnable s) = (0, []) :=
  calc filtHeld k (refEnable s)
    _ = filtHeld k (applyAll filtReset (refStarted s) (allFin 16)) := applyAll_keeps (filtHeld k) (by intros; rfl) _ _
    _ = (0, []) := by
      refine applyAll_once (φ := filtHeld k) (fun t j hj => ?other) (fun _ => (0, [])) (fun t => ?own) (mem_allFin k)
        (List.nodup_finRange 16) _
      case other => exact congrArg (fun x : FiltSt => (x.taken, x.xs)) (modFilt_other _ hj)
      case own => exact congrArg (fun x : FiltSt => (x.taken, x.xs)) (modFilt_same ..)

theorem refWrite_enables {s : State} (h : refOn s = false) : refWrite s true = refEnable s := by
  unfold refWrite
  rw [h]
  rfl

theorem refWrite_disables {s : State} (h : refOn s = true) : refWrite s false =
    modSe (setObj s 0x2900 1 0) (fun e => { e with refSt := none, refOff := now s, refState := 0 }) := by
  unfold refWrite
  rw [h]
  rfl

theorem refSettled_early {s : State} {r : ST} (hr : s.se.refSt = some r) (ht : now s < r + 400000) : refSettled s = s := by
  have hu : refUnsettled s (now s) = true := by
    unfold refUnsettled
    rw [hr]
    exact decide_eq_true ht
  exact if_neg (by rw [hu]; simp)

theorem referenceBuffer : Claims.ReferenceBuffer := fun s =>
  ⟨fun p v h =>
    ⟨_, doWrite_value h (TakesUnsigned.number (b := 1) (by decide) (by cases v <;> decide)) (by decide) (command_refEn ..)
      (effect_refEn ..), (refOn_refWrite ..).trans (by cases v <;> rfl),
      (refWrite_sameSense (setObjK_restored (touch s p) (okey 0x2900 1) (b2n v : Nat)) _).1.trans (by cases v <;> rfl)⟩,
   if_pos rfl,
   fun h => by
    rw [refWrite_enables h]
    obtain ⟨hst, hstate, hev⟩ := refEnable_ref s
    exact ⟨hst, hstate, hev, fun k => Prod.mk.inj (refEnable_filts s k)⟩,
   fun h => by
    rw [refWrite_disables h]
    exact ⟨rfl, rfl, rfl⟩,
   fun r hl hr hs ht => next_live hl rfl (refSettled_due hr hs ht),
   fun r hl hr ht => next_live hl rfl (refSettled_early hr ht)⟩

end Sys2Proof.Machine

/-- Settles O36: a calibration by whether it lies within its limits, seen at its slice through the roles that may take one; a write of
REF_EN by what the engine acts on, which a write and its being taken back leave alone. -/
theorem senseSlices : Obligations.SenseSlices := ⟨Sys2Proof.Machine.sliceRoles, Sys2Proof.Machine.referenceBuffer⟩
end

section
/-!
PROOF. Triggers as they reach the consumers of their codes, and the sequencers (R302, R305–R310, R313, R314, R318).
-/

namespace Sys2Proof.Machine

open Sys2Proof

/-! Triggers (R302, R305, R309, R314, R318). -/

section Trigger
variable {s : State} {p : Fin 2} {code : Nat} (hc : objN s (0x2910 + p.val) 3 = code)
include hc

theorem sqTrigger_waiting (hp : s.se.sqs[p].phase = .waiting) (hr : refOn s = true) :
    sqTrigger s p code = sqBegin (modSq s p (fun y => { y with tag := code, lostRun := false })) p (now s) := by
  unfold sqTrigger
  dsimp only
  rw [if_neg (not_not_intro hc), hp]
  exact if_pos hr

/-- A sequencer that runs latches one trigger and loses the next. -/
theorem sqTrigger_active {a : ST} (hp : s.se.sqs[p].phase = .active a) (hs : s.se.sqs[p].stopAt = false) :
    sqTrigger s p code = if s.se.sqs[p].latched.isSome || !refOn s then sqTrigLost s p
      else modSq s p (fun y => { y with latched := some code, lostRun := false }) := by
  unfold sqTrigger
  dsimp only
  rw [if_neg (not_not_intro hc), hp]
  exact if_neg (by rw [hs]; simp)

theorem sqTrigger_latches {a : ST} (hp : s.se.sqs[p].phase = .active a) (hs : s.se.sqs[p].stopAt = false)
    (hn : s.se.sqs[p].latched = none) (hr : refOn s = true) :
    sqTrigger s p code = modSq s p (fun y => { y with latched := some code, lostRun := false }) := by
  rw [sqTrigger_active hc hp hs, if_neg (by rw [hn, hr]; decide)]

theorem sqTrigger_loses {a : ST} {c : Nat} (hp : s.se.sqs[p].phase = .active a) (hs : s.se.sqs[p].stopAt = false)
    (hn : s.se.sqs[p].latched = some c) : sqTrigger s p code = sqTrigLost s p := by
  rw [sqTrigger_active hc hp hs, if_pos (by rw [hn]; rfl)]

end Trigger

theorem sqTrigLost_trigLost (s : State) (p : Fin 2) : (sqTrigLost s p).se.sqs[p].trigLost = inc32 s.se.sqs[p].trigLost := by
  have h := congrArg SqSt.trigLost (modSq_same s p (fun x => { x with trigLost := inc32 s.se.sqs[p].trigLost, lostRun := true }))
  exact ite_keeps (·.se.sqs[p].trigLost) h h

theorem sqTrigLost_again {s : State} {p : Fin 2} (h : s.se.sqs[p].lostRun = true) : sqTrigLost s p =
    modSq s p (fun x => { x with trigLost := inc32 s.se.sqs[p].trigLost, lostRun := true }) := if_pos h

section UrgentTrigger
variable {s : State} {u : Fin 8} {code : Nat} (hen : urgCfg s u 1 ≠ 0) (hc : urgCfg s u 2 = code)
include hen hc

theorem urgTrigger_asks (hn : s.se.urgs[u].pend = none) (hr : refOn s = true) : (urgTrigger s u code).se.urgs[u].pend = some (now s) := by
  unfold urgTrigger
  dsimp only
  rw [if_neg (by simp [hen, hc]), if_neg (by rw [hn, hr]; decide)]
  exact congrArg UrgSt.pend (modUrg_same ..)

theorem urgTrigger_overruns {t : ST} (hn : s.se.urgs[u].pend = some t) : (urgTrigger s u code).se.urgs[u].pend = some t ∧
    (urgTrigger s u code).se.urgs[u].overruns = inc32 s.se.urgs[u].overruns := by
  have hslot := modUrg_same s u (fun y => { y with overruns := inc32 s.se.urgs[u].overruns, ovrRun := true })
  have hpend := (congrArg UrgSt.pend hslot).trans hn
  have hcount := congrArg UrgSt.overruns hslot
  unfold urgTrigger
  dsimp only
  rw [if_neg (by simp [hen, hc]), if_pos (by rw [hn]; rfl)]
  exact ⟨ite_keeps (·.se.urgs[u].pend) hpend hpend, ite_keeps (·.se.urgs[u].overruns) hcount hcount⟩

end UrgentTrigger

theorem capTrigger_running {s : State} {code : Nat} (hc : objN s 0x2940 3 = code) (hs : s.se.capState = 2) :
    capTrigger s code = modSe s (fun e => { e with trigOverruns := inc32 e.trigOverruns }) := by
  unfold capTrigger
  rw [if_neg (not_not_intro hc), if_pos hs]

theorem senseTriggers : Claims.SenseTriggers := fun s =>
  ⟨fun p h => doWrite_command (n := 1) h (by decide) (command_trigSw ..),
   fun code hl => if_pos hl,
   fun n r hl => ⟨fun h => next_live hl rfl (if_pos (by rw [hl, h]; rfl)), fun h => next_live hl rfl (if_neg (by rw [hl, h]; decide))⟩,
   fun p code hc =>
    ⟨sqTrigger_waiting hc, fun _ => sqTrigger_latches hc, fun a c hp hs hn => by
      rw [sqTrigger_loses hc hp hs hn]
      exact ⟨sqTrigLost_trigLost .., sqTrigLost_again⟩⟩,
   fun u code hen hc => ⟨urgTrigger_asks hen hc, fun _ => urgTrigger_overruns hen hc⟩,
   fun code hc hs => by
    rw [capTrigger_running hc hs]
    exact ⟨rfl, rfl⟩⟩

/-! Sequencers (R306–R310, R313). -/

section Sequencer
variable {s : State} {p : Fin 2}

theorem sqStart_unfilled (hr : s.se.roles[roleOf p] = none) (hs : s.se.sqs[p].stopAt = false) :
    (sqStart s p).se.sqs[p].phase = .halted := by
  unfold sqStart
  dsimp only
  rw [hs, if_neg Bool.false_ne_true, show sqSlice s p = none from hr, if_neg (by decide)]
  exact congrArg SqSt.phase (modSq_same ..)

theorem sqAsked_start (ha : s.se.sqs[p].starts = true) (ho : s.se.sqs[p].stops = false) :
    sqAsked s p = sqStart (modSq s p (fun y => { y with starts := false, stops := false })) p := by
  unfold sqAsked
  dsimp only
  rw [ho, ha]
  rfl

theorem sqAsked_stop (ho : s.se.sqs[p].stops = true) :
    sqAsked s p = sqStop (modSq s p (fun y => { y with starts := false, stops := false })) p := if_pos ho

/-- A stop: what waited for the sequencer is dropped, and the sequencer stops at the boundary of its slice, at once where that is here. -/
theorem sqStop_sq (s : State) (p : Fin 2) : (sqStop s p).se.sqs[p] =
    if atBoundary s p || s.se.sqs[p].urgent.isSome then
      { s.se.sqs[p] with latched := none, again := false, disp := false, phase := .stopped }
    else { s.se.sqs[p] with latched := none, again := false, disp := false, stopAt := true } := by
  have hs1 := modSq_same (setObj s (0x2910 + p.val) 1 0) p (fun x => { x with latched := none, again := false, disp := false })
  unfold sqStop
  dsimp only
  split_ifs
  · rw [modSq_same, hs1]; rfl
  · rw [modSq_same, hs1]; rfl

theorem sqStop_latched (s : State) (p : Fin 2) : (sqStop s p).se.sqs[p].latched = none := by
  rw [sqStop_sq]
  split_ifs <;> rfl

theorem sqStop_atBoundary (h : atBoundary s p = true) : (sqStop s p).se.sqs[p].phase = .stopped := by
  rw [sqStop_sq, h]
  rfl

theorem sqStop_inFlight (h : atBoundary s p = false) (hu : s.se.sqs[p].urgent = none) : (sqStop s p).se.sqs[p].stopAt = true := by
  rw [sqStop_sq, h, hu]
  rfl

end Sequencer

theorem sequencers : Claims.Sequencers := fun _ _ hl =>
  ⟨fun h => ⟨next_live hl (by rw [h]; rfl) rfl, sqStart_unfilled⟩,
   sqAsked_start, sqAsked_stop,
   fun h => ⟨next_live hl (by rw [h]; rfl) rfl, sqStop_latched .., sqStop_atBoundary, sqStop_inFlight⟩,
   fun _ _ _ hp hsl hu ht hr hst hrep => next_live hl rfl (seqDone_repeats hp hsl hu ht hr hst hrep hl),
   fun _ hp ht hu hc hw => next_live hl rfl (delayEnd_over hp ht hu hc hw hl)⟩

end Sys2Proof.Machine

/-- Settles O37: a trigger at each consumer by what that one is doing, and a start or a stop by what the sequencer and its slice are
doing as the cycle ends. -/
theorem senseSequencers : Obligations.SenseSequencers := ⟨Sys2Proof.Machine.senseTriggers, Sys2Proof.Machine.sequencers⟩
end

section
/-!
PROOF. The urgent slots and OPT requests, the interleaved capture, the filters' pace points and the result queue (R312, R313, R316, R318,
R320–R322, R324, R327–R329).
-/

namespace Sys2Proof.Machine

open Sys2Proof

/-! Urgent slots and OPT requests (R312, R313, R316, R321). -/

theorem doLive_unchanged {s : State} {f : State → State} {c : Bool} (h : f s = s) : doLive c f s = .next (finish s s) := by
  unfold doLive doWhen done
  rw [h, ite_self]

/-- While a capture runs no urgent request starts. -/
theorem urgStart_captured {s : State} (p : Fin 2) (h : s.se.capState = 2) : urgStart s p = s := by
  have hcap : capRuns s = true := by
    unfold capRuns
    rw [h]
    rfl
  unfold urgStart
  dsimp only
  rw [if_pos (by rw [hcap]; simp)]

theorem exec_urgentStart (p : Fin 2) (s : State) : exec (.urgentStart p) s = execUrgentStart p s := rfl

/-- A request that starts leaves its wait in MAX_WAIT. -/
theorem urgStart_maxWait {s : State} {p : Fin 2} {u : Fin 8} {r : List (Fin 8)} {t : ST} (hl : controlLive s = true)
    (hu : s.se.sqs[p].urgent = none) (hc : capRuns s = false) (ht : capTakes s = false) (hb : atBoundary s p = true)
    (hsl : (sqSlice s p).isSome = true) (hr : refOn s = true) (hn : s.se.urgs[u].pend = some t)
    (hp : (urgPending s p).filter (fun u => match s.se.urgs[u].pend with | some t => decide (t + 2 ≤ now s) | none => false) = u :: r) :
    (urgStart s p).se.urgs[u].maxWait = max s.se.urgs[u].maxWait (sat 16 (now s - t)) := by
  unfold urgStart
  dsimp only
  rw [hu, if_neg (by rw [hc, ht, hb, hr, hl, Option.isNone_eq_false_iff.mpr hsl]; decide)]
  split
  next h => cases hp.symm.trans h
  next v r' h =>
    obtain ⟨rfl, -⟩ := List.cons.inj (hp.symm.trans h)
    rw [hn]
    exact congrArg UrgSt.maxWait (modUrg_same ..)

/-- The slots and the sequencers. -/
abbrev slotsAndSqs (s : State) : Vector UrgSt 8 × Vector SqSt 2 := (s.se.urgs, s.se.sqs)

/-- A result on its way leaves them alone. -/
theorem filtTake_slotsAndSqs (s : State) (k : Fin 16) (r : SeResult) : slotsAndSqs (filtTake s k r) = slotsAndSqs s := by
  unfold filtTake
  dsimp only
  split_ifs <;> rfl

theorem seResult_slotsAndSqs (s : State) (p : Fin 2) (filt : Option (Fin 16)) (r : SeResult) :
    slotsAndSqs (seResult s p filt r) = slotsAndSqs s := by
  cases filt with
  | none => rfl
  | some k => exact ite_keeps slotsAndSqs (filtTake_slotsAndSqs ..) rfl

theorem seResult_urgs (s : State) (p : Fin 2) (filt : Option (Fin 16)) (r : SeResult) : (seResult s p filt r).se.urgs = s.se.urgs :=
  congrArg Prod.fst (seResult_slotsAndSqs s p filt r)

theorem seResult_sqs (s : State) (p : Fin 2) (filt : Option (Fin 16)) (r : SeResult) : (seResult s p filt r).se.sqs = s.se.sqs :=
  congrArg Prod.snd (seResult_slotsAndSqs s p filt r)

theorem urgDone_over {s : State} {p : Fin 2} {raw : Nat} {u : UrgentRun} {sl : Fin 4} (hl : controlLive s = true)
    (hu : s.se.sqs[p].urgent = some u) (hsl : s.se.roles[roleOf p] = some sl) (ht : u.acq + u.len + 40 ≤ now s)
    (hr : refOn s = true) :
    (urgDone s p raw).se.urgs[u.slot].count = inc32 s.se.urgs[u.slot].count ∧ (urgDone s p raw).se.sqs[p].urgent = none := by
  unfold urgDone
  rw [hu, show sqSlice s p = some sl from hsl]
  dsimp only
  rw [if_neg (by rw [hl, hr, decide_eq_false (Nat.not_lt.mpr ht)]; simp)]
  rw [seResult_urgs, seResult_sqs]
  exact ⟨congrArg UrgSt.count (modUrg_same ..), congrArg SqSt.urgent (modSq_same ..)⟩

theorem optDone_oldest {s : State} {o : ST × Nat} {r : List (ST × Nat)} (h : s.se.opts = o :: r) :
    optDone s = if 400 < now s - o.1 then
      raise (modSe s (fun e => { e with opts := r })) 414 o.2 (min (now s - o.1) 0xFFFFFFFF)
    else modSe s (fun e => { e with opts := r }) := by
  unfold optDone
  rw [h]

theorem optDone_none {s : State} (h : s.se.opts = []) : optDone s = s := by
  unfold optDone
  rw [h]

theorem urgentSlots : Claims.UrgentSlots := fun s p hl =>
  ⟨fun u r t hu hc ht hb hsl hr hn hp => by
    obtain ⟨hpend, hrun⟩ := urgStart_ready hl hu hc ht hb hsl hr hp
    exact ⟨urgStart s p, next_live hl rfl rfl, hpend, urgStart_maxWait hl hu hc ht hb hsl hr hn hp, hrun⟩,
   fun raw u sl hu hsl ht hr => ⟨urgDone s p raw, next_live hl rfl rfl, urgDone_over hl hu hsl ht hr⟩,
   fun o r hs ho =>
    ⟨fun h => next_live hl hs ((optDone_oldest ho).trans (if_pos h)),
     fun h => next_live hl hs ((optDone_oldest ho).trans (if_neg (Nat.not_lt.mpr h)))⟩,
   fun hs ho => next_live hl hs (optDone_none ho)⟩

/-! The capture (R318, R320, R322). -/

theorem capArm_arms {s : State} (hs : s.se.capState = 0) (hh : 3 ≤ seHealthy s) :
    capArm s = modSe s (fun e => { e with capState := 1, capTrig := none }) := by
  unfold capArm
  rw [hs, if_neg (by decide), if_neg (Nat.not_lt.mpr hh), if_neg (by decide)]

theorem capArm_refused {s : State} (hs : s.se.capState ≠ 2) (hh : seHealthy s < 3) :
    capArm s = raise (modSe s (fun e => { e with capState := 5, capTrig := none })) 413 5 s.se.capCount := by
  unfold capArm
  rw [if_neg hs, if_pos hh]

theorem capAbort_armed {s : State} (hs : s.se.capState = 1) (raws : List Nat) :
    capAbort s raws = raise (modSe s (fun e => { e with capState := 5, capTrig := none, capCount := 0 })) 413 5 0 := by
  unfold capAbort capEnd
  rw [hs]
  rfl

/-- A capture that waits leaves no acquisition under way at a boundary. -/
theorem capHold_phase {s : State} {p : Fin 2} (h : atBoundary s p = true) (a : ST) : (capHold s p).se.sqs[p].phase ≠ .active a := by
  unfold capHold
  rw [if_pos h, modSq_same]
  cases s.se.sqs[p].phase <;> simp

theorem capHold_other {s : State} {p q : Fin 2} (h : p ≠ q) : (capHold s p).se.sqs[q] = s.se.sqs[q] := by
  unfold capHold
  split_ifs
  · exact upd_other _ p q _ h
  · rfl

theorem atBoundary_capHold {s : State} {p q : Fin 2} (h : p ≠ q) : atBoundary (capHold s p) q = atBoundary s q := by
  have hconv : convBegun (capHold s p) = convBegun s := by
    unfold capHold
    split_ifs <;> rfl
  unfold atBoundary
  rw [capHold_other h, hconv]

/-- A capture that takes the slices holds both sequences. -/
theorem capStart_holds {s : State} (hl : controlLive s = true) (hw : capWants s = true) (hc : capRuns s = false)
    (hh : 3 ≤ seHealthy s) (ht : capTakes s = true) (h0 : atBoundary s 0 = true) (h1 : atBoundary s 1 = true) :
    (capStart s).se.capN = objN s 0x2940 2 ∧
      ∀ a, (capStart s).se.sqs[0].phase ≠ .active a ∧ (capStart s).se.sqs[1].phase ≠ .active a := by
  have hheld1 := capHold_phase ((atBoundary_capHold (s := s) (p := 0) (q := 1) (by decide)).trans h1)
  have hheld0 : ∀ a, (capHold (capHold s 0) 1).se.sqs[0].phase ≠ .active a := by
    have hkept : (capHold (capHold s 0) 1).se.sqs[0] = (capHold s 0).se.sqs[0] :=
      capHold_other (p := 1) (q := 0) (by decide)
    rw [hkept]
    exact capHold_phase h0
  unfold capStart
  rw [if_neg (by rw [hl, hw]; simp), if_neg (by rw [hc, decide_eq_false (Nat.not_lt.mpr hh)]; decide)]
  dsimp only
  rw [if_pos ht]
  exact ⟨rfl, fun a => ⟨hheld0 a, hheld1 a⟩⟩

theorem captureRuns : Claims.CaptureRuns := fun s =>
  ⟨fun p h => doWrite_command (n := 1) h (by decide) (command_capCmd ..),
   capArm_arms, capArm_refused,
   fun p raws h => doWrite_command (n := 2) h (by decide) (command_capCmd ..),
   capAbort_armed,
   fun hl =>
    ⟨fun t ht hs hd hc h0 h1 hu0 hu1 hh hr hs0 hs1 => by
      have hw := capWants_due ht hs hd
      have hfree := capRuns_armed hs hc
      have htakes : capTakes s = true := by simp only [capTakes, hw, hfree, hr, hl, h0, h1, hu0, hu1, hs0, hs1]; rfl
      obtain ⟨hstate, hst0⟩ := capStart_takes hl hw hfree hh htakes
      exact ⟨capStart s, next_live hl rfl rfl, hstate, hst0, capStart_holds hl hw hfree hh htakes h0 h1⟩,
     fun raws hs hn => next_live hl rfl (capDone_full hs hn)⟩⟩

/-! The result queue (R327–R329). -/

/-- The words of the queue, and whether the next one follows a loss. -/
abbrev queueShown (s : State) : List Nat × Bool := (s.se.queue, s.se.lostNext)

theorem wmRearm_lostNext (s : State) : (wmRearm s).se.lostNext = s.se.lostNext := ite_keeps (·.se.lostNext) rfl rfl

theorem wmRearm_lost (s : State) : (wmRearm s).se.lost = s.se.lost := ite_keeps (·.se.lost) rfl rfl

theorem wmTest_queueShown (s : State) : queueShown (wmTest s) = queueShown s := ite_keeps queueShown rfl rfl

/-- A word that finds room enters behind the others, with the mark of a loss before it. -/
theorem seWord_room {s : State} (r : SeResult) (f : Bool) (h : s.se.queue.length < 1024) : queueShown (seWord s r f) =
    (s.se.queue ++ [resultWord r.ch r.src r.value r.refU f s.se.lostNext r.slice r.st], false) := by
  have hroom : (wmRearm s).se.queue.length < 1024 := by rwa [wmRearm_queue]
  unfold seWord
  dsimp only
  rw [if_pos hroom, wmTest_queueShown, ← wmRearm_queue s, ← wmRearm_lostNext s]
  exact ite_keeps queueShown rfl rfl

/-- A word that finds none is counted as lost. -/
theorem seWord_full {s : State} (r : SeResult) (f : Bool) (h : 1024 ≤ s.se.queue.length) :
    queueShown (seWord s r f) = (s.se.queue, true) ∧ (seWord s r f).se.lost = inc32 s.se.lost := by
  have hfull : ¬ (wmRearm s).se.queue.length < 1024 := by rw [wmRearm_queue]; omega
  unfold seWord
  dsimp only
  rw [if_neg hfull, ← wmRearm_queue s, ← wmRearm_lost s]
  exact ⟨ite_keeps queueShown rfl rfl, ite_keeps (·.se.lost) rfl rfl⟩

theorem queuePop_oldest {s : State} {w : Nat} {r : List Nat} (h : s.se.queue = w :: r) :
    (queuePop s).2 = w ∧ (queuePop s).1.se.queue = r := by
  unfold queuePop
  rw [h]
  exact ⟨rfl, wmRearm_queue _⟩

theorem queuePop_empty {s : State} (h : s.se.queue = []) : queuePop s = (s, 0) := by
  unfold queuePop
  rw [h]

section Ring
variable {s : State} (hsize : objN s 0x2930 8 ≠ 0)
include hsize

theorem dmaWord_moves {w : Nat} {r : List Nat} (hq : s.se.queue = w :: r)
    (hfree : (s.se.dmaWr + 8) % objN s 0x2930 8 ≠ objN s 0x2930 10) :
    dmaWord s = some (modApp (modSe s (fun e => { e with queue := r, dmaWr := (s.se.dmaWr + 8) % objN s 0x2930 8 })) (fun a =>
      { a with mem := memWrite a.mem (dataWindow + objN s 0x2930 7 + s.se.dmaWr) (leBytes 8 w) })) := by
  unfold dmaWord
  dsimp only
  rw [hq, if_neg hsize]
  exact if_neg (by simp [hsize, hfree])

theorem dmaWord_ringFull (hfull : (s.se.dmaWr + 8) % objN s 0x2930 8 = objN s 0x2930 10) : dmaWord s = none := by
  unfold dmaWord
  dsimp only
  rw [if_neg hsize]
  cases s.se.queue with
  | nil => rfl
  | cons w r => exact if_pos (by simp [hfull])

end Ring

theorem resultQueue : Claims.ResultQueue := fun s =>
  ⟨fun k r hl hp ht hr hf => next_live hl rfl (filtPoint_fresh hl hp ht hr hf),
   fun r f h _ _ => Prod.mk.inj (seWord_room r f h),
   fun r f h => by
    obtain ⟨hshown, hlost⟩ := seWord_full r f h
    obtain ⟨hqueue, hnext⟩ := Prod.mk.inj hshown
    exact ⟨hqueue, hlost, hnext⟩,
   fun p hd hj => next_congr (readTx_pop hd hj),
   fun w r => queuePop_oldest, queuePop_empty,
   fun p h => doWrite_command (n := 1) h (by decide) (command_queueFlush ..),
   fun hl => next_live hl rfl rfl,
   fun w r size hq hs hsize hfree => by
    subst hs
    exact ⟨_, dmaWord_moves hsize hq hfree, rfl, rfl, rfl⟩,
   dmaWord_ringFull⟩

end Sys2Proof.Machine

/-- Settles O9: a capture that runs is among what keeps an urgent request waiting. -/
theorem urgentWaitsForCapture : Obligations.UrgentWaitsForCapture := fun s p h =>
  (Sys2Proof.Machine.exec_urgentStart p s).trans (Sys2Proof.Machine.doLive_unchanged (Sys2Proof.Machine.urgStart_captured p h))

/-- Settles O38: a request by whether it is ready and over; a capture by its state, and as it starts by what it holds of each slice; a
word by the room it finds, in the queue and in the ring. -/
theorem senseRequests : Obligations.SenseRequests :=
  ⟨Sys2Proof.Machine.urgentSlots, Sys2Proof.Machine.captureRuns, Sys2Proof.Machine.resultQueue⟩
end

section
/-!
PROOF. The machine as a whole: a step carries out the command at the front of the queue, the invariant holds at reset and every step
keeps it, a run drains the queue, and what reset leaves (R391, R417, R462; spec/01, spec/11).
-/

namespace Sys2Proof.Machine

open Sys2Proof

/-! What a step does. -/

theorem step_command {s : State} {c : Instr} {r : List Instr} (h : s.pending = c :: r) : step s = exec c { s with pending := r } := by
  unfold step
  rw [h]

theorem step_tick {s : State} (h : s.pending = []) : step s = .next (tick s) := by
  unfold step
  rw [h]

/-- A choice of two effects is an effect. -/
theorem ite_finishes {c : Prop} [Decidable c] {s a b : State} : ∃ u, (if c then done s a else done s b) = .next (finish s u) := by
  split <;> exact ⟨_, rfl⟩

/-- Each meaning ends in the follow-up of every command, on the state it was given. -/
theorem exec_finishes (c : Instr) (s : State) : ∃ u, exec c s = .next (finish s u) := by
  cases c
  case wakeRecognised pin => exact ite_finishes
  case waymarkRearm e => exact ite_finishes
  case flagsW1cWrite p u v => cases u <;> exact ⟨_, rfl⟩
  case conversionDone c => cases c <;> exact ⟨_, rfl⟩
  all_goals exact ⟨_, rfl⟩

/-! The invariant. -/

theorem resetInv : Claims.ResetInv := ⟨rfl, fun _ => ⟨rfl, rfl, rfl, rfl⟩⟩

theorem inv_ite_finish {c : Prop} [Decidable c] {b u s : State} (h : Inv s) : Inv (if c then finish b u else s) := by
  split
  · exact finish_inv b u
  · exact h

/-- The end of a cycle and the tick itself end in the follow-up of every command wherever they change the state. -/
theorem tick_inv {s : State} (h : Inv s) : Inv (tick s) :=
  inv_ite_finish (inv_ite_finish (inv_ite_finish h))

theorem stepKeepsInv : Claims.StepKeepsInv := by
  intro s t hi hs
  cases hp : s.pending with
  | nil =>
    rw [step_tick hp] at hs
    cases hs
    exact tick_inv hi
  | cons c r =>
    obtain ⟨u, hu⟩ := exec_finishes c { s with pending := r }
    rw [step_command hp, hu] at hs
    cases hs
    exact finish_inv _ u

theorem run_next (M : Host.Core) {s t : M.State} (h : M.step s = .next t) (n : Nat) : M.run (n + 1) s = M.run n t := by
  rw [Host.Core.run, h]

/-- A run over the commands that wait, from a state in which the invariant holds unless one of them is carried out. -/
theorem run_drains (cs r : List Instr) (s : State) (h : s.pending = cs ++ r) :
    ∃ t, Host.Core.run Sys2Proof.core cs.length s = .next t ∧ t.pending = r ∧ (Inv s ∨ cs ≠ [] → Inv t) := by
  induction cs generalizing s with
  | nil => exact ⟨s, rfl, h, fun hi => hi.resolve_right (by simp)⟩
  | cons c cs ih =>
    obtain ⟨u, hu⟩ := exec_finishes c { s with pending := cs ++ r }
    obtain ⟨t, ht, hp, hi⟩ := ih (finish { s with pending := cs ++ r } u) (finish_pending ..)
    refine ⟨t, ?_, hp, fun _ => hi (.inl (finish_inv _ u))⟩
    have hstep : Sys2Proof.core.step s = .next (finish { s with pending := cs ++ r } u) := (step_command h).trans hu
    exact (run_next Sys2Proof.core hstep _).trans ht

theorem queueDrains : Claims.QueueDrains := fun cs r s h =>
  let ⟨t, ht, hp, hi⟩ := run_drains cs r s h
  ⟨t, ht, hp, fun hc => hi (.inr hc)⟩

/-! What reset leaves. -/

theorem holder_reset (g : Nat) : holder State.reset g = none := by
  show (atN ⟨none, 0⟩ (Vector.replicate 24 (⟨none, 0⟩ : Claim)) g).path = none
  simp [atN]

theorem stagingOf_reset (p : Path) : stagingOf State.reset p = ⟨[], []⟩ := by
  cases p <;> rfl

theorem jobs_reset (e : Fin 64) : State.reset.ledger.jobs[e] = Job.reset := by
  show (Vector.replicate 64 Job.reset)[e] = Job.reset
  simp

theorem resetLeaves : Claims.ResetLeaves :=
  ⟨fun _ => rfl, rfl, holder_reset, stagingOf_reset, jobs_reset, rfl, rfl, rfl, rfl, rfl, rfl, rfl, rfl, rfl⟩

end Sys2Proof.Machine

/-- Settles O1: by the two shapes of the queue. -/
theorem stepTakesFront : Obligations.StepTakesFront :=
  ⟨fun _ _ _ h => Sys2Proof.Machine.step_command h, fun _ h => Sys2Proof.Machine.step_tick h⟩

/-- Settles O2. -/
theorem resetInv : Obligations.ResetInv := Sys2Proof.Machine.resetInv

/-- Settles O3: a command ends in the follow-up of every command, which restores the invariant, and so does a tick wherever it
changes the state. -/
theorem stepKeepsInv : Obligations.StepKeepsInv := Sys2Proof.Machine.stepKeepsInv

/-- Settles O6, by induction on the commands that wait. -/
theorem queueDrains : Obligations.QueueDrains := Sys2Proof.Machine.queueDrains

/-- Settles O7, field by field. -/
theorem resetLeaves : Obligations.ResetLeaves := Sys2Proof.Machine.resetLeaves
end

section
/-!
PROOF. The follow-up of a command: the routes of its events, the answer that came late, the Last Ride and the queues of DOZE leave the
units as they are; a latched LOCKOUT and a reset leave the modes in which the engine works (R442–R446, R470, R477).
-/

namespace Sys2Proof.Machine

open Sys2Proof

/-! The chain of LOCKOUT leaves the mode machine as its first step sets it (R470). -/

section LockoutChain

@[simp] theorem recharge_keeps_md (s : State) : (recharge s).md = s.md := rfl
@[simp] theorem boostOff_md (s : State) : (boostOff s).md = s.md := rfl
@[simp] theorem boostWatch_md (s : State) : (boostWatch s).md = s.md := rfl
@[simp] theorem markLeaving_md (s : State) (h : Fin 2) : (markLeaving s h).md = s.md := rfl
@[simp] theorem axLockout_md (s : State) (n : Fin 4) : (axLockout s n).md = s.md := rfl
@[simp] theorem dequeue_md (s : State) (c : Fin 8) : (dequeue s c).md = s.md := rfl
@[simp] theorem recordWait_md (s : State) (c : Fin 8) (w : Nat) : (recordWait s c w).md = s.md := rfl

@[simp] theorem trigger_md (s : State) (p : Fin 2) (r : Nat) : (trigger s p r).md = s.md := by
  unfold trigger
  split
  · rfl
  · exact ite_keeps (·.md) rfl rfl

@[simp] theorem jobUnbind_md (s : State) (e : Fin 64) : (jobUnbind s e).md = s.md := by
  unfold jobUnbind
  dsimp only
  split
  · rfl
  · split
    · rfl
    · split
      · exact ite_keeps (·.md) rfl (ite_keeps (·.md) rfl rfl)
      · exact ite_keeps (·.md) rfl rfl

@[simp] theorem jobFinish_md (s : State) (e : Fin 64) (st cause : Nat) : (jobFinish s e st cause).md = s.md := by
  simp [jobFinish]

@[simp] theorem jobAbort_md (cause : Nat) (s : State) (e : Fin 64) : (jobAbort cause s e).md = s.md := by
  unfold jobAbort
  split <;> simp

@[simp] theorem jobsAbort_md (s : State) (cause : Nat) (which : Job → Bool) : (jobsAbort s cause which).md = s.md :=
  applyAll_keeps (·.md) (jobAbort_md cause) _ _

@[simp] theorem enterTrain_md (s : State) (h : Fin 2) : (enterTrain s h).md = s.md := by
  unfold enterTrain
  split
  · exact ite_keeps (·.md) rfl rfl
  · rfl

@[simp] theorem enterWhite_md (s : State) (h : Fin 2) : (enterWhite s h).md = s.md := by
  simp [enterWhite]

@[simp] theorem dropNext_md (s : State) (h : Fin 2) : (dropNext s h).md = s.md := by
  unfold dropNext
  split <;> simp

@[simp] theorem cutTrain_md (s : State) (h : Fin 2) : (cutTrain s h).md = s.md := by
  unfold cutTrain
  dsimp only
  split <;> split <;> simp

@[simp] theorem headsStop_md (s : State) : (headsStop s).md = s.md :=
  applyAll_keeps (·.md) (by intros; simp) _ _

@[simp] theorem cutStrobes_md (s : State) (h : Fin 2) : (cutStrobes s h).md = s.md := by
  unfold cutStrobes
  split
  · rfl
  · exact ite_keeps (·.md) rfl rfl

@[simp] theorem measAbort_md (s : State) (h : Fin 2) (cause : Nat) : (measAbort s h cause).md = s.md := by
  unfold measAbort
  exact ite_keeps (·.md) rfl rfl

@[simp] theorem measAbortAll_md (s : State) (cause : Nat) : (measAbortAll s cause).md = s.md := by
  simp [measAbortAll]

@[simp] theorem hsToBoost_md (s : State) (b : Fin 2) : (hsToBoost s b).md = s.md :=
  applyAll_keeps (·.md) (by intros; rfl) _ _

@[simp] theorem hsToMain_md (s : State) (b : Fin 2) : (hsToMain s b).md = s.md :=
  applyAll_keeps (·.md) (by intros; rfl) _ _

@[simp] theorem startPeak_md (s : State) (c : Fin 8) (t : ST) : (startPeak s c t).md = s.md := by
  simp [startPeak]

@[simp] theorem serveBank_md (s : State) (b : Fin 2) : (serveBank s b).md = s.md := by
  unfold serveBank
  split
  · rfl
  · split <;> simp

@[simp] theorem peakEnded_md (s : State) (b : Fin 2) : (peakEnded s b).md = s.md := by
  unfold peakEnded
  dsimp only
  split <;> simp

@[simp] theorem solDecay_md (s : State) (c : Fin 8) : (solDecay s c).md = s.md := by
  unfold solDecay
  dsimp only
  split <;> simp

@[simp] theorem recordLeft_md (s : State) (c : Fin 8) : (recordLeft s c).md = s.md := by
  unfold recordLeft
  split <;> rfl

@[simp] theorem solWithdraw_md (s : State) (c : Fin 8) : (solWithdraw s c).md = s.md := by
  simp [solWithdraw]

@[simp] theorem solEnd_md (s : State) (c : Fin 8) : (solEnd s c).md = s.md := by
  unfold solEnd
  dsimp only
  split
  · simp
  · split <;> simp

@[simp] theorem solDrop_md (s : State) (c : Fin 8) : (solDrop s c).md = s.md := by
  unfold solDrop
  split <;> simp

@[simp] theorem solAllOff_md (s : State) : (solAllOff s).md = s.md :=
  (boostWatch_md _).trans <| (applyAll_keeps (·.md) solEnd_md _ _).trans <|
    (applyAll_keeps (·.md) (by intros; rfl) _ _).trans (applyAll_keeps (·.md) solDrop_md _ _)

end LockoutChain

/-- The modes that LOCKOUT takes the engine from. -/
def Working (m : Mode) : Prop := m = .standby ∨ m = .run ∨ m = .service

theorem lockout_mode {s : State} {ev : Nat} (h : Working s.md.mode) : (lockout s ev).md.mode = .lockout := by
  have hax : ∀ t, (applyAll axLockout t (allFin 4)).md = t.md := applyAll_keeps (·.md) axLockout_md _
  have hcut : ∀ t, (applyAll cutStrobes t (allFin 2)).md = t.md := applyAll_keeps (·.md) cutStrobes_md _
  obtain h | h | h := h <;>
  · unfold lockout
    rw [h]
    simp [hax, hcut]

theorem lockout_notWorking {s : State} {ev : Nat} (h : ¬ Working s.md.mode) : lockout s ev = s := by
  unfold lockout
  split
  · next hm => exact absurd (.inl hm) h
  · next hm => exact absurd (.inr (.inl hm)) h
  · next hm => exact absurd (.inr (.inr hm)) h
  · rfl

/-! What the follow-up leaves. -/

/-- The units, and of the power-down sequence what decides whether it ends in a reset (R477). -/
def unitsShown (s : State) :=
  ((s.md, s.msu, s.heads, s.en, s.vl, s.rb, s.media, s.opts, s.supply, s.govs, s.cut, s.axes, s.sols, s.banks, s.boost, s.tg,
    s.uarts, s.boot, s.ledger, s.pdo, s.sn, s.ctl.dict, s.ctl.doms, s.free), s.pw.pf, s.pw.present)

theorem unitsSame_of_shown {s t : State} (h : unitsShown t = unitsShown s) : UnitsSame s t :=
  congrArg Prod.fst h

theorem md_of_shown {s t : State} (h : unitsShown t = unitsShown s) : t.md = s.md :=
  congrArg (fun x => x.1.1) h

/-- The units stand as they were, or the engine has left the modes in which it works. -/
def StandsOrLeft (s t : State) : Prop := unitsShown t = unitsShown s ∨ Working s.md.mode ∧ ¬ Working t.md.mode

theorem StandsOrLeft.trans {s t u : State} (h : StandsOrLeft s t) (k : StandsOrLeft t u) : StandsOrLeft s u := by
  obtain h | ⟨hs, ht⟩ := h
  · obtain k | ⟨kt, ku⟩ := k
    · exact .inl (k.trans h)
    · exact .inr ⟨md_of_shown h ▸ kt, ku⟩
  · obtain k | ⟨kt, -⟩ := k
    · exact .inr ⟨hs, md_of_shown k ▸ ht⟩
    · exact absurd kt ht

theorem StandsOrLeft.all {α : Type} {f : State → α → State} (hf : ∀ s x, StandsOrLeft s (f s x)) (xs : List α) (s : State) :
    StandsOrLeft s (applyAll f s xs) := by
  unfold applyAll
  induction xs generalizing s with
  | nil => exact .inl rfl
  | cons x r ih => exact (hf s x).trans (ih _)

theorem lockout_standsOrLeft (s : State) (ev : Nat) : StandsOrLeft s (lockout s ev) := by
  by_cases h : Working s.md.mode
  · refine .inr ⟨h, ?_⟩
    rw [lockout_mode h]
    simp [Working]
  · exact .inl (by rw [lockout_notWorking h])

/-! The routes of a raise (R444). -/

section Routes
variable (s : State) (st : ST) (mode : Nat) (r : Raise)

theorem routeTl_shown : unitsShown (routeTl s st mode r) = unitsShown s := by
  unfold routeTl
  exact ite_keeps unitsShown rfl (ite_keeps unitsShown rfl rfl)

theorem routeFabric_shown (code : Nat) : unitsShown (routeFabric s code) = unitsShown s := ite_keeps unitsShown rfl rfl

theorem routeSn_shown : unitsShown (routeSn s r) = unitsShown s := ite_keeps unitsShown rfl rfl

theorem routeApp_shown : unitsShown (routeApp s st r) = unitsShown s := ite_keeps unitsShown rfl rfl

theorem emcyPush_shown (f : List Byte) : unitsShown (emcyPush s f) = unitsShown s :=
  ite_keeps unitsShown rfl (ite_keeps unitsShown rfl rfl)

theorem routeEmcy_shown : unitsShown (routeEmcy s st r) = unitsShown s := ite_keeps unitsShown rfl (emcyPush_shown ..)

theorem routeCb_shown : unitsShown (routeCb s st r) = unitsShown s := ite_keeps unitsShown rfl rfl

theorem routeUsb_shown : unitsShown (routeUsb s st r) = unitsShown s := ite_keeps unitsShown rfl rfl

theorem routeLr_shown : unitsShown (routeLr s r) = unitsShown s := ite_keeps unitsShown rfl rfl

theorem route_shown {c : Prop} [Decidable c] {f : State → State} (hf : ∀ t, unitsShown (f t) = unitsShown t) :
    unitsShown (if c then f s else s) = unitsShown s := ite_keeps unitsShown (hf s) rfl

theorem routeRaise_shown : unitsShown (routeRaise st mode s r) = unitsShown s := by
  unfold routeRaise
  exact (route_shown _ (routeUsb_shown · st r)).trans <| (route_shown _ (routeCb_shown · st r)).trans <|
    (route_shown _ (routeEmcy_shown · st r)).trans <| (route_shown _ (routeApp_shown · st r)).trans <|
    (route_shown _ (routeTl_shown · st mode r)).trans <| (route_shown _ (routeSn_shown · r)).trans <|
    route_shown _ (routeFabric_shown · _)

theorem noteRaise_shown : unitsShown (noteRaise s r) = unitsShown s := routeLr_shown (recordRaise (now s) s r) r

theorem holdRaise_shown : unitsShown (holdRaise s r) = unitsShown s := by
  unfold holdRaise
  exact ite_keeps unitsShown rfl (ite_keeps unitsShown (routeTl_shown ..) rfl)

end Routes

theorem routeCycle_shown (s : State) : unitsShown (routeCycle s) = unitsShown s :=
  applyAll_keeps unitsShown (by intros; exact routeRaise_shown ..) _ _

theorem holdAll_shown (s : State) : unitsShown (holdAll s) = unitsShown s :=
  applyAll_keeps unitsShown (by intros; exact holdRaise_shown ..) _ _

/-! Rounds of raises (R443–R446). -/

theorem lockPass_standsOrLeft (s : State) (rs : List Raise) : StandsOrLeft s (lockPass s rs) :=
  StandsOrLeft.all (fun t r => by
    split
    · exact lockout_standsOrLeft t r.ev
    · exact .inl rfl) rs s

theorem settleRound_standsOrLeft (s : State) : StandsOrLeft s (settleRound s) := by
  unfold settleRound
  split
  · exact .inl rfl
  · split
    · exact .inl (holdAll_shown s)
    · exact (lockPass_standsOrLeft (modRm s _) _).trans
        (.inl (applyAll_keeps unitsShown (fun t r => noteRaise_shown t r) _ _))

theorem settleN_standsOrLeft (n : Nat) (s : State) : StandsOrLeft s (settleN n s) := by
  induction n generalizing s with
  | zero => exact .inl rfl
  | succ n ih =>
    unfold settleN
    split
    · exact .inl rfl
    · exact (settleRound_standsOrLeft s).trans (ih _)

theorem settle_standsOrLeft (s : State) : StandsOrLeft s (settle s) := settleN_standsOrLeft 8 s

theorem flushN_standsOrLeft (n : Nat) (s : State) : StandsOrLeft s (flushN n s) := by
  induction n generalizing s with
  | zero => exact .inl rfl
  | succ n ih =>
    unfold flushN
    split
    · exact .inl rfl
    · exact (StandsOrLeft.trans (.inl (routeCycle_shown s)) (settle_standsOrLeft _)).trans (ih _)

/-! The Last Ride, the answer that waited, the records (R348, R387, R422, R454). -/

theorem sendFrame_shown (s : State) (f : CanFrame) : unitsShown (sendFrame s f) = unitsShown s := rfl

theorem lrSend_shown (s : State) (op reason : Nat) : unitsShown (lrSend s op reason) = unitsShown s := sendFrame_shown ..

theorem raise_shown (s : State) (e a b : Nat) : unitsShown (raise s e a b) = unitsShown s := rfl

theorem canUp_shown (s : State) : unitsShown (canUp s) = unitsShown s := nmtTo_keeps unitsShown (by intros; rfl) (by intros; rfl) s 0 0

theorem lrWoken_shown (s : State) (cause reason : Nat) : unitsShown (lrWoken s cause reason) = unitsShown s := by
  unfold lrWoken
  exact ite_keeps unitsShown rfl ((raise_shown ..).trans (ite_keeps unitsShown (lrSend_shown (modLr s _) ..) rfl))

theorem lrWatch_shown (s : State) : unitsShown (lrWatch s) = unitsShown s := by
  have hend : ∀ r, unitsShown (lrEnd (lrSend s 7 r) 3 r s.net.nodeAct) = unitsShown s := fun r =>
    (raise_shown ..).trans (lrSend_shown s 7 r)
  unfold lrWatch
  exact ite_keeps unitsShown rfl <| ite_keeps unitsShown (lrSend_shown (modLr s _) ..) <|
    ite_keeps unitsShown (hend _) <| ite_keeps unitsShown ((lrWoken_shown ..).trans (canUp_shown s)) rfl

theorem rpdoRefused_shown (s : State) (k code : Nat) : unitsShown (rpdoRefused s k code) = unitsShown s := by
  unfold rpdoRefused
  exact ite_keeps unitsShown rfl (raise_shown ..)

theorem postedRefused_shown (s : State) (k code : Nat) : unitsShown (postedRefused s k code) = unitsShown s := raise_shown ..

theorem finishLate_shown (k v : Nat) (s : State) (p : Path) : unitsShown (finishLate k v s p) = unitsShown s := by
  have hanswer : unitsShown (answer s p (vStatus v)) = unitsShown s := rfl
  unfold finishLate
  cases p with
  | c => exact ite_keeps unitsShown hanswer (ite_keeps unitsShown ((postedRefused_shown ..).trans hanswer) hanswer)
  | h => exact hanswer
  | a => exact hanswer
  | n =>
    dsimp only
    split
    · exact hanswer
    · exact ite_keeps unitsShown ((rpdoRefused_shown ..).trans hanswer) hanswer

theorem answerClaim_shown (b s : State) : unitsShown (answerClaim b s) = unitsShown s := by
  unfold answerClaim
  split
  · exact ite_keeps unitsShown rfl (finishLate_shown ..)
  · rfl

theorem wmRearm_shown (s : State) : unitsShown (wmRearm s) = unitsShown s := ite_keeps unitsShown rfl rfl

theorem seRecord_shown (s : State) : unitsShown (seRecord s) = unitsShown s := by
  unfold seRecord
  exact ite_keeps unitsShown rfl (wmRearm_shown { s with se := { s.se with queue := s.se.queue.drop 128 } })

theorem copyTaken_shown (s : State) : unitsShown (copyTaken s) = unitsShown s := ite_keeps unitsShown rfl rfl

theorem debugFollow_shown (s : State) : unitsShown (debugFollow s) = unitsShown s := ite_keeps unitsShown rfl rfl

/-! The reset at the end of a power-down sequence, and the whole follow-up (R477). -/

theorem bootStraps_mode {s : State} (h : s.md.mode = .boot) : ¬ Working (bootStraps s).md.mode := by
  unfold bootStraps
  split
  · have hm : (recoveryEntry s).md.mode = .recovery := usbAttach_keeps (·.md.mode) (fun _ _ => rfl) _
    rw [hm]
    simp [Working]
  · rw [h]
    simp [Working]

theorem pfStep_of_shown {s t : State} (h : unitsShown t = unitsShown s) : pfStep t = pfStep s := by
  have hpf : t.pw.pf = s.pw.pf := congrArg (fun x => x.2.1) h
  unfold pfStep
  rw [hpf]

theorem StandsOrLeft.brownout {s t : State} (h : StandsOrLeft s t) (hs : ¬ (pfStep s = 6 ∧ s.pw.present = true)) :
    StandsOrLeft s (brownoutReset t) := by
  by_cases hp : pfStep t = 6 ∧ t.pw.present = true
  · obtain h | ⟨hw, -⟩ := h
    · have hpresent : t.pw.present = s.pw.present := congrArg (fun x => x.2.2) h
      exact absurd (pfStep_of_shown h ▸ hpresent ▸ hp) hs
    · refine .inr ⟨hw, ?_⟩
      unfold brownoutReset
      rw [if_pos (by simpa using hp)]
      exact bootStraps_mode rfl
  · unfold brownoutReset
    rwa [if_neg (by simpa using hp)]

theorem follow_standsOrLeft (b u : State) (h : ¬ (pfStep u = 6 ∧ u.pw.present = true)) : StandsOrLeft u (follow b u) := by
  have hraised := (StandsOrLeft.trans (.inl (debugFollow_shown u)) (settle_standsOrLeft _)).trans
    (.inl ((answerClaim_shown b _).trans (lrWatch_shown _)))
  have hround := hraised.trans (settle_standsOrLeft _)
  have hflush : StandsOrLeft u (if flushNow b (settle (answerClaim b (lrWatch (settle (debugFollow u)))))
      then ringFlush (settle (answerClaim b (lrWatch (settle (debugFollow u)))))
      else settle (answerClaim b (lrWatch (settle (debugFollow u))))) := by
    split
    · exact hround.trans (flushN_standsOrLeft 6 _)
    · exact hround
  have hrecord := hflush.trans (.inl ((seRecord_shown _).trans (copyTaken_shown _)))
  exact hrecord.brownout h

theorem dozeQueues_shown (s : State) : unitsShown (dozeQueues s) = unitsShown s := by
  unfold dozeQueues
  exact ite_keeps unitsShown rfl rfl

theorem domainsFollow_shown_units (s : State) : unitsShown (domainsFollow s) = unitsShown s := by
  rw [domainsFollow_eq]
  exact ite_keeps unitsShown rfl rfl

theorem finish_units (b u : State) (h : ¬ (pfStep u = 6 ∧ u.pw.present = true)) : StandsOrLeft u (finish b u) := by
  have hpending : ∀ s, unitsShown { s with pending := b.pending } = unitsShown s := fun _ => rfl
  exact (follow_standsOrLeft b u h).trans (.inl ((hpending _).trans ((domainsFollow_shown_units _).trans (dozeQueues_shown _))))

theorem followLeavesUnits : Claims.FollowLeavesUnits := fun b u hm h =>
  (finish_units b u h).elim unitsSame_of_shown fun ⟨hu, hf⟩ => absurd (hm ▸ hu) hf

end Sys2Proof.Machine

/-- Settles O5: every part of the follow-up leaves the units, or the engine has left the modes in which it works. -/
theorem followLeavesUnits : Obligations.FollowLeavesUnits := Sys2Proof.Machine.followLeavesUnits
end

section
/-!
PROOF. Writes of an object: a write that a check refuses leaves its status alone, whichever check it is; the order of the checks; what a
write that passes leaves (R21, R335, R338, R340).
-/

namespace Sys2Proof.Machine

open Sys2Proof

/-! Checks (R335). -/

/-- The first check that fails gives the verdict of them all. -/
theorem firstRefusal_refused {c : Nat} (h : c ≠ 0) (r : List Nat) : firstRefusal (c :: r) = c := if_neg h

theorem firstRefusal_passed {c : Nat} (h : c = 0) (r : List Nat) : firstRefusal (c :: r) = firstRefusal r := if_pos h

/-- A write that a check refuses leaves its status alone (R335). -/
theorem writeTx_refused {s : State} {p : Path} {k c : Nat} {bs : List Byte} {seen : List Nat} (hl : dictLive s = true)
    (he : s.ctl.epoch = none) (hk : k = okey 0x2002 1 → claimTie (touch s p) p (leNat bs) = none)
    (hj : judgeWrite (touch s p) p k bs = c) (hc : c ≠ 0) : writeTx s p k bs seen = (turnedAway s p (vStatus c), c) := by
  have hcontest : (if k = okey 0x2002 1 then claimTie (touch s p) p (leNat bs) else none) = none := by
    split
    · exact hk ‹_›
    · rfl
  unfold writeTx
  rw [epochFirst_none he]
  simp only [hl, hj, hc, hcontest, Bool.not_true, Bool.false_eq_true, if_false, ne_eq, not_false_eq_true, if_true]
  rfl

theorem writeTx_notLive {s : State} {p : Path} {k : Nat} {bs : List Byte} {seen : List Nat} (hl : dictLive s = false) :
    writeTx s p k bs seen = (s, vNone) := if_pos (by rw [hl]; rfl)

/-- A write of a value, of whatever data, that passes and is taken at once. -/
theorem writeTx_taken {s u : State} {p : Path} {k : Nat} {bs : List Byte} {seen : List Nat} (hl : dictLive s = true)
    (he : s.ctl.epoch = none) (hj : judgeWrite (touch s p) p k bs = 0) (hk : plainKey k) (ht : tieWinner (touch s p) p k = none)
    (hc : clsOf k ≠ .staged) (ha : applyWrite (touch s p) p k (dataValue k bs) seen = (u, 0)) :
    writeTx s p k bs seen = (taken u p k, 0) := by
  unfold writeTx
  rw [epochFirst_none he]
  simp only [hl, hj, hk.1, acceptWrite, tieKey_plain hk, ht, hc, ha, Bool.not_true, Bool.false_eq_true, if_false, ne_eq,
    not_true_eq_false]
  rfl

theorem exists_of_clsOf {k : Nat} {c : Cls} (h : clsOf k = c) (hc : c ≠ .none) : ∃ r, objRow k = some r ∧ r.cls = c := by
  unfold clsOf at h
  cases hr : objRow k with
  | none => rw [hr] at h; exact absurd h.symm hc
  | some r => rw [hr] at h; exact ⟨r, rfl, h⟩

/-- Check 2 refuses a SERVICE-ONLY write of another path in SERVICE with ACCESS: where the object's right lets the path write at all, the
session does not (R338). -/
theorem checkWriteRight_serviceOnly {s : State} {p : Path} {k : Nat} (v : Nat) (hm : s.md.mode = .service)
    (hp : sessionPath s ≠ some p) (hc : clsOf k = .serviceOnly) :
    checkWriteRight s p k v ≠ 0 ∧ vStatus (checkWriteRight s p k v) = 0x22 := by
  obtain ⟨r, hr, hcls⟩ := exists_of_clsOf hc (by decide)
  unfold checkWriteRight
  rw [hr]
  dsimp only
  cases r.rights.ofPath p <;> simp [hcls, hm, hp, vStatus]

theorem judgeWrite_right {s : State} {p : Path} {k : Nat} {bs : List Byte} (he : checkExists k = 0)
    (hr : checkWriteRight s p k (leNat bs) ≠ 0) : judgeWrite s p k bs = checkWriteRight s p k (leNat bs) :=
  (firstRefusal_passed he _).trans (firstRefusal_refused hr _)

theorem serviceOnlyFromOtherPath : Claims.ServiceOnlyFromOtherPath := fun s p idx sub data hm hp hl hep hex hc => by
  obtain ⟨hne, hst⟩ := checkWriteRight_serviceOnly (s := touch s p) (leNat data) hm (by rw [sessionPath_touch]; exact hp) hc
  have hw := writeTx_refused (seen := []) hl hep (fun h => absurd hc (by rw [h]; decide)) (judgeWrite_right hex hne) hne
  rw [hst] at hw
  exact next_congr (congrArg Prod.fst hw)

theorem checkExists_noIndex {k : Nat} (h : indexExists (k / 256) = false) : checkExists k = 0x21 := by
  unfold checkExists
  simp [h]

theorem writeChecksInOrder : Claims.WriteChecksInOrder := fun s p k bs =>
  ⟨fun h => (firstRefusal_refused (by rw [checkExists_noIndex h]; decide) _).trans (checkExists_noIndex h),
   fun h => firstRefusal_refused h _,
   judgeWrite_right,
   fun he hr hl => by simp [judgeWrite, firstRefusal, he, hr, hl],
   fun he hr hl h1 h2 hc => by simp [judgeWrite, firstRefusal, he, hr, hl, checkClaim, h1, h2, hc],
   fun he hr hl hc hm => by simp [judgeWrite, firstRefusal, he, hr, hl, hc, checkMode, hm],
   fun he hr hl hc hm => by
    simp only [judgeWrite, firstRefusal, he, hr, hl, hc, checkMode, hm, if_true]
    exact ite_eq_right_iff.mpr Eq.symm⟩

/-! Writes that pass (R21, R335, R340). -/

/-- The active objects. -/
def activeObjects (s : State) : SMap Int × SMap (List Byte) := (s.ctl.dict, s.ctl.doms)

theorem activeObjects_takeBack (k : Nat) (p : Path) (s : State) (w : TickWrite) : activeObjects (takeBack k p s w) = activeObjects s := by
  unfold takeBack
  dsimp only
  split <;> rfl

theorem activeObjects_noteTick (s : State) (p : Path) (k : Nat) (b : Bool) (o : Option Int) :
    activeObjects (noteTick s p k b o) = activeObjects s :=
  noteTick_keeps activeObjects (by intros; rfl) activeObjects_takeBack ..

/-- A write that is no command sets its object to the value its data spell, negative values among them. -/
theorem applyWrite_integer {s : State} {p : Path} {k : Nat} {v : Int} {seen : List Nat}
    (hk : plainKey k ∧ k ≠ okey 0x1010 1 ∧ k ≠ okey 0x1011 1) (h : command s p k v.toNat seen = none) :
    applyWrite s p k v seen = (effect s (putValue (notePre s k) k v) k v, 0) := by
  obtain ⟨⟨h1, h2, h3⟩, h4, h5⟩ := hk
  simp only [applyWrite, h1, h2, h3, h4, h5, if_false, h]

theorem objectWrites : Claims.ObjectWrites := fun s p idx sub _ =>
  ⟨fun hl => next_congr (congrArg Prod.fst (writeTx_notLive hl)),
   fun _ hl he hk hj hc => next_congr (congrArg Prod.fst (writeTx_refused hl he (fun h => absurd h hk) hj hc)),
   fun hl he hj hk ht =>
    ⟨fun hc =>
      have hobj := activeObjects_noteTick (touch s p) p (okey idx sub) true ((stagingOf (touch s p) p).vals.lookup (okey idx sub))
      ⟨_, next_congr (writeTx_staged hl he hj hk ht hc), congrArg Prod.fst hobj, congrArg Prod.snd hobj, upd_same _ p.idx _,
        (congrArg (fun g : Staging => g.vals.lookup _) (stagingOf_modStaging ..)).trans (lookup_stagePut ..)⟩,
     fun hc h1 h2 hcmd => next_congr (congrArg Prod.fst (writeTx_taken hl he hj hk ht hc (applyWrite_integer ⟨hk, h1, h2⟩ hcmd)))⟩⟩

end Sys2Proof.Machine

/-- Settles O10: whichever way check 2 refuses the write, its status is ACCESS, and a write that a check refuses leaves its status alone. -/
theorem serviceOnlyFromOtherPath : Obligations.ServiceOnlyFromOtherPath := Sys2Proof.Machine.serviceOnlyFromOtherPath

/-- Settles O39: the write by its verdict, and the checks by their order. -/
theorem dictionaryWrites : Obligations.DictionaryWrites := ⟨Sys2Proof.Machine.objectWrites, Sys2Proof.Machine.writeChecksInOrder⟩
end

section
/-!
PROOF. The Commit Gate: the paths whose sets a COMMIT takes, and an epoch that is rejected as a whole (R341–R343).
-/

namespace Sys2Proof.Machine

open Sys2Proof

/-! The paths of a mask (R341). -/

/-- A mask of the four sets, from whether each is taken. -/
def maskOf (f : Path → Bool) : Nat := sumN (Path.all.map (fun q => if f q then 2 ^ q.idx.val else 0))

theorem commitMask_own (s : State) (p : Path) : commitMask s p 1 = 2 ^ p.idx.val := by
  cases p <;> simp [commitMask, Path.all, sumN, Path.idx]

theorem bit_maskOf (f : Path → Bool) (q : Path) : bit (maskOf f) q.idx.val = f q := by
  have h : ∀ n h c a : Bool, ∀ k : Fin 4,
      bit (sumN [if n then 1 else 0, if h then 2 else 0, if c then 4 else 0, if a then 8 else 0]) k.val = [n, h, c, a][k] := by decide
  refine (h (f .n) (f .h) (f .c) (f .a) q.idx).trans ?_
  cases q <;> rfl

theorem bit_commitMask_all (s : State) (p q : Path) : bit (commitMask s p 2) q.idx.val = (decide (q = p) || !holdsAny s q) := by
  refine Eq.trans ?_ (bit_maskOf (fun q => decide (q = p) || !holdsAny s q) q)
  unfold commitMask maskOf
  simp

/-! The end of an epoch (R343). -/

/-- A late answer says no more of the dictionary than the status. -/
theorem finishLate_ctl (k v : Nat) (s : State) (p : Path) : (finishLate k v s p).ctl = (answer s p (vStatus v)).ctl := by
  have hrpdo : ∀ (t : State) (k c : Nat), (rpdoRefused t k c).ctl = t.ctl := fun _ _ _ => ite_keeps (·.ctl) rfl rfl
  unfold finishLate
  cases p with
  | c => exact ite_keeps (·.ctl) rfl (ite_keeps (·.ctl) rfl rfl)
  | h => rfl
  | a => rfl
  | n =>
    dsimp only
    split
    · rfl
    · exact ite_keeps (·.ctl) (hrpdo ..) rfl

/-- What the Commit Gate shows of itself, beside the status of its answers. -/
def gateShown (s : State) : (SMap Int × SMap (List Byte)) × Nat × Nat × Option Epoch × Vector Staging 4 :=
  (activeObjects s, s.ctl.lastReject, s.ctl.rejects, s.ctl.epoch, s.ctl.staging)

theorem gateShown_finishLate (k v : Nat) (s : State) (p : Path) : gateShown (finishLate k v s p) = gateShown s := by
  unfold gateShown activeObjects
  rw [finishLate_ctl]
  rfl

theorem path_idx_injective {p q : Path} (h : p.idx = q.idx) : p = q := by
  revert h
  cases p <;> cases q <;> decide

theorem stagingOf_modStaging_other {p q : Path} (s : State) (f : Staging → Staging) (h : p ≠ q) :
    stagingOf (modStaging s p f) q = stagingOf s q :=
  upd_other _ p.idx q.idx _ fun e => h (path_idx_injective e)

theorem stagingOf_emptySets (ps : List Path) (s : State) (p : Path) :
    stagingOf (emptySets s ps) p = if p ∈ ps then ⟨[], []⟩ else stagingOf s p := by
  unfold emptySets
  induction ps generalizing s with
  | nil => rfl
  | cons q ps ih =>
    rw [applyAll_cons, ih]
    by_cases hm : p ∈ ps
    · rw [if_pos hm, if_pos (List.mem_cons_of_mem q hm)]
    · rw [if_neg hm]
      by_cases hq : q = p
      · subst hq
        rw [if_pos List.mem_cons_self]
        exact stagingOf_modStaging ..
      · rw [if_neg (by simp [hm, Ne.symm hq])]
        exact stagingOf_modStaging_other _ _ hq

theorem emptySets_keeps {β : Type} (φ : CtlSt → β) (hφ : ∀ c v, φ { c with staging := v } = φ c) (s : State) (ps : List Path) :
    φ (emptySets s ps).ctl = φ s.ctl :=
  applyAll_keeps (f := fun t p => modStaging t p (fun _ => ⟨[], []⟩)) (fun s => φ s.ctl) (fun _ _ => hφ _ _) ps s

/-- An epoch of which one object breaks a rule of R343: every set is empty, and no object is changed. -/
theorem runEpoch_rejected {s : State} {e : Epoch} {k : Nat} (he : s.ctl.epoch = some e)
    (hx : (epochKeys s (maskPaths e.mask)).find? (fun k => !crossOk s ((activeView s).over
      (epochVals s (maskPaths e.mask) (epochKeys s (maskPaths e.mask))) (epochDoms s (maskPaths e.mask) (epochKeys s (maskPaths e.mask)))) k) =
      some k) :
    gateShown (runEpoch s) = (activeObjects s, k, inc32 s.ctl.rejects, none,
      (emptySets { s with ctl := { s.ctl with epoch := none } } (maskPaths e.mask)).ctl.staging) := by
  unfold runEpoch
  rw [he]
  dsimp only
  rw [hx]
  refine (applyAll_keeps gateShown (gateShown_finishLate _ _) ..).trans ?_
  exact Prod.ext (emptySets_keeps (fun c => (c.dict, c.doms)) (fun _ _ => rfl) ..)
    (Prod.ext rfl (Prod.ext (congrArg inc32 (emptySets_keeps (·.rejects) (fun _ _ => rfl) ..))
      (Prod.ext (emptySets_keeps (·.epoch) (fun _ _ => rfl) ..) rfl)))

theorem commitGate : Claims.CommitGate := fun s =>
  ⟨fun _ h => next_congr (writeNum_commit (n := 1) h (by decide) (commit_first (by decide) h.2.1) (by decide)),
   fun _ h => next_congr (writeNum_commit (n := 2) h (by decide) (commit_first (by decide) h.2.1) (by decide)),
   fun _ h => next_congr (writeNum_commit (n := 3) h (by decide) rfl (by decide)),
   commitMask_own s,
   bit_commitMask_all s,
   fun e ps ks vs ds hl he hps hks hvs hds => by
    subst hps hks hvs hds
    refine ⟨fun k hx => ?_, fun hx => ?_⟩
    · have hrun := runEpoch_rejected he hx
      simp only [gateShown, activeObjects, Prod.mk.injEq] at hrun
      obtain ⟨⟨hdict, hdoms⟩, hlast, hrej, hep, hset⟩ := hrun
      refine ⟨runEpoch s, next_live hl (by rw [he]; rfl) rfl, hdict, hdoms, hlast, hrej, hep, fun p hp => ?_⟩
      exact (congrArg (fun v : Vector Staging 4 => v[p.idx]) hset).trans ((stagingOf_emptySets ..).trans (if_pos hp))
    · obtain ⟨t, ht, hrun⟩ := runEpoch_accepted he hx
      exact ⟨t, ht, next_live hl (by rw [he]; rfl) hrun⟩⟩

end Sys2Proof.Machine

/-- Settles O40: a COMMIT's mask bit by bit, and an epoch by the first object that breaks a rule, if any does. -/
theorem commitGate : Obligations.CommitGate := Sys2Proof.Machine.commitGate
end

section
/-!
PROOF. Writes of a number that a check refuses, and the claims: a group of another path, RELEASE, and a lease that is over (R335,
R347–R349).
-/

namespace Sys2Proof.Machine

open Sys2Proof

/-! The data of a number (R335, check 3). -/

section NumData
variable {k : Nat} {t : ObjType} (h : (objRow k).map (·.ty) = some t)
include h

theorem leNat_numData {n : Nat} (ht : t.signed = false) (hn : n < 2 ^ (8 * t.bytes)) : leNat (numData k n) = n := by
  obtain ⟨r, hr, rfl⟩ := Option.map_eq_some_iff.mp h
  unfold numData
  simp only [hr, ObjType.toData]
  rw [toBits_of_lt hn, leNat_leBytes, Nat.mod_eq_of_lt]
  rwa [Nat.pow_mul] at hn

theorem checkLength_numData (v : Int) (ht : t ≠ .dom ∧ t ≠ .str ∧ t ≠ .bool) : checkLength k (numData k v) = 0 := by
  obtain ⟨r, hr, rfl⟩ := Option.map_eq_some_iff.mp h
  obtain ⟨hdom, hstr, hbool⟩ := ht
  unfold checkLength numData
  simp [hr, ObjType.toData, leBytes_length, hdom, hstr, hbool]

end NumData

/-- A write of a number that a check refuses. -/
theorem doWrite_refused {s : State} {p : Path} {k c : Nat} {v : Int} {seen : List Nat} (hl : dictLive s = true)
    (he : s.ctl.epoch = none) (hk : k = okey 0x2002 1 → claimTie (touch s p) p (leNat (numData k v)) = none)
    (hj : judgeWrite (touch s p) p k (numData k v) = c) (hc : c ≠ 0) :
    doWrite p k v seen s = .next (finish s (turnedAway s p (vStatus c))) :=
  next_congr (congrArg Prod.fst (writeTx_refused hl he hk hj hc))

/-- An object that check 2 closes for a while answers ACCESS, whatever the path's right to it (R335). -/
theorem checkWriteRight_window {s : State} {p : Path} {k v : Nat} (hrow : (objRow k).isSome = true)
    (h : windowRefuses s p (k / 256) (k % 256) v = true) :
    checkWriteRight s p k v ≠ 0 ∧ vStatus (checkWriteRight s p k v) = 0x22 := by
  obtain ⟨r, hr⟩ := Option.isSome_iff_exists.mp hrow
  unfold checkWriteRight
  rw [hr]
  dsimp only
  cases r.rights.ofPath p <;> simp [h, vStatus]

/-! Claims (R347–R349). -/

theorem claimTie_alone {s : State} {p : Path} {g : Nat} (h : tickWrites s = []) : claimTie s p g = none := by
  simp [claimTie, h]

theorem holder_touch (s : State) (p : Path) (g : Nat) : holder (touch s p) g = holder s g := by
  unfold holder atN touch
  by_cases hg : g < 24
  · simp only [hg, dif_pos, Vector.getElem_map]
    split <;> rfl
  · simp only [hg, dif_neg, not_false_eq_true]

/-- CLAIM and RELEASE of a group that another path holds fail check 4 (R347). -/
theorem judgeWrite_heldByOther {s : State} {p q : Path} {sub : Fin 3} {g : Nat} (hs : 1 ≤ sub.val) (hg : g < 24)
    (hh : holder s g = some q) (hq : q ≠ p) (hw : checkWriteRight s p (okey 0x2002 sub.val) g = 0) :
    judgeWrite s p (okey 0x2002 sub.val) (numData (okey 0x2002 sub.val) g) = 0x25 := by
  have hrow : ∀ sub : Fin 3, 1 ≤ sub.val → (objRow (okey 0x2002 sub.val)).map (·.ty) = some .u8 ∧
      checkExists (okey 0x2002 sub.val) = 0 ∧ (okey 0x2002 sub.val = okey 0x2002 1 ∨ okey 0x2002 sub.val = okey 0x2002 2) := by decide
  obtain ⟨hty, hex, hkey⟩ := hrow sub hs
  have hdata := leNat_numData hty (n := g) rfl (by simp [ObjType.bytes]; omega)
  have hclaim : checkClaim s p (okey 0x2002 sub.val) g = 0x25 := by
    have h255 : g ≠ 255 := by omega
    simp [checkClaim, hkey, hh, hq, h255]
  simp [judgeWrite, firstRefusal, hdata, hex, hw, checkLength_numData hty g (by decide), hclaim]

theorem holder_setClaim_none (s : State) {g : Nat} (hg : g < 24) : holder (setClaim s g ⟨none, 0⟩) g = none := by
  simp [holder, setClaim, atN, updN, hg]

theorem claimRelease_held {s : State} {p : Path} {g : Nat} (h0 : g ≠ 0) (hg : g < 24) (hh : holder s g = some p) :
    claimRelease s p g = setClaim s g ⟨none, 0⟩ := by
  unfold claimRelease freeGroup
  rw [if_neg (by omega), if_pos hh]
  exact if_neg h0

theorem claimCommands : Claims.ClaimCommands := fun s =>
  ⟨fun p g h1 h24 h ht => next_congr (writeNum_claims (sub := 1) (d := 0) (by decide) h (by omega) ht
      ((applyWrite_claim ..).trans (claimCmd_group (by omega))) (by decide)),
   fun p g hg => holder_claimGrant s p hg,
   fun p q g hg hh hq hl he ht hw => doWrite_refused (c := 0x25) hl he (fun _ => claimTie_alone ht)
      (judgeWrite_heldByOther (sub := 1) (by decide) hg ((holder_touch ..).trans hh) hq hw) (by decide),
   fun _ hm ht hf hh h hw => serviceClaim_standby hm ht hf hh h hw,
   fun p g hg h ht => next_congr (writeNum_claims (sub := 2) (d := 0) (by decide) h (by omega) ht (applyWrite_release ..) (by decide)),
   fun p q g hg hh hq hl he hw => doWrite_refused (c := 0x25) hl he (fun h => absurd h (by decide))
      (judgeWrite_heldByOther (sub := 2) (by decide) hg ((holder_touch ..).trans hh) hq hw) (by decide),
   fun p g h0 hg hh => by rw [claimRelease_held h0 hg hh]; exact holder_setClaim_none s hg,
   fun g p hl h0 hle hh => next_live hl hle (claimLapse_group h0 hh)⟩

end Sys2Proof.Machine

/-- Settles O41: a claim, a release and a lease by what holds the group. -/
theorem claimGroups : Obligations.ClaimGroups := Sys2Proof.Machine.claimCommands
end

section
/-!
PROOF. The stored set: what SAVE writes and where, and how the store ends (R38, R351–R353).
-/

namespace Sys2Proof.Machine

open Sys2Proof

/-- The slot of a store is never the current one (R351). -/
theorem storeSlot_ne_currentSlot {s : State} {x : Fin 2} (h : currentSlot s = some x) : storeSlot s ≠ x := by
  have hother : ∀ x : Fin 2, (match some x with | some 0 => (1 : Fin 2) | _ => 0) ≠ x := by decide
  unfold storeSlot
  rw [h]
  exact hother x

/-- The generation of a store: one more than the current slot's, 1 where there is none. -/
def storeGen (s : State) : Nat := match currentSlot s with | some i => wrap 32 (s.ctl.slots[i].gen + 1) | none => 1

/-- The slot as a store begins it. -/
def storeBegun (s : State) : ParamSlot :=
  ⟨false, s.boot.slots[s.boot.running].layout, storeGen s, storeVals s, storeDoms s⟩

theorem storeAll_begins {s : State} {p : Path} (h : s.ctl.storeState ≠ 1) :
    storeAll s p = ({ s with ctl := { s.ctl with
      storeState := 1, storeBy := some p, storeTo := storeSlot s, slots := upd s.ctl.slots (storeSlot s) (fun _ => storeBegun s) } },
      vLate) := if_neg h

/-- What a store shows of itself, the slots and the active values. -/
def storedShown (s : State) : (Nat × Option Path × Fin 2) × Vector ParamSlot 2 × SMap Int :=
  (storeShown s, s.ctl.slots, s.ctl.dict)

theorem storedShown_takeBack (k : Nat) (p : Path) (s : State) (w : TickWrite) : storedShown (takeBack k p s w) = storedShown s := by
  unfold takeBack
  dsimp only
  split <;> rfl

theorem storedShown_noteTick (s : State) (p : Path) (k : Nat) (b : Bool) (o : Option Int) :
    storedShown (noteTick s p k b o) = storedShown s :=
  noteTick_keeps storedShown (by intros; rfl) storedShown_takeBack ..

/-- SAVE, its answer still to come. -/
theorem writeNum_storeAll_stored {s : State} {p : Path} (h : Passes s p (okey 0x1010 1) 0x65766173) (hs : s.ctl.storeState ≠ 1) :
    storedShown (writeNum s p (okey 0x1010 1) 0x65766173 []).1 =
      ((1, some p, storeSlot s), upd s.ctl.slots (storeSlot s) (fun _ => storeBegun (touch s p)), s.ctl.dict) := by
  have ha : applyWrite (touch s p) p (okey 0x1010 1) (dataValue (okey 0x1010 1) (numData (okey 0x1010 1) 0x65766173)) [] = _ :=
    storeAll_begins (s := touch s p) (p := p) hs
  rw [writeNum_passes h (by decide) (by decide) ha, if_neg (by decide)]
  exact storedShown_noteTick _ p _ false none

theorem storeDone_succeeds {s : State} {p : Path} (h : s.ctl.storeBy = some p) :
    (storeDone s true).ctl.storeState = 2 ∧ (storeDone s true).ctl.slots[s.ctl.storeTo].valid = true ∧
      (storeDone s true).ctl.stores = inc32 s.ctl.stores ∧
      (storeDone s true).ctl.preimg = preimgLeft s s.ctl.slots[s.ctl.storeTo] := by
  obtain ⟨hstate, hvalid⟩ := storeDone_ok h
  refine ⟨hstate, hvalid, ?_⟩
  unfold storeDone
  rw [h]
  dsimp only
  rw [if_pos rfl, finishLate_ctl]
  exact ⟨rfl, rfl⟩

theorem storeDone_fails {s : State} {p : Path} (h : s.ctl.storeBy = some p) :
    (storeDone s false).ctl.storeState = 3 ∧ (storeDone s false).ctl.slots = s.ctl.slots ∧
      (storeDone s false).ctl.stores = s.ctl.stores := by
  unfold storeDone
  rw [h]
  dsimp only
  rw [if_neg (by decide), finishLate_ctl]
  exact ⟨rfl, rfl, rfl⟩

theorem storedSet : Claims.StoredSet := fun s =>
  ⟨fun p h hs => by
    have hshown := writeNum_storeAll_stored h hs
    simp only [storedShown, storeShown, Prod.mk.injEq] at hshown
    obtain ⟨⟨hstate, hby, hto⟩, hslots, hdict⟩ := hshown
    have hslot : (writeNum s p (okey 0x1010 1) 0x65766173 []).1.ctl.slots[storeSlot s] = storeBegun (touch s p) := by
      rw [hslots]; exact upd_same ..
    have hgen : (writeNum s p (okey 0x1010 1) 0x65766173 []).1.ctl.slots[storeSlot s].gen = storeGen s := congrArg ParamSlot.gen hslot
    refine ⟨_, rfl, hstate, hby, hto, fun x hx => ⟨?_, ?_, storeSlot_ne_currentSlot hx⟩, fun hx => ?_,
      congrArg ParamSlot.valid hslot, hdict⟩
    · rw [hgen, storeGen, hx]
    · rw [hslots]; exact upd_other _ _ _ _ (storeSlot_ne_currentSlot hx)
    · rw [hgen, storeGen, hx],
   fun p hl hs hb => ⟨⟨storeDone s true, next_live hl (by rw [hs]; rfl) rfl, storeDone_succeeds hb⟩,
     ⟨storeDone s false, next_live hl (by rw [hs]; rfl) rfl, storeDone_fails hb⟩⟩,
   fun p h => doWrite_taken h (by decide) (by decide) 0x64616F6C (by decide) rfl⟩

end Sys2Proof.Machine

/-- Settles O42: a store as it begins and by how it ends, and the load signature as a write that is taken. -/
theorem storedSet : Obligations.StoredSet := Sys2Proof.Machine.storedSet
end

section
/-!
PROOF. The Job Ledger: a CMD by the state of the selected entry, and the arming of QUEUED entries (R354–R359).
-/

namespace Sys2Proof.Machine

open Sys2Proof

/-! CMD that passes (R355, R358, R359). -/

theorem jobSubmit_queues {s : State} {e : Fin 64} (h : submitOk s e (jobUnitLane s s.ledger.jobs[e]) = true) : ∃ u : State,
    jobSubmit s e = (u, 0) ∧ u.ledger.nextOrder = s.ledger.nextOrder + 1 ∧
      u.ledger.jobs[e] = { s.ledger.jobs[e] with
        state := 1, cause := 0, progress := 0, stActive := 0, stEnd := 0, ignored := 0, order := s.ledger.nextOrder, actOrder := 0,
        resv := 0, waitEv := false, conflict := false } ∧
      ∀ f : Fin 64, f ≠ e → u.ledger.jobs[f] = s.ledger.jobs[f] :=
  ⟨_, if_neg (by rw [h]; decide), rfl, modJob_same .., fun f hf => upd_other _ e f _ hf.symm⟩

theorem jobSubmit_refused {s : State} {e : Fin 64} (h : submitOk s e (jobUnitLane s s.ledger.jobs[e]) = false) :
    jobSubmit s e = (s, 0x23) := if_pos (by rw [h]; rfl)

theorem jobEnd_eq (s : State) (e : Fin 64) : jobEnd s e =
    jobFinish s e (if s.ledger.jobs[e].state = 3 then 4 else 5) (if s.ledger.jobs[e].state = 3 then 19 else 9) := by
  unfold jobEnd
  split <;> rfl

theorem ledgerCommands : Claims.LedgerCommands := fun s p e he => by
  subst he
  exact
  ⟨fun h hok => by
    obtain ⟨u, hu, hnext, hentry, hothers⟩ := jobSubmit_queues (s := touch s p) hok
    exact ⟨u, doWrite_command (n := 1) h (by decide) ((command_jobCmd ..).trans (congrArg some hu)), congrArg Job.state hentry,
      congrArg Job.order hentry, hnext, congrArg Job.progress hentry, (congrArg Job.first hentry).trans rfl,
      (congrArg Job.last hentry).trans rfl, hothers⟩,
   fun h hok => doWrite_command_turnedAway (n := 1) (d := 0x23) h (by decide)
     ((command_jobCmd ..).trans (congrArg some (jobSubmit_refused (s := touch s p) hok))) (by decide),
   fun h => doWrite_command (n := 2) h (by decide) (command_jobCmd ..),
   fun h => doWrite_command (n := 3) h (by decide)
     ((command_jobCmd ..).trans (congrArg (fun u => some (u, 0)) (jobEnd_eq (touch s p) _))),
   fun h => doWrite_command (n := 4) h (by decide) (command_jobCmd ..),
   fun h => ⟨ledgerClear (touch s p), doWrite_command (n := 1) h (by decide) (command_ledgerClear ..), ledgerClear_jobs _⟩⟩

/-! CMD on an entry in another state (R355, R359). -/

theorem windowRefuses_jobCmd {s : State} {p : Path} {v : Nat} (h1 : 1 ≤ v) (h4 : v ≤ 4)
    (h : jobCmdFits v s.ledger.jobs[jobSel s p].state = false) : windowRefuses s p 0x2020 10 v = true := by
  simp only [windowRefuses, within, h, h1, h4]
  rfl

/-- A CMD that does not apply to the state of the selected entry fails check 2 with ACCESS. -/
theorem doWrite_jobCmd_outOfState {s : State} {p : Path} {v : Nat} (hl : dictLive s = true) (he : s.ctl.epoch = none) (h1 : 1 ≤ v)
    (h4 : v ≤ 4) (h : jobCmdFits v s.ledger.jobs[jobSel s p].state = false) :
    doWrite p (okey 0x2020 10) v [] s = .next (finish s (turnedAway s p 0x22)) := by
  have hdata : leNat (numData (okey 0x2020 10) v) = v :=
    leNat_numData (k := okey 0x2020 10) (t := .u8) (by decide) rfl (by simp [ObjType.bytes]; omega)
  obtain ⟨hne, hst⟩ := checkWriteRight_window (s := touch s p) (p := p) (k := okey 0x2020 10) (v := v) (by decide)
    (windowRefuses_jobCmd (s := touch s p) h1 h4 h)
  rw [← hst]
  refine doWrite_refused hl he (fun h => absurd h (by decide)) ?_ hne
  refine (judgeWrite_right (by decide) ?_).trans ?_ <;> rw [hdata]
  exact hne

theorem jobCmdFits_abort {st : Nat} (h : st = 0 ∨ 4 ≤ st) : jobCmdFits 2 st = false := by
  simp only [jobCmdFits, Bool.or_eq_false_iff, beq_eq_false_iff_ne]
  omega

theorem ledgerCommandsOutOfState : Claims.LedgerCommandsOutOfState := fun s p hl he =>
  ⟨fun h => doWrite_jobCmd_outOfState (v := 1) hl he (by decide) (by decide) (by simpa [jobCmdFits] using h),
   fun h => doWrite_jobCmd_outOfState (v := 2) hl he (by decide) (by decide) (jobCmdFits_abort h),
   fun h2 h3 => doWrite_jobCmd_outOfState (v := 3) hl he (by decide) (by decide) (by simpa [jobCmdFits] using ⟨h2, h3⟩),
   fun h4 h5 => doWrite_jobCmd_outOfState (v := 4) hl he (by decide) (by decide) (by simpa [jobCmdFits] using ⟨h4, h5⟩)⟩

/-! Arming (R356). -/

theorem jobPort_print {j : Job} (h : j.kind = 1 ∨ j.kind = 2) : jobPort j = none := by
  rcases h with h | h <;> simp [jobPort, h]

theorem jobTryArm_print {s : State} {e : Fin 64} (hs : s.ledger.jobs[e].state = 1)
    (hk : s.ledger.jobs[e].kind = 1 ∨ s.ledger.jobs[e].kind = 2) : jobTryArm s e = jobArmNow s e := by
  unfold jobTryArm
  dsimp only
  rw [if_neg (not_not_intro hs), jobPort_print hk]

theorem jobTryArm_notQueued {s : State} {e : Fin 64} (hs : s.ledger.jobs[e].state ≠ 1) : jobTryArm s e = s := if_pos hs

theorem ledgerArms : Claims.LedgerArms := fun s hl =>
  ⟨fun hr => next_live hl rfl (if_pos hr),
   fun hr => next_live hl rfl (if_neg (by rw [hr]; decide)),
   fun _ => jobTryArm_print,
   fun _ => jobTryArm_notQueued⟩

end Sys2Proof.Machine

/-- Settles O43: each CMD by the verdict on it, and arming entry by entry. -/
theorem jobLedger : Obligations.JobLedger :=
  ⟨Sys2Proof.Machine.ledgerCommands, Sys2Proof.Machine.ledgerCommandsOutOfState, Sys2Proof.Machine.ledgerArms⟩
end

section
/-!
PROOF. The PDOs: an RPDO by its length and its type, a TPDO by what asks for it, and a write of a PDO's parameters (R368–R374, R416).
-/

namespace Sys2Proof.Machine

open Sys2Proof

/-! RPDOs (R372–R374, R416). -/

section Rpdo
variable {s : State} {n : Fin 4} {bs : List Byte}

theorem rpdoReceive_notLive (h : pdoLive s = false) : rpdoReceive s n bs = s := if_pos (by rw [h]; rfl)

section Valid
variable (hl : pdoLive s = true) (hv : rpdoValid s n = true)
include hl hv

theorem rpdoReceive_short (hb : bs.length < sumN ((rpdoEntries s n).map entryBytes)) :
    rpdoReceive s n bs = raise (modNet s (fun x => { x with rpdoShort := inc32 x.rpdoShort })) 470 (n.val + 1) bs.length := by
  unfold rpdoReceive
  rw [if_neg (by rw [hl, hv]; decide), if_pos hb]

theorem rpdoReceive_waits (hb : sumN ((rpdoEntries s n).map entryBytes) ≤ bs.length) (ht : objN s (0x1400 + n.val) 2 ≤ 240) :
    rpdoReceive s n bs = { s with pdo := { s.pdo with waits := upd s.pdo.waits n (fun _ => some bs) } } := by
  unfold rpdoReceive
  rw [if_neg (by rw [hl, hv]; decide), if_neg (Nat.not_lt.mpr hb), if_pos ht]

end Valid
end Rpdo

theorem rpdosReceived : Claims.RpdosReceived := fun s n bs need hneed => by
  subst hneed
  exact ⟨fun h => next_congr (rpdoReceive_notLive h), fun hl hv hb => next_congr (rpdoReceive_short hl hv hb),
    fun hl hv hb ht => next_congr (rpdoReceive_waits hl hv hb ht), fun hl hv hb ht => next_congr (rpdoReceive_async hl hv hb ht)⟩

/-! TPDOs (R371, R372, R374). -/

section Tpdo
variable {s : State} {n : Fin 4}

theorem syncReceive_notOperational (hc : canLive s = true) (hn : s.net.nmt ≠ 5) : syncReceive s = dropWaits s := by
  have hp : pdoLive s = false := by simp [pdoLive, hn]
  unfold syncReceive
  rw [if_neg (by rw [hc]; decide), if_pos (by rw [hp]; rfl)]

theorem pdoEnd_one {x : PdoAsk} (h : s.pdo.asks = [x]) : pdoEnd s = pdoTurn { s with pdo := { s.pdo with asks := [] } } x := by
  unfold pdoEnd
  rw [h]
  rfl

theorem pdoTurn_sync (hl : pdoLive s = true) : pdoTurn s .sync = applyAll tpdoSync s (allFin 4) := if_pos hl

theorem modTpdo_same (s : State) (n : Fin 4) (f : Tpdo → Tpdo) : (modTpdo s n f).pdo.tpdos[n] = f s.pdo.tpdos[n] := upd_same _ n f

/-- What an update leaves of the time of the last send and of the clock, it leaves of the inhibit time. -/
theorem tpdoFree_modTpdo (f : Tpdo → Tpdo) (hf : ∀ t, (f t).sentSt = t.sentSt) : tpdoFree (modTpdo s n f) n = tpdoFree s n := by
  unfold tpdoFree
  rw [modTpdo_same, hf]
  rfl

section ChangeTest
variable (hl : pdoLive s = true) (hev : tpdoEvent s n = true) (ht : tpdoTests s n = true)
include hl hev ht

theorem tpdoChange_changed (hp : tpdoPayload s n ≠ s.pdo.tpdos[n].sent) :
    tpdoChange s n = tpdoDue (modTpdo s n (fun x => { x with testSt := some (now s) })) n := by
  unfold tpdoChange
  rw [if_pos (by rw [hl, hev, ht]; rfl)]
  exact if_pos (bne_iff_ne.mpr hp)

theorem tpdoChange_unchanged (hp : tpdoPayload s n = s.pdo.tpdos[n].sent) :
    tpdoChange s n = modTpdo s n (fun x => { x with testSt := some (now s) }) := by
  unfold tpdoChange
  rw [if_pos (by rw [hl, hev, ht]; rfl)]
  exact if_neg (by rw [hp]; simp)

end ChangeTest

theorem tpdoChange_notDue (h : pdoLive s = false ∨ tpdoTests s n = false) : tpdoChange s n = s := by
  unfold tpdoChange
  rcases h with h | h <;> simp [h]

theorem tpdoDue_free (h : tpdoFree s n = true) : tpdoDue s n = tpdoSend s n := if_pos h

theorem tpdoDue_held (h : tpdoFree s n = false) : tpdoDue s n = modTpdo s n (fun t => { t with due := true }) :=
  if_neg (by rw [h]; decide)

theorem tpdoTimer_expired (hl : pdoLive s = true) (hev : tpdoEvent s n = true) (hms : objN s (0x1800 + n.val) 5 ≠ 0)
    (ht : s.pdo.tpdos[n].timerSt + objN s (0x1800 + n.val) 5 * 200000 ≤ now s) :
    tpdoTimer s n = tpdoDue (modTpdo s n (fun t => { t with timerSt := now s })) n := by
  unfold tpdoTimer
  dsimp only
  rw [if_neg (by simp [hms, hev]; exact ht)]
  exact if_pos hl

section Held
variable (hd : s.pdo.tpdos[n].due = true) (hf : tpdoFree s n = true)
include hd hf

theorem tpdoInhibitEnd_sends (hl : pdoLive s = true) (hev : tpdoEvent s n = true) : tpdoInhibitEnd s n = tpdoSend s n := by
  unfold tpdoInhibitEnd
  rw [if_neg (by rw [hd, hf]; decide), if_pos (by rw [hl, hev]; rfl)]

theorem tpdoInhibitEnd_discards (hl : pdoLive s = false) : tpdoInhibitEnd s n = modTpdo s n (fun t => { t with due := false }) := by
  unfold tpdoInhibitEnd
  rw [if_neg (by rw [hd, hf]; decide), if_neg (by rw [hl]; simp)]

end Held

theorem tpdoSend_tpdo (s : State) (n : Fin 4) : (tpdoSend s n).pdo.tpdos[n] =
    { s.pdo.tpdos[n] with sent := tpdoPayload s n, sentSt := some (now s), timerSt := now s, due := false } := modTpdo_same _ n _

end Tpdo

theorem tpdosSent : Claims.TpdosSent := fun s n =>
  ⟨fun hc hn => next_congr (syncReceive_notOperational hc hn),
   fun hl => next_congr (syncReceive_live hl),
   ⟨rfl, rfl, rfl⟩,
   fun _ => pdoEnd_one,
   pdoTurn_sync,
   fun t ht hl hev htest => by
    subst ht
    have hfree := tpdoFree_modTpdo (s := s) (n := n) (fun x => { x with testSt := some (now s) }) fun _ => rfl
    exact ⟨fun hp hf => (tpdoChange_changed hl hev htest hp).trans (tpdoDue_free (hfree.trans hf)),
      fun hp hf => (tpdoChange_changed hl hev htest hp).trans (tpdoDue_held (hfree.trans hf)),
      tpdoChange_unchanged hl hev htest⟩,
   tpdoChange_notDue,
   tpdoTimer_expired,
   fun hd hf => ⟨tpdoInhibitEnd_sends hd hf, tpdoInhibitEnd_discards hd hf⟩,
   congrArg Tpdo.sent (tpdoSend_tpdo s n), congrArg Tpdo.sentSt (tpdoSend_tpdo s n), congrArg Tpdo.due (tpdoSend_tpdo s n), rfl⟩

/-! Parameters (R370, R378). -/

theorem mem_cobSet_putValue {s : State} {k : Nat} {v : Int} (h : isCob (k / 256) (k % 256) = true) : k ∈ (putValue s k v).ctl.cobSet := by
  unfold putValue
  dsimp only
  by_cases hc : (if keepsValue k then setObjK s k v else s).ctl.cobSet.contains k = true
  · rw [if_neg (by rw [hc]; simp)]
    simpa using hc
  · rw [if_pos (by rw [h, Bool.eq_false_iff.mpr hc]; rfl)]
    simp

/-- A write of a COB-ID: it reads the value, and counts as written. -/
theorem doWrite_cobId {s : State} {p : Path} {k n : Nat} (h : Passes s p k n) (hk : TakesNumber k n) (hlow : k / 256 < 0x2000)
    (hv : keepsValue k = true) (hcob : isCob (k / 256) (k % 256) = true) :
    ∃ u, doWrite p k n [] s = .next (finish s (taken u p k)) ∧ objK u k = n ∧ k ∈ u.ctl.cobSet := by
  refine ⟨effect (touch s p) (putValue (notePre (touch s p) k) k n) k n,
    doWrite_taken h hk.1 hk.2.1.1 n hk.2.2 (applyWrite_value hk.2.1 (command_communication hlow)), ?_, ?_⟩
  · unfold objK
    rw [effect_communication_ctl hlow]
    exact objK_putValue hv
  · rw [effect_communication_ctl hlow]
    exact mem_cobSet_putValue hcob

theorem isCob_cobId : ∀ (tx : Bool) (n : Fin 4),
    isCob (okey (0x1400 + 0x400 * b2n tx + n.val) 1 / 256) (okey (0x1400 + 0x400 * b2n tx + n.val) 1 % 256) = true := by decide

theorem takesUnsigned_pdoType : ∀ (tx : Bool) (n : Fin 4), TakesUnsigned (okey (0x1400 + 0x400 * b2n tx + n.val) 2) 1 ∧
    okey (0x1400 + 0x400 * b2n tx + n.val) 2 / 256 < 0x2000 ∧ keepsValue (okey (0x1400 + 0x400 * b2n tx + n.val) 2) = true := by
  decide

theorem objRow_pdoMap : ∀ (tx : Bool) (n : Fin 4) (sub : Fin 65), 1 ≤ sub.val →
    (objRow (okey (0x1600 + 0x400 * b2n tx + n.val) sub.val)).map (·.ty) = some .u32 ∧
    checkExists (okey (0x1600 + 0x400 * b2n tx + n.val) sub.val) = 0 := by
  decide +kernel

theorem pdoMapWrite_entry {s : State} {p : Path} {tx : Bool} {n : Fin 4} {sub v : Nat} (h1 : 1 ≤ sub) :
    exec (.pdoMapWrite p tx n sub v) s = doWrite p (okey (0x1600 + 0x400 * b2n tx + n.val) sub) v [] s := by
  show doWrite p (if sub = 0 then _ else _) v [] s = _
  rw [if_neg (by omega)]

theorem claimLets_touch (s : State) (p q : Path) (idx : Nat) : claimLets (touch s p) q idx = claimLets s q idx := by
  unfold claimLets
  simp only [holder_touch]

theorem modeLets_touch (s : State) (p q : Path) (c : Cls) : modeLets (touch s p) q c = modeLets s q c := by
  unfold modeLets
  rw [sessionPath_touch]
  rfl

theorem valueOk10_pdoMap {s : State} {idx sub v : Nat} (h : idx / 4 = 0x580 ∨ idx / 4 = 0x680) :
    valueOk10 s idx sub v = pdoInvalid s idx := by
  have hne : idx ≠ 0x1010 ∧ idx ≠ 0x1011 ∧ idx ≠ 0x1005 ∧ idx ≠ 0x1014 ∧ idx / 4 ≠ 0x500 ∧ idx / 4 ≠ 0x600 := by omega
  simp [valueOk10, hne, h]

/-- A mapping entry of a valid PDO fails check 6 (R370). -/
theorem valueOk_pdoMap {s : State} {p : Path} {tx : Bool} {n : Fin 4} {sub : Nat} (v : Int) (hs : sub ≤ 64)
    (h : pdoInvalid s (0x1600 + 0x400 * b2n tx + n.val) = false) :
    valueOk s p (okey (0x1600 + 0x400 * b2n tx + n.val) sub) v = false := by
  have hidx : okey (0x1600 + 0x400 * b2n tx + n.val) sub / 256 = 0x1600 + 0x400 * b2n tx + n.val := by unfold okey; omega
  have hb : b2n tx = 0 ∨ b2n tx = 1 := by cases tx <;> simp [b2n]
  unfold valueOk
  dsimp only
  rw [hidx, if_pos (by omega), valueOk10_pdoMap (by omega), h, Bool.and_false]

theorem pdoParameters : Claims.PdoParameters := fun s p tx n v hv =>
  ⟨fun k hk h => by
    subst hk
    obtain ⟨ht, hlow, hkeep⟩ := takesUnsigned_cobId tx n
    exact doWrite_cobId h (ht.number hv) hlow hkeep (isCob_cobId tx n),
   fun k sub h1 h64 hk h => by
    subst hk
    obtain ⟨ht, hlow, hkeep⟩ := takesUnsigned_pdoMap tx n ⟨sub, by omega⟩ h1
    obtain ⟨u, hu, hval⟩ := doWrite_communication h (ht.number hv) hlow hkeep
    exact ⟨u, (pdoMapWrite_entry h1).trans hu, hval⟩,
   fun k hv8 hk h => by
    subst hk
    obtain ⟨ht, hlow, hkeep⟩ := takesUnsigned_pdoType tx n
    exact doWrite_communication h (ht.number hv8) hlow hkeep,
   fun k sub h1 h64 hk hl he hvalid hright hclaim hmode => by
    subst hk
    obtain ⟨hty, hex⟩ := objRow_pdoMap tx n ⟨sub, by omega⟩ h1
    have hkey : okey (0x1600 + 0x400 * b2n tx + n.val) sub ≠ okey 0x2002 1 ∧
        okey (0x1600 + 0x400 * b2n tx + n.val) sub ≠ okey 0x2002 2 := (takesUnsigned_pdoMap tx n ⟨sub, by omega⟩ h1).1.2.1.1.imp id And.left
    refine (pdoMapWrite_entry h1).trans (doWrite_refused (c := 0x23) hl he (fun h => absurd h hkey.1) ?_ (by decide))
    have hval := valueOk_pdoMap (s := touch s p) (p := p) (n := n) (tx := tx)
      (dataValue (okey (0x1600 + 0x400 * b2n tx + n.val) sub) (numData (okey (0x1600 + 0x400 * b2n tx + n.val) sub) v)) h64 hvalid
    simp [judgeWrite, firstRefusal, hex, hright, checkLength_numData hty v (by decide), checkClaim, hkey, claimLets_touch, hclaim,
      checkMode, modeLets_touch, hmode, checkValue, hval]⟩

end Sys2Proof.Machine

/-- Settles O44: the RPDOs, the TPDOs and the writes of their parameters, each by the branch its state takes. -/
theorem processData : Obligations.ProcessData :=
  ⟨Sys2Proof.Machine.rpdosReceived, Sys2Proof.Machine.tpdosSent, Sys2Proof.Machine.pdoParameters⟩
end

section
/-!
PROOF. RUN, SERVICE and STANDBY as they are reported, LOCKOUT as it is cleared or not, and the DFU requests of RECOVERY (R29, R30, R35,
R40, R394, R448, R469, R470, R488).
-/

namespace Sys2Proof.Machine

open Sys2Proof

/-! RUN and SERVICE reported (R469). -/

theorem mem_raise {r : Raise} {s : State} (ev d1 d2 : Nat) (h : r ∈ s.rm.raised) : r ∈ (raise s ev d1 d2).rm.raised :=
  List.mem_append_left _ h

theorem raised_raise (s : State) (ev d1 d2 : Nat) : ⟨ev, wrap 32 d1, wrap 32 d2⟩ ∈ (raise s ev d1 d2).rm.raised :=
  List.mem_append_right _ List.mem_cons_self

theorem mem_lateCheck {r : Raise} {s : State} (t : ST) (most d1 : Nat) (h : r ∈ s.rm.raised) : r ∈ (lateCheck s t most d1).rm.raised := by
  unfold lateCheck
  split
  · exact h
  · exact mem_raise _ _ _ h

theorem mem_wokenEvent {r : Raise} {s : State} (h : r ∈ s.rm.raised) : r ∈ (wokenEvent s).rm.raised := mem_raise _ _ _ h

theorem mem_ite {r : Raise} {c : Prop} [Decidable c] {a b : State} (ha : r ∈ a.rm.raised) (hb : r ∈ b.rm.raised) :
    r ∈ (if c then a else b).rm.raised := by
  split
  · exact ha
  · exact hb

/-- EV000 stands among what the report of RUN or SERVICE has raised. -/
theorem runReported_raises (s : State) (t : Transition) :
    ⟨0, wrap 32 (s.md.mode.code * 256 + t.target.code), wrap 32 t.cause⟩ ∈ (runReported s t).rm.raised := by
  have hmode : ⟨0, wrap 32 (s.md.mode.code * 256 + t.target.code), wrap 32 t.cause⟩ ∈
      (modMd (modeTo s t.target t.cause) (fun d => { d with trans := none })).rm.raised := raised_raise s 0 _ t.cause
  have hlate := mem_ite (c := s.md.mode = .doze) (mem_lateCheck s.md.wakeAt 30000000 (s.md.mode.code * 256 + t.target.code) hmode)
    (mem_ite (c := t.target = .run) (mem_lateCheck t.start 12000000 (s.md.mode.code * 256 + t.target.code) hmode) hmode)
  have hwoken := mem_ite (c := s.md.mode = .doze) (mem_wokenEvent hlate) hlate
  exact mem_ite (c := t.target = .service) (by exact hwoken) hwoken

theorem setClaim_pw (s : State) (g : Nat) (c : Claim) : (setClaim s g c).pw = s.pw := rfl

theorem lateCheck_pw (s : State) (t : ST) (most d1 : Nat) : (lateCheck s t most d1).pw = s.pw := by
  unfold lateCheck; split <;> rfl

theorem wokenEvent_stagesOn (s : State) : (wokenEvent s).pw.stagesOn = s.pw.stagesOn := rfl

theorem stagesOff_stagesOn (s : State) : (stagesOff s).pw.stagesOn = false := rfl

theorem runGivenUp_stagesOn (s : State) (t : Transition) : (runGivenUp s t).pw.stagesOn = false := by
  unfold runGivenUp
  refine ite_keeps (·.pw.stagesOn) ?_ (ite_keeps (·.pw.stagesOn) rfl rfl)
  rw [wokenEvent_stagesOn, lateCheck_pw]
  exact ite_keeps (·.pw.stagesOn) rfl rfl

theorem runReachedOrGivenUp : Claims.RunReached := fun _ t _ _ _ _ _ _ ht hg hd =>
  ⟨fun hs => ⟨_, exec_runReached_ready ht hg hd hs, runReported_mode .., runReported_trans .., runReported_raises _ t⟩,
   fun _ hl hs => ⟨exec_runEntryTimeout_short ht hg hd hl hs, runGivenUp_stagesOn ..⟩⟩

/-! STANDBY reported (R30, R35). -/

theorem cutPowerOff_ledger (s : State) : (cutPowerOff s).ledger = s.ledger := by
  unfold cutPowerOff; split <;> rfl

theorem recharge_ledger (s : State) : (recharge s).ledger = s.ledger := rfl

theorem solUnpowered_ledger (s : State) : (solUnpowered s).ledger = s.ledger :=
  (recharge_ledger _).trans (applyAll_keeps (·.ledger) (by intros; rfl) _ _)

theorem stagesOff_ledger (s : State) : (stagesOff s).ledger = s.ledger :=
  (cutPowerOff_ledger _).trans <| (solUnpowered_ledger _).trans (applyAll_keeps (·.ledger) (by intros; rfl) _ _)

theorem ledgerIdle_congr {s u : State} (h : u.ledger = s.ledger) : ledgerIdle u = ledgerIdle s := by
  unfold ledgerIdle
  rw [h]

/-- The state as STANDBY is reported, before what was asked to follow. -/
def standbyShown (s : State) (t : Transition) (va vb boost : Nat) : State :=
  modeTo (stagesOff (modMd (floorsRead s va vb boost) (fun d => { d with trans := none }))) .standby t.cause

theorem ledgerIdle_standbyShown (s : State) (t : Transition) (va vb boost : Nat) :
    ledgerIdle (standbyShown s t va vb boost) = ledgerIdle s := ledgerIdle_congr (stagesOff_ledger _)

theorem standbyShown_mode (s : State) (t : Transition) (va vb boost : Nat) : (standbyShown s t va vb boost).md.mode = .standby := rfl

section Floors
variable {s : State} {t : Transition} {va vb boost : Nat} (hf : floorsMet s va vb boost = true) (ht : s.md.trans = some t)
  (hg : t.target = .standby) (hr : inRun s = true)
include hf ht hg hr

theorem standbyReached_met : standbyReached s va vb boost = match t.thenDoze with
    | none => standbyShown s t va vb boost
    | some p => if ledgerIdle (standbyShown s t va vb boost) then startDoze (standbyShown s t va vb boost) t.cause
                else raise (standbyShown s t va vb boost) 1 ((standbyShown s t va vb boost).md.mode.code * 256 + 3) p.ascii := by
  unfold standbyReached
  rw [ht]
  dsimp only
  rw [if_neg (by simp [hg, hr, hf])]
  rfl

theorem standbyReached_dozes {p : Path} (hd : t.thenDoze = some p) (hi : ledgerIdle s = true) :
    standbyReached s va vb boost = startDoze (standbyShown s t va vb boost) t.cause := by
  rw [standbyReached_met hf ht hg hr, hd]
  exact if_pos ((ledgerIdle_standbyShown ..).trans hi)

theorem standbyReached_stays {p : Path} (hd : t.thenDoze = some p) (hi : ledgerIdle s = false) :
    standbyReached s va vb boost = raise (standbyShown s t va vb boost) 1 0x0103 p.ascii := by
  rw [standbyReached_met hf ht hg hr, hd]
  dsimp only
  rw [if_neg (by rw [ledgerIdle_standbyShown, hi]; decide), standbyShown_mode]
  rfl

end Floors

theorem floorsReached : Claims.FloorsReached := fun s _ _ _ hf =>
  ⟨fun _ ht hg hd hr => exec_standbyReached_met hf ht hg hd hr,
   fun _ _ ht hg hd hr hi => next_congr (standbyReached_dozes hf ht hg hr hd hi),
   fun _ _ ht hg hd hr hi => next_congr (standbyReached_stays hf ht hg hr hd hi),
   fun hm hr => exec_lockoutFloorsReached_met hf hm hr,
   stagesOff_stagesOn s⟩

/-! LOCKOUT_CLEAR (R29, R40, R448). -/

theorem lockoutLeft_floorsReached (s : State) (p : Path) : (lockoutLeft s p).md.floorsReached = false := by simp [lockoutLeft]

theorem axesStill_pw (s : State) : (axesStill s).pw = s.pw := applyAll_keeps (·.pw) (by intros; rfl) _ _

theorem lockoutLeft_stagesOn (s : State) (p : Path) : (lockoutLeft s p).pw.stagesOn = false := by
  simp only [lockoutLeft, raise_pw, axesStill_pw]
  rfl

theorem lockoutLeft_raises (s : State) (p : Path) : ⟨3, wrap 32 p.ascii, 0⟩ ∈ (lockoutLeft s p).rm.raised :=
  mem_raise _ _ _ (raised_raise _ 3 p.ascii 0)

theorem lockoutClear_held {s : State} {p : Path} (hm : s.md.mode = .lockout) (hc : lockCauses s ≠ []) : lockoutClear s p = (s, 0x23) := by
  unfold lockoutClear
  rw [if_neg (not_not_intro hm), if_pos (by simpa using hc)]

theorem lockoutClear_elsewhere {s : State} {p : Path} (hm : s.md.mode ≠ .lockout) :
    lockoutClear s p = (raise s 1 (s.md.mode.code * 256 + 1) p.ascii, 0x24) := if_pos hm

theorem lockoutClears : Claims.LockoutClears := fun s p h =>
  ⟨fun hm hc => ⟨_, exec_lockoutClear_free h hm hc, lockoutLeft_mode .., lockoutLeft_floorsReached .., lockoutLeft_stagesOn ..,
     lockoutLeft_raises ..⟩,
   fun hm hc => doWrite_command_turnedAway (n := 1) (d := 0x23) h (by decide)
     ((command_lockoutClear ..).trans (congrArg some (lockoutClear_held (s := touch s p) hm hc))) (by decide),
   fun hm => doWrite_command_turnedAway (n := 1) (d := 0x24) h (by decide)
     ((command_lockoutClear ..).trans (congrArg some (lockoutClear_elsewhere (s := touch s p) hm))) (by decide)⟩

/-! DFU (R394, R488). -/

section Dfu
variable {s : State} (hl : dfuLive s = true)
include hl

theorem dfuDnload_first {bs : List Byte} (hs : s.boot.dfu.state = 2) (hb : bs ≠ []) :
    dfuDnload s bs = modBoot (modUsb s (fun u => { u with stalled := false })) (fun b =>
      { b with slots := upd b.slots (dfuSlot s) (fun _ => { SysSlot.blank with incomplete := true, empty := false, state := 6 }),
               dfu := ⟨3, 0, bs, false⟩ }) := by
  unfold dfuDnload
  rw [if_neg (by simp [hl])]
  dsimp only
  rw [if_pos (by simpa [hs] using hb)]
  rfl

theorem dfuDnload_end (hs : s.boot.dfu.state = 5) :
    dfuDnload s [] = modBoot (modUsb s (fun u => { u with stalled := false })) (fun b =>
      { b with dfu := { b.dfu with state := 6 } }) := by
  unfold dfuDnload
  rw [if_neg (by simp [hl])]
  dsimp only
  rw [if_neg (by simp), if_pos hs]
  rfl

theorem dfuManifest_norFails {i : Fin 2} (hs : s.boot.dfu.state = 7) (hi : dfuFilling s = some i) :
    dfuManifest s false = modBoot s (fun b => { b with dfu := { b.dfu with state := 10, status := 3, data := [] } }) := by
  unfold dfuManifest
  simp only [hi]
  rw [if_neg (by simp [hl, hs]), if_pos (by decide)]
  rfl

end Dfu

theorem dfuRequests : Claims.DfuRequests := fun _ hl =>
  ⟨fun _ hs hb => next_congr (dfuDnload_first hl hs hb),
   fun _ hs hb => next_congr (dfuDnload_more hl hs hb),
   fun hs => next_congr (dfuDnload_end hl hs),
   next_congr (dfuGetStatus_live hl), next_congr (dfuReject_live hl), next_congr (dfuReject_live hl),
   fun _ hs hi => ⟨next_congr (dfuManifest_norFails hl hs hi), fun _ hc => next_congr (dfuManifest_programmed hl hs hi hc)⟩⟩

end Sys2Proof.Machine

/-- Settles O16: RUN, STANDBY and LOCKOUT by what their report, their end and their clearing leave. -/
theorem modesReached : Obligations.ModesReached :=
  ⟨Sys2Proof.Machine.runReachedOrGivenUp, Sys2Proof.Machine.floorsReached, Sys2Proof.Machine.lockoutClears⟩

/-- Settles O14: each DFU request by the state of the download. -/
theorem dfuRequests : Obligations.DfuRequests := Sys2Proof.Machine.dfuRequests
end

section
/-!
PROOF. USB: the link, suspend and wake, the requests and the endpoints; DOMAIN transfers of every path (R366, R381–R393, R403).
-/

namespace Sys2Proof.Machine

open Sys2Proof

/-! The link (R381, R382, R392, R403). -/

section Link
variable {s : State}

theorem usbReset_attached {chirp : Bool} (h0 : s.usb.state ≠ 0) (hm : s.md.mode ≠ .recovery) :
    usbReset s chirp = modUsb (usbTo (loseH s 1) 2) (fun x =>
      { x with speed := 1 + b2n chirp, remoteEn := false, wakeCause := (if s.usb.state = 5 then 1 else x.wakeCause) }) := by
  unfold usbReset
  dsimp only
  rw [if_neg h0, if_neg hm]

theorem loseH_stream {cause : Nat} (h0 : s.usb.state ≠ 0) :
    (loseH s cause).usb.inp.halted = false ∧ (loseH s cause).usb.inp.buf = [] := by
  have hup : usbUp s = true := bne_iff_ne.mpr h0
  unfold loseH
  rw [if_pos hup]
  exact ⟨rfl, rfl⟩

theorem usbReset_detached {chirp : Bool} (h0 : s.usb.state = 0) : usbReset s chirp = s := if_pos h0

theorem usbConfigure_zero (h : s.usb.state = 4) : usbConfigure s 0 = usbTo (loseH s 3) 3 := by
  unfold usbConfigure
  rw [if_neg (by simp [h]), if_neg (by decide), if_pos rfl, if_pos h]

theorem usbConfigure_unknown {v : Nat} (h : s.usb.state = 3 ∨ s.usb.state = 4) (hv : 2 ≤ v) :
    usbConfigure s v = modUsb s (fun u => { u with stalled := true }) := by
  unfold usbConfigure
  rw [if_neg (by rcases h with h | h <;> simp [h]), if_neg (by omega), if_neg (by omega)]

end Link

theorem usbLink : Claims.UsbLink := fun s =>
  ⟨fun hon hv hp hs hw => next_when hon (vbusValid_rise hv hp hs hw),
   next_congr rfl,
   fun _ h0 hm => ⟨loseH s 1, next_congr (usbReset_attached h0 hm), rfl, loseH_stream h0⟩,
   fun _ => ⟨rfl, rfl, rfl⟩,
   fun _ h0 => next_congr (usbReset_detached h0),
   fun h => next_congr (if_pos h),
   fun h => ⟨next_congr (usbConfigure_one h), fun h4 => next_congr (usbConfigure_zero h4), fun _ hv => next_congr (usbConfigure_unknown h hv)⟩,
   fun h hm => ⟨next_congr (usbRemoteEn_addressed h hm), next_congr (usbRemoteEn_addressed h hm)⟩⟩

/-! Suspend and remote wake (R392, R393). -/

section Wake
variable {s : State} {t : ST}

theorem usbSuspend_begins (h0 : s.usb.state ≠ 0) (h5 : s.usb.state ≠ 5) : (usbSuspend s).usb.state = 5 ∧
    (usbSuspend s).usb.prev = s.usb.state ∧ (usbSuspend s).usb.idleSt = now s ∧ (usbSuspend s).usb.attempts = 0 := by
  unfold usbSuspend
  rw [if_neg (by simp [h0, h5])]
  exact ⟨rfl, rfl, rfl, rfl⟩

theorem rwDrive_disabled (h : s.usb.remoteEn = false) : rwDrive s = s := if_neg (by simp [remoteWakeDue, h])

theorem rwSample_k (hr : s.usb.rw = .released t) (hs : s.usb.state = 5) (ht : t + 1800 ≤ now s) :
    rwSample s true = modUsb s (fun u => { u with rw := .idle, hostK := true, cause := 3 }) := by
  unfold rwSample
  rw [hr]
  exact if_neg (by rw [hs, decide_eq_false (Nat.not_lt.mpr ht)]; decide)

theorem rwRetry_spent (hr : s.usb.rw = .awaitK t) (hs : s.usb.state = 5) (ht : t + 2000000 ≤ now s)
    (ha : objN s 0x2A00 3 < s.usb.attempts) :
    rwRetry s = raise (modUsb s (fun u => { u with rw := .spent, cause := 0 })) 452 s.usb.attempts 0 := by
  unfold rwRetry
  rw [hr]
  dsimp only
  rw [if_neg (by rw [hs, decide_eq_false (Nat.not_lt.mpr ht)]; decide), if_neg (Nat.not_le.mpr ha)]

theorem hostResume_spent (hs : s.usb.state = 5) (hk : s.usb.hostK = false) (hr : s.usb.rw = .spent) :
    hostResume s = modUsb s (fun u => { u with hostK := true, cause := 1 }) := by
  unfold hostResume
  rw [if_neg (by rw [hs, hk]; decide), hr]

theorem resumeEnd_ends (hs : s.usb.state = 5) (hk : s.usb.hostK = true) : (resumeEnd s).usb.state = s.usb.prev ∧
    (resumeEnd s).usb.wakeCause = s.usb.cause ∧ (resumeEnd s).usb.resumes = inc32 s.usb.resumes ∧ (resumeEnd s).usb.rw = .idle := by
  unfold resumeEnd
  rw [if_neg (by rw [hs, hk]; decide)]
  exact ⟨rfl, rfl, rfl, rfl⟩

end Wake

theorem suspendAndWake : Claims.SuspendAndWake := fun s =>
  ⟨fun h0 h5 => ⟨usbSuspend s, rfl, usbSuspend_begins h0 h5⟩,
   fun hd hi hk ht => next_congr (rwDrive_due hd hi hk ht),
   fun h => next_congr (rwDrive_disabled h),
   fun _ hr hs ht => next_congr (rwRelease_due hr hs ht),
   fun _ hr hs ht => ⟨next_congr (rwSample_k hr hs ht), next_congr (rwSample_notK hr hs ht)⟩,
   fun _ hr hs ht => ⟨fun ha => next_congr (rwRetry_again hr hs ht ha), fun ha => next_congr (rwRetry_spent hr hs ht ha)⟩,
   fun hs hk hr => next_congr (hr.elim (hostResume_idle hs hk) (hostResume_spent hs hk)),
   fun hs hk => ⟨resumeEnd s, rfl, resumeEnd_ends hs hk⟩⟩

/-! Requests (R383–R385). -/

theorem usbRead_short {s : State} {i x n : Nat} (hj : judgeRead s .h (okey i x) = 0) (h : n < (readData s .h (okey i x)).length) :
    usbRead s i x n = usbRequest (answer s .h 0x21) true := if_pos (by simp [hj, h])

theorem usbRequests : Claims.UsbRequests := fun _ hl =>
  ⟨fun _ _ _ hj h => next_when hl (usbRead_short hj h),
   fun _ _ _ _ h => next_when hl (usbRead_fits h),
   fun _ _ _ => next_when hl rfl,
   next_when hl rfl,
   fun _ _ _ _ => next_when hl rfl,
   fun _ h1 h2 => next_when hl (usbPut_sized h1 h2),
   fun _ h => next_when hl (usbGet_sized h),
   next_when hl rfl,
   next_when hl rfl,
   rfl, rfl⟩

/-! Endpoints (R388–R391). -/

section Endpoints
variable {s : State}

theorem bulkOut_full {bs : List Byte} (hl : usbLive s = true) (hh : s.usb.inp.halted = false) (h : inSpace s < bs.length) :
    bulkOut s bs = modUsb s (fun u => { u with nakked := true }) := by
  unfold bulkOut
  rw [if_neg (by rw [hl]; decide), if_pos (by rw [hh, decide_eq_true h]; rfl)]

theorem rasterAccept_none {p : Path} (h : acceptable s (inStream s p).waits [] = none) : rasterAccept s p = s := by
  unfold rasterAccept
  rw [h]

theorem bulkMax_pos (s : State) : 0 < bulkMax s := by
  unfold bulkMax
  split <;> decide

/-- Where bytes of the first record are left, a packet has some. -/
theorem bulkPacket_length_pos {r : CarRec} {rs : List CarRec} (hr : bulkRecs s = r :: rs) (ho : s.usb.inOff < r.bytes.length) :
    0 < (bulkPacket s).length := by
  have hmax := bulkMax_pos s
  unfold bulkPacket
  rw [hr, List.length_take, List.length_drop, List.flatMap_cons, List.length_append]
  omega

theorem bulkInAck_amid {r : CarRec} {rs : List CarRec} (hl : usbLive s = true) (hr : bulkRecs s = r :: rs)
    (hlen : s.usb.inOff + (bulkPacket s).length < r.bytes.length) : bulkLast s = false ∧
    bulkInAck s = modUsb (beginRec s r .h) (fun u =>
      { u with inOff := s.usb.inOff + (bulkPacket s).length, bulk := bulkPacket s,
               inFull := decide ((bulkPacket s).length = bulkMax s) }) := by
  have hpos := bulkPacket_length_pos hr (by omega)
  have htake : bulkTake s (s.usb.inOff + (bulkPacket s).length) (r :: rs) =
      modUsb (beginRec s r .h) (fun u => { u with inOff := s.usb.inOff + (bulkPacket s).length }) := by
    unfold bulkTake
    rw [if_neg (by omega), if_neg (by omega)]
  constructor
  · unfold bulkLast
    rw [hr]
    exact decide_eq_false (by omega)
  · unfold bulkInAck
    dsimp only
    rw [if_neg (by rw [hl, List.isEmpty_eq_false_iff.mpr (List.ne_nil_of_length_pos hpos)]; simp), hr, htake, modUsb_modUsb]

section Nothing
variable (hr : bulkRecs s = [])
include hr

theorem bulkPacket_none : bulkPacket s = [] := by simp [bulkPacket, hr]

theorem bulkLast_none : bulkLast s = false := by simp [bulkLast, hr]

theorem bulkInAck_zeroLength (hl : usbLive s = true) (hf : s.usb.inFull = true) :
    bulkInAck s = modUsb s (fun u => { u with inOff := 0, bulk := [], inFull := false }) := by
  unfold bulkInAck
  dsimp only
  rw [if_neg (by rw [hl, hf]; simp), bulkPacket_none hr, hr, List.length_nil, decide_eq_false (bulkMax_pos s).ne]
  rfl

theorem bulkInAck_nothing (hf : s.usb.inFull = false) : bulkInAck s = s := if_pos (by rw [bulkPacket_none hr, hf]; simp)

end Nothing
end Endpoints

theorem usbEndpoints : Claims.UsbEndpoints := fun s hl =>
  ⟨next_congr (eventIn_live hl),
   fun _ hh h => next_congr (bulkOut_full hl hh h),
   fun _ h => next_congr (bulkOut_room hl h),
   fun _ h => next_congr (rasterAccept_next (p := .h) h),
   fun _ h => next_congr (rasterAccept_next (p := .c) h),
   fun h => next_congr (rasterAccept_none (p := .h) h),
   fun _ _ pk hr hpk hlen => by
    subst hpk
    obtain ⟨hlast, hack⟩ := bulkInAck_amid hl hr hlen
    exact next_when (by rw [hlast]; rfl) hack,
   fun _ pk hr hpk hne hlen => by
    subst hpk
    obtain ⟨hlast, hack⟩ := bulkInAck_last hl hr hne hlen
    exact next_when (by rw [hlast]; rfl) hack,
   fun hr => ⟨fun hf => next_when (by rw [bulkLast_none hr]; rfl) (bulkInAck_zeroLength hr hl hf),
     fun hf => next_when (by rw [bulkLast_none hr]; rfl) (bulkInAck_nothing hr hf)⟩,
   fun _ h => doWhen_idle (beq_eq_false_iff_ne.mpr h),
   next_congr (if_pos hl)⟩

/-! DOMAIN transfers (R366, R385). -/

section Transfers
variable {s : State} {p : Path} {d : DomXfer}

theorem dropXfer_xfers (s : State) (p : Path) : (dropXfer s p).ctl.xfers[p.idx] = none := by
  unfold dropXfer
  cases h : s.ctl.xfers[p.idx] with
  | none => exact h
  | some x =>
    dsimp only
    exact ite_keeps (fun s => s.ctl.xfers[p.idx]) (upd_same ..) (upd_same ..)

theorem domTimeout_none (hx : s.ctl.xfers[p.idx] = none) : domTimeout s p = s := by
  unfold domTimeout
  rw [hx]

section Live
variable (hl : dictLive s = true) (he : s.ctl.epoch = none)
include hl he

theorem domOpen_refused {i x t c : Nat} {wr : Bool} (hj : judgeOpen (touch s p) p i x wr t = c) (hc : c ≠ 0) :
    domOpen s p i x wr t = (turnedAway s p (vStatus c), c) := by
  unfold domOpen
  rw [if_neg (by simp [hl]), epochFirst_none he]
  dsimp only
  rw [hj, if_pos hc]
  rfl

/-- The transfer as an OPEN that passes begins it; the image of a slot is not among them. -/
theorem domOpen_passed {i x t : Nat} {wr : Bool} (hi : wr = true → i ≠ 0x5E00) (hj : judgeOpen (touch s p) p i x wr t = 0) :
    domOpen s p i x wr t = (answer (setXfer (dropXfer (touch s p) p) p (some (
      let data := if wr then [] else readDom (dropXfer (touch s p) p) i
      ⟨i, wr, if wr then t else data.length, data, 0, now s⟩))) p 0, 0) := by
  unfold domOpen
  rw [if_neg (by simp [hl]), epochFirst_none he]
  dsimp only
  rw [hj, if_neg (by simp), if_neg (by simpa using hi)]
  rfl

theorem domPut_none (hx : s.ctl.xfers[p.idx] = none) (bs : List Byte) : domPut s p bs = (turnedAway s p 0x23, 0x23) := by
  have hx' : (touch s p).ctl.xfers[p.idx] = none := hx
  unfold domPut
  rw [if_neg (by simp [hl]), epochFirst_none he, domTimeout_none hx']
  dsimp only
  rw [hx']
  rfl

theorem domPut_more {bs : List Byte} (hx : s.ctl.xfers[p.idx] = some d) (ht : now s < d.lastSt + 200000000) (hw : d.wr = true)
    (hi : d.idx ≠ 0x5E00) (hn : (d.data ++ bs).length < d.total) :
    domPut s p bs = (answer (setXfer (touch s p) p (some { d with
      data := d.data ++ bs, off := (d.data ++ bs).length, lastSt := now s })) p 0, 0) := by
  have hx' : (touch s p).ctl.xfers[p.idx] = some d := hx
  unfold domPut
  rw [if_neg (by simp [hl]), epochFirst_none he, domTimeout_running hx' ht]
  dsimp only
  rw [hx']
  dsimp only
  rw [hw, if_neg (by rw [decide_eq_false (Nat.not_lt.mpr hn.le)]; decide), if_pos hn, noteBytes, if_neg hi]
  rfl

theorem domPut_past {bs : List Byte} (hx : s.ctl.xfers[p.idx] = some d) (ht : now s < d.lastSt + 200000000)
    (hn : d.total < (d.data ++ bs).length) : domPut s p bs = (turnedAway s p 0x23, 0x23) := by
  have hx' : (touch s p).ctl.xfers[p.idx] = some d := hx
  unfold domPut
  rw [if_neg (by simp [hl]), epochFirst_none he, domTimeout_running hx' ht]
  dsimp only
  rw [hx']
  dsimp only
  rw [if_pos (by rw [decide_eq_true hn, Bool.or_true])]
  rfl

theorem domPut_expired (hx : s.ctl.xfers[p.idx] = some d) (ht : d.lastSt + 200000000 ≤ now s) (bs : List Byte) :
    domPut s p bs = (answer (dropXfer (touch s p) p) p 0x23, 0x23) := by
  have hx' : (touch s p).ctl.xfers[p.idx] = some d := hx
  unfold domPut
  rw [if_neg (by simp [hl]), epochFirst_none he, domTimeout_expired hx' ht]
  dsimp only
  rw [dropXfer_xfers]

end Live

theorem domGet_expired (hl : dictLive s = true) (hx : s.ctl.xfers[p.idx] = some d) (ht : d.lastSt + 200000000 ≤ now s) (n : Nat) :
    (domGet s p n).2.1 = 0x23 := by
  have hx' : (touch s p).ctl.xfers[p.idx] = some d := hx
  unfold domGet
  rw [if_neg (by simp [hl]), domTimeout_expired hx' ht]
  dsimp only
  rw [dropXfer_xfers]

theorem domGet_next (hl : dictLive s = true) (hx : s.ctl.xfers[p.idx] = some d) (ht : now s < d.lastSt + 200000000) (hw : d.wr = false)
    (n : Nat) : (domGet s p n).2 = (0, (d.data.drop d.off).take n) := by
  have hx' : (touch s p).ctl.xfers[p.idx] = some d := hx
  unfold domGet
  rw [if_neg (by simp [hl]), domTimeout_running hx' ht]
  dsimp only
  rw [hx']
  dsimp only
  rw [if_neg (by rw [hw]; decide)]

end Transfers

theorem domainTransfers : Claims.DomainTransfers := fun s p hl he =>
  ⟨fun _ _ hj => by
    rw [domOpen_passed (wr := false) hl he (fun h => absurd h (by decide)) hj]
    exact ⟨rfl, upd_same ..⟩,
   fun _ _ _ hi hj => by
    rw [domOpen_passed hl he (fun _ => hi) hj]
    exact upd_same ..,
   fun _ _ _ _ _ hj hc => domOpen_refused hl he hj hc,
   fun _ hx => domPut_none hl he hx _,
   fun _ _ hx ht hw hi hn => by
    rw [domPut_more hl he hx ht hw hi hn]
    exact ⟨rfl, upd_same .., rfl⟩,
   fun _ _ hx ht hn => domPut_past hl he hx ht hn,
   fun _ _ _ hx ht => by
    rw [domPut_expired hl he hx ht]
    exact ⟨rfl, dropXfer_xfers .., domGet_expired hl hx ht _⟩,
   fun _ n hx ht hw => ⟨congrArg Prod.snd (domGet_next hl hx ht hw n), congrArg Prod.fst (domGet_next hl hx ht hw n)⟩,
   fun _ hx ht => ⟨next_congr (domTimeout_expired hx ht), dropXfer_xfers s p⟩,
   fun _ hx ht => next_congr (domTimeout_running hx ht)⟩

end Sys2Proof.Machine

/-- Settles O45: the link by its state, and a remote wake phase by phase. -/
theorem usbAttachment : Obligations.UsbAttachment := ⟨Sys2Proof.Machine.usbLink, Sys2Proof.Machine.suspendAndWake⟩

/-- Settles O46: each request and each endpoint by the branch its state takes. -/
theorem usbTransfers : Obligations.UsbTransfers := ⟨Sys2Proof.Machine.usbRequests, Sys2Proof.Machine.usbEndpoints⟩

/-- Settles O47: an OPEN, a segment and the timeout by the transfer the path has open. -/
theorem domainTransfers : Obligations.DomainTransfers := Sys2Proof.Machine.domainTransfers
end

section
/-!
PROOF. The companion bus: when a Mirror read takes a new snapshot, and what enters the FIFO of the posted writes (R396, R397, R399).
-/

namespace Sys2Proof.Machine

open Sys2Proof

/-! The Mirror (R396, R397). -/

section Mirror
variable {s : State} {a : Nat}

theorem cbMirrorRead_fresh (h : mirrorFresh s a = true) :
    (cbMirrorRead s a).cb.mirror.snap = mirrorLast (modCb s (fun c => { c with rstLow := false })) ∧
      (cbMirrorRead s a).cb.word = rdLE (cbMirrorRead s a).cb.mirror.snap a 2 ∧ (cbMirrorRead s a).cb.mirror.prev = some a ∧
      (cbMirrorRead s a).cb.mirror.prevSt = now s := by
  have h' : mirrorFresh (modCb s (fun c => { c with rstLow := false })) a = true := h
  unfold cbMirrorRead mirrorRead
  rw [h']
  exact ⟨rfl, rfl, rfl, rfl⟩

theorem cbMirrorRead_snap_stale (h : mirrorFresh s a = false) : (cbMirrorRead s a).cb.mirror.snap = s.cb.mirror.snap := by
  have h' : mirrorFresh (modCb s (fun c => { c with rstLow := false })) a = false := h
  unfold cbMirrorRead mirrorRead
  rw [h']
  rfl

theorem mirrorFresh_first (h : s.cb.mirror.prev = none) : mirrorFresh s a = true := by
  unfold mirrorFresh
  rw [h]

theorem mirrorFresh_again {p : Nat} (h : s.cb.mirror.prev = some p) :
    mirrorFresh s a = (decide (a ≤ p) || decide (s.cb.mirror.prevSt + objN s 0x2A10 3 < now s)) := by
  unfold mirrorFresh
  rw [h]

end Mirror

theorem mirrorReads : Claims.MirrorReads := fun s a hp =>
  ⟨fun h => ⟨cbMirrorRead s a, next_when hp rfl, cbMirrorRead_fresh h⟩,
   fun h => ⟨cbMirrorRead s a, next_when hp rfl, cbMirrorRead_snap_stale h, cbMirrorRead_stale h⟩,
   fun img h => by rw [mirrorLast, h]; rfl,
   rfl,
   mirrorFresh_first,
   fun p h ha => by rw [mirrorFresh_again h, decide_eq_true ha]; rfl,
   fun p h ha ht => by rw [mirrorFresh_again h, decide_eq_false (Nat.not_le.mpr ha), decide_eq_false (Nat.not_lt.mpr ht)]; rfl,
   rfl⟩

/-! Posted writes (R399). -/

/-- A command of the companion bus on a control plane that is not live is an access of the bus and nothing else (R28). -/
theorem next_companion_notLive {s : State} {f : State → State} (hp : cbPowered s = true) (hl : controlLive s = false) :
    doCb f s = .next (finish s (cbTouch s)) :=
  next_when hp (if_neg (by rw [hl]; decide))

/-- Nor is one that has no effect on a live plane. -/
theorem next_companion_unchanged {s : State} {f : State → State} (hp : cbPowered s = true) (h : f (cbTouch s) = cbTouch s) :
    doCb f s = .next (finish s (cbTouch s)) := by
  cases hl : controlLive s with
  | true => exact next_companion hp hl h
  | false => exact next_companion_notLive hp hl

theorem doorbell_unmapped {s : State} {n : Fin 16} {w : Nat} (h : objN s 0x2A10 (4 + n.val) = 0) : doorbell s n w = s := if_pos h

/-- A composed write that finds room: it ends the FIFO, and the staging registers hold it. -/
theorem pwGo_room {s : State} {i x l v : Nat} (h : s.cb.fifo.length < 32) :
    (pwGo s i x l v).cb.fifo = s.cb.fifo ++ [(okey i x, leBytes l v)] ∧ (pwGo s i x l v).cb.pwIndex = i ∧
      (pwGo s i x l v).cb.pwSub = x ∧ (pwGo s i x l v).cb.pwLen = l ∧ (pwGo s i x l v).cb.pwVal = v := by
  unfold pwGo
  rw [fifoPut_room (by exact h)]
  exact ⟨rfl, rfl, rfl, rfl, rfl⟩

theorem fifoPut_full {s : State} {k : Nat} {bs : List Byte} (h : 32 ≤ s.cb.fifo.length) :
    (fifoPut s k bs).cb.fifo = s.cb.fifo ∧ (fifoPut s k bs).cb.dropped = inc32 s.cb.dropped := by
  unfold fifoPut
  rw [if_neg (Nat.not_lt.mpr h)]
  exact ⟨ite_keeps (·.cb.fifo) rfl rfl, ite_keeps (·.cb.dropped) rfl rfl⟩

theorem pwGo_full {s : State} {i x l v : Nat} (h : 32 ≤ s.cb.fifo.length) :
    (pwGo s i x l v).cb.fifo = s.cb.fifo ∧ (pwGo s i x l v).cb.dropped = inc32 s.cb.dropped := fifoPut_full h

theorem postedDrain_none {s : State} (h : s.cb.fifo = []) : postedDrain s = s := by
  unfold postedDrain
  rw [h]

theorem postedWrites : Claims.PostedWrites := fun s hp =>
  ⟨fun n w r hl hm hr h => by
    rw [← objN_cbTouch] at hm hr ⊢
    exact next_companion (f := (doorbell · n w)) hp hl (doorbell_mapped hm hr h),
   fun n w h => next_companion_unchanged (f := (doorbell · n w)) hp (doorbell_unmapped (by rw [objN_cbTouch]; exact h)),
   fun hl => ⟨fun n w => next_companion_notLive (f := (doorbell · n w)) hp hl,
     fun i x l v => next_companion_notLive (f := (pwGo · i x l v)) hp hl⟩,
   fun i x l v hl h => ⟨pwGo (cbTouch s) i x l v, next_companion (f := (pwGo · i x l v)) hp hl rfl, pwGo_room (s := cbTouch s) h⟩,
   fun i x l v hl h => ⟨pwGo (cbTouch s) i x l v, next_companion (f := (pwGo · i x l v)) hp hl rfl, pwGo_full (s := cbTouch s) h⟩,
   fun _ _ _ _ hf hd hw => by
    obtain ⟨_, rfl, hdrain⟩ := postedDrain_first hd hf
    subst hw
    exact next_when hp hdrain,
   fun h => next_when hp (postedDrain_none h)⟩

end Sys2Proof.Machine

/-- Settles O48: a Mirror read by the age of its snapshot, a posted write by the room it finds. -/
theorem companionRegisters : Obligations.CompanionRegisters := ⟨Sys2Proof.Machine.mirrorReads, Sys2Proof.Machine.postedWrites⟩
end

section
/-!
PROOF. The field network: NMT, bus errors, heartbeat and EMCY, and the USDO sessions (R412–R418).
-/

namespace Sys2Proof.Machine

open Sys2Proof

/-! NMT (R413, R414). -/

section Nmt
variable {s : State} {node : Nat}

theorem nmtMine_other (h0 : node ≠ 0) (h : node ≠ s.net.nodeAct) : nmtMine s node = false := by simp [nmtMine, h0, h]

theorem nmtCommand_other (h : nmtMine s node = false) (st cmd : Nat) : nmtCommand s node st cmd = s := if_neg (by rw [h]; simp)

theorem nmtReset_other (h : nmtMine s node = false) (cmd : Nat) : nmtReset s node cmd = s := if_neg (by rw [h]; simp)

/-- A reset of the communication objects loses N, and with it every USDO session and every client that waits. -/
theorem nmtReset_losesN (hm : nmtMine s node = true) : ∃ u, (∀ cmd, nmtReset s node cmd = nmtTo (dropWaits u) 0 cmd) ∧
    u.net.usdo = [] ∧ u.net.usdoWait = [] :=
  ⟨_, fun _ => if_pos hm, applyAll_keeps (·.net.usdo) (by intros; rfl) _ _, applyAll_keeps (·.net.usdoWait) (by intros; rfl) _ _⟩

theorem nmtTo_change {st : Nat} (h : s.net.nmt ≠ st) (cmd : Nat) :
    nmtTo s st cmd = raise (modNet s (fun n => { n with nmt := st })) 467 (s.net.nmt + 256 * st) cmd := if_neg h

theorem nmtTo_nmt (s : State) (st cmd : Nat) : (nmtTo s st cmd).net.nmt = st := by
  unfold nmtTo
  split
  · assumption
  · rfl

end Nmt

theorem nmtCommands : Claims.NmtCommands := fun _ _ =>
  ⟨fun hm hn => ⟨next_congr (nmtCommand_mine hm hn), next_congr (nmtCommand_mine hm hn), next_congr (nmtCommand_mine hm hn)⟩,
   fun h0 h =>
    have hm := nmtMine_other h0 h
    ⟨next_congr (nmtCommand_other hm ..), next_congr (nmtCommand_other hm ..), next_congr (nmtCommand_other hm ..),
     next_congr (nmtReset_other hm _), next_congr (nmtReset_other hm _)⟩,
   fun hm => by
    obtain ⟨u, hu, husdo, hwait⟩ := nmtReset_losesN hm
    exact ⟨u, next_congr (hu 0x81), next_congr (hu 0x82), husdo, hwait⟩,
   fun hl hn => next_congr (nmtBootup_reset hl hn),
   nmtTo_nmt _,
   fun _ cmd h => nmtTo_change h cmd⟩

/-! Bus errors (R412). -/

theorem lrLeave_nmt (s : State) (b : Bool) : (lrLeave s b).net.nmt = s.net.nmt := ite_keeps (·.net.nmt) rfl rfl

theorem lrLeave_ctl (s : State) (b : Bool) : (lrLeave s b).ctl = s.ctl := ite_keeps (·.ctl) rfl rfl

theorem objN_of_ctl {s t : State} (h : t.ctl = s.ctl) (i x : Nat) : objN t i x = objN s i x := by
  unfold objN obj objK
  rw [h]

/-- What ERR_BEHAVIOUR makes of the NMT state. -/
theorem errBehaviour_nmt (s : State) : (objN s 0x1029 1 = 2 → (errBehaviour s).net.nmt = 4) ∧
    (objN s 0x1029 1 = 0 → s.net.nmt = 5 → (errBehaviour s).net.nmt = 0x7F) ∧
    (objN s 0x1029 1 = 1 → (errBehaviour s).net.nmt = s.net.nmt) := by
  unfold errBehaviour
  refine ⟨fun h => ?_, fun h hn => ?_, fun h => ?_⟩ <;> rw [h]
  · exact nmtTo_nmt ..
  · show (if s.net.nmt = 5 then nmtTo s 0x7F 0 else s).net.nmt = 0x7F
    rw [if_pos hn]
    exact nmtTo_nmt ..
  · rfl

/-- A bus-off as it is counted, with the round left and ERR_BEHAVIOUR still to act. -/
def busOffCounted (s : State) (t r : Nat) : State :=
  let s1 := modNet s (fun n => { n with busState := 2, busoffs := inc16 n.busoffs, tec := wrap 8 t, rec_ := wrap 8 r })
  lrLeave (raise s1 464 s1.net.busoffs s.net.nmt) true

theorem busOff_counted {s : State} {t r : Nat} (hl : canLive s = true) : busOff s t r = loseN (errBehaviour (busOffCounted s t r)) 2 :=
  if_neg (by rw [hl]; decide)

theorem busShown_busOffCounted (s : State) (t r : Nat) :
    busShown (errBehaviour (busOffCounted s t r)) = (2, inc16 s.net.busoffs) := by
  rw [busShown_errBehaviour, busOffCounted, busShown_lrLeave]
  rfl

theorem busOffCounted_nmt (s : State) (t r : Nat) : (busOffCounted s t r).net.nmt = s.net.nmt := lrLeave_nmt ..

theorem busRecovered_notOff {s : State} (h : s.net.busState ≠ 2) : busRecovered s = s := if_pos h

theorem busErrorsAndRecovery : Claims.BusErrors := fun s =>
  ⟨fun t r hl => by
    have hshown := busShown_busOffCounted s t r
    have hnmt := errBehaviour_nmt (busOffCounted s t r)
    rw [busOffCounted_nmt, show objN (busOffCounted s t r) 0x1029 1 = objN s 0x1029 1 from objN_of_ctl (lrLeave_ctl ..) ..] at hnmt
    exact ⟨errBehaviour (busOffCounted s t r), next_congr (busOff_counted hl), congrArg Prod.fst hshown, congrArg Prod.snd hshown, hnmt⟩,
   fun h => next_congr (busRecovered_off h),
   fun h => next_congr (busRecovered_notOff h),
   fun _ _ hl => next_congr (busErrors_live hl)⟩

/-! Heartbeat and EMCY (R417, R418). -/

theorem heartbeatSend_none {s : State} (h : s.net.nmt = 0 ∨ objN s 0x1017 0 = 0) : heartbeatSend s = s :=
  if_pos (by rcases h with h | h <;> simp [h])

/-- A consumer that watches another node hears nothing. -/
theorem hbHeard_spared {node : Nat} {t : ST} {s : State} {i : Fin 4} (h : ¬(hbTime s i ≠ 0 ∧ hbNode s i = node)) :
    hbHeard node t s i = s := if_neg (by simpa using h)

theorem applyAll_hbHeard_spared {node : Nat} {t : ST} {i : Fin 4} (xs : List (Fin 4)) {s : State}
    (h : ¬(hbTime s i ≠ 0 ∧ hbNode s i = node)) : (applyAll (hbHeard node t) s xs).net.hb[i] = s.net.hb[i] := by
  induction xs generalizing s with
  | nil => rfl
  | cons x xs ih =>
    rw [applyAll_cons, ih (by rwa [hbTime_of_ctl (hbHeard_ctl ..), hbNode_of_ctl (hbHeard_ctl ..)])]
    by_cases hx : x = i
    · subst hx
      rw [hbHeard_spared h]
    · exact hbHeard_other node t s hx

theorem heartbeatReceive_hb {s : State} {node : Nat} (hl : canLive s = true) (hn : s.net.nmt ≠ 0) (i : Fin 4) :
    (heartbeatReceive s node).net.hb[i] = if hbTime s i ≠ 0 ∧ hbNode s i = node then some (now s) else s.net.hb[i] := by
  split
  next h => exact heartbeatReceive_heard hl hn h.1 h.2
  next h => rw [heartbeatReceive_live hl hn]; exact applyAll_hbHeard_spared _ h

theorem emcySend_none {s : State} (h : s.net.emcyQ = []) : emcySend s = s := by
  unfold emcySend
  rw [h]

theorem heartbeatAndEmcy : Claims.HeartbeatAndEmcy := fun s =>
  ⟨fun hl hn hm ht => next_congr (heartbeatSend_due hl hn hm ht),
   fun h => next_congr (heartbeatSend_none h),
   fun node hl hn => ⟨heartbeatReceive s node, next_when rfl rfl, heartbeatReceive_hb hl hn⟩,
   fun _ _ hl hb hm ht => next_congr (hbTimeout_due hl hb hm ht),
   fun _ _ hq hl he => next_congr (emcySend_free hq hl he),
   fun h => next_congr (emcySend_none h)⟩

/-! USDO sessions (R415). -/

section Room
variable {s : State} {c : Nat} (h : usdoRoom s c = false)
include h

theorem usdoDownload_noRoom (i x t : Nat) (bs : List Byte) : usdoDownload s c i x t bs = usdoAnswer s c 0x05040005 [] := by
  unfold usdoDownload
  dsimp only
  rw [if_pos (by rw [h]; rfl)]

theorem usdoUpload_noRoom (i x r : Nat) : usdoUpload s c i x r = usdoAnswer s c 0x05040005 [] := by
  unfold usdoUpload
  dsimp only
  rw [if_pos (by rw [h]; rfl)]

end Room

section Stray
variable {s : State} {c : Nat} (h : usdoFind s c = none)
include h

theorem usdoPut_stray (bs : List Byte) : usdoPut s c bs = usdoAnswer s c (usdoStray s c) [] := by
  unfold usdoPut
  rw [h]

theorem usdoGet_stray (r : Nat) : usdoGet s c r = usdoAnswer s c (usdoStray s c) [] := by
  unfold usdoGet
  rw [h]

end Stray

section Initiate
variable {s : State} {c i x : Nat} (hr : usdoRoom s c = true) (hf : usdoFind s c = none) (hk : keyIsDom (okey i x) = false)
include hr hf hk

theorem usdoDownload_segmented {t : Nat} {bs : List Byte} (ht : bs.length < t) : usdoDownload s c i x t bs =
    usdoAnswer (usdoKeep s ⟨c, okey i x, true, t, bs, bs.length, now s⟩) c 0 [] := by
  unfold usdoDownload
  dsimp only
  rw [if_neg (by rw [hr]; decide), usdoClose_none hf, if_neg (by rw [hk]; decide), if_neg (Nat.not_le.mpr ht)]

theorem usdoUpload_refused {r : Nat} (hv : vRefused (readTx s .n (okey i x)).2.1 = true) : usdoUpload s c i x r =
    usdoAnswer (readTx s .n (okey i x)).1 c (abortCode (readTx s .n (okey i x)).2.1) [] := by
  unfold usdoUpload
  dsimp only
  rw [if_neg (by rw [hr]; decide), usdoClose_none hf, if_neg (by rw [hk]; decide), if_pos hv]

end Initiate

theorem firstRefusal_mem {cs : List Nat} (h : firstRefusal cs ≠ 0) : firstRefusal cs ∈ cs := by
  induction cs with
  | nil => exact absurd rfl h
  | cons c cs ih =>
    unfold firstRefusal at h ⊢
    split at h
    next hc => rw [if_pos hc]; exact List.mem_cons_of_mem c (ih h)
    next hc => rw [if_neg hc]; exact List.mem_cons_self

theorem checkExists_code (k : Nat) : checkExists k = 0 ∨ vRefused (checkExists k) = true := by
  unfold checkExists
  dsimp only
  repeat' split
  all_goals decide

theorem checkReadRight_code (s : State) (p : Path) (k : Nat) : checkReadRight s p k = 0 ∨ vRefused (checkReadRight s p k) = true := by
  unfold checkReadRight
  repeat' split
  all_goals decide

/-- The verdict of a read that a check refuses is a refusal. -/
theorem judgeRead_refused {s : State} {p : Path} {k : Nat} (h : judgeRead s p k ≠ 0) : vRefused (judgeRead s p k) = true := by
  have hmem := firstRefusal_mem h
  have hne : firstRefusal _ ≠ 0 := h
  unfold judgeRead
  simp only [List.mem_cons, List.not_mem_nil, or_false] at hmem
  rcases hmem with hc | hc | hc <;> rw [hc] at hne ⊢
  · exact (checkExists_code k).resolve_left hne
  · exact (checkReadRight_code s p k).resolve_left hne
  · revert hne
    repeat' split
    all_goals decide

theorem readTx_verdict {s : State} {p : Path} {k : Nat} (hl : dictLive s = true) (h : judgeRead (touch s p) p k ≠ 0) :
    (readTx s p k).2.1 = judgeRead (touch s p) p k := by
  unfold readTx
  rw [if_neg (by simp [hl])]
  dsimp only
  rw [if_pos h]

theorem usdoTimeout_openGround (s : State) (c : Nat) : openGround (usdoTimeout s c) = openGround s := by
  have hclose : openGround (usdoClose s c) = openGround s := by
    unfold usdoClose
    split
    · rfl
    · exact ite_keeps openGround (dropXfer_openGround s .n) rfl
  unfold usdoTimeout
  split
  · rfl
  · exact ite_keeps openGround hclose rfl

theorem usdoExpire_openGround (s : State) : openGround (usdoExpire s) = openGround s :=
  applyAll_keeps openGround usdoTimeout_openGround _ _

theorem dictLive_of_usdoLive {s : State} (h : usdoLive s = true) : dictLive s = true := by
  unfold usdoLive canLive at h
  simp only [Bool.and_eq_true] at h
  exact h.1.1.1

theorem usdoTimeout_find {s : State} {c : Nat} {e : UsdoSess} (hf : usdoFind s c = some e) (ht : e.lastSt + 200000000 ≤ now s) :
    usdoFind (usdoTimeout s c) c = none := by
  unfold usdoTimeout
  rw [hf]
  dsimp only
  rw [if_pos ht]
  exact usdoFind_close s c

/-- An effect that leaves the state under each element leaves it under all in order. -/
theorem applyAll_fixed {α : Type} {f : State → α → State} {s : State} {xs : List α} (h : ∀ x ∈ xs, f s x = s) : applyAll f s xs = s := by
  induction xs with
  | nil => rfl
  | cons x xs ih =>
    rw [applyAll_cons, h x List.mem_cons_self]
    exact ih fun y hy => h y (List.mem_cons_of_mem x hy)

theorem usdoExpire_running {s : State} (h : ∀ e ∈ s.net.usdo, now s < e.lastSt + 200000000) : usdoExpire s = s := by
  refine applyAll_fixed fun c _ => ?_
  unfold usdoTimeout
  split
  · rfl
  next e he => exact if_neg (Nat.not_le.mpr (h e (List.mem_of_find?_eq_some he)))

theorem usdoSessions : Claims.UsdoSessions := fun s0 c s hs hl => by
  subst hs
  exact
  ⟨fun _ _ _ _ hr => next_when hl (usdoDownload_noRoom hr ..),
   fun _ _ _ hr => next_when hl (usdoUpload_noRoom hr ..),
   fun hf k hk => by subst hk; exact ⟨fun bs => next_when hl (usdoPut_stray hf bs), fun r => next_when hl (usdoGet_stray hf r)⟩,
   fun _ _ _ _ hr hf hk ht => next_when hl (usdoDownload_expedited hr hf hk ht),
   fun _ _ _ _ hr hf hk ht => next_when hl (usdoDownload_segmented hr hf hk ht),
   fun _ _ hf hw hk ht => next_when hl (usdoPut_last hf hw hk ht),
   fun i x r hr hf hk hj => by
    have hd : dictLive (usdoExpire s0) = true := (dictLive_ground (usdoExpire_openGround s0)).trans (dictLive_of_usdoLive hl)
    exact next_when hl (usdoUpload_refused hr hf hk (by rw [readTx_verdict hd hj]; exact judgeRead_refused hj)),
   fun _ _ _ d hr hf hk hj hd hle => by subst hd; exact next_when hl (usdoUpload_whole hr hf hk hj hle),
   fun _ r hf hw hk => ⟨usdoGet (usdoExpire s0) c r, next_when hl rfl, usdoGet_segment hf hw hk⟩,
   ⟨usdoClose s0 c, next_when hl rfl, usdoFind_close s0 c⟩,
   fun _ hf ht => ⟨usdoTimeout s0 c, rfl, usdoTimeout_find hf ht, usdoTimeout_expired hf ht⟩,
   usdoExpire_running⟩

end Sys2Proof.Machine

/-- Settles O50: an NMT command by whom it is for, a bus error by the state of the bus, a heartbeat consumer by consumer. -/
theorem fieldNetwork : Obligations.FieldNetwork :=
  ⟨Sys2Proof.Machine.nmtCommands, Sys2Proof.Machine.busErrorsAndRecovery, Sys2Proof.Machine.heartbeatAndEmcy⟩

/-- Settles O51: a request of a client by the session it has, once the sessions that have run out are gone. -/
theorem usdoSessions : Obligations.UsdoSessions := Sys2Proof.Machine.usdoSessions
end

section
/-!
PROOF. The Last Ride: readiness, the master, the participant, and the curtain with what follows it (R421–R429).
-/

namespace Sys2Proof.Machine

open Sys2Proof

/-! Readiness (R422). -/

section Readiness
variable {s : State}

theorem lrBusy_mode (ha : objN s 0x2A48 2 = 1) (hm : s.md.mode ≠ .standby) : lrBusy s = 1 := if_pos (by simp [ha, hm])

section InMode
variable (hm : objN s 0x2A48 2 ≠ 1 ∨ s.md.mode = .standby)
include hm

theorem lrBusy_ledger (hi : ledgerIdle s = false) : lrBusy s = 2 := by
  unfold lrBusy
  rw [if_neg (by rcases hm with h | h <;> simp [h]), if_pos (by rw [hi]; rfl)]

/-- Past the mode and the ledger the other conditions decide. -/
theorem lrBusy_idle (hi : ledgerIdle s = true) : lrBusy s = if s.md.trans.isSome || s.md.held then 3
    else if s.net.lr.evSince then 4 else if hostActive s then 5 else if s.net.lr.localWake then 6 else 0 := by
  unfold lrBusy
  rw [if_neg (by rcases hm with h | h <;> simp [h]), if_neg (by rw [hi]; decide)]

end InMode

theorem hostActive_configured (h : s.usb.state = 4) : hostActive s = true := by simp [hostActive, h]

theorem hostActive_reset (h : s.usb.state ≠ 4) (hr : s.cb.rstLow = true) : hostActive s = false := by simp [hostActive, h, hr]

end Readiness

theorem lastRideReadiness : Claims.LastRideReadiness := fun _ =>
  ⟨lrBusy_mode, lrBusy_ledger,
   fun hm hi =>
    ⟨fun h => (lrBusy_idle hm hi).trans (if_pos (by simpa using h)),
     fun ht hh => by
      rw [lrBusy_idle hm hi, if_neg (by simp [ht, hh])]
      exact ⟨fun he => if_pos he, fun he => by
        rw [if_neg (by simp [he])]
        exact ⟨fun ha => if_pos ha, fun ha => if_neg (by simp [ha])⟩⟩⟩,
   hostActive_configured, hostActive_reset⟩

/-! The master (R421, R423). -/

section Master
variable {s : State}

theorem lrCall_busy {t : State} {r : Nat} (hm : objN s 0x2A48 1 = 2) (hl : lrLive s = true) (hs : s.net.lr.state = 0)
    (ht : t = modLr s (fun l => { l with evSince := false, localWake := false })) (hb : lrBusy t = r) (hr : r ≠ 0) :
    lrCall s = (modLr s (fun l => { l with reason := r }), 0x24) := by
  subst ht
  have hnone : (if s.net.lr.master && (s.net.lr.state = 2 || s.net.lr.state = 3) then lrEnd (lrSend s 6 0) 2 0 s.net.nodeAct
      else s) = s := if_neg (by rw [hs]; simp)
  unfold lrCall
  dsimp only
  rw [if_neg (by rw [hm, hl]; decide), hnone, hb, if_pos hr]

theorem lrAnswer_again {n r : Nat} (ha : s.net.lr.answers.lookup n ≠ none) : lrAnswer s n s.net.lr.round r = s :=
  if_pos (by simp [Option.isSome_iff_ne_none.mpr ha])

section Waiting
variable (hp : lrPart s = true) (hs : s.net.lr.state = 2) (hm : s.net.lr.master = true)
include hp hs hm

section WindowEnd
variable (hc : s.net.lr.commitSent = false) (ht : s.net.lr.startSt + 10000000 ≤ now s)
include hc ht

theorem lrWindowEnd_vetoed {n : Nat} (hv : s.net.lr.veto = some n) : lrWindowEnd s = lrEnd (lrSend s 6 8) 2 8 n := by
  unfold lrWindowEnd
  dsimp only
  rw [if_neg (by rw [hp, hs, hm, hc, decide_eq_false (Nat.not_lt.mpr ht)]; decide), hv]

theorem lrWindowEnd_fails {n r : Nat} (hv : s.net.lr.veto = none) (hf : lrFailing s = some (n, r)) :
    lrWindowEnd s = lrEnd (lrSend s 6 r) 2 r n := by
  unfold lrWindowEnd
  dsimp only
  rw [if_neg (by rw [hp, hs, hm, hc, decide_eq_false (Nat.not_lt.mpr ht)]; decide), hv, hf]

theorem lrWindowEnd_busy {r : Nat} (hv : s.net.lr.veto = none) (hf : lrFailing s = none) (hb : lrBusy s = r) (hr : r ≠ 0) :
    lrWindowEnd s = lrEnd (lrSend s 6 r) 2 r s.net.nodeAct := by
  unfold lrWindowEnd
  dsimp only
  rw [if_neg (by rw [hp, hs, hm, hc, decide_eq_false (Nat.not_lt.mpr ht)]; decide), hv, hf]
  dsimp only
  rw [hb, if_pos hr]

end WindowEnd

theorem lrVeto_master (n : Nat) : lrVeto s n s.net.lr.round =
    if s.net.lr.commitSent then lrEnd (lrSend s 6 8) 2 8 n else modLr s (fun l => { l with veto := some n }) := by
  unfold lrVeto
  dsimp only
  rw [if_neg (by simp [hp]), if_neg (by simp [hs]), if_pos (by simp [hs, hm])]

end Waiting

theorem lrFailing_busy {a : Nat × Nat} (h : s.net.lr.answers.find? (fun a => a.2 != 0) = some a) : lrFailing s = some a := by
  unfold lrFailing
  rw [h]

theorem lrFailing_missing {n : Nat} (h : s.net.lr.answers.find? (fun a => a.2 != 0) = none)
    (hn : (lrMembers s).find? (fun n => (s.net.lr.answers.lookup n).isNone) = some n) : lrFailing s = some (n, 7) := by
  unfold lrFailing
  rw [h, hn]
  rfl

end Master

theorem lastRideMaster : Claims.LastRideMaster := fun s =>
  ⟨fun p t h hm hl hs ht =>
    ⟨fun hb => doWrite_command (n := 1) h (by decide)
      ((command_lrCall ..).trans (congrArg some (lrCall_idle (s := touch s p) hm hl hs ht hb))),
     fun r hb hr => doWrite_command_turnedAway (n := 1) (d := 0x24) h (by decide)
      ((command_lrCall ..).trans (congrArg some (lrCall_busy (s := touch s p) hm hl hs ht hb hr))) (by decide)⟩,
   fun hp hs hm =>
    ⟨fun _ _ hn ha => next_congr (lrAnswer_first hp hs hm hn ha),
     fun _ _ ha => next_congr (lrAnswer_again ha),
     fun hc ht => ⟨fun _ hv => next_congr (lrWindowEnd_vetoed hp hs hm hc ht hv),
      fun _ _ hv hf => next_congr (lrWindowEnd_fails hp hs hm hc ht hv hf),
      fun hv hf hb => next_congr (lrWindowEnd_commits hp hs hm hc ht hv hf hb),
      fun _ hv hf hb hr => next_congr (lrWindowEnd_busy hp hs hm hc ht hv hf hb hr)⟩,
     fun _ => lrFailing_busy,
     fun h _ => lrFailing_missing h,
     fun n hc => next_congr ((lrVeto_master hp hs hm n).trans (if_pos hc)),
     fun n hc => next_congr ((lrVeto_master hp hs hm n).trans (if_neg (by rw [hc]; decide)))⟩⟩

/-! The participant (R421, R424). -/

section Participant
variable {s : State} {r : Nat} (hp : lrPart s = true) (hm : objN s 0x2A48 1 = 1)
include hp hm

theorem lrCallReceive_other {n : Nat} (hn : n ≠ objN s 0x2A48 3) :
    lrCallReceive s n r = raise (modLr s (fun l => { l with node := n })) 478 n r := by
  unfold lrCallReceive
  dsimp only
  rw [if_neg (by rw [hp, hm]; decide), if_pos hn]

theorem lrCallReceive_busy {t : State} (h3 : s.net.lr.state ≠ 3) (h4 : s.net.lr.state ≠ 4) (ht : t = lrBegin s (wrap 8 r) 1 false)
    (hb : lrBusy t ≠ 0) :
    lrCallReceive s (objN s 0x2A48 3) r = lrSend (modLr t (fun l => { l with ready := false })) 3 (lrBusy t) := by
  subst ht
  unfold lrCallReceive
  dsimp only
  rw [if_neg (by rw [hp, hm]; decide), if_neg (by simp), if_neg (by simp [h3, h4]), if_neg hb, decide_eq_false hb]

end Participant

theorem lastRideParticipant : Claims.LastRideParticipant := fun _ hp hm =>
  ⟨fun _ _ hn => next_congr (lrCallReceive_other hp hm hn),
   fun _ _ h3 h4 ht => ⟨fun hb => next_congr (lrCallReceive_ready hp hm h3 h4 ht hb), fun hb => next_congr (lrCallReceive_busy hp hm h3 h4 ht hb)⟩,
   fun _ hs => next_congr (lrAbort_waiting hp hs),
   fun hs hr ht => next_congr (lrWaitTimeout_due hs hr ht)⟩

/-! The curtain, sleep and wake (R425–R429). -/

section Curtain
variable {s : State}

theorem lrCommit_own (hp : lrPart s = true) (hs : s.net.lr.state = 2) (hm : s.net.lr.master = true)
    (hc : s.net.lr.commitSent = true) :
    lrCommit s s.net.nodeAct s.net.lr.round = modLr s (fun l => { l with state := 3, startSt := now s }) :=
  if_pos (by simp [hp, hs, hm, hc])

theorem lrCurtainEnd_sleeps (hs : s.net.lr.state = 3) (ht : s.net.lr.startSt + 3980000 ≤ now s) (hm : objN s 0x2A48 2 ≠ 1) :
    ∃ u, lrCurtainEnd s = canStandby u 3 ∧ u.net.lr.state = 4 ∧ u.net.lr.outcome = 1 ∧ u.net.lr.sleeps = inc32 s.net.lr.sleeps := by
  refine ⟨raise (modLr s (fun l => { l with
      state := 4, outcome := 1, reason := 0, sleeps := inc32 l.sleeps, master := false, ready := false, commitSent := false }))
      472 s.net.lr.round (objN s 0x2A48 2), ?_, rfl, rfl, rfl⟩
  unfold lrCurtainEnd
  dsimp only
  rw [if_neg (by rw [hs, decide_eq_false (Nat.not_lt.mpr ht)]; decide), if_neg (by simp [hm])]

theorem canWake_doze {c : Nat} (hb : s.net.busState = 3) (hm : s.md.mode = .doze) : canWake s c =
    modMd (modLr s (fun l => { l with wakeCause := c })) (fun d => { d with wakeSrc := setBit d.wakeSrc 4 }) := by
  unfold canWake
  rw [if_neg (by simp [hb]), if_pos hm]

theorem exec_canWake_unknown {f : WakeFrame} (h : wakeCauseOf s f = none) : exec (.canWake f) s = .next (finish s s) := by
  show Host.Outcome.next (finish s (match wakeCauseOf s f with | some c => canWake s c | none => s)) = _
  rw [h]

end Curtain

theorem lastRideCurtain : Claims.LastRideCurtain := fun _ =>
  ⟨fun hp hs hm => next_congr (lrCommit_waiting hp hs hm),
   fun hp hs hm hc => next_congr (lrCommit_own hp hs hm hc),
   fun _ hp hs => ⟨next_congr (lrWake_curtain hp hs), next_congr (lrVeto_curtain hp hs)⟩,
   fun hs ht hm => by
    obtain ⟨u, hu, hshown⟩ := lrCurtainEnd_sleeps hs ht hm
    exact ⟨u, next_congr hu, hshown⟩,
   ⟨rfl, rfl⟩,
   fun _ _ hb hw => ⟨fun hm => (exec_canWake_recognised hw).trans (next_congr (canWake_asleep hb hm)),
     fun hm => (exec_canWake_recognised hw).trans (next_congr (canWake_doze hb hm))⟩,
   fun _ hw => exec_canWake_unknown hw,
   fun _ _ _ => ⟨rfl, rfl, rfl, rfl⟩⟩

end Sys2Proof.Machine

/-- Settles O52: the round by the part the engine has in it and by what has come of it. -/
theorem lastRide : Obligations.LastRide :=
  ⟨Sys2Proof.Machine.lastRideReadiness, Sys2Proof.Machine.lastRideMaster, Sys2Proof.Machine.lastRideParticipant,
    Sys2Proof.Machine.lastRideCurtain⟩
end

section
/-!
PROOF. The serial ports: a frame of 8 data bits without parity, and what a port receives and transmits (R430–R435).
-/

namespace Sys2Proof.Machine

open Sys2Proof

/-! Frames (R430–R432). -/

/-- What the receiver makes of the samples of a frame of 8 data bits, no parity and 1 stop bit. -/
def frame8n1 (samples : List Nat) : UartFrame :=
  let high := samples.map sampleHigh
  let dataBits := (high.drop 1).take 8
  let brk := high.all (fun b => !b)
  { data := if brk then 0 else sumN ((upto dataBits.length).map (fun k => b2n (dataBits.getD k false) * 2 ^ k))
    parity := false
    framing := ((high.drop 9).take 1).any (fun b => !b)
    brk := brk
    noise := samples.any (fun k => k == 1 || k == 2) }

section Frame
variable {s : State} {n : Fin 2} (h3 : uartCfg s n 3 = 8) (h4 : uartCfg s n 4 = 0) (h5 : uartCfg s n 5 = 1)
include h3 h4 h5

theorem uartFrame_8n1 (samples : List Nat) : uartFrame s n samples = frame8n1 samples := by
  simp [uartFrame, frame8n1, h3, h4, h5, b2n]

end Frame

theorem frame8n1_data : ∀ b0 b1 b2 b3 b4 b5 b6 b7 : Bool,
    frame8n1 [0, 3 * b2n b0, 3 * b2n b1, 3 * b2n b2, 3 * b2n b3, 3 * b2n b4, 3 * b2n b5, 3 * b2n b6, 3 * b2n b7, 3] =
      ⟨b2n b0 + 2 * b2n b1 + 4 * b2n b2 + 8 * b2n b3 + 16 * b2n b4 + 32 * b2n b5 + 64 * b2n b6 + 128 * b2n b7, false, false, false,
        false⟩ := by decide +kernel

theorem uartFrames : Claims.UartFrames :=
  ⟨fun _ => rfl,
   fun s n b0 b1 b2 b3 b4 b5 b6 b7 h3 h4 h5 => (uartFrame_8n1 h3 h4 h5 _).trans (frame8n1_data b0 b1 b2 b3 b4 b5 b6 b7),
   fun s n h3 h4 h5 => by
    simp only [uartFrame_8n1 h3 h4 h5]
    decide⟩

/-! Receiving (R431, R432, R435). -/

section Receive
variable {s : State} {n : Fin 2}

/-- The port as a completed character leaves it, EV476 apart. -/
def uartStored (u : UartSt) (f : UartFrame) : UartSt :=
  { uartCount u f u.rxHold.isNone with
    rxHold := (match u.rxHold with
      | none => some (f.data + f.flags)
      | some w => some (setBit w 13))
    errRun := f.flags + (if u.rxHold.isNone then 0 else 8192) != 0 }

theorem uartStore_port (s : State) (n : Fin 2) (f : UartFrame) : (uartStore s n f).uarts[n] = uartStored s.uarts[n] f := by
  unfold uartStore
  dsimp only
  exact ite_keeps (fun s => s.uarts[n]) (modUart_same ..) (modUart_same ..)

theorem uartStored_empty {u : UartSt} {f : UartFrame} (h : u.rxHold = none) : (uartStored u f).rxHold = some (f.data + f.flags) ∧
    (uartStored u f).rxChars = inc32 u.rxChars ∧ (uartStored u f).overruns = u.overruns := by
  simp [uartStored, uartCount, h]

theorem uartStored_full {u : UartSt} {f : UartFrame} {w : Nat} (h : u.rxHold = some w) :
    (uartStored u f).rxHold = some (setBit w 13) ∧ (uartStored u f).rxChars = u.rxChars ∧
      (uartStored u f).overruns = inc32 u.overruns := by
  simp [uartStored, uartCount, h]

theorem uartReceive_afterBreak {x : List Nat} (h : s.uarts[n].breakWait = true) : uartReceive s n x = s :=
  if_pos (by rw [h, Bool.or_true])

theorem uartStartEdge_noWake (hw : uartCfg s n 7 ≠ 1) (hm : s.md.mode = .doze) : uartStartEdge s n = s := by
  unfold uartStartEdge
  rw [if_pos hm, if_pos hw]

theorem uartStartEdge_notLive (hm : s.md.mode ≠ .doze) (hd : dictLive s = false) : uartStartEdge s n = s := by
  unfold uartStartEdge
  rw [if_neg hm, if_neg (by rw [hd]; decide)]

theorem uartStartEdge_wakePend (hw : uartCfg s n 7 = 1) (hm : s.md.mode = .doze) : (uartStartEdge s n).uarts[n].wakePend = true := by
  unfold uartStartEdge
  rw [if_pos hm, if_neg (not_not_intro hw)]
  exact congrArg UartSt.wakePend (modUart_same ..)

theorem uartEdge_uarts (s : State) (n : Fin 2) : (uartEdge s n).uarts = s.uarts := ite_keeps (·.uarts) rfl rfl

theorem uartStartEdge_live (hm : s.md.mode ≠ .doze) (hd : dictLive s = true) : uartStartEdge s n =
    modUart (uartEdge s n) n (fun u => { u with rxBusy := u.rxBusy || (uartActive s n && !u.breakWait) }) := by
  unfold uartStartEdge
  rw [if_neg hm, if_pos hd]

/-- Outside DOZE a start edge wakes where WAKE_EN is 1, and begins a frame of its own port alone. -/
theorem uartStartEdge_begins (hm : s.md.mode ≠ .doze) (hd : dictLive s = true) :
    (uartCfg s n 7 = 1 → (uartStartEdge s n).net.lr.localWake = true) ∧
    (uartCfg s n 7 ≠ 1 → (uartStartEdge s n).net = s.net) ∧
    (uartStartEdge s n).uarts[n] = { s.uarts[n] with rxBusy := s.uarts[n].rxBusy || (uartActive s n && !s.uarts[n].breakWait) } ∧
    ∀ m : Fin 2, m ≠ n → (uartStartEdge s n).uarts[m] = s.uarts[m] := by
  rw [uartStartEdge_live hm hd]
  refine ⟨fun hw => ?_, fun hw => ?_, ?_, fun m hne => ?_⟩
  · show (uartEdge s n).net.lr.localWake = true
    unfold uartEdge
    rw [if_pos hw]
    rfl
  · show (uartEdge s n).net = s.net
    unfold uartEdge
    rw [if_neg hw]
  · rw [modUart_same, uartEdge_uarts]
  · refine (upd_other _ n m _ hne.symm).trans ?_
    rw [uartEdge_uarts]
    rfl

end Receive

theorem uartReceives : Claims.UartReceives := fun s n =>
  ⟨fun f h => ⟨_, rfl, by rw [uartStore_port]; exact uartStored_empty h⟩,
   fun f w h => ⟨_, rfl, by rw [uartStore_port]; exact uartStored_full h⟩,
   fun _ hd hb hw ha hx => next_congr (uartReceive_good hd hb hw ha hx),
   fun _ hb => next_congr (uartReceive_afterBreak hb),
   next_congr rfl,
   fun hw hm => next_congr (uartStartEdge_noWake hw hm),
   fun hm hd => next_congr (uartStartEdge_notLive hm hd),
   fun hw hm => by
    obtain ⟨hsrc, hrts⟩ := uartStartEdge_doze hw hm
    exact ⟨uartStartEdge s n, rfl, hsrc, hrts, uartStartEdge_wakePend hw hm⟩,
   fun hm hd => ⟨uartStartEdge s n, rfl, uartStartEdge_begins hm hd⟩⟩

/-! Transmitting (R433). -/

section Transmit
variable {s : State} {n : Fin 2}

theorem uartTxStart_cts (s : State) (n : Fin 2) (cts : Bool) : (uartTxStart s n cts).uarts[n].ctsLow = cts := by
  have hcts : (modUart s n (fun u => { u with ctsLow := cts })).uarts[n].ctsLow = cts := congrArg UartSt.ctsLow (modUart_same ..)
  unfold uartTxStart
  dsimp only
  exact ite_keeps (fun s => s.uarts[n].ctsLow) ((congrArg UartSt.ctsLow (modUart_same ..)).trans hcts) hcts

theorem uartTxStart_held (h : uartCfg s n 6 ≠ 0) : uartTxStart s n false = modUart s n (fun u => { u with ctsLow := false }) :=
  if_neg (by simp [h])

theorem uartTxDone_port {c : Nat} (h : s.uarts[n].txShift = some c) : (uartTxDone s n).uarts[n] = { s.uarts[n] with
    txShift := none, txChars := if uartActive s n then inc32 s.uarts[n].txChars else s.uarts[n].txChars } := by
  unfold uartTxDone
  rw [if_pos (by rw [h]; rfl), modUart_same]

theorem uartTxDone_idle (h : s.uarts[n].txShift = none) : uartTxDone s n = s := if_neg (by rw [h]; decide)

end Transmit

theorem uartTransmits : Claims.UartTransmits := fun s n =>
  ⟨fun _ cts ha hh hs hf => by
    obtain ⟨hshift, hhold⟩ := uartTxStart_free ha hh hs hf
    exact ⟨uartTxStart s n cts, rfl, hshift, hhold, uartTxStart_cts s n cts⟩,
   fun h => next_congr (uartTxStart_held h),
   fun _ h => ⟨uartTxDone s n, rfl, by rw [uartTxDone_port h], by rw [uartTxDone_port h], by rw [uartTxDone_port h]⟩,
   fun h => next_congr (uartTxDone_idle h)⟩

end Sys2Proof.Machine

/-- Settles O53: a frame bit by bit, and the ports by what they hold. -/
theorem serialPorts : Obligations.SerialPorts :=
  ⟨Sys2Proof.Machine.uartFrames, Sys2Proof.Machine.uartReceives, Sys2Proof.Machine.uartTransmits⟩
end

section
/-!
PROOF. Event flags and the Trouble Log, the order of the raises of one cycle, and the queues of the routes (R391, R443–R451).
-/

namespace Sys2Proof.Machine

open Sys2Proof

/-! Flags (R446). -/

theorem evRec_clearFlag_count (s : State) (e f : Nat) : (evRec (clearFlag s e) f).count = (evRec s f).count := by
  by_cases h : f = e
  · rw [h, evRec_clearFlag_same]
  · rw [evRec_clearFlag_other s h]

theorem evRec_clearAllFlags_count (s : State) (f : Nat) : (evRec (clearAllFlags s) f).count = (evRec s f).count := by
  unfold clearAllFlags
  induction flaggedEvents s generalizing s with
  | nil => rfl
  | cons e es ih => rw [applyAll_cons, ih, evRec_clearFlag_count]

theorem flagsAndLog : Claims.FlagsAndLog := fun s p =>
  ⟨fun h => ⟨_, doWrite_command (n := 1) h (by decide) (command_eventClearFlag ..), evRec_clearFlag_same ..,
     fun _ he => evRec_clearFlag_other _ he⟩,
   fun h => ⟨_, doWrite_command (n := 1) h (by decide) (command_eventClearAll ..),
     fun e => ⟨clearAllFlags_flag _ e, evRec_clearAllFlags_count (touch s p) e⟩⟩,
   fun _ ht h => by
     subst ht
     exact doWrite_command (n := 1) h (by decide) (command_tlClear ..)⟩

/-! The order of raises (R443). -/

section Sorting
variable {α : Type} {before : α → α → Bool}

theorem insertBy_eq_orderedInsert (a : α) (xs : List α) :
    insertBy before a xs = xs.orderedInsert (fun x y => before x y = true) a := by
  induction xs with
  | nil => rfl
  | cons b r ih => simp only [insertBy, List.orderedInsert_cons, ih]

theorem insertBy_perm (a : α) (xs : List α) : (insertBy before a xs).Perm (a :: xs) := by
  rw [insertBy_eq_orderedInsert]
  exact List.perm_orderedInsert _ _ _

theorem foldl_insertBy_perm (xs acc : List α) : (xs.foldl (fun acc a => insertBy before a acc) acc).Perm (xs ++ acc) := by
  induction xs generalizing acc with
  | nil => exact .refl _
  | cons a xs ih => exact (ih _).trans (((insertBy_perm a acc).append_left xs).trans List.perm_middle)

theorem sortBy_perm (xs : List α) : (sortBy before xs).Perm xs := by
  simpa [sortBy] using foldl_insertBy_perm (before := before) xs []

/-! An order of which "does not come before" is transitive keeps a list in order as an element is put into its place. -/

variable (asymm : ∀ a b, before a b = true → before b a = false)
  (negTrans : ∀ a b c, before b a = false → before c b = false → before c a = false)
include asymm negTrans

theorem insertBy_ordered (a : α) (xs : List α) (h : xs.Pairwise (fun x y => before y x = false)) :
    (insertBy before a xs).Pairwise (fun x y => before y x = false) := by
  induction xs with
  | nil => exact List.pairwise_singleton ..
  | cons b r ih =>
    obtain ⟨hb, hr⟩ := List.pairwise_cons.mp h
    unfold insertBy
    by_cases hab : before a b = true
    · rw [if_pos hab]
      refine List.pairwise_cons.mpr ⟨fun c hc => ?_, h⟩
      cases List.mem_cons.mp hc with
      | inl hcb => exact hcb ▸ asymm a b hab
      | inr hcr => exact negTrans a b c (asymm a b hab) (hb c hcr)
    · rw [if_neg hab]
      refine List.pairwise_cons.mpr ⟨fun c hc => ?_, ih hr⟩
      cases List.mem_cons.mp ((insertBy_perm a r).mem_iff.mp hc) with
      | inl hca => exact hca ▸ Bool.eq_false_iff.mpr hab
      | inr hcr => exact hb c hcr

theorem sortBy_ordered (xs : List α) : (sortBy before xs).Pairwise (fun x y => before y x = false) := by
  suffices ∀ acc : List α, acc.Pairwise (fun x y => before y x = false) →
      (xs.foldl (fun acc a => insertBy before a acc) acc).Pairwise (fun x y => before y x = false) from this [] .nil
  induction xs with
  | nil => exact fun _ h => h
  | cons a xs ih => exact fun acc h => ih _ (insertBy_ordered asymm negTrans a acc h)

end Sorting

theorem raiseBefore_iff (s : State) (a b : Raise) : raiseBefore s a b = true ↔
    entPrio (evEntry s b.ev) < entPrio (evEntry s a.ev) ∨
      entPrio (evEntry s a.ev) = entPrio (evEntry s b.ev) ∧ a.ev < b.ev := by
  simp [raiseBefore]

theorem raiseBefore_asymm (s : State) (a b : Raise) (h : raiseBefore s a b = true) : raiseBefore s b a = false := by
  rw [raiseBefore_iff] at h
  rw [Bool.eq_false_iff, Ne, raiseBefore_iff]
  omega

theorem raiseBefore_negTrans (s : State) (a b c : Raise) (hba : raiseBefore s b a = false) (hcb : raiseBefore s c b = false) :
    raiseBefore s c a = false := by
  rw [Bool.eq_false_iff, Ne, raiseBefore_iff] at *
  omega

theorem raiseSort_ordered (s : State) (rs : List Raise) : (raiseSort s rs).Pairwise (fun a b => raiseBefore s b a = false) :=
  sortBy_ordered (raiseBefore_asymm s) (raiseBefore_negTrans s) rs

theorem noteRaise_cyc (s : State) (r : Raise) : (noteRaise s r).rm.cyc = s.rm.cyc ++ [⟨now s, s.md.mode.code, r⟩] := by
  have hcyc : (routeLr (recordRaise (now s) s r) r).rm.cyc = s.rm.cyc := ite_keeps (fun t => t.rm.cyc) rfl rfl
  exact congrArg (· ++ [_]) hcyc

theorem routeCycle_sameCycle {s : State} (h : ∀ x ∈ s.rm.cyc, x.st = now s) :
    routeCycle s = applyAll (fun t x => routeRaise x.st x.mode t x.r) (modRm s (fun m => { m with cyc := [] }))
      (sortBy (fun a b => raiseBefore s a.r b.r) s.rm.cyc) := by
  have hlate : s.rm.cyc.filter (fun x => x.st != now s) = [] := List.filter_eq_nil_iff.mpr fun x hx => by simp [h x hx]
  have hnow : s.rm.cyc.filter (fun x => x.st == now s) = s.rm.cyc := List.filter_eq_self.mpr fun x hx => by simp [h x hx]
  unfold routeCycle
  dsimp only
  rw [hlate, hnow, List.nil_append]

theorem raisesInOrder : Claims.RaisesInOrder := fun s =>
  ⟨fun rs => ⟨sortBy_perm rs, raiseSort_ordered s rs⟩, noteRaise_cyc s,
   fun h => ⟨_, sortBy_perm _,
     sortBy_ordered (fun a b => raiseBefore_asymm s a.r b.r) (fun a b c => raiseBefore_negTrans s a.r b.r c.r) _,
     routeCycle_sameCycle h⟩⟩

/-! The queues of the routes (R391, R450, R451). -/

theorem evqPush_free {q : EvQueue} {cap : Nat} (h : q.recs.length < cap) (ev prio d1 d2 st : Nat) :
    evqPush q cap ev prio d1 d2 st =
      ({ q with recs := q.recs ++ [⟨ev, prio, q.lostNext, q.seq, d1, d2, wrap 32 st⟩], seq := wrap 16 (q.seq + 1),
                lostNext := false, lostRun := false }, false) := if_pos h

theorem evqPush_full {q : EvQueue} {cap : Nat} (h : cap ≤ q.recs.length) (ev prio d1 d2 st : Nat) :
    evqPush q cap ev prio d1 d2 st =
      ({ q with lostNext := true, lostCount := inc32 q.lostCount, lostRun := true }, !q.lostRun) := if_neg (Nat.not_lt.mpr h)

section Log
variable (t : TlSt) (x : TlEntry)

theorem tlPush_free (h : t.ring.length < 4096) : (tlPush t x).ring = t.ring ++ [x] ∧ (tlPush t x).wraps = t.wraps := by
  simp [tlPush, h]

theorem tlPush_full (h : t.ring.length = 4096) :
    (tlPush t x).ring = t.ring.drop 1 ++ [x] ∧ (tlPush t x).wraps = inc32 t.wraps := by
  simp [tlPush, h]

theorem tlPush_length (h : t.ring.length ≤ 4096) : (tlPush t x).ring.length ≤ 4096 := by
  by_cases hlt : t.ring.length < 4096
  · rw [(tlPush_free t x hlt).1, List.length_append, List.length_singleton]
    omega
  · rw [(tlPush_full t x (by omega)).1, List.length_append, List.length_singleton, List.length_drop]
    omega

theorem tlPush_newest : (tlPush t x).ring.getLast? = some x := List.getLast?_concat

theorem tlPush_nextSeq : (tlPush t x).nextSeq ≠ 0 := by
  show (if wrap 32 (t.nextSeq + 1) = 0 then 1 else wrap 32 (t.nextSeq + 1)) ≠ 0
  split
  · decide
  next h => exact h

end Log

theorem routeQueues : Claims.RouteQueues :=
  ⟨fun _ _ ev prio d1 d2 st h => by simp [evqPush_free h], fun _ _ ev prio d1 d2 st h => by simp [evqPush_full h],
   fun t x h => ⟨tlPush_length t x h, tlPush_newest t x, tlPush_free t x, tlPush_full t x, tlPush_nextSeq t x⟩⟩

end Sys2Proof.Machine

/-- Settles O54: the flags and the log, the sorting of a cycle's raises, and each route's queue. -/
theorem eventRouting : Obligations.EventRouting :=
  ⟨Sys2Proof.Machine.flagsAndLog, Sys2Proof.Machine.raisesInOrder, Sys2Proof.Machine.routeQueues⟩
end

section
/-!
PROOF. The inputs of the Safety Net, its cuts and their release (R447, R448).
-/

namespace Sys2Proof.Machine

open Sys2Proof

/-! Inputs. -/

theorem coverRelease_early {s : State} {t : ST} (h : s.sn.coverDue = some t) (ht : now s < t) : coverRelease s = s := by
  unfold coverRelease
  rw [h]
  exact if_neg (Nat.not_le.mpr ht)

theorem haltPin_rises {s : State} (hon : s.pw.on = true) (h : s.sn.haltLow = true) :
    haltPin s false = cutsFollow s (modSn s (fun n => { n with haltLow := false })) :=
  (if_neg (by rw [hon, h]; decide)).trans (if_neg (by decide))

theorem safetyInputs : Claims.SafetyInputs := fun _ hon =>
  ⟨fun h => next_congr (coverAssert_high hon h), fun h => next_congr (coverDeassert_low hon h),
   fun _ h ht => next_congr (coverRelease_due h ht), fun _ h ht => next_congr (coverRelease_early h ht),
   fun h => next_congr (haltPin_falls hon h), fun h => next_congr (haltPin_rises hon h),
   fun _ ho => next_congr (otAssert_high hon ho), fun _ => rfl,
   fun _ _ ho => next_congr (ovAssert_high hon ho), fun _ => rfl⟩

/-! Cuts and their release. -/

section Cuts
variable {s : State}

theorem outputCut_cover (h : s.sn.coverLow = true) : outputCut s = true := by simp [outputCut, h]

theorem outputCut_halt (h : s.sn.haltLatch = true) : outputCut s = true := by simp [outputCut, h]

theorem headCut_ot {k : Fin 2} (h : s.sn.otLatch[k] = true) : headCut s k = true := by
  rw [headCut, h, Bool.or_true, Bool.true_or, Bool.true_or]

theorem headCut_ov {k : Fin 2} (h : s.sn.ovLatch[k] = true) : headCut s k = true := by
  rw [headCut, h, Bool.or_true]

theorem latchHeld_halt (hl : s.sn.haltLatch = true) (h : s.sn.haltLow = true) : latchHeld s = true := by simp [latchHeld, hl, h]

theorem snRelease_held (h : latchHeld s = true) : snRelease s = (s, 0x23) := if_pos h

theorem latchHeld_touch (s : State) (p : Path) : latchHeld (touch s p) = latchHeld s := rfl

theorem exec_snRelease_held {p : Path} (h : Passes s p (okey 0x2C11 1) 1) (hl : latchHeld s = true) :
    exec (.snRelease p) s = .next (finish s (turnedAway s p 0x23)) :=
  doWrite_command_turnedAway (n := 1) (d := 0x23) h (by decide)
    ((command_snRelease ..).trans (congrArg some (snRelease_held ((latchHeld_touch s p).trans hl)))) (by decide)

theorem exec_snRelease_free {p : Path} (h : Passes s p (okey 0x2C11 1) 1) (hl : latchHeld s = false) :
    exec (.snRelease p) s = .next (finish s (taken (snReleaseAll (touch s p)) p (okey 0x2C11 1))) :=
  doWrite_command (n := 1) h (by decide)
    ((command_snRelease ..).trans (congrArg some (snRelease_free ((latchHeld_touch s p).trans hl))))

end Cuts

theorem cutsAndRelease : Claims.CutsAndRelease := fun _ =>
  ⟨outputCut_cover, outputCut_halt, fun _ => headCut_ot, fun _ => headCut_ov, fun _ => exec_snRelease_held,
   fun _ => exec_snRelease_free, latchHeld_halt⟩

end Sys2Proof.Machine

/-- Settles O55: each input as the model's command carries it out, and the release by whether a latch is still held. -/
theorem safetyNet : Obligations.SafetyNet := ⟨Sys2Proof.Machine.safetyInputs, Sys2Proof.Machine.cutsAndRelease⟩
end

section
/-!
PROOF. Rail faults, AVS and the power-down sequence (R459, R463, R474–R478).
-/

namespace Sys2Proof.Machine

open Sys2Proof

/-! Rails (R459, R474). -/

section Rails
variable {s : State} {r v : Nat}

theorem railFail_above (h : railUv s r ≤ v) : railFail s r v = s :=
  if_pos (by rw [decide_eq_true h, Bool.or_true])

theorem railOver_ignored (h : r = 1 ∨ r = 2 ∨ 10 * v ≤ 11 * railSet s r) : railOver s r v = s :=
  if_pos (by
    simp only [Bool.or_eq_true, decide_eq_true_eq]
    tauto)

variable (hon : s.pw.on = true) (h9 : r ≤ 9) (hv : v < railUv s r)
include hon h9 hv

theorem railFail_below : (!s.pw.on || decide (9 < r) || decide (railUv s r ≤ v)) = false := by
  rw [hon, decide_eq_false (Nat.not_lt.mpr h9), decide_eq_false (Nat.not_le.mpr hv)]
  rfl

theorem railFail_off (ho : railOff s r = true) : railFail s r v = modPw s (fun w => { w with flags := setBit w.flags r }) :=
  (if_neg (Bool.eq_false_iff.mp (railFail_below hon h9 hv))).trans (if_pos ho)

theorem railFail_recorded (ho : railOff s r = false) (hp : s.pw.pf = none) {u : State}
    (hu : u = raise (modPw (modPw s (fun w => { w with flags := setBit w.flags r })) (fun w => { w with failed := setBit w.failed r }))
      484 r v) :
    railFail s r v = if r = 0 && s.pw.present then pfBegin u 3 true
      else if within 4 8 r && s.pw.present then pfBegin u 4 true else u := by
  subst hu
  refine (if_neg (Bool.eq_false_iff.mp (railFail_below hon h9 hv))).trans ((if_neg (by rw [ho]; decide)).trans (if_neg ?_))
  show ¬ s.pw.pf.isSome = true
  rw [hp]
  decide

end Rails

theorem railFaults : Claims.RailFaults := fun s r v hon h9 =>
  ⟨fun h => next_congr (railFail_above h),
   fun hv t ht => by
     subst ht
     refine ⟨fun ho => next_congr (railFail_off hon h9 hv ho), fun ho hp u hu => ?_⟩
     have hrec := railFail_recorded hon h9 hv ho hp hu
     exact ⟨fun h0 hpr => next_congr (hrec.trans (if_pos (by rw [decide_eq_true h0, hpr]; rfl))),
       fun h4 h8 hpr => next_congr (hrec.trans ((if_neg (by simp; omega)).trans (if_pos (by simp [within, h4, h8, hpr])))),
       fun hr => next_congr (hrec.trans ((if_neg (by simp; omega)).trans (if_neg (by simp [within]; omega))))⟩,
   fun h1 h2 h => next_congr (railOver_high hon h9 h1 h2 h),
   fun h => next_congr (railOver_ignored h), rfl, rfl, rfl⟩

/-! AVS (R463). -/

section Avs
variable {s : State} {counts : List Nat} {ro : Nat} (hro : ro = counts.foldl min 65535)
include hro

theorem avsUpdate_critical (h : ro < objN s 0x2D01 6 * 15 / 16) : ∃ u,
    avsUpdate s counts = avsLimit (raise u 487 ro u.pw.vcore) ∧
      u.pw.vcore = max s.pw.vcore (min (s.pw.vcore + 25) (objN s 0x2D01 4)) ∧ u.pw.critSteps = inc32 s.pw.critSteps ∧
      u.pw.roMin = ro := by
  subst hro
  exact ⟨_, if_pos h, rfl, rfl, rfl⟩

variable (hcrit : objN s 0x2D01 6 * 15 / 16 ≤ ro)
include hcrit

theorem avsUpdate_withoutAvs (hoff : objN s 0x2D01 1 ≠ 1 ∨ objN s 0x2D01 2 ≠ 0) :
    avsUpdate s counts = modPw s (fun w => { w with roMin := ro }) := by
  subst hro
  refine (if_neg (Nat.not_lt.mpr hcrit)).trans (if_neg ?_)
  simp only [Bool.and_eq_true, decide_eq_true_eq]
  tauto

variable (h1 : objN s 0x2D01 1 = 1) (h2 : objN s 0x2D01 2 = 0)
include h1 h2

/-- With AVS on, the step is that of the count against the band. -/
theorem avsUpdate_step {up down : Bool} (hup : up = decide (ro + objN s 0x2D01 7 < objN s 0x2D01 6))
    (hdown : down = decide (objN s 0x2D01 6 + objN s 0x2D01 7 < ro)) {u : State}
    (hu : u = modPw s (fun w =>
      { w with
        roMin := ro
        vcore := clampN (objN s 0x2D01 3) (objN s 0x2D01 4)
          (if up then w.vcore + 5 else if down then w.vcore - 5 else w.vcore) })) :
    avsUpdate s counts = if up || down then avsLimit u else u := by
  subst hro hup hdown hu
  exact (if_neg (Nat.not_lt.mpr hcrit)).trans (if_pos (by rw [decide_eq_true h1, decide_eq_true h2]; rfl))

theorem avsUpdate_slow (h : ro + objN s 0x2D01 7 < objN s 0x2D01 6) : avsUpdate s counts = avsLimit (modPw s (fun w =>
    { w with roMin := ro, vcore := clampN (objN s 0x2D01 3) (objN s 0x2D01 4) (w.vcore + 5) })) :=
  avsUpdate_step hro hcrit h1 h2 (up := true) (decide_eq_true h).symm rfl rfl

theorem avsUpdate_fast (h : objN s 0x2D01 6 + objN s 0x2D01 7 < ro) : avsUpdate s counts = avsLimit (modPw s (fun w =>
    { w with roMin := ro, vcore := clampN (objN s 0x2D01 3) (objN s 0x2D01 4) (w.vcore - 5) })) :=
  avsUpdate_step hro hcrit h1 h2 (up := false) (down := true) (decide_eq_false (by omega)).symm (decide_eq_true h).symm rfl

theorem avsUpdate_inBand (hlow : objN s 0x2D01 6 ≤ ro + objN s 0x2D01 7) (hhigh : ro ≤ objN s 0x2D01 6 + objN s 0x2D01 7) :
    avsUpdate s counts = modPw s (fun w =>
      { w with roMin := ro, vcore := clampN (objN s 0x2D01 3) (objN s 0x2D01 4) w.vcore }) :=
  avsUpdate_step hro hcrit h1 h2 (up := false) (down := false) (decide_eq_false (by omega)).symm (decide_eq_false (by omega)).symm rfl

end Avs

theorem avsSteps : Claims.AvsSteps := fun s0 counts ro s hl hro hs => by
  subst hs
  refine ⟨fun hd => next_congr (if_neg (by rw [hl, hd]; decide)), fun hd => ?_⟩
  have hdue : (controlLive s0 && dueAfter s0.pw.avsSt 200000 (now s0)) = true := by rw [hl, hd]; rfl
  refine ⟨fun h => ?_, fun hc h1 h2 =>
    ⟨fun h => next_when hdue (avsUpdate_slow hro hc h1 h2 h), fun h => next_when hdue (avsUpdate_fast hro hc h1 h2 h),
     fun hlow hhigh => next_when hdue (avsUpdate_inBand hro hc h1 h2 hlow hhigh)⟩,
    fun hc hoff => next_when hdue (avsUpdate_withoutAvs hro hc hoff)⟩
  obtain ⟨u, hstep, hu⟩ := avsUpdate_critical hro h
  exact ⟨u, next_when hdue hstep, hu⟩

/-! The power-down sequence (R474–R478). -/

section Sequence
variable {s : State} {c : Nat} {pr : Bool}

theorem pfBegin_none (h : s.pw.on = false ∨ s.pw.pf.isSome = true ∨ (dozeOff s = true ∧ s.md.trans = none)) :
    pfBegin s c pr = s :=
  if_pos (by
    rcases h with h | h | ⟨hd, ht⟩
    · rw [h]; rfl
    · rw [h, Bool.or_true, Bool.true_or]
    · rw [hd, ht, Option.isNone_none, Bool.and_true, Bool.or_true])

theorem pfBegin_first (hon : s.pw.on = true) (hp : s.pw.pf = none) (hd : dozeOff s = false ∨ s.md.trans.isSome = true) {t : State}
    (ht : t = raise { s with md := { s.md with trans := none, held := false },
                             pw := { s.pw with present := pr, pf := some ⟨c, now s, 3, 0⟩ } } 480 c s.md.mode.code) :
    pfBegin s c pr = pfSkip (norAbandon (boostOff (cutsFollow t (modSn t (fun n => { n with pdCut := true }))))) 2 := by
  subst ht
  refine if_neg ?_
  rw [hon, hp]
  rcases hd with hd | hd
  · simp [hd]
  · simp [Option.isNone_eq_false_iff.mpr hd]

theorem inputDip_none {us : Nat} (h : us < 5000 ∨ 6000 ≤ us) : inputDip s us = s :=
  if_pos (by
    simp only [Bool.or_eq_true, decide_eq_true_eq]
    tauto)

/-! What the loss of SB3V3 leaves. -/

theorem startFailed_eq (s : State) : startFailed s = s ∨ ∃ i : Fin 2,
    startFailed s = modBoot s (fun b => { b with slots := upd b.slots i (fun x => { x with fails := x.fails + 1 }) }) := by
  unfold startFailed
  split
  · split
    · exact .inr ⟨_, rfl⟩
    · exact .inl rfl
  · exact .inl rfl

theorem startFailed_started (h : s.md.mode ≠ .boot) : startFailed s = s :=
  if_neg (by simp [h])

theorem startFailed_keeps {β : Type} {φ : State → β} (h : ∀ f : Vector SysSlot 2 → Vector SysSlot 2, φ (modBoot s (fun b => { b with slots := f b.slots })) = φ s) :
    φ (startFailed s) = φ s := by
  obtain hs | ⟨i, hs⟩ := startFailed_eq s
  · rw [hs]
  · rw [hs]
    exact h fun v => upd v i fun x => { x with fails := x.fails + 1 }

end Sequence

theorem powerDown : Claims.PowerDown := fun s =>
  ⟨fun _ _ _ hon hp hd ht => next_congr (pfBegin_first hon hp hd ht), fun _ _ h => next_congr (pfBegin_none h),
   fun _ hon hp hd h5 h6 => next_congr (inputDip_short hon hp hd h5 h6), fun _ h => next_congr (inputDip_none h),
   ⟨coldReset s, rfl, rfl, rfl, rfl, fun h => congrArg (fun t => t.boot.slots) (startFailed_started h), rfl,
     startFailed_keeps (φ := fun t => t.boot.rollback) fun _ => rfl,
     startFailed_keeps (φ := fun t => t.boot.keys) fun _ => rfl,
     startFailed_keeps (φ := fun t => t.boot.appNor) fun _ => rfl,
     startFailed_keeps (φ := fun t => t.ctl.slots) fun _ => rfl,
     startFailed_keeps (φ := fun t => t.tl.copy) fun _ => rfl,
     rfl, rfl, rfl, rfl, rfl⟩⟩

end Sys2Proof.Machine

/-- Settles O56: the branches of each power command, and the reset that the loss of SB3V3 is. -/
theorem powerSupply : Obligations.PowerSupply :=
  ⟨Sys2Proof.Machine.railFaults, Sys2Proof.Machine.avsSteps, Sys2Proof.Machine.powerDown⟩
end

section
/-!
PROOF. System and application images, the slots and the keys (R490–R493, R497).
-/

namespace Sys2Proof.Machine

open Sys2Proof

/-! The verdict of an OPEN that a check refuses is a refusal. -/

theorem checkWriteRight_code (s : State) (p : Path) (k v : Nat) :
    checkWriteRight s p k v = 0 ∨ vRefused (checkWriteRight s p k v) = true := by
  unfold checkWriteRight
  repeat' split
  all_goals decide

theorem checkClaim_code (s : State) (p : Path) (k v : Nat) : checkClaim s p k v = 0 ∨ vRefused (checkClaim s p k v) = true := by
  unfold checkClaim
  repeat' split
  all_goals decide

theorem checkMode_code (s : State) (p : Path) (k : Nat) : checkMode s p k = 0 ∨ vRefused (checkMode s p k) = true := by
  unfold checkMode
  split <;> decide

theorem judgeOpen_write_refused {s : State} {p : Path} {idx n c : Nat} (hj : judgeOpen s p idx 0 true n = c) (hc : c ≠ 0) :
    vRefused c = true := by
  have hmem := firstRefusal_mem (hj ▸ hc : judgeOpen s p idx 0 true n ≠ 0)
  have hcode : firstRefusal _ = c := hj
  rw [hcode] at hmem
  simp only [List.mem_cons, List.not_mem_nil, or_false] at hmem
  rcases hmem with h | h | h | h | h | h <;> rw [h] at hc ⊢
  · exact (checkExists_code _).resolve_left hc
  · exact (checkWriteRight_code ..).resolve_left hc
  · revert hc
    split <;> decide
  · revert hc
    repeat' split
    all_goals decide
  · exact (checkClaim_code ..).resolve_left hc
  · exact (checkMode_code ..).resolve_left hc

/-! An image's transfer, from its OPEN to the judgement of the whole (R385, R490, R497). -/

/-- The state that judges an image whose last segment has arrived. -/
def imageReceived (s : State) (p : Path) (idx n : Nat) : State :=
  noteBytes (setXfer (touch (imageOpened s p idx n) p) p none) idx n

/-- What the judgement of an image reads and no part of its transfer changes. -/
def imageGround (s : State) : SysSlot × Fin 2 × AppSt × List Byte :=
  (s.boot.slots[s.boot.running], s.boot.running, s.app, s.boot.appNor)

theorem imageGround_dropXfer (s : State) (p : Path) : imageGround (dropXfer s p) = imageGround s := by
  unfold dropXfer
  cases s.ctl.xfers[p.idx] with
  | none => rfl
  | some x =>
    dsimp only
    exact ite_keeps imageGround rfl rfl

theorem updN_other_slot (v : Vector SysSlot 2) (i : Fin 2) (f : SysSlot → SysSlot) : (updN v (1 - i.val) f)[i] = v[i] := by
  have hne : ∀ j : Fin 2, 1 - j.val ≠ j.val := by decide
  simp [updN, hne i]

theorem imageGround_imageErase (s : State) : imageGround (imageErase s) = imageGround s :=
  congrArg (fun x => (x, s.boot.running, s.app, s.boot.appNor)) (updN_other_slot s.boot.slots s.boot.running _)

theorem imageGround_answer_setXfer (s : State) (p : Path) (x : Option DomXfer) (st : Nat) :
    imageGround (answer (setXfer s p x) p st) = imageGround s := rfl

theorem imageGround_imageOpened (s : State) (p : Path) (idx n : Nat) : imageGround (imageOpened s p idx n) = imageGround s := by
  have hdrop : imageGround (dropXfer (touch s p) p) = imageGround s := imageGround_dropXfer (touch s p) p
  unfold imageOpened
  dsimp only
  rw [imageGround_answer_setXfer]
  split
  · rw [imageGround_imageErase, hdrop]
  · exact hdrop

theorem imageGround_noteBytes (s : State) (idx n : Nat) : imageGround (noteBytes s idx n) = imageGround s :=
  ite_keeps imageGround rfl rfl

theorem imageGround_setXfer_touch (s : State) (p : Path) (x : Option DomXfer) :
    imageGround (setXfer (touch s p) p x) = imageGround s := rfl

theorem imageGround_imageReceived (s : State) (p : Path) (idx n : Nat) : imageGround (imageReceived s p idx n) = imageGround s :=
  (imageGround_noteBytes ..).trans ((imageGround_setXfer_touch ..).trans (imageGround_imageOpened s p idx n))

theorem runningSlot_of_imageGround {s t : State} (h : imageGround t = imageGround s) :
    t.boot.slots[s.boot.running] = s.boot.slots[s.boot.running] ∧ t.boot.running = s.boot.running := by
  have hslot : t.boot.slots[t.boot.running] = s.boot.slots[s.boot.running] := congrArg (·.1) h
  have hrun : t.boot.running = s.boot.running := congrArg (·.2.1) h
  simp only [hrun] at hslot
  exact ⟨hslot, hrun⟩

section Transfer
variable {s : State} {p : Path} {idx : Nat} {bs : List Byte} (hl : dictLive s = true) (he : s.ctl.epoch = none)
include hl he

theorem domWriteWhole_refused {c : Nat} (hj : judgeOpen (touch s p) p idx 0 true bs.length = c) (hc : c ≠ 0) :
    domWriteWhole s p idx bs = turnedAway s p (vStatus c) := by
  have hr := judgeOpen_write_refused hj hc
  simp only [vRefused, Bool.and_eq_true, Bool.not_eq_true'] at hr
  unfold domWriteWhole
  rw [domOpen_refused hl he hj hc]
  exact if_neg (by rw [hr.1]; decide)

theorem domOpen_image (hj : judgeOpen (touch s p) p idx 0 true bs.length = 0) :
    domOpen s p idx 0 true bs.length = (imageOpened s p idx bs.length, 0) := by
  unfold domOpen
  rw [if_neg (by simp [hl]), epochFirst_none he]
  dsimp only
  rw [hj, if_neg (by simp)]
  simp only [Bool.true_and, decide_eq_true_eq]
  rfl

theorem domWriteWhole_judged (hi : IsImage idx) (hj : judgeOpen (touch s p) p idx 0 true bs.length = 0) :
    domWriteWhole s p idx bs =
      answer (judgeImage (imageReceived s p idx bs.length) idx bs).1 p (judgeImage (imageReceived s p idx bs.length) idx bs).2 := by
  have hg := imageOpened_openGround s p idx bs.length
  have ht : openGround (imageReceived s p idx bs.length) = openGround (touch s p) :=
    (noteBytes_openGround ..).trans ((touch_ground p hg).trans (touch_touch s p))
  have hlate : now (imageOpened s p idx bs.length) < now s + 200000000 :=
    (congrArg (·.2.2.1.st) hg : now (imageOpened s p idx bs.length) = now s) ▸ Nat.lt_add_of_pos_right (by decide)
  have hput := domPut_last (x := ⟨idx, true, bs.length, [], 0, now s⟩) (bs := bs) ((dictLive_ground hg).trans hl)
    ((congrArg (·.2.2.2.2) hg).trans he) (upd_same ..) hlate rfl rfl rfl
  unfold domWriteWhole
  rw [domOpen_image hl he hj]
  refine hput.trans ?_
  dsimp only
  rw [List.nil_append]
  show answer (domWrite (imageReceived s p idx bs.length) p idx bs).1 p
    (vStatus (domWrite (imageReceived s p idx bs.length) p idx bs).2) = _
  rw [domWrite_image hi ht hj, vStatus_judgeImage]

end Transfer

theorem systemImage_judged (s : State) (bs : List Byte) {c : Nat} (hc : slotCheck s (slotOf bs) false = c) :
    (systemImage s bs).1.boot.lastResult = c ∧
      if c = 0 then (systemImage s bs).2 = 0 ∧
        (systemImage s bs).1.boot.slots = updN s.boot.slots (1 - s.boot.running.val) (fun _ => { slotOf bs with state := 1, fails := 0 })
      else (systemImage s bs).2 = 0x23 := by
  unfold systemImage
  dsimp only
  rw [hc]
  split
  next h0 => exact ⟨h0.symm, rfl, rfl⟩
  next => exact ⟨rfl, rfl⟩

theorem appImage_debugOff (s : State) (bs : List Byte) : (appImage s bs).1.boot.debugOn = false := by
  unfold appImage
  dsimp only
  split <;> rfl

theorem appImage_judged (s : State) (bs : List Byte) {ok : Bool}
    (hok : appImageOk (modBoot s (fun b => { b with debugOn := false })) bs = ok) : (appImage s bs).1.boot.stageValid = ok ∧
      if ok = true then (appImage s bs).2 = 0 ∧ (appImage s bs).1.boot.appStage = bs else (appImage s bs).2 = 0x23 := by
  unfold appImage
  dsimp only
  rw [hok]
  cases ok with
  | true => exact ⟨rfl, rfl, rfl⟩
  | false => exact ⟨rfl, rfl⟩

theorem imageWrites : Claims.ImageWrites := fun s p bs hl he => by
  refine ⟨fun _ hj hc => ?_, fun _ hj hc => ?_, fun hj => ?_, fun hj => ?_, fun _ => systemImage_judged s bs,
    appImage_debugOff s bs, fun _ => appImage_judged s bs⟩
  · exact next_congr (domWriteWhole_refused hl he hj hc)
  · exact next_congr (domWriteWhole_refused hl he hj hc)
  · have hg := imageGround_imageReceived s p 0x5E00 bs.length
    exact ⟨_, next_congr (domWriteWhole_judged hl he (.inl rfl) hj), runningSlot_of_imageGround hg⟩
  · have hg := imageGround_imageReceived s p 0x5E01 bs.length
    exact ⟨_, next_congr (domWriteWhole_judged hl he (.inr rfl) hj), congrArg (·.2.2.1) hg, congrArg (·.2.2.2) hg⟩

/-! Slots and keys (R491–R493). -/

theorem rollbackCmd_reached {s : State} (h : s.boot.slots[s.boot.running].rollback ≤ s.boot.rollback) : rollbackCmd s = s := if_pos h

theorem keyCmd_refused {s : State} (h : (∃ j : Fin 4, s.boot.keys[j].state = 1) ∨ onCurve (quad s 0x2E02 1) (quad s 0x2E02 5) = false ∨
    (∀ j : Fin 4, s.boot.keys[j].state ≠ 0)) : keyCmd s 1 = (s, 0x23) := by
  have hbad : ∀ k, (allFin 4).find? (fun k => s.boot.keys[k].state == 0) = some k →
      ((allFin 4).any (fun k => s.boot.keys[k].state == 1) || !onCurve (quad s 0x2E02 1) (quad s 0x2E02 5)) = true := by
    intro k hk
    rcases h with ⟨j, hj⟩ | hcurve | hnone
    · have hmem : j ∈ allFin 4 := mem_allFin j
      rw [Bool.or_eq_true, List.any_eq_true]
      exact .inl ⟨j, hmem, by rw [hj]; rfl⟩
    · rw [hcurve]
      exact Bool.or_true _
    · exact absurd (by simpa using List.find?_some hk) (hnone k)
  unfold keyCmd
  dsimp only
  rw [if_pos rfl]
  split
  · rfl
  next k hk => exact if_pos (hbad k hk)

theorem keyCmd_revoked (s : State) (k : Fin 4) {t u : State}
    (ht : t = modBoot s (fun b => { b with keys := upd b.keys k (fun x => { x with state := 2 }) }))
    (hu : u = modBoot (appStop t 5) (fun b => { b with appNor := [], appStage := [], stageValid := false })) :
    keyCmd s (2 + k.val) = (raise u 508 3 (slotStates u), 0) := by
  subst ht hu
  unfold keyCmd
  dsimp only
  rw [if_neg (by omega), Nat.add_sub_cancel_left, Fin.ofNat_val_eq_self]

theorem slotsAndKeys : Claims.SlotsAndKeys := fun s p =>
  ⟨fun h => doWrite_command (n := 1) h (by decide) (command_slotCmd ..),
   fun h =>
    ⟨fun hr => doWrite_command (n := 1) h (by decide) ((command_rollbackCmd ..).trans
       (congrArg (fun u => some (u, 0)) (rollbackCmd_reached (s := touch s p) hr))),
     fun hr => ⟨_, doWrite_command (n := 1) h (by decide) ((command_rollbackCmd ..).trans
       (congrArg (fun u => some (u, 0)) (rollbackCmd_raises (s := touch s p) hr))), rfl⟩⟩,
   fun k h hk hp hc => ⟨_, doWrite_command (n := 1) h (by decide) ((command_keyCmd ..).trans
      (congrArg some (keyCmd_add (s := touch s p) rfl rfl hk hp hc rfl))), upd_same .., fun j hj => upd_other _ k j _ hj.symm⟩,
   fun h hbad => doWrite_command_turnedAway (n := 1) (d := 0x23) h (by decide) ((command_keyCmd ..).trans
      (congrArg some (keyCmd_refused (s := touch s p) hbad))) (by decide),
   fun k h => ⟨_, doWrite_command h (takesNumber_keyRevoke k) ((command_keyCmd ..).trans
      (congrArg some (keyCmd_revoked (touch s p) k rfl rfl))), rfl, rfl, rfl, _, rfl, rfl⟩⟩

end Sys2Proof.Machine

/-- Settles O57: an image's transfer up to its judgement, and the slots, fuses and keys by their commands. -/
theorem imagesAndKeys : Obligations.ImagesAndKeys := ⟨Sys2Proof.Machine.imageWrites, Sys2Proof.Machine.slotsAndKeys⟩
end

section
/-!
PROOF. The start and the stop of the application, and debug access (R494–R502).
-/

namespace Sys2Proof.Machine

open Sys2Proof

/-! Stops (R500). -/

section Stops
variable {s : State}

theorem appStop_idle (h : s.app.state ≠ 2) (c : Nat) : appStop s c = s := if_pos h

theorem wdogExpire_early (ht : now s < s.app.kickSt + s.app.haltTicks + objN s 0x2E01 3 * 200000) : wdogExpire s = s :=
  if_pos (by simp [ht])

theorem accessFault_idle (h : s.app.state ≠ 2) (a : Nat) : accessFault s a = s := if_pos (by simp [h])

/-! Starts (R494–R496). -/

/-- A start once the staged image has been taken (R494–R496). -/
def appStartFrom (s : State) : State :=
  if s.boot.appNor.isEmpty then modApp s (fun a => { a with state := 0 })
  else if !appImageOk (appHeader s) s.boot.appNor then
    rejectApp (modApp (appHeader s) (fun a => { a with state := 5 })) s.boot.appNor
  else if s.boot.slots[s.boot.running].api < rdLE s.boot.appNor 14 2 || rdLE s.boot.appNor 16 2 < s.boot.slots[s.boot.running].api then
    apiEvent (modApp (appHeader s) (fun a => { a with state := 4 })) 1
  else if (appRun (appHeader s)).app.layout = s.boot.slots[s.boot.running].layout then appRun (appHeader s)
  else apiEvent (appRun (appHeader s)) 2

theorem appStart_eq (s : State) : appStart s = appStartFrom (appTakeStaged (appStop s 1)) := rfl

variable (h2 : s.app.state ≠ 2) (hstage : s.boot.stageValid = false)
include h2 hstage

theorem appStart_unstaged : appStart s = appStartFrom s := by
  have hstop : appTakeStaged (appStop s 1) = appTakeStaged s := congrArg appTakeStaged (appStop_idle h2 1)
  rw [appStart_eq, hstop]
  exact congrArg appStartFrom (if_neg (by rw [hstage]; decide))

theorem appStart_noImage (h : s.boot.appNor = []) : appStart s = modApp s (fun a => { a with state := 0 }) :=
  (appStart_unstaged h2 hstage).trans (if_pos (by rw [h]; rfl))

/-- The start of an image: it is checked, its API compared, and it runs. -/
theorem appStart_image (h : s.boot.appNor ≠ []) : appStart s =
    if !appImageOk (appHeader s) s.boot.appNor then rejectApp (modApp (appHeader s) (fun a => { a with state := 5 })) s.boot.appNor
    else if s.boot.slots[s.boot.running].api < rdLE s.boot.appNor 14 2 || rdLE s.boot.appNor 16 2 < s.boot.slots[s.boot.running].api then
      apiEvent (modApp (appHeader s) (fun a => { a with state := 4 })) 1
    else if (appRun (appHeader s)).app.layout = s.boot.slots[s.boot.running].layout then appRun (appHeader s)
    else apiEvent (appRun (appHeader s)) 2 :=
  (appStart_unstaged h2 hstage).trans (if_neg (by simpa using h))

theorem appStart_rejected (h : s.boot.appNor ≠ []) (hok : appImageOk (appHeader s) s.boot.appNor = false) :
    (appStart s).app.state = 5 := by
  rw [appStart_image h2 hstage h, hok]
  rfl

theorem appStart_incompatible (h : s.boot.appNor ≠ []) (hok : appImageOk (appHeader s) s.boot.appNor = true)
    (hapi : s.boot.slots[s.boot.running].api < rdLE s.boot.appNor 14 2 ∨ rdLE s.boot.appNor 16 2 < s.boot.slots[s.boot.running].api) :
    (appStart s).app.state = 4 := by
  rw [appStart_image h2 hstage h, hok, if_neg (by decide), if_pos (by simpa using hapi)]
  rfl

theorem appStart_runs (h : s.boot.appNor ≠ []) (hok : appImageOk (appHeader s) s.boot.appNor = true)
    (hapi : ¬ (s.boot.slots[s.boot.running].api < rdLE s.boot.appNor 14 2 ∨
      rdLE s.boot.appNor 16 2 < s.boot.slots[s.boot.running].api)) :
    (appStart s).app = (appRun (appHeader s)).app := by
  rw [appStart_image h2 hstage h, hok, if_neg (by decide), if_neg (by simpa using hapi)]
  exact ite_keeps (fun t => t.app) rfl rfl

end Stops

theorem applicationStartStop : Claims.ApplicationStartStop := fun s p =>
  ⟨fun h => doWrite_command (n := 2) h (by decide) (command_appCmd ..),
   fun h => doWrite_command (n := 1) h (by decide) (command_appCmd ..),
   fun v hv h => ⟨_, doWrite_value h (takesNumber_appEnable v hv) (by decide) (command_appEnable ..) (effect_appEnable ..),
     objN_setObjK ..⟩,
   fun ms hm hs h0 hh => by
     subst hm
     exact ⟨fun ht => next_congr (wdogExpire_due hs h0 hh ht), fun ht => next_congr (wdogExpire_early ht)⟩,
   fun pc c hs => next_congr (appTrap_running hs pc c),
   fun a ha hs hh => next_when (by rw [ha]; rfl) (accessFault_running hs hh a),
   fun a h => next_congr (by
     rcases h with h | h
     · exact if_neg (by rw [h]; decide)
     · exact (ite_keeps id (accessFault_idle h a) rfl)),
   fun c h => appStop_idle h c,
   fun h2 hstage => ⟨appStart_noImage h2 hstage, fun ok hne hok => by
     cases ok with
     | false => exact appStart_rejected h2 hstage hne hok
     | true =>
       rw [if_neg (by decide)]
       split
       next hapi => exact appStart_incompatible h2 hstage hne hok hapi
       next hapi =>
         rw [appStart_runs h2 hstage hne hok hapi]
         exact ⟨rfl, rfl, rfl⟩⟩⟩

/-! Debug access (R501, R502). -/

theorem debugCmd_locked {s : State} (h : s.boot.debugOn = false) : debugCmd s 2 = (s, 0) := by
  unfold debugCmd
  rw [if_pos rfl, h]
  rfl

theorem windowRefuses_debugCmd {s : State} (p : Path) (h : 8 ≤ s.boot.debugRefused) : windowRefuses s p 0x2E03 13 1 = true := by
  simp only [windowRefuses, within, h]
  rfl

/-- After eight refusals the port takes no unlock (R501). -/
theorem doWrite_debugUnlock_closed {s : State} {p : Path} (h : 8 ≤ s.boot.debugRefused) (hl : dictLive s = true)
    (he : s.ctl.epoch = none) : doWrite p (okey 0x2E03 13) 1 [] s = .next (finish s (turnedAway s p 0x22)) := by
  have hdata : leNat (numData (okey 0x2E03 13) 1) = 1 := by decide
  obtain ⟨hne, hst⟩ := checkWriteRight_window (s := touch s p) (p := p) (k := okey 0x2E03 13) (v := 1) (by decide)
    (windowRefuses_debugCmd (s := touch s p) p h)
  rw [← hst]
  refine doWrite_refused hl he (fun h => absurd h (by decide)) ?_ hne
  refine (judgeWrite_right (by decide) ?_).trans ?_ <;> rw [hdata]
  exact hne

theorem debugAccess : Claims.DebugAccess := fun s p ok hok => by
  subst hok
  exact ⟨debugUnlock_answers,
    fun h => ⟨fun hd => doWrite_command (n := 2) h (by decide) ((command_debugCmd ..).trans (congrArg some (debugCmd_lock (s := touch s p) hd))),
      fun hd => doWrite_command (n := 2) h (by decide) ((command_debugCmd ..).trans (congrArg some (debugCmd_locked (s := touch s p) hd)))⟩,
    doWrite_debugUnlock_closed⟩

end Sys2Proof.Machine

/-- Settles O58: each stop by its cause, a start by the first check its image fails, and the debug port's commands. -/
theorem applicationControl : Obligations.ApplicationControl :=
  ⟨Sys2Proof.Machine.applicationStartStop, Sys2Proof.Machine.debugAccess⟩
end

section
/-!
PROOF. The calls of the application (R385, R498–R500).
-/

namespace Sys2Proof.Machine

open Sys2Proof

/-! The end of a session and a lapsed claim leave the application as it is (R38, R349). -/

section AppKept

@[simp] theorem recharge_app (s : State) : (recharge s).app = s.app := rfl
@[simp] theorem boostOff_app (s : State) : (boostOff s).app = s.app := rfl
@[simp] theorem boostWatch_app (s : State) : (boostWatch s).app = s.app := rfl
@[simp] theorem markLeaving_app (s : State) (h : Fin 2) : (markLeaving s h).app = s.app := rfl
@[simp] theorem dequeue_app (s : State) (c : Fin 8) : (dequeue s c).app = s.app := rfl
@[simp] theorem recordWait_app (s : State) (c : Fin 8) (w : Nat) : (recordWait s c w).app = s.app := rfl

@[simp] theorem trigger_app (s : State) (p : Fin 2) (r : Nat) : (trigger s p r).app = s.app := by
  unfold trigger
  split
  · rfl
  · exact ite_keeps (·.app) rfl rfl

@[simp] theorem jobUnbind_app (s : State) (e : Fin 64) : (jobUnbind s e).app = s.app := by
  unfold jobUnbind
  dsimp only
  split
  · rfl
  · split
    · rfl
    · split
      · exact ite_keeps (·.app) rfl (ite_keeps (·.app) rfl rfl)
      · exact ite_keeps (·.app) rfl rfl

@[simp] theorem jobFinish_app (s : State) (e : Fin 64) (st cause : Nat) : (jobFinish s e st cause).app = s.app := by
  simp [jobFinish]

@[simp] theorem jobAbort_app (cause : Nat) (s : State) (e : Fin 64) : (jobAbort cause s e).app = s.app := by
  unfold jobAbort
  split <;> simp

@[simp] theorem jobsAbort_app (s : State) (cause : Nat) (which : Job → Bool) : (jobsAbort s cause which).app = s.app :=
  applyAll_keeps (·.app) (jobAbort_app cause) _ _

@[simp] theorem enterTrain_app (s : State) (h : Fin 2) : (enterTrain s h).app = s.app := by
  unfold enterTrain
  split
  · exact ite_keeps (·.app) rfl rfl
  · rfl

@[simp] theorem enterWhite_app (s : State) (h : Fin 2) : (enterWhite s h).app = s.app := by
  simp [enterWhite]

@[simp] theorem dropNext_app (s : State) (h : Fin 2) : (dropNext s h).app = s.app := by
  unfold dropNext
  split <;> simp

@[simp] theorem cutTrain_app (s : State) (h : Fin 2) : (cutTrain s h).app = s.app := by
  unfold cutTrain
  dsimp only
  split <;> split <;> simp

@[simp] theorem headsStop_app (s : State) : (headsStop s).app = s.app :=
  applyAll_keeps (·.app) (by intros; simp) _ _

@[simp] theorem measAbort_app (s : State) (h : Fin 2) (cause : Nat) : (measAbort s h cause).app = s.app := by
  unfold measAbort
  exact ite_keeps (·.app) rfl rfl

@[simp] theorem measAbortAll_app (s : State) (cause : Nat) : (measAbortAll s cause).app = s.app := by
  simp [measAbortAll]

@[simp] theorem hsToBoost_app (s : State) (b : Fin 2) : (hsToBoost s b).app = s.app :=
  applyAll_keeps (·.app) (by intros; rfl) _ _

@[simp] theorem hsToMain_app (s : State) (b : Fin 2) : (hsToMain s b).app = s.app :=
  applyAll_keeps (·.app) (by intros; rfl) _ _

@[simp] theorem startPeak_app (s : State) (c : Fin 8) (t : ST) : (startPeak s c t).app = s.app := by
  simp [startPeak]

@[simp] theorem serveBank_app (s : State) (b : Fin 2) : (serveBank s b).app = s.app := by
  unfold serveBank
  split
  · rfl
  · split <;> simp

@[simp] theorem peakEnded_app (s : State) (b : Fin 2) : (peakEnded s b).app = s.app := by
  unfold peakEnded
  dsimp only
  split <;> simp

@[simp] theorem solDecay_app (s : State) (c : Fin 8) : (solDecay s c).app = s.app := by
  unfold solDecay
  dsimp only
  split <;> simp

@[simp] theorem recordLeft_app (s : State) (c : Fin 8) : (recordLeft s c).app = s.app := by
  unfold recordLeft
  split <;> rfl

@[simp] theorem solWithdraw_app (s : State) (c : Fin 8) : (solWithdraw s c).app = s.app := by
  simp [solWithdraw]

@[simp] theorem solEnd_app (s : State) (c : Fin 8) : (solEnd s c).app = s.app := by
  unfold solEnd
  dsimp only
  split
  · simp
  · split <;> simp

@[simp] theorem solDrop_app (s : State) (c : Fin 8) : (solDrop s c).app = s.app := by
  unfold solDrop
  split <;> simp

@[simp] theorem solAllOff_app (s : State) : (solAllOff s).app = s.app :=
  (boostWatch_app _).trans <| (applyAll_keeps (·.app) solEnd_app _ _).trans <|
    (applyAll_keeps (·.app) (by intros; rfl) _ _).trans (applyAll_keeps (·.app) solDrop_app _ _)

@[simp] theorem axLeaveRun_app (s : State) (n : Fin 4) : (axLeaveRun s n).app = s.app := by
  unfold axLeaveRun
  split <;> rfl

@[simp] theorem leaveRun_app (s : State) (cause : Nat) (doze : Option Path) : (leaveRun s cause doze).app = s.app := by
  have hax : ∀ t, (applyAll axLeaveRun t (allFin 4)).app = t.app := applyAll_keeps (·.app) axLeaveRun_app _
  simp [leaveRun, hax]

@[simp] theorem cutPowerOff_app (s : State) : (cutPowerOff s).app = s.app := by
  unfold cutPowerOff
  split <;> rfl

@[simp] theorem solUnpowered_app (s : State) : (solUnpowered s).app = s.app :=
  (recharge_app _).trans (applyAll_keeps (·.app) (by intros; rfl) _ _)

@[simp] theorem stagesOff_app (s : State) : (stagesOff s).app = s.app :=
  (cutPowerOff_app _).trans <| (solUnpowered_app _).trans (applyAll_keeps (·.app) (by intros; rfl) _ _)

@[simp] theorem discardService_app (s : State) : (discardService s).app = s.app :=
  (applyAll_keeps (·.app) (by intros; rfl) _ _).trans (applyAll_keeps (·.app) (by intros; rfl) _ _)

@[simp] theorem sessionEnd_app (s : State) : (sessionEnd s).app = s.app := by
  unfold sessionEnd
  dsimp only
  split
  · simp
  · split
    · split <;> simp
    · simp

theorem freeGroup_app (s : State) (g : Nat) : (freeGroup s g).app = s.app :=
  ite_keeps (·.app) (sessionEnd_app _) rfl

theorem claimLapse_app (why : Nat) (s : State) (g : Nat) : (claimLapse why s g).app = s.app := by
  unfold claimLapse
  split
  · rfl
  · exact freeGroup_app _ g

theorem lapsePath_app (why : Nat) (s : State) (p : Path) : (lapsePath why s p).app = s.app :=
  applyAll_keeps (·.app) (claimLapse_app why) _ _

theorem dropXfer_app (s : State) (p : Path) : (dropXfer s p).app = s.app := congrArg (·.2.2.1) (imageGround_dropXfer s p)

end AppKept

/-- A stop leaves the application stopped (R500). -/
theorem appStop_state {s : State} (h : s.app.state = 2) (c : Nat) : (appStop s c).app.state = 3 := by
  unfold appStop
  rw [if_neg (not_not.mpr h)]
  dsimp only
  rw [raise_app, applyAll_keeps (·.app) (by intros; rfl) _ _]
  show (lapsePath 4 (dropXfer _ .a) .a).app.state = 3
  rw [lapsePath_app, dropXfer_app]
  rfl

/-! DICT_READ and DICT_WRITE. -/

section Dictionary
variable {s : State} {i x buf : Nat}

theorem apiRead_outside {size : Nat} (hj : judgeRead s .a (okey i x) = 0)
    (h : size < (readData s .a (okey i x)).length ∨ inMailbox buf (readData s .a (okey i x)).length = false) :
    apiRead s i x buf size = apiRange s :=
  if_pos (by simpa [hj] using h)

theorem apiRead_refused {size : Nat} (hj : judgeRead s .a (okey i x) ≠ 0) (hr : (readTx s .a (okey i x)).2.1 ≠ 0)
    (hv : (readTx s .a (okey i x)).2.1 ≠ vLate) :
    apiRead s i x buf size = apiReturn (readTx s .a (okey i x)).1 (vStatus (readTx s .a (okey i x)).2.1) 0 :=
  (if_neg (by simp [hj])).trans ((if_neg hr).trans (apiStatus_taken hv 0))

theorem apiWrite_outside {len : Nat} (h : inMailbox buf len = false) : apiWrite s i x buf len = apiRange s :=
  if_pos (by rw [h]; rfl)

end Dictionary

theorem apiDictionary : Claims.ApiDictionary := fun s =>
  ⟨fun hl =>
    ⟨by
      rintro i x buf size r rfl - hn hb hr
      exact next_when hl (apiRead_fits hn hb hr),
     fun _ _ _ _ hj h => next_when hl (apiRead_outside hj h),
     by
      rintro i x buf size r rfl hj hr hv
      exact next_when hl (apiRead_refused hj hr hv),
     fun _ _ _ _ h => next_when hl (apiWrite_outside h),
     by
      rintro i x buf len r hb rfl hr
      exact next_when hl (apiWrite_fits hb hr)⟩,
   fun hl _ _ _ _ => ⟨next_congr (if_neg (by rw [hl]; decide)), next_congr (if_neg (by rw [hl]; decide))⟩,
   fun _ _ => ⟨rfl, rfl⟩⟩

/-! The DOMAIN calls. -/

section Domains
variable {s : State}

theorem apiOpen_direction {d : Nat} (h : 1 < d) (i t : Nat) : apiOpen s i d t = apiRange s := if_pos h

theorem apiSegment_outside {buf len : Nat} (h : inMailbox buf len = false) (off : Nat) : apiSegment s buf len off = apiRange s :=
  if_pos (by rw [h]; rfl)

theorem segmentAt_none {p : Path} (hl : dictLive s = true) (hx : s.ctl.xfers[p.idx] = none) (off len : Nat) (bs : List Byte) :
    segmentAt s p off len bs = (turnedAway s p 0x23, 0x23, []) := by
  unfold segmentAt
  rw [domTimeout_none hx, hx, if_neg (by rw [hl]; decide)]
  rfl

theorem xferDir_none {p : Path} (hx : s.ctl.xfers[p.idx] = none) (b : Bool) : xferDir s p b = false := by
  unfold xferDir
  rw [hx]

theorem apiSegment_none {buf len : Nat} (hl : dictLive s = true) (hb : inMailbox buf len = true)
    (hx : s.ctl.xfers[Path.a.idx] = none) (off : Nat) :
    apiSegment s buf len off = apiReturn (bufPut (turnedAway s .a 0x23) buf []) 0x23 0 := by
  unfold apiSegment
  dsimp only
  rw [if_neg (by simp [hb]), segmentAt_none hl hx, xferDir_none hx]
  rfl

end Domains

theorem apiDomains : Claims.ApiDomains := fun s hl => by
  obtain ⟨-, -, -, hd⟩ := apiLive_iff.mp hl
  refine ⟨fun i d t h => next_when hl (apiOpen_direction h i t), ?_, fun buf len off h => next_when hl (apiSegment_outside h off),
    fun buf len off hb hx => ⟨_, next_when hl (apiSegment_none hd hb hx off), upd_same ..⟩, ?_, ?_⟩
  · rintro i d t r ht rfl hr
    exact next_when hl (apiOpen_known ht hr)
  · rintro buf len x hb hx ht hw r rfl hr hv
    exact next_when hl (apiSegment_put hd hb hx ht hw hr hv)
  · rintro r rfl hr
    exact next_when hl (apiStatus_taken hr 0)

/-! The other calls. -/

section Calls
variable {s : State}

theorem waitEnds_deadline {d : Nat} (h : s.rm.app.recs = []) (hd : d ≤ now s) : waitEnds s d = some 2 :=
  (if_neg (by simp [h])).trans (if_pos hd)

theorem waitEnds_none {d : Nat} (h : s.rm.app.recs = []) (hd : now s < d) : waitEnds s d = none :=
  (if_neg (by simp [h])).trans (if_neg (Nat.not_le.mpr hd))

theorem apiWait_deadline {lo hi : Nat} (h : s.rm.app.recs = []) (hd : wrap 32 lo + 4294967296 * wrap 32 hi ≤ now s) :
    apiWait s lo hi = apiReturn s 0 2 := by
  unfold apiWait
  dsimp only
  rw [waitEnds_deadline h hd]

theorem apiWait_blocks {lo hi : Nat} (h : s.rm.app.recs = []) (hd : now s < wrap 32 lo + 4294967296 * wrap 32 hi) :
    apiWait s lo hi = modApp s (fun a => { a with waiting := some (wrap 32 lo + 4294967296 * wrap 32 hi) }) := by
  unfold apiWait
  dsimp only
  rw [waitEnds_none h hd]

theorem apiKick_inTime (hs : s.app.state = 2)
    (h : objN s 0x2E01 3 = 0 ∨ now s < s.app.kickSt + s.app.haltTicks + objN s 0x2E01 3 * 200000) :
    apiKick s = apiReturn (modApp s (fun a => { a with kickSt := now s, haltTicks := 0, haltSt := now s })) 0 0 := by
  have hw : wdogExpire s = s := if_pos (by rcases h with h | h <;> simp [h])
  unfold apiKick
  rw [hw, if_pos hs]

theorem apiKick_late (hs : s.app.state = 2) (hh : s.tu.halted = false) (h0 : objN s 0x2E01 3 ≠ 0)
    (h : s.app.kickSt + s.app.haltTicks + objN s 0x2E01 3 * 200000 ≤ now s) : apiKick s = appStop s 2 := by
  unfold apiKick
  rw [wdogExpire_due hs h0 hh h, if_neg (by rw [appStop_state hs]; decide)]

theorem apiUartPut_held {n : Fin 2} {w : Nat} (h : s.uarts[n].txHold = some w) (ch : Nat) :
    apiUartPut s n.val ch = apiReturn (modUart s n (fun u => { u with txDrops := inc32 u.txDrops })) 0 0 := by
  unfold apiUartPut uartPut
  dsimp only
  rw [if_neg (by omega), Fin.ofNat_val_eq_self, h]
  rfl

theorem apiUartPut_port {port : Nat} (h : 1 < port) (ch : Nat) : apiUartPut s port ch = apiRange s := if_pos h

theorem apiUartGet_badPort {port : Nat} (h : 1 < port) : apiUartGet s port = apiRange s := if_pos h

theorem apiWake_ends {d r : Nat} (hw : s.app.waiting = some d) (hh : s.tu.halted = false) (h : waitEnds s d = some r) :
    apiWake s = apiReturn (modApp s (fun a => { a with waiting := none })) 0 r := by
  unfold apiWake
  rw [hw]
  dsimp only
  rw [h, hh]
  rfl

theorem apiWake_waits {d : Nat} (hw : s.app.waiting = some d) (h : waitEnds s d = none) : apiWake s = s := by
  unfold apiWake
  rw [hw]
  dsimp only
  rw [h]

end Calls

theorem apiCalls : Claims.ApiCalls := fun s hl => by
  obtain ⟨hs, hh, -, -⟩ := apiLive_iff.mp hl
  refine ⟨?_, ?_, fun h => next_when hl (apiKick_inTime hs h), fun h0 h => next_when hl (apiKick_late hs hh h0 h),
    fun n ch h => ⟨_, next_when hl (apiUartPut_free h ch), congrArg (·.txHold) (modUart_same s n _)⟩,
    fun n ch w h => ⟨_, next_when hl (apiUartPut_held h ch), (congrArg (·.txHold) (modUart_same s n _)).trans h,
      congrArg (·.txDrops) (modUart_same s n _)⟩,
    fun n => ⟨_, next_when hl (apiUartGet_port s n), congrArg (·.rxHold) (modUart_same s n _)⟩,
    fun port ch h => ⟨next_when hl (apiUartPut_port h ch), next_when hl (apiUartGet_badPort h)⟩, next_when hl rfl,
    fun code h => next_when hl (apiUnknown_code s h)⟩
  · rintro buf n rs rfl hb
    exact next_when hl (apiEventGet_fits hb)
  · rintro lo hi d rfl
    exact ⟨fun h => next_when hl (apiWait_record h lo hi), fun h hd => next_when hl (apiWait_deadline h hd),
      fun h hd => next_when hl (apiWait_blocks h hd)⟩

theorem apiWaitEnds : Claims.ApiWaitEnds := fun _ _ hw hh =>
  ⟨fun h => next_congr (apiWake_ends hw hh (waitEnds_record h _)),
   fun h hd => next_congr (apiWake_ends hw hh (waitEnds_deadline h hd)),
   fun h hd => next_congr (apiWake_waits hw (waitEnds_none h hd))⟩

end Sys2Proof.Machine

/-- Settles O59: every call of the application by the branches that R499 gives it. -/
theorem applicationCalls : Obligations.ApplicationCalls :=
  ⟨Sys2Proof.Machine.apiDictionary, Sys2Proof.Machine.apiDomains, Sys2Proof.Machine.apiCalls, Sys2Proof.Machine.apiWaitEnds⟩
end
